-- ==== Sys2Proof/Word.lean ====
section
/-! DEFINITION. The word types of the device (R10, R28): a 32-bit register word, a byte, a
64-bit register. -/

namespace Sys2Proof

/-- A 32-bit register word. -/
abbrev Word := BitVec 32

/-- A byte of a memory. -/
abbrev Byte := BitVec 8

/-- A 64-bit register, such as TB_COUNT. -/
abbrev DWord := BitVec 64

end Sys2Proof
end

