-- ==== Sys2Proof/Syntax.lean ====
section
/-! DEFINITION. The commands that the block takes: spec/opcode_table.json, one constructor per row. -/

namespace Sys2Proof

/-- Who makes a bus access (R21, R28, R57): a control processor, the gateway on behalf of a context,
the journal engine, the debug module, or the PCIe host through BAR0 in FAILED. -/
inductive Agent where
  | cp (n : Fin 4)
  | gw (ctx : Fin 512)
  | jrn
  | dbg
  | pciHost
  deriving DecidableEq, Repr

/-- The size of a bus access (R27). -/
inductive Size where
  | b8
  | b16
  | b32
  | b64
  deriving DecidableEq, Repr

/-- The 64-bit shadows of the network-time translator (R249). -/
inductive NtReg where
  | base
  | ofs
  | rate
  | apply
  deriving DecidableEq, Repr

/-- Where an ECC error strikes (R280): a TCM of CPn or a page of the system SRAM. -/
inductive EccSite where
  | tcm (n : Fin 4)
  | sram (page : Fin 128)
  deriving DecidableEq, Repr

/-- What an access of a memory is for (R280). -/
inductive MemUse where
  | fetch
  | load
  | store
  deriving DecidableEq, Repr

/-- How an edge of an input is sampled (R71): the TCLK in which its new level is first sampled, and how many TCLK after it sample that level again. -/
structure HeldEdge where
  stamp : BitVec 64
  held : BitVec 10
  deriving DecidableEq, Repr

/-- An edge whose polarity counts (R68, R255): whether it rises, and the TCLK in which its new level is first sampled. -/
structure SignedEdge where
  rising : Bool
  stamp : BitVec 64
  deriving DecidableEq, Repr

/-- A tooth edge (R68, R71): its polarity, and how its new level is sampled. -/
structure ToothLevel where
  rising : Bool
  stamp : BitVec 64
  held : BitVec 10
  deriving DecidableEq, Repr

/-- An access that meets an ECC error (R280): who makes it, what for, and whether two bits are wrong. -/
structure EccAccess where
  by_ : Agent
  use : MemUse
  double : Bool
  deriving DecidableEq, Repr

/-- The path a DTP message came by, with the sender's address where it has one (R313, R316). -/
inductive Path where
  | eth (port : Fin 2) (ip : BitVec 128) (udp : BitVec 16)
  | pcie
  deriving DecidableEq, Repr

/-- The header fields of a DTP message that the sender chooses, and its tag (R314, R316). -/
structure DtpHeader where
  ctx : BitVec 16
  seq : Word
  token : Word
  tag : BitVec 128
  deriving DecidableEq, Repr

/-- The four words of one event (R135). -/
structure EventWords where
  w0 : Word
  w1 : Word
  w2 : Word
  w3 : Word
  deriving DecidableEq, Repr

/-- The links of the part (R31). -/
inductive Link where
  | eth (port : Fin 2)
  | pci
  | can (n : Fin 4)
  deriving DecidableEq, Repr

/-- Boundary-scan instructions (R305). -/
inductive ScanInstr where
  | idcode
  | bypass
  | samplePreload
  | extest
  deriving DecidableEq, Repr


/-- The commands of the block: one constructor per row of the opcode table, in the table's order.
The docstring names the row and the rule of the spec that governs it. -/
inductive Instr where
  /-- REGISTER_WRITE (R432). -/
  | registerWrite (by_ : Agent) (addr : Nat) (size : Size) (v : BitVec 64)
  /-- READ_CLEAR (R11). -/
  | readClear (by_ : Agent) (addr : Nat) (size : Size)
  /-- LATCHED_READ_LOW (R28). -/
  | latchedReadLow (by_ : Agent) (addr : Nat)
  /-- SPLIT_WRITE_LOW (R29). -/
  | splitWriteLow (by_ : Agent) (addr : Nat) (v : Word)
  /-- SPLIT_WRITE_HIGH (R29). -/
  | splitWriteHigh (by_ : Agent) (addr : Nat) (v : Word)
  /-- FNMODE_WRITE (R34). -/
  | fnmodeWrite (by_ : Agent) (v : Word)
  /-- FN_MODE_SWITCH (R35). -/
  | fnModeSwitch (fn : Fin 8) (inst : Fin 128)
  /-- DECISION_TIMEOUT (R32). -/
  | decisionTimeout (fn : Fin 8) (inst : Fin 128)
  /-- BOOT_LOAD (R53); the operands say whether the read of the primary and of the fallback slot ends in an error. -/
  | bootLoad (errPri errFb : Bool)
  /-- RECOVERY_GO (R58). -/
  | recoveryGo (by_ : Agent) (v : Word)
  /-- DELTA_GO (R59). -/
  | deltaGo (by_ : Agent) (v : Word)
  /-- DELTA_SWITCH (R62). -/
  | deltaSwitch
  /-- DELTA_WAIT_EXPIRY (R63). -/
  | deltaWaitExpiry
  /-- TOOTH_EDGE (R85). -/
  | toothEdge (n : Fin 6) (edge : ToothLevel) (peak : BitVec 12)
  /-- TRAILING_EDGE (R74). -/
  | trailingEdge (n : Fin 6) (edge : HeldEdge)
  /-- CAM_EDGE (R87). -/
  | camEdge (n : Fin 6) (k : Fin 4) (rising : Bool) (stamp : BitVec 64) (held : BitVec 10)
  /-- STOP_TIMEOUT (R82). -/
  | stopTimeout (n : Fin 6)
  /-- RESYNC (R82). -/
  | resync (by_ : Agent) (n : Fin 6)
  /-- RCONF (R94). -/
  | rconf (by_ : Agent) (n : Fin 6)
  /-- RREFUSE (R94). -/
  | rrefuse (by_ : Agent) (n : Fin 6)
  /-- SYNC_ASSERT (R96). -/
  | syncAssert (by_ : Agent) (n : Fin 6) (v : Word)
  /-- TREC_READ (R95). -/
  | trecRead (by_ : Agent) (n : Fin 6)
  /-- CAMPOS_READ (R76). -/
  | camposRead (by_ : Agent) (n : Fin 6) (k : Fin 4)
  /-- STOP_RECORD_PRESENT (R395). -/
  | stopRecordPresent
  /-- MK_POS_WRITE (R100). -/
  | mkPosWrite (by_ : Agent) (m : Fin 256) (v : Word)
  /-- MARK_FIRE (R99). -/
  | markFire (m : Fin 256)
  /-- HOLD_BEGIN (R108). -/
  | holdBegin (n : Fin 6)
  /-- TOOTH_COMMIT (R120). -/
  | toothCommit (by_ : Agent) (n : Fin 6)
  /-- CLRCOR (R119). -/
  | clrcor (by_ : Agent) (n : Fin 6)
  /-- COR_WRITE (R133). -/
  | corWrite (by_ : Agent) (n : Fin 6) (j : Fin 256) (v : Word)
  /-- STAGE_WORD (R140). -/
  | stageWord (by_ : Agent) (c : Fin 128) (i : Fin 3) (v : Word)
  /-- EVENT_COMMIT (R140). -/
  | eventCommit (by_ : Agent) (c : Fin 128) (v : Word)
  /-- EVENT_INSERT (R141). -/
  | eventInsert (c : Fin 128)
  /-- EDGE_EXECUTE (R146). -/
  | edgeExecute (c : Fin 128)
  /-- MIN_EXPIRY (R149). -/
  | minExpiry (c : Fin 128)
  /-- MAXCUT_EXPIRY (R149). -/
  | maxcutExpiry (c : Fin 128)
  /-- LOSS_END_BY_TIME (R159). -/
  | lossEndByTime (c : Fin 128)
  /-- CH_FLUSH (R154). -/
  | chFlush (by_ : Agent) (c : Fin 128) (endact : Bool)
  /-- FLUSH_DONE (R154). -/
  | flushDone (c : Fin 128)
  /-- CH_CUT (R156). -/
  | chCut (by_ : Agent) (c : Fin 128)
  /-- CH_UNCUT (R156). -/
  | chUncut (by_ : Agent) (c : Fin 128)
  /-- PWM_RELOAD (R162). -/
  | pwmReload (c : Fin 128)
  /-- PWM_OFF_EDGE (R162). -/
  | pwmOffEdge (c : Fin 128)
  /-- PWM_SHADOW_WRITE (R164). -/
  | pwmShadowWrite (by_ : Agent) (c : Fin 128) (duty : Bool) (v : Word)
  /-- PWM_LOCK_WRITE (R165). -/
  | pwmLockWrite (by_ : Agent) (c : Fin 128) (v : Word)
  /-- INJDLY_WRITE (R171). -/
  | injdlyWrite (by_ : Agent) (c : Fin 128) (v : Word)
  /-- REPORT_READ (R173). -/
  | reportRead (by_ : Agent) (c : Fin 128)
  /-- HUSK_FORCE (R174). -/
  | huskForce (by_ : Agent) (c : Fin 128) (v : Word)
  /-- ONMAX_EXPIRY (R181). -/
  | onmaxExpiry (c : Fin 128)
  /-- REVON_EXPIRY (R181). -/
  | revonExpiry (c : Fin 128)
  /-- HUSK_WINDOW_TOUCH (R182). -/
  | huskWindowTouch (c : Fin 128)
  /-- REVACC_CLEAR (R181). -/
  | revaccClear (n : Fin 6)
  /-- CYCLE_WRAP (R5). -/
  | cycleWrap (n : Fin 6)
  /-- I_SENSE_SAMPLE (R193). -/
  | iSenseSample (i : Vector (BitVec 12) 16)
  /-- HSK_LAST_READ (R188). -/
  | hskLastRead (by_ : Agent) (c : Fin 128)
  /-- READBACK_MISMATCH (R196). -/
  | readbackMismatch (c : Fin 128) (high : Bool)
  /-- MISMATCH_ACT (R198). -/
  | mismatchAct (c : Fin 128)
  /-- OVERCURRENT (R192). -/
  | overcurrent (fd : Fin 16)
  /-- DRIVER_THERMAL (R194). -/
  | driverThermal (fd : Fin 16)
  /-- OPEN_ON (R197). -/
  | openOn (fd : Fin 16)
  /-- PAD_TEST (R201). -/
  | padTest (by_ : Agent) (c : Fin 128)
  /-- PAD_TEST_DONE (R201). -/
  | padTestDone (c : Fin 128) (fail : Option (Fin 7))
  /-- ADC_START (R208). -/
  | adcStart (by_ : Agent) (a : Fin 4)
  /-- ADC_STOP (R208). -/
  | adcStop (by_ : Agent) (a : Fin 4)
  /-- ADC_CLRQ (R208). -/
  | adcClrq (by_ : Agent) (a : Fin 4)
  /-- TRIGGER_TAKE (R210). -/
  | triggerTake (a : Fin 4)
  /-- CONVERSION_START (R209). -/
  | conversionStart (a : Fin 4)
  /-- CONVERSION_END (R220). -/
  | conversionEnd (a : Fin 4) (raw : BitVec 16)
  /-- URGENT_REQUEST (R212). -/
  | urgentRequest (by_ : Agent) (a : Fin 4) (v : Word)
  /-- SHADOW_CYCLE_DUE (R216). -/
  | shadowCycleDue (a : Fin 4)
  /-- SHADOW_START (R215). -/
  | shadowStart (a : Fin 4)
  /-- CAL_OFFSET_COMMIT (R218). -/
  | calOffsetCommit (by_ : Agent) (a : Fin 4)
  /-- ADC_GAIN_WRITE (R206). -/
  | adcGainWrite (by_ : Agent) (j : Fin 64) (v : Word)
  /-- ADC_RESULT_READ (R222). -/
  | adcResultRead (by_ : Agent) (a : Fin 4)
  /-- TDAC_WRITE (R225). -/
  | tdacWrite (by_ : Agent) (v : Word)
  /-- KNOCK_SAMPLE (R227). -/
  | knockSample (k : Fin 4) (x : BitVec 24) (clip : Bool) (awStamp : Word)
  /-- KNOCK_OPEN (R228). -/
  | knockOpen (k : Fin 4)
  /-- KNOCK_RESULT_POST (R228). -/
  | knockResultPost (k : Fin 4)
  /-- KNK_RES_READ (R233). -/
  | knkResRead (by_ : Agent) (k : Fin 4)
  /-- QUAD_COUNT (R237). -/
  | quadCount (e : Fin 4) (a : Bool) (b : Bool) (stamp : BitVec 64)
  /-- INDEX_EDGE (R241). -/
  | indexEdge (e : Fin 4) (z : Bool) (stamp : BitVec 64)
  /-- STILL_TIMEOUT (R239). -/
  | stillTimeout (e : Fin 4)
  /-- ENC_POS_WRITE (R237). -/
  | encPosWrite (by_ : Agent) (e : Fin 4) (v : Word)
  /-- NT_SHADOW_WRITE (R249). -/
  | ntShadowWrite (by_ : Agent) (r : NtReg) (high : Bool) (v : Word)
  /-- NT_ARM (R249). -/
  | ntArm (by_ : Agent)
  /-- NT_APPLY (R249). -/
  | ntApply
  /-- TMR_START (R251). -/
  | tmrStart (by_ : Agent) (t : Fin 48)
  /-- TMR_STOP (R251). -/
  | tmrStop (by_ : Agent) (t : Fin 48)
  /-- TMR_CNT_WRITE (R251). -/
  | tmrCntWrite (by_ : Agent) (t : Fin 48) (v : Word)
  /-- TMR_SHADOW_WRITE (R253). -/
  | tmrShadowWrite (by_ : Agent) (t : Fin 48) (cmp : Bool) (v : Word)
  /-- TIMER_TICK (R252). -/
  | timerTick (t : Fin 48)
  /-- TIMER_TAKE (R254). -/
  | timerTake (t : Fin 48)
  /-- CAPTURE_EDGE (R255). -/
  | captureEdge (t : Fin 48) (edge : SignedEdge)
  /-- CAP_READ (R256). -/
  | capRead (by_ : Agent) (t : Fin 48)
  /-- PSQ_START (R262). -/
  | psqStart (by_ : Agent) (q : Fin 16)
  /-- PSQ_HALT (R263). -/
  | psqHalt (by_ : Agent) (q : Fin 16)
  /-- PSQ_CLRQ (R276). -/
  | psqClrq (by_ : Agent) (q : Fin 16)
  /-- TXQ_WRITE (R276). -/
  | txqWrite (by_ : Agent) (q : Fin 16) (v : Word)
  /-- RXQ_READ (R276). -/
  | rxqRead (by_ : Agent) (q : Fin 16)
  /-- LINE_EDGE (R267). -/
  | lineEdge (q : Fin 16) (k : Fin 4) (level : Bool) (stamp : BitVec 64)
  /-- NOP (R270). -/
  | psqNop (q : Fin 16)
  /-- BR (R272). -/
  | psqBr (q : Fin 16)
  /-- LOOP (R270). -/
  | psqLoop (q : Fin 16)
  /-- BRL (R270). -/
  | psqBrl (q : Fin 16)
  /-- DRV (R270). -/
  | psqDrv (q : Fin 16)
  /-- PINW (R270). -/
  | psqPinw (q : Fin 16)
  /-- AWAIT (R272). -/
  | psqAwait (q : Fin 16)
  /-- MEASURE (R273). -/
  | psqMeasure (q : Fin 16)
  /-- CPY (R270). -/
  | psqCpy (q : Fin 16)
  /-- LDI (R270). -/
  | psqLdi (q : Fin 16)
  /-- ADD (R271). -/
  | psqAdd (q : Fin 16)
  /-- SUB (R271). -/
  | psqSub (q : Fin 16)
  /-- AND (R271). -/
  | psqAnd (q : Fin 16)
  /-- OR (R271). -/
  | psqOr (q : Fin 16)
  /-- XOR (R271). -/
  | psqXor (q : Fin 16)
  /-- SHL (R271). -/
  | psqShl (q : Fin 16)
  /-- SHR (R271). -/
  | psqShr (q : Fin 16)
  /-- CMP (R271). -/
  | psqCmp (q : Fin 16)
  /-- DIV (R270). -/
  | psqDiv (q : Fin 16)
  /-- CRCSTEP (R274). -/
  | psqCrcstep (q : Fin 16)
  /-- SHO (R270). -/
  | psqSho (q : Fin 16)
  /-- SHI (R270). -/
  | psqShi (q : Fin 16)
  /-- TAKE (R275). -/
  | psqTake (q : Fin 16)
  /-- GIVE (R275). -/
  | psqGive (q : Fin 16)
  /-- DELAY (R270). -/
  | psqDelay (q : Fin 16)
  /-- SIG (R270). -/
  | psqSig (q : Fin 16)
  /-- STOP (R263). -/
  | psqStop (q : Fin 16)
  /-- PSQ_WAIT_DONE (R265). -/
  | psqWaitDone (q : Fin 16)
  /-- PSQ_WAIT_TIMEOUT (R265). -/
  | psqWaitTimeout (q : Fin 16)
  /-- CP_RESTART (R285). -/
  | cpRestart (by_ : Agent) (n : Fin 4)
  /-- CP_HALT (R285). -/
  | cpHalt (by_ : Agent) (n : Fin 4)
  /-- LOCKSTEP_MISMATCH (R288). -/
  | lockstepMismatch (n : Fin 4)
  /-- ECC_ERROR (R280). -/
  | eccError (where_ : EccSite) (access : EccAccess)
  /-- INTERRUPT_ENTRY (R290). -/
  | interruptEntry (n : Fin 4)
  /-- IRET (R292). -/
  | iret (n : Fin 4)
  /-- DOUBLE_TRAP (R295). -/
  | doubleTrap (n : Fin 4)
  /-- IRT_CLAIM (R300). -/
  | irtClaim (by_ : Agent) (n : Fin 4)
  /-- IRT_EOI (R301). -/
  | irtEoi (by_ : Agent) (n : Fin 4) (v : Word)
  /-- IRT_SWSET (R298). -/
  | irtSwset (by_ : Agent) (k : Fin 2) (v : Word)
  /-- IRT_SWCLR (R298). -/
  | irtSwclr (by_ : Agent) (k : Fin 2) (v : Word)
  /-- IRT_CLRP (R298). -/
  | irtClrp (by_ : Agent) (src : Fin 576)
  /-- DEBUG_HALT (R307). -/
  | debugHalt (n : Fin 4)
  /-- DEBUG_RESUME (R257). -/
  | debugResume (n : Fin 4)
  /-- DEBUG_UNLOCK (R306). -/
  | debugUnlock (r : BitVec 256) (sig : BitVec 256)
  /-- DTP_SUBMIT (R316). -/
  | dtpSubmit (p : Path) (h : DtpHeader) (chan : BitVec 16) (evs : List EventWords)
  /-- DTP_CUT (R322). -/
  | dtpCut (p : Path) (h : DtpHeader) (mask : BitVec 128)
  /-- DTP_UNCUT (R316). -/
  | dtpUncut (p : Path) (h : DtpHeader) (mask : BitVec 128)
  /-- DTP_FLUSH (R316). -/
  | dtpFlush (p : Path) (h : DtpHeader) (chan : BitVec 16) (ctl : Byte)
  /-- DTP_READ (R316). -/
  | dtpRead (p : Path) (h : DtpHeader) (addr : Word) (count : Byte)
  /-- DTP_WRITE (R316). -/
  | dtpWrite (p : Path) (h : DtpHeader) (addr : Word) (ws : List Word)
  /-- DTP_SUBSCRIBE (R326). -/
  | dtpSubscribe (p : Path) (h : DtpHeader) (kind : Byte) (period : BitVec 16) (mask : BitVec 128)
  /-- DTP_ECHO (R316). -/
  | dtpEcho (p : Path) (h : DtpHeader)
  /-- OPERATION_EXECUTE (R321). -/
  | operationExecute (x : Fin 512)
  /-- DOORBELL (R330). -/
  | doorbell (x : Fin 512) (len : Nat)
  /-- PUBLISH_SEND (R325). -/
  | publishSend (x : Fin 512) (kind : Fin 2)
  /-- HOST_QUEUE_FRAME (R328). -/
  | hostQueueFrame (port : Fin 2) (frame : List Byte)
  /-- CAN_BUS_OFF (R331). -/
  | canBusOff (n : Fin 4)
  /-- XSP_CMD_GO (R332). -/
  | xspCmdGo (by_ : Agent) (v : Word) (faddr : BitVec 28)
  /-- XSP_CMD_DONE (R332). -/
  | xspCmdDone (ok : Bool)
  /-- RECORD_WRITE (R337). -/
  | recordWrite (j : Fin 16)
  /-- RECORD_TIMEOUT (R346). -/
  | recordTimeout (j : Fin 16)
  /-- YUNAE_ACK (R349). -/
  | yunaeAck (j : Fin 16) (fseq : Word)
  /-- RETRANSMIT_TIMEOUT (R350). -/
  | retransmitTimeout (j : Fin 16)
  /-- PROBE_SEND (R350). -/
  | probeSend (j : Fin 16)
  /-- RELC_WRITE (R345). -/
  | relcWrite (by_ : Agent) (j : Fin 16) (v : BitVec 64)
  /-- STREAM_ENABLE (R353). -/
  | streamEnable (by_ : Agent) (j : Fin 16)
  /-- STREAM_DISABLE (R353). -/
  | streamDisable (by_ : Agent) (j : Fin 16)
  /-- STREAM_DRAINED (R353). -/
  | streamDrained (j : Fin 16)
  /-- JREC_COMMIT (R352). -/
  | jrecCommit (by_ : Agent) (v : Word)
  /-- COOLDOWN_END (R362). -/
  | cooldownEnd (c : Fin 128)
  /-- RETRY_DECISION (R362). -/
  | retryDecision (by_ : Agent) (v : Word)
  /-- TPERM_EXPIRY (R362). -/
  | tpermExpiry (c : Fin 128)
  /-- FORGIVENESS (R362). -/
  | forgiveness (c : Fin 128)
  /-- RETRY_COUNT_RESET (R362). -/
  | retryCountReset (c : Fin 128)
  /-- RETIRE_CLEAR (R364). -/
  | retireClear (by_ : Agent) (v : Word)
  /-- SAFE_RELEASE (R361). -/
  | safeRelease (by_ : Agent) (v : Word)
  /-- SEV_WRITE (R357). -/
  | sevWrite (by_ : Agent) (src : Fin 512) (v : Word)
  /-- KICK (R369). -/
  | kick (by_ : Agent) (v : Word)
  /-- KEEPALIVE_TIMEOUT (R369). -/
  | keepaliveTimeout
  /-- ALIVE_TOGGLE (R370). -/
  | aliveToggle
  /-- SAFE_N_CHANGE (R367). -/
  | safeNChange (level : Bool)
  /-- PLL_LOSS (R359). -/
  | pllLoss (which : Fin 3)
  /-- RAIL_UNDERVOLTAGE (R378). -/
  | railUndervoltage (rail : Fin 3)
  /-- RAIL_RESET_LOSS (R378). -/
  | railResetLoss (rail : Fin 3)
  /-- DIE_TEMP_ALARM (R358). -/
  | dieTempAlarm (crit : Bool) (temp : BitVec 16)
  /-- VBAT_LOW (R375). -/
  | vbatLow
  /-- ACORN_POWER_ON (R379). -/
  | acornPowerOn
  /-- MAIN_POWER_ON (R376). -/
  | mainPowerOn
  /-- RESET_N (R379). -/
  | resetN
  /-- SYSTEM_RESET (R379). -/
  | systemReset (by_ : Agent) (v : Word)
  /-- DEBUG_RESET (R379). -/
  | debugReset
  /-- SLEEP_REQUEST (R381). -/
  | sleepRequest (by_ : Agent) (v : Word)
  /-- SLEEP_ENTRY (R382). -/
  | sleepEntry
  /-- WAKE_PIN (R385). -/
  | wakePin (k : Fin 4)
  /-- WAKE_RELEASE (R386). -/
  | wakeRelease (n : Nat)
  /-- ROLLOUT_PULSE (R392). -/
  | rolloutPulse (width : Nat)
  /-- ROLLOUT_END (R393). -/
  | rolloutEnd (quiet : Bool)
  /-- DROPREC (R394). -/
  | droprec (by_ : Agent)
  /-- RATIO_WINDOW (R388). -/
  | ratioWindow (count : Nat)
  /-- CRYSTAL_STOP (R389). -/
  | crystalStop
  /-- ACN_PASS_START (R396). -/
  | acnPassStart
  /-- ACN_END (R397). -/
  | acnEnd
  /-- ACN_SAMPLE (R397). -/
  | acnSample (code : BitVec 10)
  /-- ACN_FILT (R397). -/
  | acnFilt
  /-- ACN_CMP (R397). -/
  | acnCmp
  /-- ACN_PIN (R397). -/
  | acnPin (level : Bool)
  /-- ACN_COUNT (R397). -/
  | acnCount
  /-- ACN_JMP (R397). -/
  | acnJmp
  /-- ACN_WAKE (R397). -/
  | acnWake
  /-- ACN_REC (R397). -/
  | acnRec
  /-- ACN_PWR (R397). -/
  | acnPwr
  /-- ACN_DELAY (R397). -/
  | acnDelay
  /-- ACN_LOG_READ (R397). -/
  | acnLogRead (by_ : Agent)
  /-- FCO_LOG_READ (R373). -/
  | fcoLogRead (by_ : Agent)
  /-- CAL_GO (R404). -/
  | calGo (by_ : Agent) (v : Word)
  /-- CAL_WRITE_DONE (R405). -/
  | calWriteDone (ok : Bool)
  /-- LEVEL_SOURCE_ENDS (R358). -/
  | levelSourceEnds (src : Fin 8)
  /-- CONTINUING_FAULT_ENDS (R362). -/
  | continuingFaultEnds (c : Fin 128)
  /-- DRIVER_THERMAL_RELEASE (R194). -/
  | driverThermalRelease (fd : Fin 16)
  /-- TOKEN_REFILL (R313). -/
  | tokenRefill
  /-- LINK_STATE_CHANGE (R348). -/
  | linkStateChange (link : Link) (up : Bool) (code : BitVec 3)
  /-- VSER_THRESHOLD_CHANGE (R376). -/
  | vserThresholdChange (above : Bool)
  /-- DTP_DROPPED_MESSAGE (R317). -/
  | dtpDroppedMessage (p : Path) (msg : List Byte)
  /-- CAN_FRAME_RECEIVE (R331). -/
  | canFrameReceive (n : Fin 4) (id : Word) (payload : List Byte)
  /-- GPTP_SERVO_UPDATE (R250). -/
  | gptpServoUpdate (port : Fin 2) (nb : BitVec 64) (no : BitVec 64) (nr : BitVec 64) (na : BitVec 64)
  /-- ROLLOUT_CAM_EDGE (R392). -/
  | rolloutCamEdge
  /-- RECORD_AGE_MINUTE (R393). -/
  | recordAgeMinute
  /-- ACORN_VBAT_DIP (R394). -/
  | acornVbatDip
  /-- BOUNDARY_SCAN_INSTRUCTION (R305). -/
  | boundaryScanInstruction (ins : ScanInstr) (drive : List (Nat × Bool))
  deriving DecidableEq, Repr

end Sys2Proof
end

