-- ==== Sys2Proof/Config.lean ====
section
/-! DEFINITION. The values that the spec leaves open: constants with no body, so that nothing can be proved
about the value that stands. Here and in Machine/, `log n` beside a mark names the row notes/assumptions/n.md. -/

namespace Sys2Proof

/-- A value that the spec does not state, fresh at every use: `n` is the counter of State.free. (DESIGN CHOICE: log 11.) -/
opaque Config.freeVal : Nat → Nat

/-- The gain that an undefined gain code selects (the codes 5 and 6 of a sequencer entry or of an urgent request), by input and code.
(DESIGN CHOICE: log 36.) -/
opaque Config.undefGain : Nat → Nat → Nat

/-- Whether the product of a current-sense code and its gain trim is taken up to the next code where it is no whole one (R193), by code and gain.
(DESIGN CHOICE: log 63.) -/
opaque Config.senseUp : Nat → Nat → Bool

/-- The bytes of the boot ROM (R26), whose contents the spec does not give. (DESIGN CHOICE: log 10.) -/
opaque Config.romByte : Nat → BitVec 8

/-- The bytes of a flash region that a program or erase command has changed (R332), whose outcome the spec does not give: `n` counts
region, change and address. (DESIGN CHOICE: log 49.) -/
opaque Config.flashByte : Nat → BitVec 8

end Sys2Proof
end

