-- ==== Sys2Proof/Machine/Table.lean ====
section
/-! DEFINITION. Sparse storage: a list of (key, value) pairs, keys strictly rising, no pair whose
value is what an unlisted key reads as. The register file, the memories and the per-instance
records of the units are all held this way. -/

namespace Sys2Proof.Machine

/-- Sparse storage by key. -/
abbrev Table (α : Type) := List (Nat × α)

/-- The value at a key; `d` is what an unlisted key reads as. (DESIGN CHOICE: log 7.) -/
def tget {α : Type} (d : α) : Table α → Nat → α
  | [], _ => d
  | (k, v) :: m, a => if k = a then v else tget d m a

/-- Put a pair at its place in rising key order. -/
def tins {α : Type} (a : Nat) (x : α) : Table α → Table α
  | [] => [(a, x)]
  | (k, v) :: m =>
    if a < k then (a, x) :: (k, v) :: m
    else if a = k then (a, x) :: m
    else (k, v) :: tins a x m

/-- Remove a key. -/
def tdel {α : Type} (a : Nat) : Table α → Table α
  | [] => []
  | (k, v) :: m => if k = a then tdel a m else (k, v) :: tdel a m

/-- Write a value at a key, keeping the canonical form. -/
def tput {α : Type} [DecidableEq α] (d : α) (m : Table α) (a : Nat) (x : α) : Table α :=
  if x = d then tdel a m else tins a x m

/-- Every key of the table lies above `b`. -/
def tabove {α : Type} (b : Nat) : Table α → Bool
  | [] => true
  | (k, _) :: m => decide (b < k) && tabove b m

/-- The canonical form: keys strictly rising, no entry equal to the unlisted value. -/
def twf {α : Type} [DecidableEq α] (d : α) : Table α → Bool
  | [] => true
  | (k, v) :: m => tabove k m && !decide (v = d) && twf d m

/-- Put an entry behind the others of a list, but before those at its end that it precedes. -/
def insertTail {α : Type} (after : α → Bool) (x : α) (l : List α) : List α :=
  let r := l.reverse
  (r.dropWhile after).reverse ++ x :: (r.takeWhile after).reverse

end Sys2Proof.Machine
end

