-- ==== Sys2Proof/Machine/Fields.lean ====
section
/-! DEFINITION. The registers and fields of the register maps of spec/01-15, by the names the manual gives them.
A field is its register's address in instance (0, 0), the strides of the two instance numbers, its lowest bit and
its length. One constant per register (the whole word) and one per field. -/

namespace Sys2Proof.Machine

/-- A field of a register family. -/
structure Fld where
  base : Nat
  st1 : Nat
  st2 : Nat
  lo : Nat
  len : Nat
  deriving DecidableEq, Repr

/-- The address of the register that holds the field, in instance (n, k). -/
def Fld.addr (f : Fld) (n : Nat := 0) (k : Nat := 0) : Nat := f.base + f.st1 * n + f.st2 * k


-- SYS
def SYS_ID : Fld := ⟨0x40000000, 0, 0, 0, 32⟩
def SYS_ID_PART : Fld := ⟨0x40000000, 0, 0, 16, 16⟩
def SYS_ID_REV : Fld := ⟨0x40000000, 0, 0, 8, 8⟩
def SYS_UID : Fld := ⟨0x40000008, 0, 0, 0, 64⟩
def SYS_RSTCAUSE : Fld := ⟨0x40000010, 0, 0, 0, 32⟩
def SYS_RSTCAUSE_DEBUG : Fld := ⟨0x40000010, 0, 0, 5, 1⟩
def SYS_RSTCAUSE_SYSRST : Fld := ⟨0x40000010, 0, 0, 4, 1⟩
def SYS_RSTCAUSE_RESETN : Fld := ⟨0x40000010, 0, 0, 3, 1⟩
def SYS_RSTCAUSE_OFFWAKE : Fld := ⟨0x40000010, 0, 0, 2, 1⟩
def SYS_RSTCAUSE_MAINPOR : Fld := ⟨0x40000010, 0, 0, 1, 1⟩
def SYS_RSTCAUSE_ACNPOR : Fld := ⟨0x40000010, 0, 0, 0, 1⟩
def SYS_RSTCTL : Fld := ⟨0x40000014, 0, 0, 0, 32⟩
def SYS_RSTCTL_KEY : Fld := ⟨0x40000014, 0, 0, 16, 16⟩
def SYS_RSTCTL_SYSRST : Fld := ⟨0x40000014, 0, 0, 0, 1⟩
def SYS_PWRSTAT : Fld := ⟨0x40000018, 0, 0, 0, 32⟩
def SYS_PWRSTAT_VSER : Fld := ⟨0x40000018, 0, 0, 4, 1⟩
def SYS_PWRSTAT_VANA : Fld := ⟨0x40000018, 0, 0, 3, 1⟩
def SYS_PWRSTAT_VIO : Fld := ⟨0x40000018, 0, 0, 2, 1⟩
def SYS_PWRSTAT_VCORE : Fld := ⟨0x40000018, 0, 0, 1, 1⟩
def SYS_PWRSTAT_VBATLOW : Fld := ⟨0x40000018, 0, 0, 0, 1⟩
def SYS_SLPCTL : Fld := ⟨0x40000020, 0, 0, 0, 32⟩
def SYS_SLPCTL_DEPTH : Fld := ⟨0x40000020, 0, 0, 8, 1⟩
def SYS_SLPCTL_REQ : Fld := ⟨0x40000020, 0, 0, 0, 1⟩
def SYS_SLPSTAT : Fld := ⟨0x40000024, 0, 0, 0, 32⟩
def SYS_SLPSTAT_RESULT : Fld := ⟨0x40000024, 0, 0, 8, 3⟩
def SYS_SLPSTAT_LASTOFF : Fld := ⟨0x40000024, 0, 0, 0, 1⟩
def SYS_INTEN : Fld := ⟨0x40000030, 0, 0, 0, 32⟩
def SYS_INTEN_VBATLOW : Fld := ⟨0x40000030, 0, 0, 3, 1⟩
def SYS_INTEN_ACNLOG : Fld := ⟨0x40000030, 0, 0, 2, 1⟩
def SYS_INTEN_SLPREF : Fld := ⟨0x40000030, 0, 0, 1, 1⟩
def SYS_INTEN_WAKE : Fld := ⟨0x40000030, 0, 0, 0, 1⟩
def SYS_INTST : Fld := ⟨0x40000034, 0, 0, 0, 32⟩
def SYS_INTST_VBATLOW : Fld := ⟨0x40000034, 0, 0, 3, 1⟩
def SYS_INTST_ACNLOG : Fld := ⟨0x40000034, 0, 0, 2, 1⟩
def SYS_INTST_SLPREF : Fld := ⟨0x40000034, 0, 0, 1, 1⟩
def SYS_INTST_WAKE : Fld := ⟨0x40000034, 0, 0, 0, 1⟩
def SYS_FNMODE : Fld := ⟨0x40000040, 0, 0, 0, 32⟩
def SYS_FNMODE_MODE : Fld := ⟨0x40000040, 0, 0, 0, 8⟩
def SYS_FNLOCK : Fld := ⟨0x40000044, 0, 0, 0, 32⟩
def SYS_FNLOCK_LOCK : Fld := ⟨0x40000044, 0, 0, 0, 8⟩
def SYS_FNSTAT : Fld := ⟨0x40000048, 0, 0, 0, 32⟩
def SYS_FNSTAT_LATE : Fld := ⟨0x40000048, 0, 0, 16, 8⟩
def SYS_FNSTAT_PEND : Fld := ⟨0x40000048, 0, 0, 8, 8⟩
def SYS_FNSTAT_INFORCE : Fld := ⟨0x40000048, 0, 0, 0, 8⟩
def SYS_FNTMO : Fld := ⟨0x40000050, 0x4, 0, 0, 32⟩
def SYS_FNTMO_TMO : Fld := ⟨0x40000050, 0x4, 0, 0, 20⟩

-- IMG
def IMG_STATUS : Fld := ⟨0x40010000, 0, 0, 0, 32⟩
def IMG_STATUS_SLOT : Fld := ⟨0x40010000, 0, 0, 4, 2⟩
def IMG_STATUS_STATE : Fld := ⟨0x40010000, 0, 0, 0, 3⟩
def IMG_CAUSE : Fld := ⟨0x40010004, 0, 0, 0, 32⟩
def IMG_CAUSE_STG : Fld := ⟨0x40010004, 0, 0, 16, 8⟩
def IMG_CAUSE_FB : Fld := ⟨0x40010004, 0, 0, 8, 8⟩
def IMG_CAUSE_PRI : Fld := ⟨0x40010004, 0, 0, 0, 8⟩
def IMG_ERRREC : Fld := ⟨0x40010008, 0, 0, 0, 32⟩
def IMG_ERRREC_SECT : Fld := ⟨0x40010008, 0, 0, 24, 4⟩
def IMG_ERRREC_REC : Fld := ⟨0x40010008, 0, 0, 0, 17⟩
def IMG_VERSION : Fld := ⟨0x4001000C, 0, 0, 0, 32⟩
def IMG_VERSION_IMGVER : Fld := ⟨0x4001000C, 0, 0, 0, 32⟩
def IMG_ARB : Fld := ⟨0x40010010, 0, 0, 0, 32⟩
def IMG_ARB_IMG : Fld := ⟨0x40010010, 0, 0, 8, 7⟩
def IMG_ARB_CNT : Fld := ⟨0x40010010, 0, 0, 0, 7⟩
def IMG_KEY : Fld := ⟨0x40010014, 0, 0, 0, 32⟩
def IMG_KEY_REVOKED : Fld := ⟨0x40010014, 0, 0, 8, 4⟩
def IMG_KEY_PROG : Fld := ⟨0x40010014, 0, 0, 4, 4⟩
def IMG_KEY_USED : Fld := ⟨0x40010014, 0, 0, 0, 2⟩
def IMG_DIGEST : Fld := ⟨0x40010020, 0x4, 0, 0, 32⟩
def IMG_DIGEST_D : Fld := ⟨0x40010020, 0x4, 0, 0, 32⟩
def IMG_DCTL : Fld := ⟨0x40010040, 0, 0, 0, 32⟩
def IMG_DCTL_WAIT : Fld := ⟨0x40010040, 0, 0, 16, 10⟩
def IMG_DCTL_GO : Fld := ⟨0x40010040, 0, 0, 0, 1⟩
def IMG_DSTAT : Fld := ⟨0x40010044, 0, 0, 0, 32⟩
def IMG_DSTAT_COUNT : Fld := ⟨0x40010044, 0, 0, 16, 16⟩
def IMG_DSTAT_BUSY : Fld := ⟨0x40010044, 0, 0, 8, 1⟩
def IMG_DSTAT_RESULT : Fld := ⟨0x40010044, 0, 0, 0, 8⟩
def IMG_DSEQ : Fld := ⟨0x40010048, 0, 0, 0, 32⟩
def IMG_LOADCTL : Fld := ⟨0x40010050, 0, 0, 0, 32⟩
def IMG_LOADCTL_GO : Fld := ⟨0x40010050, 0, 0, 0, 1⟩

-- FCO
def FCO_CFG : Fld := ⟨0x40020000, 0, 0, 0, 32⟩
def FCO_CFG_SNFILT : Fld := ⟨0x40020000, 0, 0, 16, 8⟩
def FCO_CFG_FNSEV : Fld := ⟨0x40020000, 0, 0, 8, 3⟩
def FCO_STAT : Fld := ⟨0x40020004, 0, 0, 0, 32⟩
def FCO_STAT_RETIRED : Fld := ⟨0x40020004, 0, 0, 16, 8⟩
def FCO_STAT_FAULTN : Fld := ⟨0x40020004, 0, 0, 4, 1⟩
def FCO_STAT_ALIVE : Fld := ⟨0x40020004, 0, 0, 3, 1⟩
def FCO_STAT_SNACT : Fld := ⟨0x40020004, 0, 0, 2, 1⟩
def FCO_STAT_GRP : Fld := ⟨0x40020004, 0, 0, 1, 1⟩
def FCO_STAT_ALL : Fld := ⟨0x40020004, 0, 0, 0, 1⟩
def FCO_GSAFE : Fld := ⟨0x40020008, 0, 0, 0, 32⟩
def FCO_GSAFE_ALL : Fld := ⟨0x40020008, 0, 0, 16, 1⟩
def FCO_GSAFE_GRP : Fld := ⟨0x40020008, 0, 0, 0, 16⟩
def FCO_SAFECLR : Fld := ⟨0x4002000C, 0, 0, 0, 32⟩
def FCO_SAFECLR_ALL : Fld := ⟨0x4002000C, 0, 0, 16, 1⟩
def FCO_SAFECLR_GRP : Fld := ⟨0x4002000C, 0, 0, 0, 16⟩
def FCO_CLS0 : Fld := ⟨0x40020010, 0, 0, 0, 32⟩
def FCO_CLS0_FP : Fld := ⟨0x40020010, 0, 0, 16, 16⟩
def FCO_CLS0_CD : Fld := ⟨0x40020010, 0, 0, 0, 16⟩
def FCO_CLS1 : Fld := ⟨0x40020014, 0, 0, 0, 32⟩
def FCO_CLS1_TPERM : Fld := ⟨0x40020014, 0, 0, 16, 16⟩
def FCO_CLS1_RETIRE_AT : Fld := ⟨0x40020014, 0, 0, 8, 4⟩
def FCO_CLS1_RETRY_MAX : Fld := ⟨0x40020014, 0, 0, 0, 4⟩
def FCO_CNT : Fld := ⟨0x40020018, 0, 0, 0, 32⟩
def FCO_CNT_LATECOMP : Fld := ⟨0x40020018, 0, 0, 16, 16⟩
def FCO_CNT_SAFECUTS : Fld := ⟨0x40020018, 0, 0, 8, 8⟩
def FCO_CNT_RETIRES : Fld := ⟨0x40020018, 0, 0, 0, 8⟩
def FCO_KACFG : Fld := ⟨0x40020020, 0, 0, 0, 32⟩
def FCO_KACFG_HALF : Fld := ⟨0x40020020, 0, 0, 16, 16⟩
def FCO_KACFG_KAEN : Fld := ⟨0x40020020, 0, 0, 15, 1⟩
def FCO_KACFG_OWN : Fld := ⟨0x40020020, 0, 0, 0, 9⟩
def FCO_KAWIN : Fld := ⟨0x40020024, 0, 0, 0, 32⟩
def FCO_KAWIN_WCLOSE : Fld := ⟨0x40020024, 0, 0, 16, 16⟩
def FCO_KAWIN_WOPEN : Fld := ⟨0x40020024, 0, 0, 0, 16⟩
def FCO_KICK : Fld := ⟨0x40020028, 0, 0, 0, 32⟩
def FCO_KICK_KEY : Fld := ⟨0x40020028, 0, 0, 0, 8⟩
def FCO_KASTAT : Fld := ⟨0x4002002C, 0, 0, 0, 32⟩
def FCO_KASTAT_MISS : Fld := ⟨0x4002002C, 0, 0, 24, 8⟩
def FCO_KASTAT_RUN : Fld := ⟨0x4002002C, 0, 0, 9, 1⟩
def FCO_KASTAT_ARMED : Fld := ⟨0x4002002C, 0, 0, 8, 1⟩
def FCO_KASTAT_NEXTKEY : Fld := ⟨0x4002002C, 0, 0, 0, 8⟩
def FCO_LOG : Fld := ⟨0x40020030, 0x4, 0, 0, 32⟩
def FCO_LOGSTAT : Fld := ⟨0x40020040, 0, 0, 0, 32⟩
def FCO_LOGSTAT_OVF : Fld := ⟨0x40020040, 0, 0, 8, 1⟩
def FCO_LOGSTAT_LEVEL : Fld := ⟨0x40020040, 0, 0, 0, 6⟩
def FCO_RDEC : Fld := ⟨0x40020050, 0, 0, 0, 32⟩
def FCO_RDEC_RETRY : Fld := ⟨0x40020050, 0, 0, 31, 1⟩
def FCO_RDEC_RESULT : Fld := ⟨0x40020050, 0, 0, 28, 3⟩
def FCO_RDEC_CH : Fld := ⟨0x40020050, 0, 0, 0, 7⟩
def FCO_RREQ : Fld := ⟨0x40020060, 0x4, 0, 0, 32⟩
def FCO_RET : Fld := ⟨0x40020070, 0x4, 0, 0, 32⟩
def FCO_RCLR : Fld := ⟨0x40020080, 0, 0, 0, 32⟩
def FCO_RCLR_RESULT : Fld := ⟨0x40020080, 0, 0, 28, 3⟩
def FCO_RCLR_CH : Fld := ⟨0x40020080, 0, 0, 0, 7⟩
def FCO_INTEN : Fld := ⟨0x40020090, 0, 0, 0, 32⟩
def FCO_INTEN_RREQ : Fld := ⟨0x40020090, 0, 0, 6, 1⟩
def FCO_INTEN_LOGOVF : Fld := ⟨0x40020090, 0, 0, 5, 1⟩
def FCO_INTEN_KAMISS : Fld := ⟨0x40020090, 0, 0, 4, 1⟩
def FCO_INTEN_RETIRE : Fld := ⟨0x40020090, 0, 0, 3, 1⟩
def FCO_INTEN_SAFE : Fld := ⟨0x40020090, 0, 0, 2, 1⟩
def FCO_INTEN_NORMAL : Fld := ⟨0x40020090, 0, 0, 1, 1⟩
def FCO_INTEN_URGENT : Fld := ⟨0x40020090, 0, 0, 0, 1⟩
def FCO_INTST : Fld := ⟨0x40020094, 0, 0, 0, 32⟩
def FCO_INTST_RREQ : Fld := ⟨0x40020094, 0, 0, 6, 1⟩
def FCO_INTST_LOGOVF : Fld := ⟨0x40020094, 0, 0, 5, 1⟩
def FCO_INTST_KAMISS : Fld := ⟨0x40020094, 0, 0, 4, 1⟩
def FCO_INTST_RETIRE : Fld := ⟨0x40020094, 0, 0, 3, 1⟩
def FCO_INTST_SAFE : Fld := ⟨0x40020094, 0, 0, 2, 1⟩
def FCO_INTST_NORMAL : Fld := ⟨0x40020094, 0, 0, 1, 1⟩
def FCO_INTST_URGENT : Fld := ⟨0x40020094, 0, 0, 0, 1⟩
def FCO_PEND : Fld := ⟨0x40020100, 0x4, 0, 0, 32⟩
def FCO_ACT : Fld := ⟨0x40020140, 0x4, 0, 0, 32⟩
def FCO_SRC : Fld := ⟨0x40020400, 0x4, 0, 0, 32⟩
def FCO_SRC_GMASK : Fld := ⟨0x40020400, 0x4, 0, 16, 16⟩
def FCO_SRC_FLOOR : Fld := ⟨0x40020400, 0x4, 0, 8, 3⟩
def FCO_SRC_SEV : Fld := ⟨0x40020400, 0x4, 0, 4, 3⟩
def FCO_BKT : Fld := ⟨0x40020C00, 0x4, 0, 0, 32⟩
def FCO_BKT_RC : Fld := ⟨0x40020C00, 0x4, 0, 16, 4⟩
def FCO_BKT_B : Fld := ⟨0x40020C00, 0x4, 0, 8, 4⟩
def FCO_BKT_CSTATE : Fld := ⟨0x40020C00, 0x4, 0, 0, 3⟩

-- IRT
def IRT_SRC : Fld := ⟨0x40030000, 0x4, 0, 0, 32⟩
def IRT_SRC_PEND : Fld := ⟨0x40030000, 0x4, 0, 31, 1⟩
def IRT_SRC_ACT : Fld := ⟨0x40030000, 0x4, 0, 30, 1⟩
def IRT_SRC_CLRP : Fld := ⟨0x40030000, 0x4, 0, 29, 1⟩
def IRT_SRC_ROUTE : Fld := ⟨0x40030000, 0x4, 0, 8, 4⟩
def IRT_SRC_EN : Fld := ⟨0x40030000, 0x4, 0, 7, 1⟩
def IRT_SRC_PRI : Fld := ⟨0x40030000, 0x4, 0, 0, 5⟩
def IRT_PEND : Fld := ⟨0x40031000, 0x4, 0, 0, 32⟩
def IRT_ACT : Fld := ⟨0x40031080, 0x4, 0, 0, 32⟩
def IRT_SWSET : Fld := ⟨0x40031100, 0x4, 0, 0, 32⟩
def IRT_SWCLR : Fld := ⟨0x40031108, 0x4, 0, 0, 32⟩
def IRT_CPTHR : Fld := ⟨0x40031200, 0x20, 0, 0, 32⟩
def IRT_CPTHR_THR : Fld := ⟨0x40031200, 0x20, 0, 0, 6⟩
def IRT_CPCTL : Fld := ⟨0x40031204, 0x20, 0, 0, 32⟩
def IRT_CPCTL_GDIS : Fld := ⟨0x40031204, 0x20, 0, 0, 1⟩
def IRT_CPRUN : Fld := ⟨0x40031208, 0x20, 0, 0, 32⟩
def IRT_CPRUN_EOIERR : Fld := ⟨0x40031208, 0x20, 0, 31, 1⟩
def IRT_CPRUN_SRC : Fld := ⟨0x40031208, 0x20, 0, 16, 10⟩
def IRT_CPRUN_DEPTH : Fld := ⟨0x40031208, 0x20, 0, 8, 6⟩
def IRT_CPRUN_RUN : Fld := ⟨0x40031208, 0x20, 0, 0, 6⟩
def IRT_CPCAND : Fld := ⟨0x4003120C, 0x20, 0, 0, 32⟩
def IRT_CPCAND_VALID : Fld := ⟨0x4003120C, 0x20, 0, 31, 1⟩
def IRT_CPCAND_SRC : Fld := ⟨0x4003120C, 0x20, 0, 0, 10⟩
def IRT_CPCLAIM : Fld := ⟨0x40031210, 0x20, 0, 0, 32⟩
def IRT_CPCLAIM_VALID : Fld := ⟨0x40031210, 0x20, 0, 31, 1⟩
def IRT_CPCLAIM_SRC : Fld := ⟨0x40031210, 0x20, 0, 0, 10⟩
def IRT_CPEOI : Fld := ⟨0x40031214, 0x20, 0, 0, 32⟩
def IRT_CPEOI_SRC : Fld := ⟨0x40031214, 0x20, 0, 0, 10⟩

-- CPC
def CPC_CPCFG : Fld := ⟨0x40038000, 0x20, 0, 0, 32⟩
def CPC_CPCFG_RSTMAX : Fld := ⟨0x40038000, 0x20, 0, 8, 4⟩
def CPC_CPCFG_HSTKLOCK : Fld := ⟨0x40038000, 0x20, 0, 3, 1⟩
def CPC_CPCFG_HSTK : Fld := ⟨0x40038000, 0x20, 0, 2, 1⟩
def CPC_CPCFG_XSPEN : Fld := ⟨0x40038000, 0x20, 0, 1, 1⟩
def CPC_CPCFG_RUN : Fld := ⟨0x40038000, 0x20, 0, 0, 1⟩
def CPC_CPBOOT : Fld := ⟨0x40038004, 0x20, 0, 0, 32⟩
def CPC_CPBOOT_ADDR : Fld := ⟨0x40038004, 0x20, 0, 0, 32⟩
def CPC_CPCTL : Fld := ⟨0x40038008, 0x20, 0, 0, 32⟩
def CPC_CPCTL_HALT : Fld := ⟨0x40038008, 0x20, 0, 1, 1⟩
def CPC_CPCTL_RESTART : Fld := ⟨0x40038008, 0x20, 0, 0, 1⟩
def CPC_CPSTAT : Fld := ⟨0x4003800C, 0x20, 0, 0, 32⟩
def CPC_CPSTAT_EMERG : Fld := ⟨0x4003800C, 0x20, 0, 24, 1⟩
def CPC_CPSTAT_FWREF : Fld := ⟨0x4003800C, 0x20, 0, 16, 8⟩
def CPC_CPSTAT_ECCCOR : Fld := ⟨0x4003800C, 0x20, 0, 8, 8⟩
def CPC_CPSTAT_RESTARTS : Fld := ⟨0x4003800C, 0x20, 0, 4, 4⟩
def CPC_CPSTAT_STATE : Fld := ⟨0x4003800C, 0x20, 0, 0, 3⟩
def CPC_LCS : Fld := ⟨0x40038100, 0, 0, 0, 32⟩
def CPC_LCS_UNLOCKED : Fld := ⟨0x40038100, 0, 0, 8, 1⟩
def CPC_LCS_LCS : Fld := ⟨0x40038100, 0, 0, 0, 2⟩
def CPC_DBGCFG : Fld := ⟨0x40038104, 0, 0, 0, 32⟩
def CPC_DBGCFG_SBEN : Fld := ⟨0x40038104, 0, 0, 10, 1⟩
def CPC_DBGCFG_CTX : Fld := ⟨0x40038104, 0, 0, 0, 9⟩
def CPC_PART : Fld := ⟨0x40038200, 0x4, 0, 0, 32⟩

-- TB
def TB_COUNT : Fld := ⟨0x40040000, 0, 0, 0, 64⟩
def TB_NTCFG : Fld := ⟨0x40040010, 0, 0, 0, 32⟩
def TB_NTCFG_ARM : Fld := ⟨0x40040010, 0, 0, 8, 1⟩
def TB_NTCFG_SRC : Fld := ⟨0x40040010, 0, 0, 0, 2⟩
def TB_NTSTAT : Fld := ⟨0x40040014, 0, 0, 0, 32⟩
def TB_NTSTAT_APPLIED : Fld := ⟨0x40040014, 0, 0, 16, 16⟩
def TB_NTBASE : Fld := ⟨0x40040018, 0, 0, 0, 64⟩
def TB_NTOFS : Fld := ⟨0x40040020, 0, 0, 0, 64⟩
def TB_NTRATE : Fld := ⟨0x40040028, 0, 0, 0, 64⟩
def TB_NTAPPLY : Fld := ⟨0x40040030, 0, 0, 0, 64⟩
def TB_NOW : Fld := ⟨0x40040038, 0, 0, 0, 64⟩
def TB_SLPENT : Fld := ⟨0x40040040, 0, 0, 0, 64⟩
def TB_SLEEP : Fld := ⟨0x40040048, 0, 0, 0, 64⟩

-- TMR
def TMR_CFG : Fld := ⟨0x40041000, 0x40, 0, 0, 32⟩
def TMR_CFG_PSC : Fld := ⟨0x40041000, 0x40, 0, 16, 16⟩
def TMR_CFG_SLAVE : Fld := ⟨0x40041000, 0x40, 0, 12, 3⟩
def TMR_CFG_OUTACT : Fld := ⟨0x40041000, 0x40, 0, 10, 2⟩
def TMR_CFG_SHADOW : Fld := ⟨0x40041000, 0x40, 0, 9, 1⟩
def TMR_CFG_ONESHOT : Fld := ⟨0x40041000, 0x40, 0, 8, 1⟩
def TMR_CFG_EN : Fld := ⟨0x40041000, 0x40, 0, 0, 1⟩
def TMR_TRIG : Fld := ⟨0x40041004, 0x40, 0, 0, 32⟩
def TMR_TRIG_TMODE : Fld := ⟨0x40041004, 0x40, 0, 9, 1⟩
def TMR_TRIG_MSRC : Fld := ⟨0x40041004, 0x40, 0, 0, 9⟩
def TMR_CAPCFG : Fld := ⟨0x40041008, 0x40, 0, 0, 32⟩
def TMR_CAPCFG_FILT : Fld := ⟨0x40041008, 0x40, 0, 24, 8⟩
def TMR_CAPCFG_EPS : Fld := ⟨0x40041008, 0x40, 0, 20, 4⟩
def TMR_CAPCFG_EDGE : Fld := ⟨0x40041008, 0x40, 0, 18, 2⟩
def TMR_CAPCFG_CAPRST : Fld := ⟨0x40041008, 0x40, 0, 17, 1⟩
def TMR_CAPCFG_CEN : Fld := ⟨0x40041008, 0x40, 0, 16, 1⟩
def TMR_CAPCFG_CSRC : Fld := ⟨0x40041008, 0x40, 0, 0, 9⟩
def TMR_CTRL : Fld := ⟨0x4004100C, 0x40, 0, 0, 32⟩
def TMR_CTRL_STOP : Fld := ⟨0x4004100C, 0x40, 0, 1, 1⟩
def TMR_CTRL_START : Fld := ⟨0x4004100C, 0x40, 0, 0, 1⟩
def TMR_CNT : Fld := ⟨0x40041010, 0x40, 0, 0, 32⟩
def TMR_TOP : Fld := ⟨0x40041014, 0x40, 0, 0, 32⟩
def TMR_CMP : Fld := ⟨0x40041018, 0x40, 0, 0, 32⟩
def TMR_CAP : Fld := ⟨0x4004101C, 0x40, 0, 0, 32⟩
def TMR_CAPTB : Fld := ⟨0x40041020, 0x40, 0, 0, 32⟩
def TMR_CAPPREV : Fld := ⟨0x40041024, 0x40, 0, 0, 32⟩
def TMR_STAT : Fld := ⟨0x40041028, 0x40, 0, 0, 32⟩
def TMR_STAT_PEND : Fld := ⟨0x40041028, 0x40, 0, 8, 4⟩
def TMR_STAT_TOVF : Fld := ⟨0x40041028, 0x40, 0, 7, 1⟩
def TMR_STAT_OVERLAP : Fld := ⟨0x40041028, 0x40, 0, 6, 1⟩
def TMR_STAT_OVR : Fld := ⟨0x40041028, 0x40, 0, 5, 1⟩
def TMR_STAT_PENDING : Fld := ⟨0x40041028, 0x40, 0, 4, 1⟩
def TMR_STAT_FROZEN : Fld := ⟨0x40041028, 0x40, 0, 3, 1⟩
def TMR_STAT_OUTL : Fld := ⟨0x40041028, 0x40, 0, 2, 1⟩
def TMR_STAT_RUN : Fld := ⟨0x40041028, 0x40, 0, 0, 1⟩
def TMR_INTEN : Fld := ⟨0x4004102C, 0x40, 0, 0, 32⟩
def TMR_INTEN_CAP : Fld := ⟨0x4004102C, 0x40, 0, 2, 1⟩
def TMR_INTEN_WRAP : Fld := ⟨0x4004102C, 0x40, 0, 1, 1⟩
def TMR_INTEN_CMP : Fld := ⟨0x4004102C, 0x40, 0, 0, 1⟩
def TMR_INTST : Fld := ⟨0x40041030, 0x40, 0, 0, 32⟩
def TMR_INTST_CAP : Fld := ⟨0x40041030, 0x40, 0, 2, 1⟩
def TMR_INTST_WRAP : Fld := ⟨0x40041030, 0x40, 0, 1, 1⟩
def TMR_INTST_CMP : Fld := ⟨0x40041030, 0x40, 0, 0, 1⟩

-- TMRG
def TMRG_CFG : Fld := ⟨0x40041C00, 0x10, 0, 0, 32⟩
def TMRG_CFG_DBGFRZ : Fld := ⟨0x40041C00, 0x10, 0, 12, 4⟩
def TMRG_CFG_OWN : Fld := ⟨0x40041C00, 0x10, 0, 0, 9⟩

-- TRK
def TRK_CFG : Fld := ⟨0x40050000, 0x1000, 0, 0, 32⟩
def TRK_CFG_RESTORE_EN : Fld := ⟨0x40050000, 0x1000, 0, 11, 1⟩
def TRK_CFG_ENCUSE : Fld := ⟨0x40050000, 0x1000, 0, 10, 1⟩
def TRK_CFG_ENCSEL : Fld := ⟨0x40050000, 0x1000, 0, 8, 2⟩
def TRK_CFG_DIRSRC : Fld := ⟨0x40050000, 0x1000, 0, 6, 2⟩
def TRK_CFG_SPAN : Fld := ⟨0x40050000, 0x1000, 0, 4, 2⟩
def TRK_CFG_EDGE : Fld := ⟨0x40050000, 0x1000, 0, 2, 1⟩
def TRK_CFG_INTYPE : Fld := ⟨0x40050000, 0x1000, 0, 1, 1⟩
def TRK_CFG_EN : Fld := ⟨0x40050000, 0x1000, 0, 0, 1⟩
def TRK_TTAB : Fld := ⟨0x40050004, 0x1000, 0, 0, 32⟩
def TRK_TTAB_NCAM : Fld := ⟨0x40050004, 0x1000, 0, 16, 7⟩
def TRK_TTAB_NTOOTH : Fld := ⟨0x40050004, 0x1000, 0, 0, 10⟩
def TRK_GAP : Fld := ⟨0x40050008, 0x1000, 0, 0, 32⟩
def TRK_GAP_TOL : Fld := ⟨0x40050008, 0x1000, 0, 16, 8⟩
def TRK_GAP_GAPHI : Fld := ⟨0x40050008, 0x1000, 0, 8, 8⟩
def TRK_GAP_GAPLO : Fld := ⟨0x40050008, 0x1000, 0, 0, 8⟩
def TRK_LOSS : Fld := ⟨0x4005000C, 0x1000, 0, 0, 32⟩
def TRK_LOSS_STOPTMO : Fld := ⟨0x4005000C, 0x1000, 0, 16, 10⟩
def TRK_LOSS_CAMRES : Fld := ⟨0x4005000C, 0x1000, 0, 12, 2⟩
def TRK_LOSS_CAMMIS : Fld := ⟨0x4005000C, 0x1000, 0, 8, 4⟩
def TRK_LOSS_FWDN : Fld := ⟨0x4005000C, 0x1000, 0, 4, 4⟩
def TRK_LOSS_LOSSN : Fld := ⟨0x4005000C, 0x1000, 0, 0, 4⟩
def TRK_INFLT : Fld := ⟨0x40050010, 0x1000, 0, 0, 32⟩
def TRK_INFLT_PWTHR : Fld := ⟨0x40050010, 0x1000, 0, 24, 8⟩
def TRK_INFLT_VRTHR : Fld := ⟨0x40050010, 0x1000, 0, 16, 7⟩
def TRK_INFLT_BLANK : Fld := ⟨0x40050010, 0x1000, 0, 12, 4⟩
def TRK_INFLT_FILT : Fld := ⟨0x40050010, 0x1000, 0, 0, 10⟩
def TRK_CAMSEL : Fld := ⟨0x40050014, 0x1000, 0, 0, 32⟩
def TRK_CAMSEL_SEL3 : Fld := ⟨0x40050014, 0x1000, 0, 24, 5⟩
def TRK_CAMSEL_SEL2 : Fld := ⟨0x40050014, 0x1000, 0, 16, 5⟩
def TRK_CAMSEL_SEL1 : Fld := ⟨0x40050014, 0x1000, 0, 8, 5⟩
def TRK_CAMSEL_SEL0 : Fld := ⟨0x40050014, 0x1000, 0, 0, 5⟩
def TRK_CAMFLT : Fld := ⟨0x40050018, 0x1000, 0, 0, 32⟩
def TRK_CAMFLT_DIFF : Fld := ⟨0x40050018, 0x1000, 0, 16, 4⟩
def TRK_CAMFLT_CFILT : Fld := ⟨0x40050018, 0x1000, 0, 0, 10⟩
def TRK_CTRL : Fld := ⟨0x40050020, 0x1000, 0, 0, 32⟩
def TRK_CTRL_LOSTLATCH : Fld := ⟨0x40050020, 0x1000, 0, 0, 1⟩
def TRK_CMD : Fld := ⟨0x40050024, 0x1000, 0, 0, 32⟩
def TRK_CMD_RREFUSE : Fld := ⟨0x40050024, 0x1000, 0, 2, 1⟩
def TRK_CMD_RCONF : Fld := ⟨0x40050024, 0x1000, 0, 1, 1⟩
def TRK_CMD_RESYNC : Fld := ⟨0x40050024, 0x1000, 0, 0, 1⟩
def TRK_SYNCASSERT : Fld := ⟨0x40050028, 0x1000, 0, 0, 32⟩
def TRK_SYNCASSERT_LEVEL : Fld := ⟨0x40050028, 0x1000, 0, 27, 1⟩
def TRK_SYNCASSERT_REVIDX : Fld := ⟨0x40050028, 0x1000, 0, 25, 2⟩
def TRK_SYNCASSERT_IDX : Fld := ⟨0x40050028, 0x1000, 0, 16, 9⟩
def TRK_SYNCASSERT_SEQ : Fld := ⟨0x40050028, 0x1000, 0, 0, 16⟩
def TRK_DECSTAT : Fld := ⟨0x4005002C, 0x1000, 0, 0, 32⟩
def TRK_DECSTAT_RSEQ : Fld := ⟨0x4005002C, 0x1000, 0, 8, 16⟩
def TRK_DECSTAT_REQ : Fld := ⟨0x4005002C, 0x1000, 0, 7, 1⟩
def TRK_DECSTAT_RESULT : Fld := ⟨0x4005002C, 0x1000, 0, 0, 3⟩
def TRK_STATE : Fld := ⟨0x40050040, 0x1000, 0, 0, 32⟩
def TRK_STATE_HELD : Fld := ⟨0x40050040, 0x1000, 0, 31, 1⟩
def TRK_STATE_CAMLOST : Fld := ⟨0x40050040, 0x1000, 0, 30, 1⟩
def TRK_STATE_DIR : Fld := ⟨0x40050040, 0x1000, 0, 29, 1⟩
def TRK_STATE_REVIDX : Fld := ⟨0x40050040, 0x1000, 0, 26, 2⟩
def TRK_STATE_TIDX : Fld := ⟨0x40050040, 0x1000, 0, 16, 9⟩
def TRK_STATE_CAUSE : Fld := ⟨0x40050040, 0x1000, 0, 12, 4⟩
def TRK_STATE_PREV : Fld := ⟨0x40050040, 0x1000, 0, 8, 3⟩
def TRK_STATE_STATE : Fld := ⟨0x40050040, 0x1000, 0, 0, 3⟩
def TRK_AW : Fld := ⟨0x40050044, 0x1000, 0, 0, 32⟩
def TRK_PERIOD : Fld := ⟨0x40050048, 0x1000, 0, 0, 32⟩
def TRK_EDGETB : Fld := ⟨0x40050050, 0x1000, 0, 0, 64⟩
def TRK_CNT : Fld := ⟨0x40050058, 0x1000, 0, 0, 32⟩
def TRK_CNT_LOSTS : Fld := ⟨0x40050058, 0x1000, 0, 24, 8⟩
def TRK_CNT_CAMERR : Fld := ⟨0x40050058, 0x1000, 0, 16, 8⟩
def TRK_CNT_TOOTHERR : Fld := ⟨0x40050058, 0x1000, 0, 8, 8⟩
def TRK_CNT_NOISE : Fld := ⟨0x40050058, 0x1000, 0, 0, 8⟩
def TRK_VR : Fld := ⟨0x4005005C, 0x1000, 0, 0, 32⟩
def TRK_VR_THR : Fld := ⟨0x4005005C, 0x1000, 0, 16, 12⟩
def TRK_VR_PEAK : Fld := ⟨0x4005005C, 0x1000, 0, 0, 12⟩
def TRK_TREC : Fld := ⟨0x40050060, 0x1000, 0, 0, 64⟩
def TRK_TRECSTAT : Fld := ⟨0x40050068, 0x1000, 0, 0, 32⟩
def TRK_TRECSTAT_OVF : Fld := ⟨0x40050068, 0x1000, 0, 8, 1⟩
def TRK_TRECSTAT_LEVEL : Fld := ⟨0x40050068, 0x1000, 0, 0, 6⟩
def TRK_CAMPOS : Fld := ⟨0x40050070, 0x1000, 0x4, 0, 32⟩
def TRK_CAMDEV : Fld := ⟨0x40050080, 0x1000, 0x4, 0, 32⟩
def TRK_CAMDEV_DEV : Fld := ⟨0x40050080, 0x1000, 0x4, 8, 24⟩
def TRK_CAMDEV_MATCH : Fld := ⟨0x40050080, 0x1000, 0x4, 7, 1⟩
def TRK_CAMDEV_ENTRY : Fld := ⟨0x40050080, 0x1000, 0x4, 0, 6⟩
def TRK_CAMTB : Fld := ⟨0x40050090, 0x1000, 0x4, 0, 32⟩
def TRK_INTEN : Fld := ⟨0x400500A0, 0x1000, 0, 0, 32⟩
def TRK_INTEN_DEC : Fld := ⟨0x400500A0, 0x1000, 0, 7, 1⟩
def TRK_INTEN_ERR : Fld := ⟨0x400500A0, 0x1000, 0, 6, 1⟩
def TRK_INTEN_CAM : Fld := ⟨0x400500A0, 0x1000, 0, 5, 1⟩
def TRK_INTEN_GAP : Fld := ⟨0x400500A0, 0x1000, 0, 4, 1⟩
def TRK_INTEN_REV : Fld := ⟨0x400500A0, 0x1000, 0, 3, 1⟩
def TRK_INTEN_LOSS : Fld := ⟨0x400500A0, 0x1000, 0, 2, 1⟩
def TRK_INTEN_SYNC : Fld := ⟨0x400500A0, 0x1000, 0, 1, 1⟩
def TRK_INTEN_STATE : Fld := ⟨0x400500A0, 0x1000, 0, 0, 1⟩
def TRK_INTST : Fld := ⟨0x400500A4, 0x1000, 0, 0, 32⟩
def TRK_INTST_DEC : Fld := ⟨0x400500A4, 0x1000, 0, 7, 1⟩
def TRK_INTST_ERR : Fld := ⟨0x400500A4, 0x1000, 0, 6, 1⟩
def TRK_INTST_CAM : Fld := ⟨0x400500A4, 0x1000, 0, 5, 1⟩
def TRK_INTST_GAP : Fld := ⟨0x400500A4, 0x1000, 0, 4, 1⟩
def TRK_INTST_REV : Fld := ⟨0x400500A4, 0x1000, 0, 3, 1⟩
def TRK_INTST_LOSS : Fld := ⟨0x400500A4, 0x1000, 0, 2, 1⟩
def TRK_INTST_SYNC : Fld := ⟨0x400500A4, 0x1000, 0, 1, 1⟩
def TRK_INTST_STATE : Fld := ⟨0x400500A4, 0x1000, 0, 0, 1⟩
def TRK_PCFG : Fld := ⟨0x40050100, 0x1000, 0, 0, 32⟩
def TRK_PCFG_SLEWMAX : Fld := ⟨0x40050100, 0x1000, 0, 16, 16⟩
def TRK_PCFG_LGAIN : Fld := ⟨0x40050100, 0x1000, 0, 12, 4⟩
def TRK_PCFG_FGAIN : Fld := ⟨0x40050100, 0x1000, 0, 8, 4⟩
def TRK_PCFG_COMP : Fld := ⟨0x40050100, 0x1000, 0, 6, 1⟩
def TRK_PCFG_ORDER : Fld := ⟨0x40050100, 0x1000, 0, 4, 2⟩
def TRK_PCFG_CUMODE : Fld := ⟨0x40050100, 0x1000, 0, 3, 1⟩
def TRK_PCFG_MODE : Fld := ⟨0x40050100, 0x1000, 0, 0, 2⟩
def TRK_PLRN : Fld := ⟨0x40050104, 0x1000, 0, 0, 32⟩
def TRK_PLRN_CORLIM : Fld := ⟨0x40050104, 0x1000, 0, 16, 16⟩
def TRK_PLRN_LRNMIN : Fld := ⟨0x40050104, 0x1000, 0, 8, 8⟩
def TRK_PLRN_ACCLIM : Fld := ⟨0x40050104, 0x1000, 0, 0, 8⟩
def TRK_PLRNSPD : Fld := ⟨0x40050108, 0x1000, 0, 0, 32⟩
def TRK_PLRNSPD_MAXRPM : Fld := ⟨0x40050108, 0x1000, 0, 16, 16⟩
def TRK_PLRNSPD_MINRPM : Fld := ⟨0x40050108, 0x1000, 0, 0, 16⟩
def TRK_PFUSE : Fld := ⟨0x4005010C, 0x1000, 0, 0, 32⟩
def TRK_PFUSE_FBAD : Fld := ⟨0x4005010C, 0x1000, 0, 28, 4⟩
def TRK_PFUSE_FWIN : Fld := ⟨0x4005010C, 0x1000, 0, 16, 12⟩
def TRK_PFUSE_FLIM : Fld := ⟨0x4005010C, 0x1000, 0, 0, 16⟩
def TRK_PENC : Fld := ⟨0x40050110, 0x1000, 0, 0, 32⟩
def TRK_PENC_AUPC : Fld := ⟨0x40050110, 0x1000, 0, 0, 32⟩
def TRK_PLOW : Fld := ⟨0x40050114, 0x1000, 0, 0, 32⟩
def TRK_PLOW_LOWRATE : Fld := ⟨0x40050114, 0x1000, 0, 0, 32⟩
def TRK_RATE : Fld := ⟨0x40050120, 0x1000, 0, 0, 32⟩
def TRK_PSTAT : Fld := ⟨0x40050124, 0x1000, 0, 0, 32⟩
def TRK_PSTAT_LRNREV : Fld := ⟨0x40050124, 0x1000, 0, 24, 8⟩
def TRK_PSTAT_SLEWING : Fld := ⟨0x40050124, 0x1000, 0, 7, 1⟩
def TRK_PSTAT_HOLDING : Fld := ⟨0x40050124, 0x1000, 0, 6, 1⟩
def TRK_PSTAT_STEP : Fld := ⟨0x40050124, 0x1000, 0, 5, 1⟩
def TRK_PSTAT_FUSEFAIL : Fld := ⟨0x40050124, 0x1000, 0, 4, 1⟩
def TRK_PSTAT_TOOTHSTALE : Fld := ⟨0x40050124, 0x1000, 0, 3, 1⟩
def TRK_PSTAT_EFFMODE : Fld := ⟨0x40050124, 0x1000, 0, 0, 2⟩
def TRK_PCNT : Fld := ⟨0x40050128, 0x1000, 0, 0, 32⟩
def TRK_PCNT_JUMPS : Fld := ⟨0x40050128, 0x1000, 0, 24, 8⟩
def TRK_PCNT_FUSEDEV : Fld := ⟨0x40050128, 0x1000, 0, 16, 8⟩
def TRK_PCNT_LATE : Fld := ⟨0x40050128, 0x1000, 0, 8, 8⟩
def TRK_PCNT_EARLY : Fld := ⟨0x40050128, 0x1000, 0, 0, 8⟩
def TRK_PLAST : Fld := ⟨0x4005012C, 0x1000, 0, 0, 32⟩
def TRK_PLAST_DEF : Fld := ⟨0x4005012C, 0x1000, 0, 0, 20⟩
def TRK_HOLDT : Fld := ⟨0x40050130, 0x1000, 0, 0, 32⟩
def TRK_HOLDT_HOLD : Fld := ⟨0x40050130, 0x1000, 0, 0, 32⟩
def TRK_FOFS : Fld := ⟨0x40050134, 0x1000, 0, 0, 32⟩
def TRK_FOFS_O : Fld := ⟨0x40050134, 0x1000, 0, 0, 32⟩
def TRK_PCMD : Fld := ⟨0x40050138, 0x1000, 0, 0, 32⟩
def TRK_PCMD_CLRCOR : Fld := ⟨0x40050138, 0x1000, 0, 1, 1⟩
def TRK_PCMD_COMMIT : Fld := ⟨0x40050138, 0x1000, 0, 0, 1⟩
def TRK_PDEC : Fld := ⟨0x4005013C, 0x1000, 0, 0, 32⟩
def TRK_PDEC_REQ : Fld := ⟨0x4005013C, 0x1000, 0, 7, 1⟩
def TRK_PDEC_RESULT : Fld := ⟨0x4005013C, 0x1000, 0, 0, 3⟩
def TRK_COR : Fld := ⟨0x40050200, 0x1000, 0x4, 0, 32⟩
def TRK_COR_CORH : Fld := ⟨0x40050200, 0x1000, 0x4, 16, 16⟩
def TRK_COR_CORL : Fld := ⟨0x40050200, 0x1000, 0x4, 0, 16⟩
def TRK_CAM0 : Fld := ⟨0x40050600, 0x1000, 0x8, 0, 32⟩
def TRK_CAM0_POL : Fld := ⟨0x40050600, 0x1000, 0x8, 24, 1⟩
def TRK_CAM0_CIN : Fld := ⟨0x40050600, 0x1000, 0x8, 22, 2⟩
def TRK_CAM0_POS : Fld := ⟨0x40050600, 0x1000, 0x8, 0, 22⟩
def TRK_CAM1 : Fld := ⟨0x40050604, 0x1000, 0x8, 0, 32⟩
def TRK_CAM1_CTOL : Fld := ⟨0x40050604, 0x1000, 0x8, 0, 20⟩
def TRK_TT : Fld := ⟨0x40050800, 0x1000, 0x4, 0, 32⟩
def TRK_TT_SYNCGAP : Fld := ⟨0x40050800, 0x1000, 0x4, 20, 1⟩
def TRK_TT_PITCH : Fld := ⟨0x40050800, 0x1000, 0x4, 0, 20⟩

-- MK
def MK_CFG : Fld := ⟨0x40058000, 0x8, 0, 0, 32⟩
def MK_CFG_ARST : Fld := ⟨0x40058000, 0x8, 0, 18, 1⟩
def MK_CFG_REQ : Fld := ⟨0x40058000, 0x8, 0, 16, 2⟩
def MK_CFG_OWNIDX : Fld := ⟨0x40058000, 0x8, 0, 8, 7⟩
def MK_CFG_OWNKIND : Fld := ⟨0x40058000, 0x8, 0, 4, 2⟩
def MK_CFG_TRK : Fld := ⟨0x40058000, 0x8, 0, 0, 3⟩
def MK_POS : Fld := ⟨0x40058004, 0x8, 0, 0, 32⟩
def MK_POS_EN : Fld := ⟨0x40058004, 0x8, 0, 31, 1⟩
def MK_POS_POS : Fld := ⟨0x40058004, 0x8, 0, 0, 22⟩
def MK_FIRED : Fld := ⟨0x40058800, 0x4, 0, 0, 32⟩

-- ENC
def ENC_CFG : Fld := ⟨0x40060000, 0x400, 0, 0, 32⟩
def ENC_CFG_FILT : Fld := ⟨0x40060000, 0x400, 0, 24, 8⟩
def ENC_CFG_PTMODE : Fld := ⟨0x40060000, 0x400, 0, 22, 2⟩
def ENC_CFG_PTDIFF : Fld := ⟨0x40060000, 0x400, 0, 21, 1⟩
def ENC_CFG_DIFF : Fld := ⟨0x40060000, 0x400, 0, 20, 1⟩
def ENC_CFG_MODE : Fld := ⟨0x40060000, 0x400, 0, 16, 2⟩
def ENC_CFG_DIRINV : Fld := ⟨0x40060000, 0x400, 0, 15, 1⟩
def ENC_CFG_PTMO : Fld := ⟨0x40060000, 0x400, 0, 8, 7⟩
def ENC_CFG_EN : Fld := ⟨0x40060000, 0x400, 0, 0, 1⟩
def ENC_IDXCFG : Fld := ⟨0x40060004, 0x400, 0, 0, 32⟩
def ENC_IDXCFG_CPR : Fld := ⟨0x40060004, 0x400, 0, 16, 16⟩
def ENC_IDXCFG_IDXTOL : Fld := ⟨0x40060004, 0x400, 0, 8, 8⟩
def ENC_IDXCFG_ZQAB : Fld := ⟨0x40060004, 0x400, 0, 6, 2⟩
def ENC_IDXCFG_ZQEN : Fld := ⟨0x40060004, 0x400, 0, 5, 1⟩
def ENC_IDXCFG_IDXRST : Fld := ⟨0x40060004, 0x400, 0, 4, 1⟩
def ENC_IDXCFG_ZEDGE : Fld := ⟨0x40060004, 0x400, 0, 1, 1⟩
def ENC_IDXCFG_ZEN : Fld := ⟨0x40060004, 0x400, 0, 0, 1⟩
def ENC_POS : Fld := ⟨0x40060008, 0x400, 0, 0, 32⟩
def ENC_PERIOD : Fld := ⟨0x4006000C, 0x400, 0, 0, 32⟩
def ENC_STAT : Fld := ⟨0x40060010, 0x400, 0, 0, 32⟩
def ENC_STAT_SLEPT : Fld := ⟨0x40060010, 0x400, 0, 8, 1⟩
def ENC_STAT_PERV : Fld := ⟨0x40060010, 0x400, 0, 7, 1⟩
def ENC_STAT_STILL : Fld := ⟨0x40060010, 0x400, 0, 6, 1⟩
def ENC_STAT_DIR : Fld := ⟨0x40060010, 0x400, 0, 5, 1⟩
def ENC_STAT_ILLEGAL : Fld := ⟨0x40060010, 0x400, 0, 4, 1⟩
def ENC_STAT_IDXSEEN : Fld := ⟨0x40060010, 0x400, 0, 3, 1⟩
def ENC_STAT_LVL : Fld := ⟨0x40060010, 0x400, 0, 0, 3⟩
def ENC_IDXPOS : Fld := ⟨0x40060014, 0x400, 0, 0, 32⟩
def ENC_CNT : Fld := ⟨0x40060018, 0x400, 0, 0, 32⟩
def ENC_CNT_ILLEGAL : Fld := ⟨0x40060018, 0x400, 0, 24, 8⟩
def ENC_CNT_IDXERR : Fld := ⟨0x40060018, 0x400, 0, 16, 8⟩
def ENC_CNT_DIRCHG : Fld := ⟨0x40060018, 0x400, 0, 8, 8⟩
def ENC_CNT_INDEX : Fld := ⟨0x40060018, 0x400, 0, 0, 8⟩
def ENC_INTEN : Fld := ⟨0x40060020, 0x400, 0, 0, 32⟩
def ENC_INTEN_IDXERR : Fld := ⟨0x40060020, 0x400, 0, 3, 1⟩
def ENC_INTEN_DIRCHG : Fld := ⟨0x40060020, 0x400, 0, 2, 1⟩
def ENC_INTEN_ILLEGAL : Fld := ⟨0x40060020, 0x400, 0, 1, 1⟩
def ENC_INTEN_INDEX : Fld := ⟨0x40060020, 0x400, 0, 0, 1⟩
def ENC_INTST : Fld := ⟨0x40060024, 0x400, 0, 0, 32⟩
def ENC_INTST_IDXERR : Fld := ⟨0x40060024, 0x400, 0, 3, 1⟩
def ENC_INTST_DIRCHG : Fld := ⟨0x40060024, 0x400, 0, 2, 1⟩
def ENC_INTST_ILLEGAL : Fld := ⟨0x40060024, 0x400, 0, 1, 1⟩
def ENC_INTST_INDEX : Fld := ⟨0x40060024, 0x400, 0, 0, 1⟩

-- SCH
def SCH_POOL : Fld := ⟨0x40070000, 0, 0, 0, 32⟩
def SCH_POOL_LOW : Fld := ⟨0x40070000, 0, 0, 16, 14⟩
def SCH_POOL_FREE : Fld := ⟨0x40070000, 0, 0, 0, 14⟩
def SCH_RSV : Fld := ⟨0x40070004, 0, 0, 0, 32⟩
def SCH_RSV_RSVTOT : Fld := ⟨0x40070004, 0, 0, 0, 14⟩
def SCH_CNT : Fld := ⟨0x40070008, 0, 0, 0, 32⟩
def SCH_CNT_POOLFULL : Fld := ⟨0x40070008, 0, 0, 0, 16⟩

-- CH
def CH_EVT : Fld := ⟨0x40080000, 0x200, 0x4, 0, 32⟩
def CH_ISTAT : Fld := ⟨0x40080010, 0x200, 0, 0, 32⟩
def CH_ISTAT_BUSY : Fld := ⟨0x40080010, 0x200, 0, 31, 1⟩
def CH_ISTAT_EPOCH : Fld := ⟨0x40080010, 0x200, 0, 16, 8⟩
def CH_ISTAT_TAG : Fld := ⟨0x40080010, 0x200, 0, 8, 8⟩
def CH_ISTAT_STATUS : Fld := ⟨0x40080010, 0x200, 0, 0, 8⟩
def CH_CFG : Fld := ⟨0x40080020, 0x200, 0, 0, 32⟩
def CH_CFG_PWMSTB : Fld := ⟨0x40080020, 0x200, 0, 10, 1⟩
def CH_CFG_LOSS : Fld := ⟨0x40080020, 0x200, 0, 9, 1⟩
def CH_CFG_TRK : Fld := ⟨0x40080020, 0x200, 0, 4, 3⟩
def CH_CFG_PWMOK : Fld := ⟨0x40080020, 0x200, 0, 1, 1⟩
def CH_CFG_EN : Fld := ⟨0x40080020, 0x200, 0, 0, 1⟩
def CH_DUNIT : Fld := ⟨0x40080024, 0x200, 0, 0, 32⟩
def CH_DUNIT_K : Fld := ⟨0x40080024, 0x200, 0, 0, 4⟩
def CH_DEPTH : Fld := ⟨0x40080028, 0x200, 0, 0, 32⟩
def CH_DEPTH_RSV : Fld := ⟨0x40080028, 0x200, 0, 16, 9⟩
def CH_DEPTH_DEPTH : Fld := ⟨0x40080028, 0x200, 0, 0, 9⟩
def CH_EPOCH : Fld := ⟨0x4008002C, 0x200, 0, 0, 8⟩
def CH_CMD : Fld := ⟨0x40080030, 0x200, 0, 0, 32⟩
def CH_CMD_UNCUT : Fld := ⟨0x40080030, 0x200, 0, 3, 1⟩
def CH_CMD_CUT : Fld := ⟨0x40080030, 0x200, 0, 2, 1⟩
def CH_CMD_ENDACT : Fld := ⟨0x40080030, 0x200, 0, 1, 1⟩
def CH_CMD_FLUSH : Fld := ⟨0x40080030, 0x200, 0, 0, 1⟩
def CH_STAT : Fld := ⟨0x40080034, 0x200, 0, 0, 32⟩
def CH_STAT_LEVEL : Fld := ⟨0x40080034, 0x200, 0, 16, 9⟩
def CH_STAT_INJSTALE : Fld := ⟨0x40080034, 0x200, 0, 12, 1⟩
def CH_STAT_RETIRED : Fld := ⟨0x40080034, 0x200, 0, 11, 1⟩
def CH_STAT_CUTL : Fld := ⟨0x40080034, 0x200, 0, 10, 1⟩
def CH_STAT_PWM : Fld := ⟨0x40080034, 0x200, 0, 9, 1⟩
def CH_STAT_ACTIVE : Fld := ⟨0x40080034, 0x200, 0, 8, 1⟩
def CH_STAT_HEADKIND : Fld := ⟨0x40080034, 0x200, 0, 2, 2⟩
def CH_STAT_NEXTV : Fld := ⟨0x40080034, 0x200, 0, 1, 1⟩
def CH_STAT_ARMEDV : Fld := ⟨0x40080034, 0x200, 0, 0, 1⟩
def CH_HEAD : Fld := ⟨0x40080038, 0x200, 0, 0, 32⟩
def CH_HEAD_START : Fld := ⟨0x40080038, 0x200, 0, 0, 32⟩
def CH_PWMPER : Fld := ⟨0x40080040, 0x200, 0, 0, 32⟩
def CH_PWMPER_PER : Fld := ⟨0x40080040, 0x200, 0, 0, 24⟩
def CH_PWMDUTY : Fld := ⟨0x40080044, 0x200, 0, 0, 32⟩
def CH_PWMDUTY_DUTY : Fld := ⟨0x40080044, 0x200, 0, 0, 29⟩
def CH_PWMLOCK : Fld := ⟨0x40080048, 0x200, 0, 0, 32⟩
def CH_PWMLOCK_PENDING : Fld := ⟨0x40080048, 0x200, 0, 8, 1⟩
def CH_PWMLOCK_LOCK : Fld := ⟨0x40080048, 0x200, 0, 0, 1⟩
def CH_PWMSTAT : Fld := ⟨0x4008004C, 0x200, 0, 0, 32⟩
def CH_PWMSTAT_DUTY : Fld := ⟨0x4008004C, 0x200, 0, 0, 29⟩
def CH_INJCFG : Fld := ⟨0x40080050, 0x200, 0, 0, 32⟩
def CH_INJCFG_EN : Fld := ⟨0x40080050, 0x200, 0, 31, 1⟩
def CH_INJCFG_AIN : Fld := ⟨0x40080050, 0x200, 0, 24, 6⟩
def CH_INJCFG_GAIN : Fld := ⟨0x40080050, 0x200, 0, 20, 4⟩
def CH_INJCFG_WINK : Fld := ⟨0x40080050, 0x200, 0, 16, 4⟩
def CH_INJCFG_ITHR : Fld := ⟨0x40080050, 0x200, 0, 0, 16⟩
def CH_INJLIM : Fld := ⟨0x40080054, 0x200, 0, 0, 32⟩
def CH_INJLIM_REF : Fld := ⟨0x40080054, 0x200, 0, 16, 16⟩
def CH_INJLIM_CORMAX : Fld := ⟨0x40080054, 0x200, 0, 0, 16⟩
def CH_INJDLY : Fld := ⟨0x40080058, 0x200, 0, 0, 32⟩
def CH_INJDLY_COR : Fld := ⟨0x40080058, 0x200, 0, 0, 16⟩
def CH_INJDEC : Fld := ⟨0x4008005C, 0x200, 0, 0, 32⟩
def CH_INJDEC_REQ : Fld := ⟨0x4008005C, 0x200, 0, 31, 1⟩
def CH_INJDEC_RESULT : Fld := ⟨0x4008005C, 0x200, 0, 28, 3⟩
def CH_INJDEC_MEAS : Fld := ⟨0x4008005C, 0x200, 0, 0, 24⟩
def CH_CNT0 : Fld := ⟨0x40080060, 0x200, 0, 0, 32⟩
def CH_CNT0_LATEDROP : Fld := ⟨0x40080060, 0x200, 0, 24, 8⟩
def CH_CNT0_OVERLAP : Fld := ⟨0x40080060, 0x200, 0, 16, 8⟩
def CH_CNT0_SKIPPED : Fld := ⟨0x40080060, 0x200, 0, 8, 8⟩
def CH_CNT0_REJECT : Fld := ⟨0x40080060, 0x200, 0, 0, 8⟩
def CH_CNT1 : Fld := ⟨0x40080064, 0x200, 0, 0, 32⟩
def CH_CNT1_CATCHUP : Fld := ⟨0x40080064, 0x200, 0, 24, 8⟩
def CH_CNT1_MINEXT : Fld := ⟨0x40080064, 0x200, 0, 16, 8⟩
def CH_CNT1_MAXCUT : Fld := ⟨0x40080064, 0x200, 0, 8, 8⟩
def CH_CNT1_NOOPEN : Fld := ⟨0x40080064, 0x200, 0, 0, 8⟩
def CH_INTEN : Fld := ⟨0x40080070, 0x200, 0, 0, 32⟩
def CH_INTEN_EMPTY : Fld := ⟨0x40080070, 0x200, 0, 6, 1⟩
def CH_INTEN_INJREQ : Fld := ⟨0x40080070, 0x200, 0, 5, 1⟩
def CH_INTEN_LOSSEND : Fld := ⟨0x40080070, 0x200, 0, 4, 1⟩
def CH_INTEN_POOL : Fld := ⟨0x40080070, 0x200, 0, 3, 1⟩
def CH_INTEN_REJECT : Fld := ⟨0x40080070, 0x200, 0, 2, 1⟩
def CH_INTEN_DROP : Fld := ⟨0x40080070, 0x200, 0, 1, 1⟩
def CH_INTEN_DONE : Fld := ⟨0x40080070, 0x200, 0, 0, 1⟩
def CH_INTST : Fld := ⟨0x40080074, 0x200, 0, 0, 32⟩
def CH_INTST_EMPTY : Fld := ⟨0x40080074, 0x200, 0, 6, 1⟩
def CH_INTST_INJREQ : Fld := ⟨0x40080074, 0x200, 0, 5, 1⟩
def CH_INTST_LOSSEND : Fld := ⟨0x40080074, 0x200, 0, 4, 1⟩
def CH_INTST_POOL : Fld := ⟨0x40080074, 0x200, 0, 3, 1⟩
def CH_INTST_REJECT : Fld := ⟨0x40080074, 0x200, 0, 2, 1⟩
def CH_INTST_DROP : Fld := ⟨0x40080074, 0x200, 0, 1, 1⟩
def CH_INTST_DONE : Fld := ⟨0x40080074, 0x200, 0, 0, 1⟩
def CH_RPT0 : Fld := ⟨0x40080080, 0x200, 0, 0, 32⟩
def CH_RPT0_TAG : Fld := ⟨0x40080080, 0x200, 0, 24, 8⟩
def CH_RPT0_OUTCOME : Fld := ⟨0x40080080, 0x200, 0, 16, 8⟩
def CH_RPT0_RFLAGS : Fld := ⟨0x40080080, 0x200, 0, 0, 12⟩
def CH_RPT1 : Fld := ⟨0x40080084, 0x200, 0, 0, 32⟩
def CH_RPT1_TS : Fld := ⟨0x40080084, 0x200, 0, 0, 32⟩
def CH_RPT2 : Fld := ⟨0x40080088, 0x200, 0, 0, 32⟩
def CH_RPT2_DUR : Fld := ⟨0x40080088, 0x200, 0, 0, 32⟩
def CH_RPT3 : Fld := ⟨0x4008008C, 0x200, 0, 0, 32⟩
def CH_RPT3_AWS : Fld := ⟨0x4008008C, 0x200, 0, 0, 32⟩

-- HSK
def HSK_CFG : Fld := ⟨0x40090000, 0x80, 0, 0, 32⟩
def HSK_CFG_WINEN : Fld := ⟨0x40090000, 0x80, 0, 8, 4⟩
def HSK_CFG_TUNIT : Fld := ⟨0x40090000, 0x80, 0, 4, 4⟩
def HSK_CFG_ALLOW_RESTORED : Fld := ⟨0x40090000, 0x80, 0, 2, 1⟩
def HSK_CFG_REQUIRE_SYNC : Fld := ⟨0x40090000, 0x80, 0, 0, 2⟩
def HSK_ONMAX : Fld := ⟨0x40090004, 0x80, 0, 0, 32⟩
def HSK_ONMAX_LIM : Fld := ⟨0x40090004, 0x80, 0, 0, 20⟩
def HSK_OFFMIN : Fld := ⟨0x40090008, 0x80, 0, 0, 32⟩
def HSK_OFFMIN_LIM : Fld := ⟨0x40090008, 0x80, 0, 0, 20⟩
def HSK_REVON : Fld := ⟨0x4009000C, 0x80, 0, 0, 32⟩
def HSK_REVON_LIM : Fld := ⟨0x4009000C, 0x80, 0, 0, 20⟩
def HSK_EDGES : Fld := ⟨0x40090010, 0x80, 0, 0, 32⟩
def HSK_EDGES_EDGEMAX : Fld := ⟨0x40090010, 0x80, 0, 0, 8⟩
def HSK_I2TMAX : Fld := ⟨0x40090014, 0x80, 0, 0, 32⟩
def HSK_I2TMAX_LVL : Fld := ⟨0x40090014, 0x80, 0, 0, 32⟩
def HSK_I2TREL : Fld := ⟨0x40090018, 0x80, 0, 0, 32⟩
def HSK_I2TREL_LVL : Fld := ⟨0x40090018, 0x80, 0, 0, 32⟩
def HSK_I2TCOOL : Fld := ⟨0x4009001C, 0x80, 0, 0, 32⟩
def HSK_I2TCOOL_COOL : Fld := ⟨0x4009001C, 0x80, 0, 0, 16⟩
def HSK_WINS : Fld := ⟨0x40090020, 0x80, 0x8, 0, 32⟩
def HSK_WINS_POS : Fld := ⟨0x40090020, 0x80, 0x8, 0, 22⟩
def HSK_WINE : Fld := ⟨0x40090024, 0x80, 0x8, 0, 32⟩
def HSK_WINE_POS : Fld := ⟨0x40090024, 0x80, 0x8, 0, 22⟩
def HSK_STAT : Fld := ⟨0x40090040, 0x80, 0, 0, 32⟩
def HSK_STAT_EDGECNT : Fld := ⟨0x40090040, 0x80, 0, 24, 8⟩
def HSK_STAT_FORCED : Fld := ⟨0x40090040, 0x80, 0, 8, 8⟩
def HSK_STAT_TRIPPED : Fld := ⟨0x40090040, 0x80, 0, 4, 1⟩
def HSK_STAT_BLOCKED : Fld := ⟨0x40090040, 0x80, 0, 3, 1⟩
def HSK_STAT_INTENT : Fld := ⟨0x40090040, 0x80, 0, 2, 1⟩
def HSK_STAT_OUT : Fld := ⟨0x40090040, 0x80, 0, 0, 1⟩
def HSK_LAST : Fld := ⟨0x40090044, 0x80, 0, 0, 32⟩
def HSK_LAST_CAUSE : Fld := ⟨0x40090044, 0x80, 0, 16, 8⟩
def HSK_LAST_KIND : Fld := ⟨0x40090044, 0x80, 0, 8, 1⟩
def HSK_LAST_TAG : Fld := ⟨0x40090044, 0x80, 0, 0, 8⟩
def HSK_LASTAW : Fld := ⟨0x40090048, 0x80, 0, 0, 32⟩
def HSK_LASTTB : Fld := ⟨0x4009004C, 0x80, 0, 0, 32⟩
def HSK_CNT0 : Fld := ⟨0x40090050, 0x80, 0, 0, 32⟩
def HSK_CNT0_ONMAX : Fld := ⟨0x40090050, 0x80, 0, 24, 8⟩
def HSK_CNT0_OFFMIN : Fld := ⟨0x40090050, 0x80, 0, 16, 8⟩
def HSK_CNT0_EDGEMAX : Fld := ⟨0x40090050, 0x80, 0, 8, 8⟩
def HSK_CNT0_REVON : Fld := ⟨0x40090050, 0x80, 0, 0, 8⟩
def HSK_CNT1 : Fld := ⟨0x40090054, 0x80, 0, 0, 32⟩
def HSK_CNT1_WINDOW : Fld := ⟨0x40090054, 0x80, 0, 24, 8⟩
def HSK_CNT1_I2T : Fld := ⟨0x40090054, 0x80, 0, 16, 8⟩
def HSK_CNT1_SYNC : Fld := ⟨0x40090054, 0x80, 0, 8, 8⟩
def HSK_CNT1_FORCE : Fld := ⟨0x40090054, 0x80, 0, 0, 8⟩
def HSK_REVACC : Fld := ⟨0x40090058, 0x80, 0, 0, 32⟩
def HSK_REVACC_ACC : Fld := ⟨0x40090058, 0x80, 0, 0, 20⟩
def HSK_I2TACC : Fld := ⟨0x4009005C, 0x80, 0, 0, 32⟩
def HSK_I2TACC_E : Fld := ⟨0x4009005C, 0x80, 0, 0, 32⟩
def HSK_FORCE : Fld := ⟨0x40090060, 0x80, 0, 0, 32⟩
def HSK_FORCE_LVL : Fld := ⟨0x40090060, 0x80, 0, 1, 1⟩
def HSK_FORCE_EN : Fld := ⟨0x40090060, 0x80, 0, 0, 1⟩

-- PAD
def PAD_CFG : Fld := ⟨0x400A0000, 0x20, 0, 0, 32⟩
def PAD_CFG_RBFILT : Fld := ⟨0x400A0000, 0x20, 0, 16, 10⟩
def PAD_CFG_DRIVE : Fld := ⟨0x400A0000, 0x20, 0, 10, 2⟩
def PAD_CFG_PSQLINE : Fld := ⟨0x400A0000, 0x20, 0, 8, 2⟩
def PAD_CFG_PSQSEL : Fld := ⟨0x400A0000, 0x20, 0, 4, 4⟩
def PAD_CFG_SRC : Fld := ⟨0x400A0000, 0x20, 0, 1, 1⟩
def PAD_CFG_ACTHI : Fld := ⟨0x400A0000, 0x20, 0, 0, 1⟩
def PAD_TRIM : Fld := ⟨0x400A0004, 0x20, 0, 0, 5⟩
def PAD_STAT : Fld := ⟨0x400A0008, 0x20, 0, 0, 32⟩
def PAD_STAT_LVLIN : Fld := ⟨0x400A0008, 0x20, 0, 17, 1⟩
def PAD_STAT_LVLOUT : Fld := ⟨0x400A0008, 0x20, 0, 16, 1⟩
def PAD_STAT_CAUSE : Fld := ⟨0x400A0008, 0x20, 0, 8, 4⟩
def PAD_STAT_STATE : Fld := ⟨0x400A0008, 0x20, 0, 0, 3⟩
def PAD_DIAG : Fld := ⟨0x400A000C, 0x20, 0, 0, 32⟩
def PAD_DIAG_CAUSE : Fld := ⟨0x400A000C, 0x20, 0, 1, 6⟩
def PAD_FDCFG : Fld := ⟨0x400A0010, 0x20, 0, 0, 32⟩
def PAD_FDCFG_OLTHR : Fld := ⟨0x400A0010, 0x20, 0, 16, 12⟩
def PAD_FDCFG_FDBLANK : Fld := ⟨0x400A0010, 0x20, 0, 8, 6⟩
def PAD_FDCFG_OCT : Fld := ⟨0x400A0010, 0x20, 0, 0, 6⟩
def PAD_ISENSE : Fld := ⟨0x400A0014, 0x20, 0, 0, 32⟩
def PAD_ISENSE_PEAK : Fld := ⟨0x400A0014, 0x20, 0, 16, 12⟩
def PAD_ISENSE_I : Fld := ⟨0x400A0014, 0x20, 0, 0, 12⟩
def PAD_TEST : Fld := ⟨0x400A0018, 0x20, 0, 0, 32⟩
def PAD_TEST_FCAUSE : Fld := ⟨0x400A0018, 0x20, 0, 12, 4⟩
def PAD_TEST_RESULT : Fld := ⟨0x400A0018, 0x20, 0, 8, 3⟩
def PAD_TEST_START : Fld := ⟨0x400A0018, 0x20, 0, 0, 1⟩

-- PADG
def PADG_CFG : Fld := ⟨0x400A8000, 0x10, 0, 0, 32⟩
def PADG_CFG_CWIN : Fld := ⟨0x400A8000, 0x10, 0, 0, 6⟩
def PADG_INTEN : Fld := ⟨0x400A8004, 0x10, 0, 0, 32⟩
def PADG_INTEN_CONT : Fld := ⟨0x400A8004, 0x10, 0, 16, 8⟩
def PADG_INTEN_PADF : Fld := ⟨0x400A8004, 0x10, 0, 8, 8⟩
def PADG_INTEN_HSK : Fld := ⟨0x400A8004, 0x10, 0, 0, 8⟩
def PADG_INTST : Fld := ⟨0x400A8008, 0x10, 0, 0, 32⟩
def PADG_INTST_CONT : Fld := ⟨0x400A8008, 0x10, 0, 16, 8⟩
def PADG_INTST_PADF : Fld := ⟨0x400A8008, 0x10, 0, 8, 8⟩
def PADG_INTST_HSK : Fld := ⟨0x400A8008, 0x10, 0, 0, 8⟩

-- TDAC
def TDAC_CTRL : Fld := ⟨0x400B0000, 0, 0, 0, 32⟩
def TDAC_CTRL_EN : Fld := ⟨0x400B0000, 0, 0, 31, 1⟩
def TDAC_CTRL_TARGET : Fld := ⟨0x400B0000, 0, 0, 16, 6⟩
def TDAC_CTRL_CODE : Fld := ⟨0x400B0000, 0, 0, 0, 12⟩
def TDAC_STAT : Fld := ⟨0x400B0004, 0, 0, 0, 32⟩
def TDAC_STAT_SKIP : Fld := ⟨0x400B0004, 0, 0, 16, 16⟩
def TDAC_STAT_CONN : Fld := ⟨0x400B0004, 0, 0, 0, 1⟩

-- ADC
def ADC_IN : Fld := ⟨0x400B0100, 0x4, 0, 0, 32⟩
def ADC_IN_TRK : Fld := ⟨0x400B0100, 0x4, 0, 19, 3⟩
def ADC_IN_GMAX : Fld := ⟨0x400B0100, 0x4, 0, 16, 3⟩
def ADC_IN_GMIN : Fld := ⟨0x400B0100, 0x4, 0, 12, 3⟩
def ADC_IN_AUTO : Fld := ⟨0x400B0100, 0x4, 0, 11, 1⟩
def ADC_IN_CONV : Fld := ⟨0x400B0100, 0x4, 0, 8, 2⟩
def ADC_IN_EN : Fld := ⟨0x400B0100, 0x4, 0, 7, 1⟩
def ADC_IN_GAIN : Fld := ⟨0x400B0100, 0x4, 0, 0, 3⟩
def ADC_CTRL : Fld := ⟨0x400B1000, 0x1000, 0, 0, 32⟩
def ADC_CTRL_IDX : Fld := ⟨0x400B1000, 0x1000, 0, 16, 8⟩
def ADC_CTRL_STATE : Fld := ⟨0x400B1000, 0x1000, 0, 8, 2⟩
def ADC_CTRL_CLRQ : Fld := ⟨0x400B1000, 0x1000, 0, 2, 1⟩
def ADC_CTRL_STOP : Fld := ⟨0x400B1000, 0x1000, 0, 1, 1⟩
def ADC_CTRL_START : Fld := ⟨0x400B1000, 0x1000, 0, 0, 1⟩
def ADC_CFG : Fld := ⟨0x400B1004, 0x1000, 0, 0, 32⟩
def ADC_CFG_TMODE : Fld := ⟨0x400B1004, 0x1000, 0, 17, 1⟩
def ADC_CFG_AUTOSTART : Fld := ⟨0x400B1004, 0x1000, 0, 16, 1⟩
def ADC_CFG_WM : Fld := ⟨0x400B1004, 0x1000, 0, 4, 11⟩
def ADC_CFG_READERS : Fld := ⟨0x400B1004, 0x1000, 0, 0, 3⟩
def ADC_TSEL : Fld := ⟨0x400B1008, 0x1000, 0x4, 0, 32⟩
def ADC_TSEL_EN1 : Fld := ⟨0x400B1008, 0x1000, 0x4, 31, 1⟩
def ADC_TSEL_SRC1 : Fld := ⟨0x400B1008, 0x1000, 0x4, 16, 9⟩
def ADC_TSEL_EN0 : Fld := ⟨0x400B1008, 0x1000, 0x4, 15, 1⟩
def ADC_TSEL_SRC0 : Fld := ⟨0x400B1008, 0x1000, 0x4, 0, 9⟩
def ADC_TSTAT : Fld := ⟨0x400B1018, 0x1000, 0, 0, 32⟩
def ADC_TSTAT_OVF : Fld := ⟨0x400B1018, 0x1000, 0, 8, 1⟩
def ADC_TSTAT_PEND : Fld := ⟨0x400B1018, 0x1000, 0, 0, 4⟩
def ADC_URG : Fld := ⟨0x400B1020, 0x1000, 0, 0, 32⟩
def ADC_URG_GAIN : Fld := ⟨0x400B1020, 0x1000, 0, 8, 3⟩
def ADC_URG_SRC : Fld := ⟨0x400B1020, 0x1000, 0, 0, 6⟩
def ADC_URGSTAT : Fld := ⟨0x400B1024, 0x1000, 0, 0, 32⟩
def ADC_URGSTAT_REFUSED : Fld := ⟨0x400B1024, 0x1000, 0, 16, 16⟩
def ADC_URGSTAT_PENDING : Fld := ⟨0x400B1024, 0x1000, 0, 0, 1⟩
def ADC_CALCFG : Fld := ⟨0x400B1030, 0x1000, 0, 0, 32⟩
def ADC_CALCFG_MARGIN : Fld := ⟨0x400B1030, 0x1000, 0, 22, 10⟩
def ADC_CALCFG_CALGAIN : Fld := ⟨0x400B1030, 0x1000, 0, 18, 4⟩
def ADC_CALCFG_PER : Fld := ⟨0x400B1030, 0x1000, 0, 0, 16⟩
def ADC_CALLIM : Fld := ⟨0x400B1034, 0x1000, 0, 0, 32⟩
def ADC_CALLIM_CALCODE : Fld := ⟨0x400B1034, 0x1000, 0, 16, 12⟩
def ADC_CALLIM_LIM : Fld := ⟨0x400B1034, 0x1000, 0, 0, 16⟩
def ADC_CALSTAT : Fld := ⟨0x400B1038, 0x1000, 0, 0, 32⟩
def ADC_CALSTAT_WAITS : Fld := ⟨0x400B1038, 0x1000, 0, 16, 16⟩
def ADC_CALSTAT_SLOTS : Fld := ⟨0x400B1038, 0x1000, 0, 0, 16⟩
def ADC_GCHK : Fld := ⟨0x400B103C, 0x1000, 0, 0, 32⟩
def ADC_GCHK_DEV : Fld := ⟨0x400B103C, 0x1000, 0, 0, 16⟩
def ADC_OFS : Fld := ⟨0x400B1040, 0x1000, 0x4, 0, 16⟩
def ADC_HOFS : Fld := ⟨0x400B1060, 0x1000, 0x4, 0, 16⟩
def ADC_CALDEC : Fld := ⟨0x400B1074, 0x1000, 0, 0, 32⟩
def ADC_CALDEC_REQ : Fld := ⟨0x400B1074, 0x1000, 0, 31, 1⟩
def ADC_CALDEC_RESULT : Fld := ⟨0x400B1074, 0x1000, 0, 28, 3⟩
def ADC_CALDEC_COMMIT : Fld := ⟨0x400B1074, 0x1000, 0, 0, 1⟩
def ADC_QSTAT : Fld := ⟨0x400B1080, 0x1000, 0, 0, 32⟩
def ADC_QSTAT_DROP : Fld := ⟨0x400B1080, 0x1000, 0, 16, 16⟩
def ADC_QSTAT_LEVEL : Fld := ⟨0x400B1080, 0x1000, 0, 0, 12⟩
def ADC_CNT : Fld := ⟨0x400B1084, 0x1000, 0, 0, 32⟩
def ADC_CNT_OVR : Fld := ⟨0x400B1084, 0x1000, 0, 24, 8⟩
def ADC_CNT_GCHG : Fld := ⟨0x400B1084, 0x1000, 0, 16, 8⟩
def ADC_CNT_OVERLAP : Fld := ⟨0x400B1084, 0x1000, 0, 8, 8⟩
def ADC_CNT_URGWAIT : Fld := ⟨0x400B1084, 0x1000, 0, 0, 8⟩
def ADC_INTEN : Fld := ⟨0x400B1090, 0x1000, 0, 0, 32⟩
def ADC_INTEN_OVR : Fld := ⟨0x400B1090, 0x1000, 0, 7, 1⟩
def ADC_INTEN_CALREQ : Fld := ⟨0x400B1090, 0x1000, 0, 6, 1⟩
def ADC_INTEN_CALDRIFT : Fld := ⟨0x400B1090, 0x1000, 0, 5, 1⟩
def ADC_INTEN_URGDONE : Fld := ⟨0x400B1090, 0x1000, 0, 4, 1⟩
def ADC_INTEN_TOVF : Fld := ⟨0x400B1090, 0x1000, 0, 3, 1⟩
def ADC_INTEN_WRAP : Fld := ⟨0x400B1090, 0x1000, 0, 2, 1⟩
def ADC_INTEN_DROP : Fld := ⟨0x400B1090, 0x1000, 0, 1, 1⟩
def ADC_INTEN_WATER : Fld := ⟨0x400B1090, 0x1000, 0, 0, 1⟩
def ADC_INTST : Fld := ⟨0x400B1094, 0x1000, 0, 0, 32⟩
def ADC_INTST_OVR : Fld := ⟨0x400B1094, 0x1000, 0, 7, 1⟩
def ADC_INTST_CALREQ : Fld := ⟨0x400B1094, 0x1000, 0, 6, 1⟩
def ADC_INTST_CALDRIFT : Fld := ⟨0x400B1094, 0x1000, 0, 5, 1⟩
def ADC_INTST_URGDONE : Fld := ⟨0x400B1094, 0x1000, 0, 4, 1⟩
def ADC_INTST_TOVF : Fld := ⟨0x400B1094, 0x1000, 0, 3, 1⟩
def ADC_INTST_WRAP : Fld := ⟨0x400B1094, 0x1000, 0, 2, 1⟩
def ADC_INTST_DROP : Fld := ⟨0x400B1094, 0x1000, 0, 1, 1⟩
def ADC_INTST_WATER : Fld := ⟨0x400B1094, 0x1000, 0, 0, 1⟩
def ADC_SEQ0 : Fld := ⟨0x400B1800, 0x1000, 0x8, 0, 32⟩
def ADC_SEQ0_WAIT : Fld := ⟨0x400B1800, 0x1000, 0x8, 31, 1⟩
def ADC_SEQ0_LAST : Fld := ⟨0x400B1800, 0x1000, 0x8, 30, 1⟩
def ADC_SEQ0_GAIN : Fld := ⟨0x400B1800, 0x1000, 0x8, 24, 3⟩
def ADC_SEQ0_REP : Fld := ⟨0x400B1800, 0x1000, 0x8, 16, 8⟩
def ADC_SEQ0_SRC : Fld := ⟨0x400B1800, 0x1000, 0x8, 0, 7⟩
def ADC_SEQ1 : Fld := ⟨0x400B1804, 0x1000, 0x8, 0, 32⟩
def ADC_SEQ1_DELAY : Fld := ⟨0x400B1804, 0x1000, 0x8, 0, 24⟩
def ADC_RES : Fld := ⟨0x400B8000, 0x100, 0x4, 0, 32⟩

-- KNK
def KNK_CFG : Fld := ⟨0x400C0000, 0x1000, 0, 0, 32⟩
def KNK_CFG_PRIME : Fld := ⟨0x400C0000, 0x1000, 0, 31, 1⟩
def KNK_CFG_INTWARM : Fld := ⟨0x400C0000, 0x1000, 0, 30, 1⟩
def KNK_CFG_RECT : Fld := ⟨0x400C0000, 0x1000, 0, 29, 1⟩
def KNK_CFG_ISHIFT : Fld := ⟨0x400C0000, 0x1000, 0, 24, 5⟩
def KNK_CFG_L : Fld := ⟨0x400C0000, 0x1000, 0, 16, 7⟩
def KNK_CFG_TRK : Fld := ⟨0x400C0000, 0x1000, 0, 12, 3⟩
def KNK_CFG_KGAIN : Fld := ⟨0x400C0000, 0x1000, 0, 8, 3⟩
def KNK_CFG_EN : Fld := ⟨0x400C0000, 0x1000, 0, 0, 1⟩
def KNK_TSEL : Fld := ⟨0x400C0004, 0x1000, 0, 0, 32⟩
def KNK_TSEL_CEN : Fld := ⟨0x400C0004, 0x1000, 0, 31, 1⟩
def KNK_TSEL_CSRC : Fld := ⟨0x400C0004, 0x1000, 0, 16, 9⟩
def KNK_TSEL_OEN : Fld := ⟨0x400C0004, 0x1000, 0, 15, 1⟩
def KNK_TSEL_OMODE : Fld := ⟨0x400C0004, 0x1000, 0, 9, 1⟩
def KNK_TSEL_OSRC : Fld := ⟨0x400C0004, 0x1000, 0, 0, 9⟩
def KNK_WLEN : Fld := ⟨0x400C0008, 0x1000, 0, 0, 32⟩
def KNK_WLEN_GIN : Fld := ⟨0x400C0008, 0x1000, 0, 16, 6⟩
def KNK_WLEN_MAXLEN : Fld := ⟨0x400C0008, 0x1000, 0, 0, 16⟩
def KNK_STAT : Fld := ⟨0x400C000C, 0x1000, 0, 0, 32⟩
def KNK_STAT_WCNT : Fld := ⟨0x400C000C, 0x1000, 0, 24, 8⟩
def KNK_STAT_OPEN : Fld := ⟨0x400C000C, 0x1000, 0, 8, 1⟩
def KNK_STAT_RAWMODE : Fld := ⟨0x400C000C, 0x1000, 0, 0, 1⟩
def KNK_TSTAT : Fld := ⟨0x400C0010, 0x1000, 0, 0, 32⟩
def KNK_TSTAT_OVF : Fld := ⟨0x400C0010, 0x1000, 0, 8, 1⟩
def KNK_TSTAT_PEND : Fld := ⟨0x400C0010, 0x1000, 0, 0, 4⟩
def KNK_QSTAT : Fld := ⟨0x400C0014, 0x1000, 0, 0, 32⟩
def KNK_QSTAT_DROP : Fld := ⟨0x400C0014, 0x1000, 0, 16, 16⟩
def KNK_QSTAT_LEVEL : Fld := ⟨0x400C0014, 0x1000, 0, 0, 11⟩
def KNK_CNT : Fld := ⟨0x400C0018, 0x1000, 0, 0, 32⟩
def KNK_CNT_ABORTED : Fld := ⟨0x400C0018, 0x1000, 0, 24, 8⟩
def KNK_CNT_LENCLOSE : Fld := ⟨0x400C0018, 0x1000, 0, 16, 8⟩
def KNK_CNT_LATEOPEN : Fld := ⟨0x400C0018, 0x1000, 0, 8, 8⟩
def KNK_CNT_STRAYCL : Fld := ⟨0x400C0018, 0x1000, 0, 0, 8⟩
def KNK_INTEN : Fld := ⟨0x400C0020, 0x1000, 0, 0, 32⟩
def KNK_INTEN_OVR : Fld := ⟨0x400C0020, 0x1000, 0, 3, 1⟩
def KNK_INTEN_DROP : Fld := ⟨0x400C0020, 0x1000, 0, 2, 1⟩
def KNK_INTEN_ABORT : Fld := ⟨0x400C0020, 0x1000, 0, 1, 1⟩
def KNK_INTEN_RESULT : Fld := ⟨0x400C0020, 0x1000, 0, 0, 1⟩
def KNK_INTST : Fld := ⟨0x400C0024, 0x1000, 0, 0, 32⟩
def KNK_INTST_OVR : Fld := ⟨0x400C0024, 0x1000, 0, 3, 1⟩
def KNK_INTST_DROP : Fld := ⟨0x400C0024, 0x1000, 0, 2, 1⟩
def KNK_INTST_ABORT : Fld := ⟨0x400C0024, 0x1000, 0, 1, 1⟩
def KNK_INTST_RESULT : Fld := ⟨0x400C0024, 0x1000, 0, 0, 1⟩
def KNK_RES : Fld := ⟨0x400C0030, 0x1000, 0, 0, 32⟩
def KNK_COEF : Fld := ⟨0x400C0800, 0x1000, 0x4, 0, 32⟩
def KNK_COEF_C : Fld := ⟨0x400C0800, 0x1000, 0x4, 0, 18⟩

-- PSQ
def PSQ_CFG : Fld := ⟨0x400D0000, 0x400, 0, 0, 32⟩
def PSQ_CFG_CRCW : Fld := ⟨0x400D0000, 0x400, 0, 16, 5⟩
def PSQ_CFG_QSPLIT : Fld := ⟨0x400D0000, 0x400, 0, 11, 5⟩
def PSQ_CFG_TMODE : Fld := ⟨0x400D0000, 0x400, 0, 10, 1⟩
def PSQ_CFG_AUTOSTART : Fld := ⟨0x400D0000, 0x400, 0, 6, 1⟩
def PSQ_CFG_ENTRY : Fld := ⟨0x400D0000, 0x400, 0, 0, 6⟩
def PSQ_CLK : Fld := ⟨0x400D0004, 0x400, 0, 0, 24⟩
def PSQ_LINE : Fld := ⟨0x400D0008, 0x400, 0x4, 0, 32⟩
def PSQ_LINE_FILT : Fld := ⟨0x400D0008, 0x400, 0x4, 16, 8⟩
def PSQ_LINE_PIN : Fld := ⟨0x400D0008, 0x400, 0x4, 8, 7⟩
def PSQ_LINE_IDLE : Fld := ⟨0x400D0008, 0x400, 0x4, 4, 1⟩
def PSQ_LINE_DIR : Fld := ⟨0x400D0008, 0x400, 0x4, 2, 2⟩
def PSQ_LINE_KIND : Fld := ⟨0x400D0008, 0x400, 0x4, 0, 2⟩
def PSQ_CRCPOLY : Fld := ⟨0x400D0018, 0x400, 0, 0, 32⟩
def PSQ_TMO : Fld := ⟨0x400D001C, 0x400, 0x4, 0, 32⟩
def PSQ_TSEL : Fld := ⟨0x400D0024, 0x400, 0x4, 0, 32⟩
def PSQ_TSEL_EN1 : Fld := ⟨0x400D0024, 0x400, 0x4, 31, 1⟩
def PSQ_TSEL_SRC1 : Fld := ⟨0x400D0024, 0x400, 0x4, 16, 9⟩
def PSQ_TSEL_EN0 : Fld := ⟨0x400D0024, 0x400, 0x4, 15, 1⟩
def PSQ_TSEL_SRC0 : Fld := ⟨0x400D0024, 0x400, 0x4, 0, 9⟩
def PSQ_TSTAT : Fld := ⟨0x400D002C, 0x400, 0, 0, 32⟩
def PSQ_TSTAT_OVF : Fld := ⟨0x400D002C, 0x400, 0, 8, 1⟩
def PSQ_TSTAT_PEND : Fld := ⟨0x400D002C, 0x400, 0, 0, 4⟩
def PSQ_CTRL : Fld := ⟨0x400D0030, 0x400, 0, 0, 32⟩
def PSQ_CTRL_CLRQ : Fld := ⟨0x400D0030, 0x400, 0, 2, 1⟩
def PSQ_CTRL_HALT : Fld := ⟨0x400D0030, 0x400, 0, 1, 1⟩
def PSQ_CTRL_START : Fld := ⟨0x400D0030, 0x400, 0, 0, 1⟩
def PSQ_STAT : Fld := ⟨0x400D0034, 0x400, 0, 0, 32⟩
def PSQ_STAT_LVLIN : Fld := ⟨0x400D0034, 0x400, 0, 28, 4⟩
def PSQ_STAT_LVLOUT : Fld := ⟨0x400D0034, 0x400, 0, 24, 4⟩
def PSQ_STAT_FLAGS : Fld := ⟨0x400D0034, 0x400, 0, 16, 5⟩
def PSQ_STAT_PC : Fld := ⟨0x400D0034, 0x400, 0, 8, 6⟩
def PSQ_STAT_STATE : Fld := ⟨0x400D0034, 0x400, 0, 0, 2⟩
def PSQ_TXQ : Fld := ⟨0x400D0038, 0x400, 0, 0, 32⟩
def PSQ_RXQ : Fld := ⟨0x400D003C, 0x400, 0, 0, 32⟩
def PSQ_QSTAT : Fld := ⟨0x400D0040, 0x400, 0, 0, 32⟩
def PSQ_QSTAT_RXWM : Fld := ⟨0x400D0040, 0x400, 0, 24, 5⟩
def PSQ_QSTAT_TXWM : Fld := ⟨0x400D0040, 0x400, 0, 16, 5⟩
def PSQ_QSTAT_RXLVL : Fld := ⟨0x400D0040, 0x400, 0, 8, 5⟩
def PSQ_QSTAT_TXLVL : Fld := ⟨0x400D0040, 0x400, 0, 0, 5⟩
def PSQ_CNT0 : Fld := ⟨0x400D0044, 0x400, 0, 0, 32⟩
def PSQ_CNT0_DROP : Fld := ⟨0x400D0044, 0x400, 0, 24, 8⟩
def PSQ_CNT0_STALE : Fld := ⟨0x400D0044, 0x400, 0, 16, 8⟩
def PSQ_CNT0_TXOVF : Fld := ⟨0x400D0044, 0x400, 0, 8, 8⟩
def PSQ_CNT0_RXUNDER : Fld := ⟨0x400D0044, 0x400, 0, 0, 8⟩
def PSQ_CNT1 : Fld := ⟨0x400D0048, 0x400, 0, 0, 32⟩
def PSQ_CNT1_TIMEOUT : Fld := ⟨0x400D0048, 0x400, 0, 8, 8⟩
def PSQ_CNT1_OVERRUN : Fld := ⟨0x400D0048, 0x400, 0, 0, 8⟩
def PSQ_W : Fld := ⟨0x400D0050, 0x400, 0x4, 0, 32⟩
def PSQ_TXS : Fld := ⟨0x400D0060, 0x400, 0, 0, 32⟩
def PSQ_RXS : Fld := ⟨0x400D0064, 0x400, 0, 0, 32⟩
def PSQ_INTEN : Fld := ⟨0x400D0070, 0x400, 0, 0, 32⟩
def PSQ_INTEN_TOVF : Fld := ⟨0x400D0070, 0x400, 0, 13, 1⟩
def PSQ_INTEN_TIMEOUT : Fld := ⟨0x400D0070, 0x400, 0, 12, 1⟩
def PSQ_INTEN_STALE : Fld := ⟨0x400D0070, 0x400, 0, 11, 1⟩
def PSQ_INTEN_DROP : Fld := ⟨0x400D0070, 0x400, 0, 10, 1⟩
def PSQ_INTEN_RXUNDER : Fld := ⟨0x400D0070, 0x400, 0, 9, 1⟩
def PSQ_INTEN_TXOVF : Fld := ⟨0x400D0070, 0x400, 0, 8, 1⟩
def PSQ_INTEN_HALT : Fld := ⟨0x400D0070, 0x400, 0, 3, 1⟩
def PSQ_INTEN_TXWM : Fld := ⟨0x400D0070, 0x400, 0, 2, 1⟩
def PSQ_INTEN_RXWM : Fld := ⟨0x400D0070, 0x400, 0, 1, 1⟩
def PSQ_INTEN_SIG : Fld := ⟨0x400D0070, 0x400, 0, 0, 1⟩
def PSQ_INTST : Fld := ⟨0x400D0074, 0x400, 0, 0, 32⟩
def PSQ_INTST_TOVF : Fld := ⟨0x400D0074, 0x400, 0, 13, 1⟩
def PSQ_INTST_TIMEOUT : Fld := ⟨0x400D0074, 0x400, 0, 12, 1⟩
def PSQ_INTST_STALE : Fld := ⟨0x400D0074, 0x400, 0, 11, 1⟩
def PSQ_INTST_DROP : Fld := ⟨0x400D0074, 0x400, 0, 10, 1⟩
def PSQ_INTST_RXUNDER : Fld := ⟨0x400D0074, 0x400, 0, 9, 1⟩
def PSQ_INTST_TXOVF : Fld := ⟨0x400D0074, 0x400, 0, 8, 1⟩
def PSQ_INTST_HALT : Fld := ⟨0x400D0074, 0x400, 0, 3, 1⟩
def PSQ_INTST_TXWM : Fld := ⟨0x400D0074, 0x400, 0, 2, 1⟩
def PSQ_INTST_RXWM : Fld := ⟨0x400D0074, 0x400, 0, 1, 1⟩
def PSQ_INTST_SIG : Fld := ⟨0x400D0074, 0x400, 0, 0, 1⟩
def PSQ_IMEM : Fld := ⟨0x400D0100, 0x400, 0x4, 0, 24⟩

-- CAL
def CAL_STAT : Fld := ⟨0x400E0000, 0, 0, 0, 32⟩
def CAL_STAT_RESULT : Fld := ⟨0x400E0000, 0, 0, 17, 3⟩
def CAL_STAT_BUSY : Fld := ⟨0x400E0000, 0, 0, 16, 1⟩
def CAL_STAT_ORIGIN : Fld := ⟨0x400E0000, 0, 0, 8, 8⟩
def CAL_STAT_VALID : Fld := ⟨0x400E0000, 0, 0, 0, 8⟩
def CAL_CTL : Fld := ⟨0x400E0004, 0, 0, 0, 32⟩
def CAL_CTL_KEY : Fld := ⟨0x400E0004, 0, 0, 16, 16⟩
def CAL_CTL_GROUP : Fld := ⟨0x400E0004, 0, 0, 4, 3⟩
def CAL_CTL_GO : Fld := ⟨0x400E0004, 0, 0, 0, 1⟩
def CAL_WCRC : Fld := ⟨0x400E0008, 0, 0, 0, 32⟩
def CAL_WBUF : Fld := ⟨0x400E0404, 0x4, 0, 0, 32⟩
def CAL_DATA : Fld := ⟨0x400E1000, 0x4, 0, 0, 32⟩

-- ACN
def ACN_CFG : Fld := ⟨0x400F0000, 0, 0, 0, 32⟩
def ACN_CFG_PER : Fld := ⟨0x400F0000, 0, 0, 16, 16⟩
def ACN_CFG_VBLOW : Fld := ⟨0x400F0000, 0, 0, 8, 4⟩
def ACN_CFG_SPAWAKE : Fld := ⟨0x400F0000, 0, 0, 4, 1⟩
def ACN_CFG_RUNAWAKE : Fld := ⟨0x400F0000, 0, 0, 3, 1⟩
def ACN_CFG_PEN : Fld := ⟨0x400F0000, 0, 0, 2, 1⟩
def ACN_CFG_PWREN : Fld := ⟨0x400F0000, 0, 0, 1, 1⟩
def ACN_CFG_CLKSRC : Fld := ⟨0x400F0000, 0, 0, 0, 1⟩
def ACN_STAT : Fld := ⟨0x400F0004, 0, 0, 0, 32⟩
def ACN_STAT_SKIPPED : Fld := ⟨0x400F0004, 0, 0, 24, 8⟩
def ACN_STAT_LOGOVF : Fld := ⟨0x400F0004, 0, 0, 9, 1⟩
def ACN_STAT_LOOP : Fld := ⟨0x400F0004, 0, 0, 8, 1⟩
def ACN_STAT_RCACT : Fld := ⟨0x400F0004, 0, 0, 7, 1⟩
def ACN_STAT_SPWR : Fld := ⟨0x400F0004, 0, 0, 6, 1⟩
def ACN_STAT_ROLL : Fld := ⟨0x400F0004, 0, 0, 2, 2⟩
def ACN_STAT_C : Fld := ⟨0x400F0004, 0, 0, 1, 1⟩
def ACN_TRK : Fld := ⟨0x400F0008, 0, 0, 0, 32⟩
def ACN_TRK_EN : Fld := ⟨0x400F0008, 0, 0, 31, 1⟩
def ACN_TRK_TRK : Fld := ⟨0x400F0008, 0, 0, 24, 3⟩
def ACN_TRK_AFILT : Fld := ⟨0x400F0008, 0, 0, 16, 8⟩
def ACN_TRK_SENSDLY : Fld := ⟨0x400F0008, 0, 0, 0, 16⟩
def ACN_ROLL : Fld := ⟨0x400F000C, 0, 0, 0, 32⟩
def ACN_ROLL_ROLLMAX : Fld := ⟨0x400F000C, 0, 0, 16, 16⟩
def ACN_ROLL_QUIET : Fld := ⟨0x400F000C, 0, 0, 0, 16⟩
def ACN_WAKECFG : Fld := ⟨0x400F0010, 0, 0, 0, 32⟩
def ACN_WAKECFG_MAXAGE : Fld := ⟨0x400F0010, 0, 0, 16, 16⟩
def ACN_WAKECFG_WPOL : Fld := ⟨0x400F0010, 0, 0, 8, 4⟩
def ACN_WAKECFG_WEDGE : Fld := ⟨0x400F0010, 0, 0, 4, 4⟩
def ACN_WAKECFG_WEN : Fld := ⟨0x400F0010, 0, 0, 0, 4⟩
def ACN_WAKESTAT : Fld := ⟨0x400F0014, 0, 0, 0, 32⟩
def ACN_WAKESTAT_CODE : Fld := ⟨0x400F0014, 0, 0, 24, 8⟩
def ACN_WAKESTAT_PROG : Fld := ⟨0x400F0014, 0, 0, 8, 1⟩
def ACN_WAKESTAT_PIN : Fld := ⟨0x400F0014, 0, 0, 0, 4⟩
def ACN_RATIO : Fld := ⟨0x400F0018, 0, 0, 0, 32⟩
def ACN_SLPN : Fld := ⟨0x400F0020, 0, 0, 0, 48⟩
def ACN_CTL : Fld := ⟨0x400F0028, 0, 0, 0, 32⟩
def ACN_CTL_DROPREC : Fld := ⟨0x400F0028, 0, 0, 0, 1⟩
def ACN_REC0 : Fld := ⟨0x400F0030, 0, 0, 0, 32⟩
def ACN_REC1 : Fld := ⟨0x400F0034, 0, 0, 0, 32⟩
def ACN_REC1_CAMCNT : Fld := ⟨0x400F0034, 0, 0, 24, 8⟩
def ACN_REC1_REV : Fld := ⟨0x400F0034, 0, 0, 16, 8⟩
def ACN_REC1_FWD : Fld := ⟨0x400F0034, 0, 0, 0, 16⟩
def ACN_REC2 : Fld := ⟨0x400F0038, 0, 0, 0, 32⟩
def ACN_REC2_VALID : Fld := ⟨0x400F0038, 0, 0, 31, 1⟩
def ACN_REC2_ROLLING : Fld := ⟨0x400F0038, 0, 0, 30, 1⟩
def ACN_REC2_LEVEL : Fld := ⟨0x400F0038, 0, 0, 28, 2⟩
def ACN_REC2_DIR : Fld := ⟨0x400F0038, 0, 0, 27, 1⟩
def ACN_REC2_WHY : Fld := ⟨0x400F0038, 0, 0, 24, 3⟩
def ACN_REC2_REVIDX : Fld := ⟨0x400F0038, 0, 0, 22, 2⟩
def ACN_REC2_TIDX : Fld := ⟨0x400F0038, 0, 0, 13, 9⟩
def ACN_REC2_AGE : Fld := ⟨0x400F0038, 0, 0, 0, 13⟩
def ACN_Y : Fld := ⟨0x400F0040, 0x4, 0, 0, 18⟩
def ACN_CNT01 : Fld := ⟨0x400F0058, 0, 0, 0, 32⟩
def ACN_CNT23 : Fld := ⟨0x400F005C, 0, 0, 0, 32⟩
def ACN_LOG : Fld := ⟨0x400F0060, 0x4, 0, 0, 32⟩
def ACN_PROG : Fld := ⟨0x400F0100, 0x4, 0, 0, 32⟩

-- GW
def GW_CFG : Fld := ⟨0x40100000, 0, 0, 0, 32⟩
def GW_CFG_PORT : Fld := ⟨0x40100000, 0, 0, 16, 16⟩
def GW_CFG_TXMODE : Fld := ⟨0x40100000, 0, 0, 1, 1⟩
def GW_CFG_EN : Fld := ⟨0x40100000, 0, 0, 0, 1⟩
def GW_STAT : Fld := ⟨0x40100004, 0, 0, 0, 32⟩
def GW_STAT_AUTHFAIL : Fld := ⟨0x40100004, 0, 0, 24, 8⟩
def GW_STAT_REPLAY : Fld := ⟨0x40100004, 0, 0, 16, 8⟩
def GW_STAT_FORMAT : Fld := ⟨0x40100004, 0, 0, 8, 8⟩
def GW_STAT_NOCTX : Fld := ⟨0x40100004, 0, 0, 0, 8⟩
def GW_URGSTAT : Fld := ⟨0x40100008, 0, 0, 0, 32⟩
def GW_URGSTAT_CUTS : Fld := ⟨0x40100008, 0, 0, 16, 16⟩
def GW_URGSTAT_MAXLAT : Fld := ⟨0x40100008, 0, 0, 0, 16⟩
def GW_INTEN : Fld := ⟨0x40100020, 0, 0, 0, 32⟩
def GW_INTEN_URGENT : Fld := ⟨0x40100020, 0, 0, 3, 1⟩
def GW_INTEN_REFUSE : Fld := ⟨0x40100020, 0, 0, 2, 1⟩
def GW_INTEN_REPLAY : Fld := ⟨0x40100020, 0, 0, 1, 1⟩
def GW_INTEN_AUTH : Fld := ⟨0x40100020, 0, 0, 0, 1⟩
def GW_INTST : Fld := ⟨0x40100024, 0, 0, 0, 32⟩
def GW_INTST_URGENT : Fld := ⟨0x40100024, 0, 0, 3, 1⟩
def GW_INTST_REFUSE : Fld := ⟨0x40100024, 0, 0, 2, 1⟩
def GW_INTST_REPLAY : Fld := ⟨0x40100024, 0, 0, 1, 1⟩
def GW_INTST_AUTH : Fld := ⟨0x40100024, 0, 0, 0, 1⟩
def GW_KEY : Fld := ⟨0x40102000, 0x28, 0x4, 0, 32⟩
def GW_KEY_WK : Fld := ⟨0x40102000, 0x28, 0x4, 0, 32⟩

-- CTX
def CTX_CAP : Fld := ⟨0x40108000, 0x40, 0, 0, 32⟩
def CTX_CAP_EN : Fld := ⟨0x40108000, 0x40, 0, 31, 1⟩
def CTX_CAP_KEYV : Fld := ⟨0x40108000, 0x40, 0, 30, 1⟩
def CTX_CAP_PATH : Fld := ⟨0x40108000, 0x40, 0, 28, 2⟩
def CTX_CAP_MSIX : Fld := ⟨0x40108000, 0x40, 0, 27, 1⟩
def CTX_CAP_VEC : Fld := ⟨0x40108000, 0x40, 0, 21, 6⟩
def CTX_CAP_CAP : Fld := ⟨0x40108000, 0x40, 0, 0, 16⟩
def CTX_MQUOTA : Fld := ⟨0x40108004, 0x40, 0, 0, 32⟩
def CTX_MQUOTA_BURST : Fld := ⟨0x40108004, 0x40, 0, 16, 16⟩
def CTX_MQUOTA_RATE : Fld := ⟨0x40108004, 0x40, 0, 0, 16⟩
def CTX_EQUOTA : Fld := ⟨0x40108008, 0x40, 0, 0, 32⟩
def CTX_EQUOTA_BURST : Fld := ⟨0x40108008, 0x40, 0, 16, 16⟩
def CTX_EQUOTA_RATE : Fld := ⟨0x40108008, 0x40, 0, 0, 16⟩
def CTX_GRP : Fld := ⟨0x4010800C, 0x40, 0, 0, 32⟩
def CTX_GRP_JS : Fld := ⟨0x4010800C, 0x40, 0, 16, 16⟩
def CTX_GRP_PSQ : Fld := ⟨0x4010800C, 0x40, 0, 0, 16⟩
def CTX_CHG : Fld := ⟨0x40108010, 0x40, 0x4, 0, 32⟩
def CTX_ADCG : Fld := ⟨0x40108020, 0x40, 0x4, 0, 32⟩
def CTX_SEQ : Fld := ⟨0x40108028, 0x40, 0, 0, 32⟩
def CTX_STAT : Fld := ⟨0x4010802C, 0x40, 0, 0, 32⟩
def CTX_STAT_AUTHFAIL : Fld := ⟨0x4010802C, 0x40, 0, 24, 8⟩
def CTX_STAT_REPLAY : Fld := ⟨0x4010802C, 0x40, 0, 16, 8⟩
def CTX_STAT_REFUSED : Fld := ⟨0x4010802C, 0x40, 0, 8, 8⟩
def CTX_STAT_DUPPATH : Fld := ⟨0x4010802C, 0x40, 0, 0, 8⟩
def CTX_QSTAT : Fld := ⟨0x40108030, 0x40, 0, 0, 32⟩
def CTX_QSTAT_CMDLVL : Fld := ⟨0x40108030, 0x40, 0, 16, 7⟩
def CTX_QSTAT_RINGIDX : Fld := ⟨0x40108030, 0x40, 0, 0, 6⟩
def CTX_TXSEQ : Fld := ⟨0x40108034, 0x40, 0, 0, 32⟩

-- JRN
def JRN_CFG : Fld := ⟨0x40110000, 0, 0, 0, 32⟩
def JRN_CFG_GLINE : Fld := ⟨0x40110000, 0, 0, 1, 4⟩
def JRN_CFG_EN : Fld := ⟨0x40110000, 0, 0, 0, 1⟩
def JRN_CNT : Fld := ⟨0x40110008, 0, 0, 0, 32⟩
def JRN_CNT_NOSTREAM : Fld := ⟨0x40110008, 0, 0, 16, 16⟩
def JRN_CNT_LATECOMP : Fld := ⟨0x40110008, 0, 0, 0, 16⟩
def JRN_RTE : Fld := ⟨0x40110010, 0x4, 0, 0, 32⟩
def JRN_TRCIN : Fld := ⟨0x40110020, 0x4, 0, 0, 32⟩
def JRN_PCIBASE : Fld := ⟨0x40110028, 0, 0, 0, 64⟩
def JRN_INTEN : Fld := ⟨0x40110030, 0, 0, 0, 32⟩
def JRN_INTEN_HREQ : Fld := ⟨0x40110030, 0, 0, 0, 1⟩
def JRN_INTST : Fld := ⟨0x40110034, 0, 0, 0, 32⟩
def JRN_INTST_HREQ : Fld := ⟨0x40110034, 0, 0, 0, 1⟩
def JRN_HREQ : Fld := ⟨0x40110040, 0, 0, 0, 32⟩
def JRN_HREQ_NS : Fld := ⟨0x40110040, 0, 0, 16, 9⟩
def JRN_HREQ_SRC : Fld := ⟨0x40110040, 0, 0, 8, 6⟩
def JRN_HREQ_ENTRY : Fld := ⟨0x40110040, 0, 0, 0, 8⟩
def JRN_HDEC : Fld := ⟨0x40110044, 0, 0, 0, 32⟩
def JRN_HDEC_REQ : Fld := ⟨0x40110044, 0, 0, 31, 1⟩
def JRN_HDEC_RESULT : Fld := ⟨0x40110044, 0, 0, 28, 3⟩
def JRN_HDEC_COMMIT : Fld := ⟨0x40110044, 0, 0, 27, 1⟩
def JRN_HDEC_HANDLE : Fld := ⟨0x40110044, 0, 0, 16, 8⟩
def JRN_HDEC_BLEN : Fld := ⟨0x40110044, 0, 0, 0, 13⟩
def JRN_YDSTCFG : Fld := ⟨0x40110060, 0x18, 0, 0, 32⟩
def JRN_YDSTCFG_PORT : Fld := ⟨0x40110060, 0x18, 0, 16, 16⟩
def JRN_YDSTCFG_ETH : Fld := ⟨0x40110060, 0x18, 0, 8, 1⟩
def JRN_YDSTCFG_V6 : Fld := ⟨0x40110060, 0x18, 0, 0, 1⟩
def JRN_YDSTA : Fld := ⟨0x40110064, 0x18, 0x4, 0, 32⟩
def JRN_HBUF : Fld := ⟨0x40111000, 0x4, 0, 0, 32⟩

-- JS
def JS_CFG : Fld := ⟨0x40112000, 0x80, 0, 0, 32⟩
def JS_CFG_S : Fld := ⟨0x40112000, 0x80, 0, 24, 6⟩
def JS_CFG_WIN : Fld := ⟨0x40112000, 0x80, 0, 16, 5⟩
def JS_CFG_CTX : Fld := ⟨0x40112000, 0x80, 0, 6, 9⟩
def JS_CFG_YDST : Fld := ⟨0x40112000, 0x80, 0, 4, 2⟩
def JS_CFG_AUTOEN : Fld := ⟨0x40112000, 0x80, 0, 2, 1⟩
def JS_CFG_TRANSPORT : Fld := ⟨0x40112000, 0x80, 0, 1, 1⟩
def JS_CFG_POLICY : Fld := ⟨0x40112000, 0x80, 0, 0, 1⟩
def JS_TMO : Fld := ⟨0x40112004, 0x80, 0, 0, 32⟩
def JS_TMO_STMO : Fld := ⟨0x40112004, 0x80, 0, 16, 16⟩
def JS_TMO_RTO : Fld := ⟨0x40112004, 0x80, 0, 8, 8⟩
def JS_TMO_RETRY : Fld := ⟨0x40112004, 0x80, 0, 4, 4⟩
def JS_BASE : Fld := ⟨0x40112008, 0x80, 0, 0, 64⟩
def JS_WM : Fld := ⟨0x40112010, 0x80, 0, 0, 64⟩
def JS_CTRL : Fld := ⟨0x40112018, 0x80, 0, 0, 32⟩
def JS_CTRL_EN : Fld := ⟨0x40112018, 0x80, 0, 0, 1⟩
def JS_STAT : Fld := ⟨0x4011201C, 0x80, 0, 0, 32⟩
def JS_STAT_GAPOPEN : Fld := ⟨0x4011201C, 0x80, 0, 16, 1⟩
def JS_STAT_LEVEL : Fld := ⟨0x4011201C, 0x80, 0, 0, 7⟩
def JS_HEADC : Fld := ⟨0x40112020, 0x80, 0, 0, 64⟩
def JS_RELC : Fld := ⟨0x40112028, 0x80, 0, 0, 64⟩
def JS_TAILC : Fld := ⟨0x40112030, 0x80, 0, 0, 64⟩
def JS_SEQ : Fld := ⟨0x40112038, 0x80, 0, 0, 44⟩
def JS_CNT0 : Fld := ⟨0x40112040, 0x80, 0, 0, 32⟩
def JS_CNT0_LOST : Fld := ⟨0x40112040, 0x80, 0, 0, 32⟩
def JS_CNT1 : Fld := ⟨0x40112044, 0x80, 0, 0, 32⟩
def JS_CNT1_STATE : Fld := ⟨0x40112044, 0x80, 0, 30, 2⟩
def JS_CNT1_RETX : Fld := ⟨0x40112044, 0x80, 0, 16, 14⟩
def JS_CNT1_RELERR : Fld := ⟨0x40112044, 0x80, 0, 8, 8⟩
def JS_CNT1_OVERRUN : Fld := ⟨0x40112044, 0x80, 0, 0, 8⟩
def JS_INTEN : Fld := ⟨0x40112048, 0x80, 0, 0, 32⟩
def JS_INTEN_DOWN : Fld := ⟨0x40112048, 0x80, 0, 3, 1⟩
def JS_INTEN_OVERRUN : Fld := ⟨0x40112048, 0x80, 0, 2, 1⟩
def JS_INTEN_LOSS : Fld := ⟨0x40112048, 0x80, 0, 1, 1⟩
def JS_INTEN_WATER : Fld := ⟨0x40112048, 0x80, 0, 0, 1⟩
def JS_INTST : Fld := ⟨0x4011204C, 0x80, 0, 0, 32⟩
def JS_INTST_DOWN : Fld := ⟨0x4011204C, 0x80, 0, 3, 1⟩
def JS_INTST_OVERRUN : Fld := ⟨0x4011204C, 0x80, 0, 2, 1⟩
def JS_INTST_LOSS : Fld := ⟨0x4011204C, 0x80, 0, 1, 1⟩
def JS_INTST_WATER : Fld := ⟨0x4011204C, 0x80, 0, 0, 1⟩

-- ETH
def ETH_CFG : Fld := ⟨0x40120000, 0x8000, 0, 0, 32⟩
def ETH_CFG_EXPRESS : Fld := ⟨0x40120000, 0x8000, 0, 24, 8⟩
def ETH_CFG_HQOWN : Fld := ⟨0x40120000, 0x8000, 0, 19, 2⟩
def ETH_CFG_LINK : Fld := ⟨0x40120000, 0x8000, 0, 16, 3⟩
def ETH_CFG_MACSEC : Fld := ⟨0x40120000, 0x8000, 0, 1, 1⟩
def ETH_CFG_EN : Fld := ⟨0x40120000, 0x8000, 0, 0, 1⟩
def ETH_IP4 : Fld := ⟨0x40120004, 0x8000, 0, 0, 32⟩
def ETH_IP6 : Fld := ⟨0x40120010, 0x8000, 0x4, 0, 32⟩
def ETH_HQ : Fld := ⟨0x40120020, 0x8000, 0, 0, 32⟩
def ETH_CNT : Fld := ⟨0x40120024, 0x8000, 0, 0, 32⟩
def ETH_CNT_OVERSIZE : Fld := ⟨0x40120024, 0x8000, 0, 16, 16⟩
def ETH_CNT_HQDROP : Fld := ⟨0x40120024, 0x8000, 0, 0, 16⟩
def ETH_GCL : Fld := ⟨0x40121000, 0x8000, 0x4, 0, 32⟩
def ETH_TBL : Fld := ⟨0x40122000, 0x8000, 0x4, 0, 32⟩
def ETH_SAK : Fld := ⟨0x40124000, 0x8000, 0x4, 0, 32⟩

-- PCI
def PCI_STAT : Fld := ⟨0x40130000, 0, 0, 0, 32⟩
def PCI_STAT_SPEED : Fld := ⟨0x40130000, 0, 0, 4, 3⟩
def PCI_STAT_WIDTH : Fld := ⟨0x40130000, 0, 0, 0, 2⟩

-- CAN
def CAN_CFG : Fld := ⟨0x40140000, 0x2000, 0, 0, 32⟩
def CAN_CFG_XLEN : Fld := ⟨0x40140000, 0x2000, 0, 3, 1⟩
def CAN_CFG_EN : Fld := ⟨0x40140000, 0x2000, 0, 2, 1⟩
def CAN_CFG_OWN : Fld := ⟨0x40140000, 0x2000, 0, 0, 2⟩
def CAN_DATA : Fld := ⟨0x40140100, 0x2000, 0x4, 0, 32⟩

-- XSP
def XSP_CFG : Fld := ⟨0x40150000, 0, 0, 0, 32⟩
def XSP_CMD : Fld := ⟨0x40150010, 0, 0, 0, 32⟩
def XSP_CMD_STATUS : Fld := ⟨0x40150010, 0, 0, 28, 4⟩
def XSP_CMD_GO : Fld := ⟨0x40150010, 0, 0, 8, 1⟩
def XSP_CMD_OP : Fld := ⟨0x40150010, 0, 0, 0, 8⟩

end Sys2Proof.Machine
end

