-- ==== Sys2Proof/Machine/State.lean ====
section
/-! DEFINITION. The state of the block, as plain data: the register file (every register of the register maps
of spec/01-15, by address), the memories, and the state that the rules give the units without an address. -/

namespace Sys2Proof.Machine

/-- Why a command stops the machine. No meaning of this model faults: every outcome that the spec gives a
command, a refused access and a bus error among them, is a next state. Safe. -/
inductive Fault where
  /-- Raised by no meaning. Safe. -/
  | none
  deriving DecidableEq, Repr

/-- Why a command has no meaning. -/
inductive Refusal where
  /-- A row of the opcode table whose meaning is not written yet (safe). -/
  | notModelled (mnemonic : String)
  deriving DecidableEq, Repr

/-- A raise of a fault source (R356), with DATA[15:0] of the source table (R358). -/
structure Raise where
  src : Nat
  data : Nat
  deriving DecidableEq, Repr

/-- A journal record before it is laid out (R335): header fields and body. -/
structure Rec where
  ty : Nat
  src : Nat
  trk : Nat
  tb : Nat
  aw : Nat
  nosync : Bool
  origin : Nat
  nobody : Bool
  hostbody : Bool
  cont : Bool
  body : List Nat
  deriving DecidableEq, Repr

/-- An execution report of a channel (R160): the committing context and the four report words. -/
structure Report where
  ch : Nat
  ctx : Nat
  w0 : Word
  w1 : Word
  w2 : Word
  w3 : Word
  deriving DecidableEq, Repr

/-- What a command has brought about and the collector, the journal or the gateway has still to take, within
the same command. Empty between commands. -/
inductive Emit where
  | fault (r : Raise)
  | record (r : Rec)
  | ask (fn inst : Nat)
  | report (r : Report)
  /-- A pulse of a task source (R166) with its CU attribute. -/
  | pulse (src : Nat) (cu : Bool)
  /-- A stored result of an input, for the gateway's reader (R325): its five words (R223). -/
  | result (input : Nat) (words : List Nat)
  /-- A pad's fault latch has been set: its Husk judges it once the raise has been handled (R177, R357). -/
  | latch (ch : Nat)
  /-- The ISTAT word that an insertion posts for an item of the gateway (R142, R321). -/
  | posted (ctx : Nat) (istat : Nat)
  deriving DecidableEq, Repr

/-- What the part has sent out through a link or a pin of its own (the model's own observation). -/
inductive Sent where
  /-- A posted write to host memory over PCIe (R329, R348). -/
  | pcie (addr : Nat) (data : List Nat)
  /-- An MSI-X vector (R330). -/
  | msix (vec : Nat)
  /-- A UDP datagram on a port, to an address and port (R316, R349). -/
  | udp (eth : Nat) (ip : Nat) (port : Nat) (data : List Nat)
  deriving DecidableEq, Repr

/-- The last bus access, as its initiator sees it (R26): whether it ended in a bus error, and the data read. -/
structure Bus where
  err : Bool
  data : DWord
  deriving DecidableEq, Repr

/-- The angle accumulator of a tracker, in 2^-24 AU over the 1024 cycles of an angle word (R105, R107): it
stood at `acc` in TCLK `t0` and advances `rate` per TCLK while `run`, no further than `lim`; AW never falls
below `floor` while fused (R123). `jumpAt` is the TCLK of the last step that was no rotation, `jumpFrom` the
accumulator before it, `rebase` whether that step crossed no angle (R88), and `cuEnd` the catch-up limit when that
step was a catch-up step (R111), `smooth` whether it was the first step of a slew, which rotation covers (R113). -/
structure Angle where
  acc : Nat
  t0 : Nat
  rate : Nat
  run : Bool
  lim : Nat
  cap : Option Nat
  floor : Nat
  jumpAt : Option Nat
  jumpFrom : Nat
  rebase : Bool
  cuEnd : Option Nat
  smooth : Bool
  deriving DecidableEq, Repr

/-- The angle state of a tracker that has not moved yet. -/
def Angle.zero : Angle :=
  ⟨0, 0, 0, false, 0, none, 0, none, 0, false, none, false⟩

/-- An input of a tracker that waits, for the inputs that R81 takes before it or for the following TCLK: a tooth edge with its VR peak, a trailing edge, a cam
edge with the angle word of its stamp, a stop time-out, a direction-source failure, and the words written to CMD and SYNCASSERT.
(DESIGN CHOICE: log 24.) -/
inductive TrkIn where
  | tooth (stamp peak : Nat)
  | trail (stamp : Nat)
  | cam (k : Nat) (rising : Bool) (stamp aw : Nat)
  | stop
  | dirsrc
  | cmd (v : Word)
  | assert (v : Word)
  deriving DecidableEq, Repr

/-- The hidden state of a tracker (chapters 3 and 4).
Teeth: whether a last stamp exists, Tp, consecutive tolerance failures, consecutive forward edges in REVERSE, forward edges
since RESTORED, the revolution `rev` that entry TIDX belongs to (counted over the cycles from angle word 0), the last measured VR
peaks (at most two, newest first), ENCm's POS at the last accepted edge,
the stamp of a pulse whose trailing edge is awaited (PWIDTH) and of the edge whose evaluation REVERSE has deferred.
`restPhase` says whether the stop record that RESTORED was entered from carries cycle phase (R80).
Cam: candidate offsets (a mask), matched edges, consecutive mismatches, the angle word of the last match.
Host sync: edges numbered so far, edges in the history, the tooth-record queue (oldest first).
Predictor: effective start `b` and end `bEnd` of the current entry, the TCLK of a hold that began, the learner's periods of the
revolution in hand (newest first, since its last break), whether it still qualifies, Trev of the one before, the shadow table, a
table that awaits the reference tooth; encoder angle in 2^-16 AU with its recent points (TCLK, angle, rate), the fusion offset, whether
FUSED has had its first edge, `bad` and `good` runs of d.
`chgAt` is the TCLK of the last state change (R18), `movedAt` that of the last transition, the restart in GAP_FOUND included, and `wait` the inputs that
wait (R81). (DESIGN CHOICE: log 13, 24.) -/
structure Trk where
  restPhase : Bool := false
  haveLast : Bool := false
  tp : Option Nat := none
  lastT : Option Nat := none
  errs : Nat := 0
  fwd : Nat := 0
  restEdges : Nat := 0
  rev : Nat := 0
  peaks : List Nat := []
  encPos : Word := 0
  pulse : Option Nat := none
  deferred : Option Nat := none
  cand : Nat := 0
  nres : Nat := 0
  miss : Nat := 0
  matchAw : Nat := 0
  edgeSeq : Nat := 0
  histN : Nat := 0
  trec : List (Nat × Bool × Bool × Nat) := []
  b : Nat := 0
  bEnd : Nat := 0
  holdAt : Option Nat := none
  revT : List Nat := []
  revOk : Bool := false
  prevRev : Option Nat := none
  shadow : Table Word := []
  corNext : Option (List Int) := none
  aEnc : Int := 0
  encPts : List (Nat × Int × Int) := []
  fofs : Int := 0
  fusedOn : Bool := false
  bad : Nat := 0
  good : Nat := 0
  chgAt : Option Nat := none
  movedAt : Option Nat := none
  wait : List TrkIn := []
  deriving DecidableEq, Repr

/-- A tracker that has seen nothing. -/
def Trk.zero : Trk := {}

/-- One lockstep pair CPn (R279, R289): integer and floating-point registers, pc, privilege, the machine CSRs, the
stacking CSRs, the PMP and the reservation of the A extension. (DESIGN CHOICE: log 43.) -/
structure Core where
  x : List Word
  f : List Word
  fcsr : Word
  pc : Word
  user : Bool
  mstatus : Word
  mie : Word
  mtvec : Word
  mscratch : Word
  mepc : Word
  mcause : Word
  mtval : Word
  hstk : Bool
  wstklo : Word
  wstkhi : Word
  wmsp : Word
  wvtab : Word
  wemvec : Word
  depth : Nat
  emerg : Bool
  pmpcfg : List Byte
  pmpaddr : List Word
  resv : Option Word
  deriving DecidableEq, Repr

/-- A core at reset; `hstk` takes CPC_CPnCFG.HSTK when the pair leaves reset (R289). -/
def Core.zero : Core :=
  ⟨List.replicate 32 0, List.replicate 32 0, 0, 0, false, 0, 0, 0, 0, 0, 0, 0, false, 0, 0, 0, 0, 0, 0, false,
    List.replicate 16 0, List.replicate 16 0, none⟩

/-- A record in a stream's FIFO (R346): the record and the time of its acceptance. -/
structure QRec where
  r : Rec
  at_ : Nat
  deriving DecidableEq, Repr

/-- An open gap accumulator of a stream (R347). -/
structure Gap where
  lost : Nat
  abSeq : Nat
  abCnt : Nat
  first : Nat
  last : Nat
  byType : Table Nat
  deriving DecidableEq, Repr

/-- A Yunae frame (R349). -/
structure YFrame where
  kind : Nat
  fseq : Nat
  rseq : Nat
  addr : Nat
  data : List Nat
  deriving DecidableEq, Repr

/-- A record in flight on Yunae (R350): its SEQ, its type, the time of its acceptance, whether its COMMIT frame has
been sent, the FSEQ of its last frame sent and what is still to send. -/
structure Flight where
  seq : Nat
  at_ : Nat
  commitSent : Option Nat
  data : List YFrame
  commit : YFrame
  deriving DecidableEq, Repr

/-- The hidden state of a journal stream (R341-R350): FIFO, gap accumulator, records in flight, unacknowledged
frames oldest first with the time of their last send, next FSEQ, resends of the oldest frame, the starts of the
records still in the ring oldest first, the PROBE outstanding while DOWN with the time of its send (or of the entry to DOWN), and the FSEQs of
COMMIT frames whose record has been abandoned. (DESIGN CHOICE: log 13.) -/
structure Strm where
  fifo : List QRec
  gap : Option Gap
  flight : List Flight
  unacked : List (YFrame × Nat)
  fseq : Nat
  resends : Nat
  starts : List Nat
  probe : Option Nat
  probeAt : Nat
  late : List Nat
  deriving DecidableEq, Repr

/-- A stream with nothing in it. -/
def Strm.zero : Strm :=
  ⟨[], none, [], [], 0, 0, [], none, 0, []⟩

/-- The decision request of host-assisted FN_JREC that is outstanding (R352): the stream and its handle. -/
structure JrnReq where
  stream : Nat
  handle : Nat
  deriving DecidableEq, Repr

/-- The classifier's hidden state for a channel (R362): the end of the cool-down, whether the fault was THERMAL, the
TCLK in which the bucket last changed, the TCLK of the last retry, and the TCLK since which the continuing-fault
signal has been present. -/
structure Cls where
  coolEnd : Nat
  changedAt : Nat
  retryAt : Nat
  contSince : Option Nat
  hot : Bool
  deriving DecidableEq, Repr

/-- A channel's classifier with nothing running. -/
def Cls.zero : Cls := ⟨0, 0, 0, none, false⟩

/-- An entry of the fault log (R373). -/
structure LogEntry where
  kind : Nat
  react : Nat
  sev : Nat
  src : Nat
  tb : Nat
  data : Nat
  count : Nat
  deriving DecidableEq, Repr

/-- The fault collector's hidden state: raises of each source since reset, the log (oldest first), the sources whose
reaction set each latch (0-15 groups, 16 global), the keep-alive (time of the last accepted kick or LOADED, whether
the next right key is accepted at any time, whether ALIVE waits for an in-window kick), the time of the next ALIVE
toggle, whether the asynchronous path of R359 holds the pads, the corrected single-bit errors of the system SRAM (R280),
DATA[15:0] of the last raise of each source, and the TCLK of that raise. (DEDUCED: log 60; DESIGN CHOICE: log 13.) -/
structure Fco where
  counts : Table Nat
  log : List LogEntry
  latchSrc : Table (List Nat)
  kickAt : Nat
  anyTime : Bool
  waitKick : Bool
  toggleAt : Nat
  async : Bool
  eccCor : Nat
  data : Table Nat := []
  raisedAt : Table (Option Nat) := []
  deriving DecidableEq, Repr

/-- A collector that has seen nothing. -/
def Fco.zero : Fco := ⟨[], [], [], 0, false, false, 0, false, 0, [], []⟩

/-- The Husk's hidden state (R181-R187), times in 1/32 TCLK: pad time of the admitted rise, of the last off, on-time
of the revolution up to `revFrom`, and on-time of the event in hand; `act` whether a Husk action touched it. (DESIGN CHOICE: log 13.) -/
structure Husk where
  riseAt : Nat
  offAt : Option Nat
  revAcc : Nat
  revFrom : Nat
  dur : Nat
  acted : Bool
  deriving DecidableEq, Repr

/-- A Husk that has driven nothing. -/
def Husk.zero : Husk := ⟨0, none, 0, 0, 0, false⟩

/-- A matured mismatch that is held CWIN TCLK before it acts (R198). -/
structure Held where
  high : Bool
  at_ : Nat
  contention : Bool
  actAt : Nat
  deriving DecidableEq, Repr

/-- A pad's hidden state: the held mismatch (R198), the pad state that a running test interrupted, whether that test was
started after the retirement and no pad fault has been raised since, whether a PASS of such a test stands (R364), the
continuing-fault signal (R197), the TCLK of the fault in force, the last edge at the pad driver input: whether it turned the output on, and its time
in 1/32 TCLK, trim included (R190); the TCLK since which the level expected at the pin stands (R196), the last mismatch that has matured, its direction and
TCLK (R198), the start of the pad test, and the test pulse of a field driver: whether it is on and whether it ran to its end (R201).
(DESIGN CHOICE: log 13.) -/
structure Pad where
  held : Option Held := none
  testFrom : Nat := 0
  testOk : Bool := false
  passOk : Bool := false
  cont : Bool := false
  faultAt : Option Nat := none
  edge : Option (Bool × Int) := none
  since : Nat := 0
  matured : Option (Bool × Nat) := none
  testAt : Nat := 0
  normalAt : Nat := 0
  pulse : Bool := false
  pulseOk : Bool := false
  deriving DecidableEq, Repr

/-- A pad with nothing held. -/
def Pad.zero : Pad := {}

/-- A queued event (R135, R141): its words, the committing initiator's context, whether its start had passed at
insertion, whether an active event has delayed it (R150, R151), the TCLK of its insertion, whether its start waits behind an end that fell due with it or
before (R148), and once its start has fallen due the report flags of its crossing. -/
structure Ev where
  w0 : Word
  w1 : Word
  w2 : Word
  w3 : Word
  ctx : Nat
  late : Bool
  delayed : Bool
  at_ : Nat
  behind : Bool := false
  fl : Nat := 0
  deriving DecidableEq, Repr

/-- Why the end of an event executes (R149, R159): at its anchor, held back by MIN, cut by MAX, or by time after a loss. -/
inductive EndWhy where
  | anchor | min | max | loss
  deriving DecidableEq, Repr

/-- An edge whose compare has been issued (R147): the start of an event, a start that ends with an outcome instead, or the end of the active event. -/
inductive Edge where
  | start (e : Ev)
  | drop (e : Ev) (outcome : Nat)
  | fin (why : EndWhy)
  deriving DecidableEq, Repr

/-- An issued edge with its pad time in 1/32 TCLK and the report flags that it brings. -/
structure Issue where
  edge : Edge
  pad : Nat
  flags : Nat
  deriving DecidableEq, Repr

/-- The active event of a channel (R149): the event, its start edge (TCLK and tap), the tta of its end at the start
(R159), the report flags, the angle word at its start, and the TCLK from which an END_BY_TIME loss end falls due. -/
structure Act where
  ev : Ev
  ts : Nat
  tap : Nat
  pd : Nat
  flags : Nat
  startAw : Nat
  lossEnd : Option Nat
  deriving DecidableEq, Repr

/-- A committed item that waits for its insertion (R141): the event, or none of words 0-2 complete, the initiator,
the TCLK of the commit, and whether it belongs to a SUBMIT (R321). -/
structure Item where
  ev : Ev
  complete : Bool
  by_ : Nat
  at_ : Nat
  submit : Bool
  deriving DecidableEq, Repr

/-- A PWM run (R162): period and duty in force, as they passed from the shadows, the TCLK of the period's reload edge, and
whether the off edge of the period has executed. -/
structure Pwm where
  per : Nat
  duty : Nat
  start : Nat
  offDone : Bool
  deriving DecidableEq, Repr

/-- A channel's hidden state: staging buffers (R140) and last statuses (R142) per initiator, items that await
insertion, pending events in queue order, the active event, the PWM run, the TCLK of the last edge, the TCLK of the
last writes of the two shadows (R165) and the period and duty that passed last, whether a discard runs (R154), TB of the first result that marks opening
(R170), the edges whose compare has been issued (R147), the flags of an end anchor that has been crossed while MIN holds the end back, the start in ARMED with
the correction taken for it (R169), and the Husk's judgment of the next rise in the pipeline: its TCLK, the forced-off cause, and whether one has come since
(R176). (DESIGN CHOICE: log 13.) -/
structure Chan where
  stage : Table (Option Word) := []
  ist : Table Word := []
  inbox : List Item := []
  queue : List Ev := []
  active : Option Act := none
  pwm : Option Pwm := none
  edgeAt : Option Nat := none
  perAt : Option Nat := none
  dutyAt : Option Nat := none
  force : Option (Nat × Nat) := none
  flushing : Bool := false
  hit : Option Nat := none
  issued : List Issue := []
  endFl : Option Nat := none
  armed : Option (Ev × Int) := none
  judged : Option (Nat × Nat × Bool) := none
  deriving DecidableEq, Repr

/-- A channel with nothing queued. -/
def Chan.zero : Chan := {}

/-- A pending entry of a task input (R167): source, CU, and the TCLK of its pulse. -/
structure TaskEnt where
  src : Nat
  cu : Bool
  at_ : Nat
  deriving DecidableEq, Repr

/-- A running conversion (R209): what asked for it (0 sequencer, 1 urgent, 2 shadow), source, gain code, start TCLK, angle word
of the sample instant, TSRC, entry, flags so far, and whether it is the last of its entry. -/
structure Conv where
  kind : Nat
  src : Nat
  gain : Nat
  start : Nat
  aw : Nat
  tsrc : Nat
  entry : Nat
  flags : Nat
  final : Bool
  deriving DecidableEq, Repr

/-- The hidden state of a converter (chapter 7): the due TCLK of the next sequencer conversion, the TCLK from which a WAIT entry is
ready, conversions left of the entry, the take in force (source, CU, OVERLAP), the running conversion, the urgent request that
waits (input, gain, TCLK), ends of the last urgent and shadow conversions, shadow slots to run, the TCLK of the next shadow
cycle, whether drift was raised in the cycle, the bus reader's queue (oldest first), whether results were dropped, whether CALSTALE is
in force, the trace in hand (samples newest first as bytes,
TB, AW and NOSYNC of the first, input, entry and TSRC, TB of the last), the due TCLK whose named gain has been taken (R206), and the result that enters the queue
in the next TCLK: its conversion, CODE and flags, and whether it ends the trace (R220). (DESIGN CHOICE: log 13.) -/
structure Adc where
  due : Option Nat := none
  ready : Option Nat := none
  left : Nat := 0
  tsrc : Nat := 0x1FF
  cu : Bool := false
  overlap : Bool := false
  conv : Option Conv := none
  urg : Option (Nat × Nat × Nat) := none
  urgEnd : Nat := 0
  calEnd : Nat := 0
  slots : List Nat := []
  nextCycle : Nat := 0
  drift : Bool := false
  queue : List (List Nat) := []
  dropped : Bool := false
  stale : Bool := false
  trace : List (List Nat) := []
  traceTb : Nat := 0
  traceAw : Nat := 0
  traceNs : Bool := false
  traceIn : Nat := 0
  traceHead : Nat × Nat := (0, 0)
  traceLast : Nat := 0
  gainFor : Option Nat := none
  out : Option (Conv × Nat × Nat × Bool) := none
  deriving DecidableEq, Repr

/-- A knock window (R228, R231): its count, TB and angle word at open, source, flags, NOSYNC, samples, warm-up outputs, band integrators, sample
history (newest first), whether it is raw, and TB and angle word of its close once closed. -/
structure Win where
  wcnt : Nat
  tbo : Nat
  awo : Nat
  tsrc : Nat
  flags : Nat
  nosync : Bool
  nsamp : Nat
  nwarm : Nat
  bands : List Nat
  hist : List Int
  raw : Bool
  close : Option (Nat × Nat)
  deriving DecidableEq, Repr

/-- The hidden state of a knock channel: windows not yet posted (oldest first), the TCLK of the last close, the result queue, the TCLK of the last sample (R227),
and the TCLK in which the channel sees that its tracker has been lost (R230). (DESIGN CHOICE: log 13.) -/
structure Knk where
  wins : List Win := []
  closedAt : Option Nat := none
  queue : List Nat := []
  sampleAt : Option Nat := none
  abortAt : Option Nat := none
  deriving DecidableEq, Repr

/-- The hidden state of an encoder port (R239, R242): sample TCLK and acceptance TCLK of the last count, whether the next difference may
be valid, counts travelled since the last index and whether that travel is clean, the TCLK of the last counts and their sum (R237), and the TCLK of the last change of
the filtered levels with the levels before it (R243). (DESIGN CHOICE: log 13.) -/
structure Enc where
  stamp : Option Nat := none
  at_ : Nat := 0
  clean : Bool := false
  trav : Int := 0
  idxOk : Bool := false
  cnts : Nat × Int := (0, 0)
  lvlAt : Nat := 0
  lvlOld : Nat := 0
  deriving DecidableEq, Repr

/-- The translator's shadows (R249) and the TCLK of the arm. -/
structure Nt where
  base : Nat := 0
  ofs : Nat := 0
  rate : Nat := 0
  apply : Nat := 0
  armAt : Nat := 0
  deriving DecidableEq, Repr

/-- The hidden state of a timer (chapter 8): TOP and CMP in force, the TCLK in which each shadow was written, the TCLK of the last
prescaler wrap or restart, the prescaler's count while it is held, qualified edges counted, whether CAP is unread, whether TOP and CMP pass in the next TCLK (R253),
whether CMP has passed in this TCLK without a compare yet, the TCLK of the last take (R254), of the last ONESHOT stop, and of the last reset with CNT before it (R252).
(DESIGN CHOICE: log 13.) -/
structure Tmr where
  top : Word := 0
  cmp : Word := 0
  topAt : Option Nat := none
  cmpAt : Option Nat := none
  pscAt : Nat := 0
  pscHeld : Option Nat := none
  edges : Nat := 0
  unread : Bool := false
  soon : Bool × Bool := (false, false)
  cmpNew : Bool := false
  takenAt : Option Nat := none
  stopAt : Option Nat := none
  resetAt : Option (Nat × Word) := none
  deriving DecidableEq, Repr

/-- A waiting instruction of a pin sequencer (R265, R273): the TCLK in which it began, its tick, its timeout in ticks (0 none), the
start stamp of a MEASURE once its start edge has come, and once its end has come whether it ends in an overrun and its result. -/
structure PWait where
  from_ : Nat
  tick : Nat
  tmo : Nat
  start : Option Nat
  finish : Option (Bool × Nat)
  deriving DecidableEq, Repr

/-- The edges of one polarity of a line (R273): the stamps of the last two, newest first, how many since START, and the end of the last
period MEASURE, as the number of its edge and its stamp. -/
structure PEdges where
  stamps : List Nat := []
  count : Nat := 0
  chain : Option (Nat × Nat) := none
  deriving DecidableEq, Repr

/-- The hidden state of a pin sequencer (chapter 9): TCLK of tick 0 of its divider, the tick of its next instruction, line changes that
a co-issued DRV leaves to it (mask, values), the wait in hand, the queues with the TCLK of each transmit word's write, reads of the
receive queue in a TCLK, the last-taken word, and edges by 2 * line + polarity. (DESIGN CHOICE: log 13.) -/
structure Psq where
  r : Nat := 0
  tick : Nat := 0
  coMask : Nat := 0
  coVal : Nat := 0
  wait : Option PWait := none
  txq : List (Nat × Nat) := []
  rxq : List Nat := []
  rxFreed : Nat × Nat := (0, 0)
  last : Nat := 0
  edges : Table PEdges := []
  deriving DecidableEq, Repr

/-- Power of the main domain (R376, R382): running, held in reset for want of a rail, or asleep in one of the two depths. -/
inductive Pwr where
  | run | held | retain | off
  deriving DecidableEq, Repr

/-- Sleep and wake (R381-R389): the depth of an accepted request that still waits for its entry (true is OFF), S, the ratio in force at
E0, and whether a wake has been recognised. -/
structure Slp where
  req : Option Bool := none
  s : Nat := 0
  ratio : Nat := 0
  wake : Bool := false
  deriving DecidableEq, Repr

/-- The Acorn domain's roll-out (R390-R395): whether a hand-over has happened since power-on reset, copies of the tracker's NTOOTH, revolutions
per cycle and number, CYC, whether roll-out ended by QUIET or a wake, and what has made the record invalid since. -/
structure Roll where
  handed : Bool := false
  trk : Nat := 0
  nTooth : Nat := 1
  nRev : Nat := 1
  cyc : Nat := 0
  ended : Bool := false
  dip : Bool := false
  dropped : Bool := false
  used : Bool := false
  deriving DecidableEq, Repr

/-- The Acorn program (R396, R397): V of each channel, the steps in force for the running pass, its step address and count, the SCLK
periods that a DELAY still takes being left to the commands, the log, oldest first, and whether a program has been loaded since the last pass started. -/
structure Acn where
  v : Table Nat := []
  prog : List Word := []
  pass : Option (Nat × Nat) := none
  log : List (Word × Word) := []
  reload : Bool := false
  deriving DecidableEq, Repr

/-- A section of an image: type, TUNABLE or not, and its records (address, value). -/
structure Sect where
  ty : Nat
  tun : Bool
  recs : List (Nat × Nat)
  deriving DecidableEq, Repr

/-- The driver input of a general pin (R266, R268): the level it drives, `none` where it is tri-state or released, before and from a TCLK on. -/
structure Gpin where
  was : Option Bool := none
  drv : Option Bool := none
  at_ : Nat := 0
  deriving DecidableEq, Repr

/-- A delta that has passed its checks and waits for its safe states (R62): DSEQ, IMGVER, its sections, and the TCLK at which the wait ends. -/
structure Delta where
  dseq : Nat
  ver : Nat
  sects : List Sect
  until_ : Nat
  deriving DecidableEq, Repr

/-- The loader (chapter 2): key-slot hashes and the device key-encryption key in fuses, the public key that signed the full image in force, the sections in force, and the delta that waits.
(DESIGN CHOICE: log 8.) -/
structure Img where
  hash : Table Nat := []
  kek : Nat := 0
  pub : Nat × Nat := (0, 0)
  sects : List Sect := []
  delta : Option Delta := none
  deriving DecidableEq, Repr

/-- A queued operation (R321): token, type, body, the carrier port of its message (0 ETH0, 1 ETH1, 2 PCIe), and for a running SUBMIT the
ISTAT words posted so far. -/
structure GwOp where
  token : Nat
  ty : Nat
  body : List Nat
  port : Nat
  run : Bool
  items : List Nat
  deriving DecidableEq, Repr

/-- A context's state in the gateway (R310-R330): key, replay marks (SEQ and port), buckets in 1/256 token, command queue, completion ring (token,
type, body; newest last), its entries so far, the peer of each Ethernet port (address, UDP port), the Ethernet port of the last message accepted on one, subscriptions by kind
(period, mask), results waiting for publication and since when, TB of the last tracker publication, the first-fault holds of R317, and the PCIe page: message
buffer, device messages (newest last), and the TCLK of the last doorbell taken. (DESIGN CHOICE: log 13.) -/
structure GwCtx where
  key : Option Nat := none
  marks : List (Nat × Nat) := []
  mtok : Nat := 0
  etok : Nat := 0
  queue : List GwOp := []
  ring : List (Nat × Nat × List Nat) := []
  ringN : Nat := 0
  peer : Table (Nat × Nat) := []
  port : Nat := 2
  sub : Table (Nat × Nat) := []
  pubQ : List (List Nat) := []
  pubAt : Nat := 0
  trkAt : Nat := 0
  authHeld : Bool := false
  repHeld : Bool := false
  refHeld : Bool := false
  buf : Table Nat := []
  page : List (List Nat) := []
  pageN : Nat := 0
  heldAt : Option Nat := none
  deriving DecidableEq, Repr

/-- The links (R327-R332): frames of each Ethernet host queue with the words of the first already read, whether the PCIe link carries writes,
frames in each CAN receive FIFO (identifier, payload, TB), the flash command that runs (opcode, address), and how often each region of the flash (the slots 0 and 1, the rest
2) has been programmed or erased. -/
structure Links where
  hq : Table (List (List Nat)) := []
  hqRead : Table Nat := []
  pciUp : Bool := false
  can : Table (List (Nat × List Nat × Nat)) := []
  xsp : Option (Nat × Nat) := none
  flashVer : Table Nat := []
  deriving DecidableEq, Repr

/-- The calibration store (chapter 15): stored words, and the group write that runs (group, context, value words). (DESIGN CHOICE: log 9.) -/
structure CalStore where
  store : Table Word := []
  job : Option (Nat × Nat × List Word) := none
  deriving DecidableEq, Repr

/-- The debug port (R305, R306): the challenge, the values r and s held in custom0 to custom15, the boundary-scan instruction in force and the pads that EXTEST
drives. -/
structure Dbg where
  challenge : Nat := 0
  custom : Nat × Nat := (0, 0)
  scan : ScanInstr := .bypass
  drive : List (Nat × Bool) := []
  deriving DecidableEq, Repr

/-- The state of the block. -/
structure State where
  /-- TB (R8): the count of TCLK. -/
  tb : DWord
  /-- The register file: every register of the register maps, by address; an unlisted register reads 0. -/
  regs : Table Word
  /-- The register file at the start of the TCLK, with what was written or read out of it since: what differs from it in `regs` the hardware has
  changed in this TCLK (R11). The model's own. -/
  base : Table Word
  /-- Bytes of the system SRAM by address, and of the TCM of CPn at n * 2^20 + offset in the local alias. -/
  sram : Table Byte
  tcm : Table Byte
  /-- Bytes of the xSPI flash by flash offset. -/
  flash : Table Byte
  /-- The last bus access, as its initiator sees it. -/
  bus : Bus
  /-- Read and write latches, by address and initiator (R28, R29, R173). -/
  rdLatch : Table (Option Word)
  wrLatch : Table (Option Word)
  /-- The control processors. -/
  cores : Table Core
  /-- Nesting stacks of the interrupt router, innermost first: source and level (R300). -/
  nest : Table (List (Nat × Nat))
  /-- Angle accumulators of the trackers. -/
  angle : Table Angle
  trk : Table Trk
  /-- Journal streams, and the host request of R352 with the last handle given. -/
  strm : Table Strm
  jrnReq : Option JrnReq
  jrnHandle : Nat := 0
  /-- Fault collector and classifier. -/
  fco : Fco
  cls : Table Cls
  /-- Husks, pads, channels. -/
  husk : Table Husk
  pad : Table Pad
  chan : Table Chan
  /-- Task inputs (R167): converter a at a, knock open k at 4 + k, timer t at 8 + t, pin sequencer q at 56 + q. -/
  task : Table (List TaskEnt) := []
  adc : Table Adc := []
  /-- TCLK of the last gain change of an input whose next result carries GCHG or that still settles (R206), and GCHG. -/
  gainAt : Table (Option Nat) := []
  gchg : Table Bool := []
  /-- Gain codes that inputs take from a later TCLK on, or once their conversion is over (R207). -/
  gainNext : Table (Option (Nat × Nat)) := []
  knk : Table Knk := []
  enc : Table Enc := []
  nt : Nt := {}
  tmr : Table Tmr := []
  psq : Table Psq := []
  /-- General pins GP00-GP63 (R266-R268). -/
  gpin : Table Gpin := []
  /-- Last firing points L of the marks (R99). -/
  mkLast : Table Nat := []
  /-- The words in force in this TCLK of the marks that have been written in it (R100). -/
  mkPrev : Table (Option Word) := []
  /-- How the accumulators of the trackers ran before (R76): each entry held in the TCLKs before its own. The model's own. -/
  angPast : Table (List (Nat × Angle)) := []
  pwr : Pwr := .run
  slp : Slp := {}
  roll : Roll := {}
  acn : Acn := {}
  img : Img := {}
  gw : Table GwCtx := []
  links : Links := {}
  cal : CalStore := {}
  dbg : Dbg := {}
  /-- Words of the calibration store in force, and the mask of groups in force from the store (R402, R403). -/
  calForce : Table Word := []
  calUse : Nat := 0
  /-- Deadlines of the outstanding decision requests, by function and instance (R32). -/
  ask : Table (Option Nat)
  /-- Instances of a function that have switched while its change is pending (R35). -/
  switched : Table Bool
  /-- What the command in hand has emitted and not yet handed over. -/
  due : List Emit
  /-- What the part has sent, newest first. -/
  sent : List Sent
  /-- Counter of the free values taken so far. -/
  free : Nat
  /-- Commands waiting, first in, first out. -/
  pending : List Instr
  deriving DecidableEq, Repr

/-- The registers whose reset value is not 0, in address order: SYS_ID, SYS_RSTCAUSE.ACNPOR (an Acorn power-on, R379),
FCO_KASTAT.NEXTKEY, IRT_CPnRUN.RUN, SCH_POOL and ACN_RATIO (R388). (DEDUCED: log 6.) -/
def resetRegs : Table Word :=
  [(0x40000000, 0x0128B000), (0x40000010, 1), (0x4002002C, 0x5A), (0x40031208, 0x3F), (0x40031228, 0x3F),
   (0x40031248, 0x3F), (0x40031268, 0x3F), (0x40070000, 0x20002000), (0x400F0018, 0x2FAF0800)]

/-- The block after an Acorn power-on (R376, R379), before its image has loaded. (DEDUCED: log 6; DESIGN CHOICE: log 8, 13.) -/
def State.reset : State :=
  { tb := 0, regs := resetRegs, base := resetRegs, sram := [], tcm := [], flash := [], bus := ⟨false, 0⟩, rdLatch := [], wrLatch := [],
    cores := [], nest := [], angle := [], trk := [], strm := [], jrnReq := none, fco := Fco.zero, cls := [], husk := [],
    pad := [], chan := [], ask := [], switched := [], due := [], sent := [], free := 0, pending := [] }

end Sys2Proof.Machine
end

