-- ==== Sys2Proof/Machine/Ops.lean ====
section
/-! DEFINITION. The named operations over the state: registers and their fields, the per-instance records of the
units, time, free values, and what a command emits for the collector, the journal and the gateway. -/

namespace Sys2Proof.Machine

/-! Fields of a word -/

/-- Bits [lo + len - 1 : lo] of a word. -/
def bitsOf (w : Word) (lo len : Nat) : Nat := (w.toNat / 2 ^ lo) % 2 ^ len

/-- A word with bits [lo + len - 1 : lo] set to a value. -/
def setBits (w : Word) (lo len v : Nat) : Word :=
  BitVec.ofNat 32 (w.toNat % 2 ^ lo + (v % 2 ^ len) * 2 ^ lo + (w.toNat / 2 ^ (lo + len)) * 2 ^ (lo + len))

/-- A number of `len` bits read as signed. -/
def signedOf (len v : Nat) : Int := if v < 2 ^ (len - 1) then (v : Int) else (v : Int) - 2 ^ len

/-- A signed number as `len` bits. -/
def unsignedOf (len : Nat) (v : Int) : Nat := (v % (2 ^ len : Int)).toNat

/-- Division rounded to the nearest whole number, halves upward (R3, R105). -/
def roundDiv (a b : Nat) : Nat := (2 * a + b) / (2 * b)

/-- Signed division rounded to the nearest whole number, halves upward. -/
def roundDivI (a : Int) (b : Nat) : Int := (2 * a + (b : Int)) / (2 * (b : Int))

/-! Registers -/

/-- The word of a register. -/
def State.rd (s : State) (a : Nat) : Word := tget 0 s.regs a

/-- Set the word of a register. -/
def State.wr (s : State) (a : Nat) (v : Word) : State := { s with regs := tput 0 s.regs a v }

/-- What stood in a register at the start of the TCLK, with the accesses of this TCLK applied (R11). -/
def State.baseRd (s : State) (a : Nat) : Word := tget 0 s.base a

/-- An access of this TCLK leaves v in the register's base. -/
def State.baseWr (s : State) (a : Nat) (v : Word) : State := { s with base := tput 0 s.base a v }

/-- A new TCLK begins: no register has been changed in it. -/
def State.newBase (s : State) : State := { s with base := s.regs }

/-- The hardware sets the bits of a mask in a register in this TCLK, those that are set already included (R11). -/
def State.hwSet (s : State) (a : Nat) (m : Word) : State :=
  { s with regs := tput 0 s.regs a (s.rd a ||| m), base := tput 0 s.base a (s.baseRd a &&& ~~~m) }

/-- The hardware sets a W1C field in this TCLK. -/
def State.hwFlag (s : State) (f : Fld) (n : Nat := 0) (k : Nat := 0) : State :=
  s.hwSet (f.addr n k) (BitVec.ofNat 32 ((2 ^ f.len - 1) * 2 ^ f.lo))

/-- The hardware sets a W1C bit of a bank of words in this TCLK. -/
def State.hwBank (s : State) (f : Fld) (i : Nat) : State := s.hwSet (f.addr (i / 32)) (BitVec.ofNat 32 (2 ^ (i % 32)))

/-- A field of a register of instance (n, k). -/
def State.fld (s : State) (f : Fld) (n : Nat := 0) (k : Nat := 0) : Nat :=
  bitsOf (s.rd (f.addr n k)) f.lo f.len

/-- Whether a field is not 0. -/
def State.flag (s : State) (f : Fld) (n : Nat := 0) (k : Nat := 0) : Bool := s.fld f n k != 0

/-- Set a field. -/
def State.setFld (s : State) (f : Fld) (v : Nat) (n : Nat := 0) (k : Nat := 0) : State :=
  s.wr (f.addr n k) (setBits (s.rd (f.addr n k)) f.lo f.len v)

/-- A write stores v in an RW field that the hardware has not updated in this TCLK (R11). -/
def State.store (s : State) (f : Fld) (v : Nat) (n : Nat := 0) (k : Nat := 0) : State :=
  let b := s.baseRd (f.addr n k)
  if bitsOf b f.lo f.len = s.fld f n k then (s.setFld f v n k).baseWr (f.addr n k) (setBits b f.lo f.len v) else s

/-- Set a one-bit field from a truth value. -/
def State.setFlag (s : State) (f : Fld) (b : Bool) (n : Nat := 0) (k : Nat := 0) : State :=
  s.setFld f (if b then 1 else 0) n k

/-- Add to a counter field, saturating at the field's highest value. -/
def State.bumpBy (s : State) (f : Fld) (d : Nat) (n : Nat := 0) (k : Nat := 0) : State :=
  s.setFld f (min (2 ^ f.len - 1) (s.fld f n k + d)) n k

/-- Add 1 to a counter field, saturating. -/
def State.bump (s : State) (f : Fld) (n : Nat := 0) (k : Nat := 0) : State := s.bumpBy f 1 n k

/-- A signed field. -/
def State.sfld (s : State) (f : Fld) (n : Nat := 0) (k : Nat := 0) : Int := signedOf f.len (s.fld f n k)

/-- Set a signed field. -/
def State.setSFld (s : State) (f : Fld) (v : Int) (n : Nat := 0) (k : Nat := 0) : State :=
  s.setFld f (unsignedOf f.len v) n k

/-- A 64-bit register: the low half at its address, the high half above it (R10). (DEDUCED: log 14.) -/
def State.wide (s : State) (f : Fld) (n : Nat := 0) (k : Nat := 0) : Nat :=
  (s.rd (f.addr n k)).toNat + (s.rd (f.addr n k + 4)).toNat * 2 ^ 32

/-- Set both halves of a 64-bit register. (DEDUCED: log 14.) -/
def State.setWide (s : State) (f : Fld) (v : Nat) (n : Nat := 0) (k : Nat := 0) : State :=
  (s.wr (f.addr n k) (BitVec.ofNat 32 v)).wr (f.addr n k + 4) (BitVec.ofNat 32 (v / 2 ^ 32))

/-- A bit of a bank of words: bit i mod 32 of word i / 32. -/
def State.bankBit (s : State) (f : Fld) (i : Nat) : Bool :=
  bitsOf (s.rd (f.addr (i / 32))) (i % 32) 1 != 0

/-- Set a bit of a bank of words. -/
def State.setBankBit (s : State) (f : Fld) (i : Nat) (b : Bool) : State :=
  s.wr (f.addr (i / 32)) (setBits (s.rd (f.addr (i / 32))) (i % 32) 1 (if b then 1 else 0))

/-! Time -/

/-- TB as a number of TCLK. (DEDUCED: log 3.) -/
def State.now (s : State) : Nat := s.tb.toNat

/-- TCLK in a microsecond (R8). -/
def usTclk : Nat := 400

/-- TCLK in a millisecond. -/
def msTclk : Nat := 400000

/-! Free values -/

/-- A value that the spec does not state: `bits` bits of a fresh free value. (DESIGN CHOICE: log 11, 12, 22, 51.) -/
def State.fresh (s : State) (bits : Nat) : Nat × State :=
  (Config.freeVal s.free % 2 ^ bits, { s with free := s.free + 1 })

/-! Bus observation -/

/-- A bus access completes with data. -/
def State.busOk (s : State) (v : Nat := 0) : State := { s with bus := ⟨false, BitVec.ofNat 64 v⟩ }

/-- A bus access ends in a bus error. -/
def State.busErr (s : State) : State := { s with bus := ⟨true, 0⟩ }

/-! Per-instance records (DESIGN CHOICE: log 43.) -/

def State.core (s : State) (n : Nat) : Core := tget Core.zero s.cores n
def State.setCore (s : State) (n : Nat) (c : Core) : State := { s with cores := tput Core.zero s.cores n c }
def State.nestOf (s : State) (n : Nat) : List (Nat × Nat) := tget [] s.nest n
def State.setNest (s : State) (n : Nat) (l : List (Nat × Nat)) : State := { s with nest := tput [] s.nest n l }
def State.ang (s : State) (n : Nat) : Angle := tget Angle.zero s.angle n
/-- Set how an accumulator runs from the current TCLK on; how it ran before is kept as long as an edge may ask for it (R71, R76). -/
def State.setAng (s : State) (n : Nat) (a : Angle) : State :=
  let l := tget [] s.angPast n
  let l' := if l.any fun p => p.1 == s.now then l else (s.now, s.ang n) :: l.filter fun p => decide (s.now ≤ p.1 + 1100)
  { s with angle := tput Angle.zero s.angle n a, angPast := tput [] s.angPast n l' }
def State.tr (s : State) (n : Nat) : Trk := tget Trk.zero s.trk n
def State.setTr (s : State) (n : Nat) (x : Trk) : State := { s with trk := tput Trk.zero s.trk n x }
def State.str (s : State) (j : Nat) : Strm := tget Strm.zero s.strm j
def State.setStr (s : State) (j : Nat) (x : Strm) : State := { s with strm := tput Strm.zero s.strm j x }
def State.clsOf (s : State) (c : Nat) : Cls := tget Cls.zero s.cls c
def State.setCls (s : State) (c : Nat) (x : Cls) : State := { s with cls := tput Cls.zero s.cls c x }
def State.hsk (s : State) (c : Nat) : Husk := tget Husk.zero s.husk c
def State.setHsk (s : State) (c : Nat) (x : Husk) : State := { s with husk := tput Husk.zero s.husk c x }
def State.pd (s : State) (c : Nat) : Pad := tget Pad.zero s.pad c
def State.setPd (s : State) (c : Nat) (x : Pad) : State := { s with pad := tput Pad.zero s.pad c x }
def State.ch (s : State) (c : Nat) : Chan := tget Chan.zero s.chan c
def State.setCh (s : State) (c : Nat) (x : Chan) : State := { s with chan := tput Chan.zero s.chan c x }

def State.taskOf (s : State) (i : Nat) : List TaskEnt := tget [] s.task i
def State.setTask (s : State) (i : Nat) (l : List TaskEnt) : State := { s with task := tput [] s.task i l }
def State.ad (s : State) (a : Nat) : Adc := tget {} s.adc a
def State.setAd (s : State) (a : Nat) (x : Adc) : State := { s with adc := tput {} s.adc a x }
def State.kn (s : State) (k : Nat) : Knk := tget {} s.knk k
def State.setKn (s : State) (k : Nat) (x : Knk) : State := { s with knk := tput {} s.knk k x }
def State.en (s : State) (e : Nat) : Enc := tget {} s.enc e
def State.setEn (s : State) (e : Nat) (x : Enc) : State := { s with enc := tput {} s.enc e x }
def State.tm (s : State) (t : Nat) : Tmr := tget {} s.tmr t
def State.setTm (s : State) (t : Nat) (x : Tmr) : State := { s with tmr := tput {} s.tmr t x }

def State.sq (s : State) (q : Nat) : Psq := tget {} s.psq q
def State.setSq (s : State) (q : Nat) (x : Psq) : State := { s with psq := tput {} s.psq q x }

/-! What a command emits -/

/-- Emit something for the collector, the journal or the gateway, in order. -/
def State.emit (s : State) (e : Emit) : State := { s with due := s.due ++ [e] }

/-- Raise a fault source (R356). -/
def State.raiseFault (s : State) (src : Nat) (data : Nat := 0) : State := s.emit (.fault ⟨src, data % 65536⟩)

/-- Apply an update under a condition. -/
def State.when (s : State) (b : Bool) (f : State → State) : State := if b then f s else s

/-- Apply an update for each element of a list, in order. -/
def State.each {α : Type} (s : State) (l : List α) (f : State → α → State) : State := l.foldl f s

/-- Bytes of a number, least significant first (R10). -/
def leBytes : Nat → Nat → List Nat
  | 0, _ => []
  | n + 1, v => v % 256 :: leBytes n (v / 256)

/-- Bytes of a number, most significant first. -/
def beBytes (n v : Nat) : List Nat := (leBytes n v).reverse

/-- The number that bytes spell, least significant first. -/
def leNat : List Nat → Nat
  | [] => 0
  | b :: l => b + 256 * leNat l

/-- The number that bytes spell, most significant first. -/
def beNat (l : List Nat) : Nat := leNat l.reverse

end Sys2Proof.Machine
end

