-- ==== Sys2Proof/Machine/AngleOps.lean ====
section
/-! DEFINITION. Angle words (R3-R6), the angle of a tracker at a TCLK (R105-R108), crossings (R104) and the time to an
angle (R129). -/

namespace Sys2Proof.Machine

/-- One revolution in AU (R3). -/
def revAu : Nat := 1048576

/-- One AU in the accumulator's unit (R105). -/
def auFrac : Nat := 16777216

/-- CYC and POS of an angle word (R4). -/
def cycOf (aw : Nat) : Nat := aw / 2 ^ 22 % 1024
def posOf (aw : Nat) : Nat := aw % 2 ^ 22

/-- The angle word of a cycle and a position. -/
def awOf (cyc pos : Nat) : Nat := cyc % 1024 * 2 ^ 22 + pos % 2 ^ 22

/-- The CYC difference of R6, from -512 to +511. -/
def cycDiff (a b : Nat) : Int :=
  let d := (cycOf a + 1024 - cycOf b) % 1024
  if d < 512 then (d : Int) else (d : Int) - 1024

/-- The order of R6: A lies before B. -/
def awBefore (a b : Nat) : Bool :=
  let d := cycDiff a b
  if d = 0 then decide (posOf a < posOf b) else decide (d < 0)

/-- A lies at or before B. At a difference of -512 each of two angles lies before the other (R6). -/
def awLe (a b : Nat) : Bool := awBefore a b || (cycOf a == cycOf b && posOf a == posOf b)

/-- A lies after B. -/
def awAfter (a b : Nat) : Bool := !awLe a b

/-- The span of a tracker's cycle in AU (R4). -/
def State.span (s : State) (n : Nat) : Nat := 2 ^ s.fld TRK_CFG_SPAN n * revAu

/-- The distance from B to A in AU with the sign of R6 (R129, R139). -/
def awDist (span a b : Nat) : Int := cycDiff a b * span + (posOf a : Int) - (posOf b : Int)

/-- The accumulator of a tracker in TCLK t: rotation since t0, no further than the boundary limit (R108) and, between
encoder counts, no further than one count (R122). The hold keeps the fraction of the step that reaches the boundary AU; a step that would pass that AU
stands at its start. (DEDUCED: log 30.) -/
def Angle.accAt (a : Angle) (t : Nat) : Nat :=
  if a.run then
    let adv := a.rate * (t - a.t0)
    let adv := match a.cap with
      | none => adv
      | some c => min adv c
    if a.acc + adv < a.lim then max a.floor (a.acc + adv)
    else
      let step := (a.lim - a.acc + a.rate - 1) / a.rate * a.rate
      let x := a.acc + (match a.cap with | none => step | some c => min step c)
      max a.floor (if x / auFrac = a.lim / auFrac then x else a.lim)
  else a.acc

/-- The angle word of an accumulator value. -/
def awOfAcc (span acc : Nat) : Nat :=
  let au := acc / auFrac
  awOf (au / span) (au % span)

/-- The accumulator value of an angle word. -/
def accOfAw (span aw : Nat) : Nat := (cycOf aw * span + posOf aw) * auFrac

/-- The angle word of tracker n in TCLK t, for t not before the last step of the accumulator. (DEDUCED: log 30.) -/
def State.awAt (s : State) (n t : Nat) : Nat := awOfAcc (s.span n) ((s.ang n).accAt t)

/-- The angle word of tracker n in the current TCLK. A tracker that is not enabled drives 0. -/
def State.aw (s : State) (n : Nat) : Nat := s.awAt n s.now

/-- How the accumulator of tracker n ran at the end of a TCLK t that has passed. -/
def State.angThen (s : State) (n t : Nat) : Angle :=
  match (tget [] s.angPast n).reverse.find? fun p => decide (t < p.1) with
  | some p => p.2
  | none => s.ang n

/-- The angle word of tracker n in a TCLK t that has passed (R76). -/
def State.awThen (s : State) (n t : Nat) : Nat := awOfAcc (s.span n) ((s.angThen n t).accAt t)

/-- The first angle word after w whose POS is pos. -/
def awNext (w pos : Nat) : Nat := if posOf w < pos then awOf (cycOf w) pos else awOf (cycOf w + 1) pos

/-- The accumulator of the TCLK before. -/
def State.accPrev (s : State) (n : Nat) : Nat :=
  if (s.ang n).jumpAt = some s.now then (s.ang n).jumpFrom else (s.ang n).accAt (s.now - 1)

/-- The angle word of the TCLK before. -/
def State.awPrev (s : State) (n : Nat) : Nat := awOfAcc (s.span n) (s.accPrev n)

/-- Whether the current TCLK is a re-base TCLK (R88). -/
def State.isRebase (s : State) (n : Nat) : Bool :=
  decide ((s.ang n).jumpAt = some s.now) && (s.ang n).rebase

/-- Whether the step of the current TCLK is a step of the accumulator that the look-ahead did not foresee (R147). -/
def State.isJump (s : State) (n : Nat) : Bool := decide ((s.ang n).jumpAt = some s.now) && !(s.ang n).smooth

/-- An angle is crossed in the current TCLK (R104): it lies after the angle word of the TCLK before and at or before the
present one, and the step is no re-base. -/
def State.crosses (s : State) (n a : Nat) : Bool :=
  !s.isRebase n && awAfter a (s.awPrev n) && awLe a (s.aw n)

/-- The angle lies in the catch-up span of the current TCLK (R111). -/
def State.inCatchUp (s : State) (n a : Nat) : Bool :=
  s.isJump n &&
    match (s.ang n).cuEnd with
    | none => false
    | some e => awAfter a (s.awPrev n) && awLe a e

/-- Tracker states (R80). -/
def stStopped : Nat := 0
def stSeeking : Nat := 1
def stGapFound : Nat := 2
def stRevSync : Nat := 3
def stCycleSync : Nat := 4
def stRestored : Nat := 5
def stReverse : Nat := 6
def stLost : Nat := 7

/-- The state of a tracker. -/
def State.trkState (s : State) (n : Nat) : Nat := s.fld TRK_STATE_STATE n

/-- The rate in force (R105). -/
def State.rateNow (s : State) (n : Nat) : Nat := s.fld TRK_RATE n

/-- tta of an angle word (R129), in TCLK from the current one. -/
def State.tta (s : State) (n a : Nat) : Nat :=
  let st := s.trkState n
  if !(st == stGapFound || st == stRevSync || st == stCycleSync || st == stRestored)
      || s.flag TRK_PSTAT_STEP n || s.rateNow n == 0 then 0xFFFFFFFF
  else
    let d := awDist (s.span n) a (s.aw n)
    if d ≤ 0 then 0
    else min 0xFFFFFFFE ((d.toNat * auFrac + s.rateNow n - 1) / s.rateNow n)

/-- The fine-delay tap of an angle crossed by rotation in the current TCLK (R147). -/
def State.tapOf (s : State) (n a : Nat) : Nat :=
  let x0 := s.accPrev n
  let x1 := (s.ang n).accAt s.now
  let span := s.span n
  let t := accOfAw span a
  let whole := 1024 * span * auFrac
  let up := (t + whole - x0 % whole) % whole
  if x1 ≤ x0 then 0 else min 31 (32 * up / (x1 - x0))

end Sys2Proof.Machine
end

