-- ==== Sys2Proof/Machine/Events.lean ====
section
/-! DEFINITION. Events and their fields (chapter 5), edges whose compare has been issued, and the pad times at which the intent of a channel is to fall. -/

namespace Sys2Proof.Machine

/-! Event fields (R135, R136) -/

def Ev.op (e : Ev) : Nat := bitsOf e.w0 24 8
def Ev.tag (e : Ev) : Nat := bitsOf e.w0 16 8
def Ev.skind (e : Ev) : Nat := bitsOf e.w0 15 1
def Ev.ekind (e : Ev) : Nat := bitsOf e.w0 13 2
def Ev.fireLate (e : Ev) : Bool := bitsOf e.w0 12 1 == 1
def Ev.rpt (e : Ev) : Bool := bitsOf e.w0 11 1 == 1
def Ev.irq (e : Ev) : Bool := bitsOf e.w0 10 1 == 1
def Ev.nocor (e : Ev) : Bool := bitsOf e.w0 9 1 == 1
def Ev.resv (e : Ev) : Bool := bitsOf e.w0 8 1 == 1
def Ev.epoch (e : Ev) : Nat := bitsOf e.w0 0 8
def Ev.min (e : Ev) : Nat := bitsOf e.w3 16 16
def Ev.max (e : Ev) : Nat := bitsOf e.w3 0 16

/-- Anchor kinds (R136) and opcodes (R137). -/
def kAngle : Nat := 0
def kTabs : Nat := 1
def kTrel : Nat := 2
def kNone : Nat := 3
def opPulse : Nat := 0x01
def opOn : Nat := 0x02
def opOff : Nat := 0x03
def opNop : Nat := 0x04
def opPwm : Nat := 0x10

/-- An open event (R151). -/
def Ev.isOpen (e : Ev) : Bool := e.ekind == kNone && (e.op == opOn || e.op == opPwm)

/-- An event that stays active from its start edge on. -/
def Ev.lasts (e : Ev) : Bool := e.op != opNop && e.op != opOff

/-- Report flag bits (R161). -/
def fCatchup : Nat := 2 ^ 0
def fLate : Nat := 2 ^ 1
def fMinext : Nat := 2 ^ 2
def fMaxcut : Nat := 2 ^ 3
def fLossend : Nat := 2 ^ 4
def fRevend : Nat := 2 ^ 5
def fCorr : Nat := 2 ^ 6
def fHusk : Nat := 2 ^ 7
def fUnforeseen : Nat := 2 ^ 8
def fFlushend : Nat := 2 ^ 9
def fCutend : Nat := 2 ^ 10
def fInjstale : Nat := 2 ^ 11

/-- The scheduler drives the intent of a channel (R174): no pin sequencer does (SRC = 1), and no force. -/
def State.schedIntent (s : State) (c : Nat) : Bool := !s.flag PAD_CFG_SRC c && !s.flag HSK_FORCE_EN c

/-- The duty that a PWM run executes (R163): the steps of the edge spacing. -/
def pwmExec (per duty : Nat) : Nat :=
  let d := if 1 ≤ duty ∧ duty ≤ 63 then 64 else duty
  if 32 * (per - 2) < d ∧ d < 32 * per then 32 * per else d

/-- The pad time of an issued edge at which the intent falls. -/
def Issue.fallPad (i : Issue) : Option Nat :=
  match i.edge with
  | .fin _ => some i.pad
  | .start e => if e.op = opOff then some i.pad else none
  | .drop _ _ => none

/-- The pad time of the off edge of a PWM period. -/
def Pwm.offPad (p : Pwm) : Option Nat :=
  let d := pwmExec p.per p.duty
  if p.offDone || decide (32 * p.per ≤ d) then none else some (p.start * 32 + d)

/-- Pad times at which the scheduler's intent is to fall (R185): ends and OFF starts whose compare has been issued, and the off edge of a PWM period.
(DEDUCED: log 34.) -/
def State.fallPads (s : State) (c : Nat) : List Nat :=
  (s.ch c).issued.filterMap Issue.fallPad ++ (match (s.ch c).pwm with | some p => p.offPad.toList | none => [])

/-- The scheduler's intent falls at or before pad time t: an ordinary off, ahead of the Husk's (R185). (DEDUCED: log 34.) -/
def State.fallsBy (s : State) (c t : Nat) : Bool := s.schedIntent c && (s.fallPads c).any fun u => decide (u ≤ t)

end Sys2Proof.Machine
end

