-- ==== Sys2Proof/Machine/Lines.lean ====
section
/-! DEFINITION. Interrupt lines (R31, R298): the cause bits of each block, the line of each source, and the fire of a
source at a 0-to-1 transition of its line. -/

namespace Sys2Proof.Machine

/-- The blocks that hold INTEN and INTST registers. -/
inductive IntBlk where
  | sys | fco | trk | enc | ch | padg | adc | knk | psq | tmr | gw | jrn | js
  deriving DecidableEq, Repr

/-- The enable register of a block. -/
def intEn : IntBlk → Fld
  | .sys => SYS_INTEN | .fco => FCO_INTEN | .trk => TRK_INTEN | .enc => ENC_INTEN | .ch => CH_INTEN
  | .padg => PADG_INTEN | .adc => ADC_INTEN | .knk => KNK_INTEN | .psq => PSQ_INTEN | .tmr => TMR_INTEN
  | .gw => GW_INTEN | .jrn => JRN_INTEN | .js => JS_INTEN

/-- The status register of a block. -/
def intSt : IntBlk → Fld
  | .sys => SYS_INTST | .fco => FCO_INTST | .trk => TRK_INTST | .enc => ENC_INTST | .ch => CH_INTST
  | .padg => PADG_INTST | .adc => ADC_INTST | .knk => KNK_INTST | .psq => PSQ_INTST | .tmr => TMR_INTST
  | .gw => GW_INTST | .jrn => JRN_INTST | .js => JS_INTST

/-- The causes of a block instance that are both set and enabled (R298). -/
def State.causes (s : State) (b : IntBlk) (n : Nat := 0) : Nat :=
  (s.rd ((intSt b).addr n) &&& s.rd ((intEn b).addr n)).toNat

/-- The line of an IRT source (R31): the OR of its causes that are set and enabled. A mark, a link and a software source
have no line here: they fire by pulse. -/
def State.line (s : State) (src : Nat) : Bool :=
  let bit (m j : Nat) : Bool := m / 2 ^ j % 2 != 0
  if src < 16 then bit (s.causes .sys) src
  else if src < 32 then bit (s.causes .fco) (src - 16)
  else if src < 80 then bit (s.causes .trk ((src - 32) / 8)) ((src - 32) % 8)
  else if src < 96 then bit (s.causes .enc ((src - 80) / 4)) ((src - 80) % 4)
  else if src < 160 then false
  else if src < 288 then s.causes .ch (src - 160) != 0
  else if src < 304 then s.causes .padg (src - 288) != 0
  else if src < 336 then bit (s.causes .adc ((src - 304) / 8)) ((src - 304) % 8)
  else if src < 352 then bit (s.causes .knk ((src - 336) / 4)) ((src - 336) % 4)
  else if src < 384 then
    let m := s.causes .psq ((src - 352) / 2)
    if (src - 352) % 2 = 0 then m % 256 != 0 else m / 256 != 0
  else if src < 432 then s.causes .tmr (src - 384) != 0
  else if src < 464 then bit (s.causes .gw) (src - 432)
  else if src < 480 then
    s.causes .js (src - 464) != 0 || (s.fld JRN_CFG_GLINE == src - 464 && s.causes .jrn != 0)
  else false

/-- The sources that a block instance drives. (DEDUCED: log 45.) -/
def State.sources (s : State) (b : IntBlk) (n : Nat) : List Nat :=
  match b with
  | .sys => List.range 16
  | .fco => (List.range 7).map (16 + ·)
  | .trk => (List.range 8).map (32 + 8 * n + ·)
  | .enc => (List.range 4).map (80 + 4 * n + ·)
  | .ch => [160 + n]
  | .padg => [288 + n]
  | .adc => (List.range 8).map (304 + 8 * n + ·)
  | .knk => (List.range 4).map (336 + 4 * n + ·)
  | .psq => [352 + 2 * n, 353 + 2 * n]
  | .tmr => [384 + n]
  | .gw => (List.range 4).map (432 + ·)
  | .jrn => [464 + s.fld JRN_CFG_GLINE]
  | .js => [464 + n]

/-- A source fires (R298): IDLE moves to PENDING and ACTIVE to ACTIVE_PENDING; a pending source stays as it is.
Sources 576-1023 never become pending (R31). (DEDUCED: log 45.) -/
def State.fire (s : State) (src : Nat) : State :=
  if src < 576 then s.setBankBit IRT_PEND src true else s

/-- Fire the sources of a list whose line is 1 now and was 0 in an earlier state. -/
def State.fireRises (s old : State) (srcs : List Nat) : State :=
  s.each srcs fun s' src => if s.line src && !old.line src then s'.fire src else s'

/-- Set cause bits (a mask) of a block instance; a line that rises fires its source. -/
def State.setCauses (s : State) (b : IntBlk) (n mask : Nat) : State :=
  (s.hwSet ((intSt b).addr n) (BitVec.ofNat 32 mask)).fireRises s (s.sources b n)

/-- Set one cause bit, named by its status field. -/
def State.cause (s : State) (b : IntBlk) (f : Fld) (n : Nat := 0) : State := s.setCauses b n (2 ^ f.lo)

end Sys2Proof.Machine
end

