-- ==== Sys2Proof/Machine/HuskOps.lean ====
section
/-! DEFINITION. The Husk between a channel and its pin (chapter 6): forced-off causes, admission of rises, falls,
truncations, and the reporting of Husk actions. Pad times are in 1/32 TCLK. -/

namespace Sys2Proof.Machine

/-- The tracker of a channel; 7 is none (R134). -/
def State.chTrk (s : State) (c : Nat) : Nat := s.fld CH_CFG_TRK c

/-- Whether a channel is bound to a tracker. (DEDUCED: log 31.) -/
def State.chBound (s : State) (c : Nat) : Bool := decide (s.chTrk c < 6)

/-- The angle word of a channel's tracker; 0 with none. -/
def State.chAw (s : State) (c : Nat) : Nat := if s.chBound c then s.aw (s.chTrk c) else 0

/-- The state of a tracker as its consumers see it in the current TCLK: a change shows in the TCLK after it (R18). -/
def State.seen (s : State) (n : Nat) : Nat :=
  if (s.tr n).chgAt = some s.now then s.fld TRK_STATE_PREV n else s.trkState n

/-- The synchronisation level of a tracker for a consumer that admits RESTORED or does not (R80, R179). -/
def State.level (s : State) (n : Nat) (restored : Bool) : Nat :=
  let st := s.seen n
  if st == stGapFound then 1
  else if st == stRevSync then 2
  else if st == stCycleSync then 3
  else if st == stRestored && restored then (if (s.tr n).restPhase then 3 else 2)
  else 0

/-- The level that a Husk sees on its channel's tracker. -/
def State.hskLevel (s : State) (c : Nat) : Nat :=
  if s.chBound c then s.level (s.chTrk c) (s.flag HSK_CFG_ALLOW_RESTORED c) else 0

/-- The safe-cut of a channel is in force (R360, R367). -/
def State.safeCut (s : State) (c : Nat) : Bool :=
  s.flag FCO_GSAFE_ALL || s.fld FCO_GSAFE_GRP / 2 ^ (c / 8) % 2 == 1 || s.flag FCO_STAT_SNACT

/-- Pad states (PADnnn_STAT.STATE). -/
def padReset : Nat := 0
def padNormal : Nat := 1
def padFault : Nat := 2
def padRetired : Nat := 3
def padTest : Nat := 4

/-- A channel is retired (R363). -/
def State.retired (s : State) (c : Nat) : Bool := s.bankBit FCO_RET c

/-- Forced-off causes and limit causes (R177, R186). -/
def cSafe : Nat := 0x01
def cRetired : Nat := 0x02
def cCut : Nat := 0x03
def cPadFault : Nat := 0x04
def cSync : Nat := 0x05
def cWinHold : Nat := 0x06
def cOnMax : Nat := 0x10
def cOffMin : Nat := 0x11
def cEdgeMax : Nat := 0x12
def cRevOn : Nat := 0x13
def cWindow : Nat := 0x14
def cI2t : Nat := 0x15

/-- The pad fault latch is set (R197), under a pad test too. -/
def State.padLatched (s : State) (c : Nat) : Bool :=
  s.fld PAD_STAT_STATE c == padFault || (s.fld PAD_STAT_STATE c == padTest && (s.pd c).testFrom == padFault)

/-- The forced-off cause in force (R177): the one of highest priority, 0 with none. The test pulse of a field driver is admitted under RETIRED and CUT.
(DEDUCED: log 33.) -/
def State.forcedBy (s : State) (c : Nat) (pulse : Bool) : Nat :=
  if s.safeCut c then cSafe
  else if !pulse && s.retired c then cRetired
  else if !pulse && s.flag CH_STAT_CUTL c then cCut
  else if s.padLatched c then cPadFault
  else if s.fld HSK_CFG_REQUIRE_SYNC c != 0 && decide (s.hskLevel c < s.fld HSK_CFG_REQUIRE_SYNC c) then cSync
  else if s.fld HSK_CFG_WINEN c != 0 && s.hskLevel c == 0 then cWinHold
  else 0

/-- The forced-off cause that the Husk shows and judges an intent by. -/
def State.forced (s : State) (c : Nat) : Nat := s.forcedBy c false

/-- A Husk duration field in 1/32 TCLK (R181). -/
def State.hskUnits (s : State) (c : Nat) (f : Fld) : Nat := s.fld f c * 2 ^ s.fld HSK_CFG_TUNIT c * 32

/-- Pin on-time of the current revolution up to pad time `t`, in 1/32 TCLK (R181). -/
def State.revOnTime (s : State) (c t : Nat) : Nat :=
  let h := s.hsk c
  if s.flag HSK_STAT_OUT c then h.revAcc + (t - max h.riseAt h.revFrom) else h.revAcc

/-- A window covers a position (R182). -/
def winCovers (ws we pos : Nat) : Bool :=
  if we < ws then decide (ws ≤ pos) || decide (pos ≤ we) else decide (ws ≤ pos) && decide (pos ≤ we)

/-- The span from `a`, exclusive, to `b`, inclusive, of positions in a cycle of `span` AU holds a covered position: its own first
position is covered, or the window's first position lies in it. -/
def spanTouches (span a b ws we : Nat) : Bool :=
  let d := (b + span - a % span) % span
  d != 0 && (winCovers ws we ((a + 1) % span) || decide ((ws + span - (a + 1) % span) % span < d))

/-- Window k of a channel is touched in the current TCLK (R182): in a re-base TCLK only the present angle counts. -/
def State.winTouched (s : State) (c k : Nat) : Bool :=
  let n := s.chTrk c
  let ws := s.fld HSK_WINS c k
  let we := s.fld HSK_WINE c k
  s.fld HSK_CFG_WINEN c / 2 ^ k % 2 == 1 && s.chBound c &&
    (if s.isRebase n then winCovers ws we (posOf (s.aw n))
     else spanTouches (s.span n) (posOf (s.awPrev n)) (posOf (s.aw n)) ws we)

/-- The windows touched, lowest first. -/
def State.touchedWins (s : State) (c : Nat) : List Nat := (List.range 4).filter (s.winTouched c)

/-- A record of the journal stamped in the current TCLK by a tracker (R335, R338): AW 0 with no tracker; NOSYNC when the
tracker has no level or is in RESTORED. -/
def State.mkRec (s : State) (ty src trk origin : Nat) (body : List Nat) : Rec :=
  { ty, src, trk, tb := s.now, aw := if trk < 6 then s.aw trk else 0,
    nosync := if trk < 6 then s.level trk false == 0 else false,
    origin, nobody := false, hostbody := false, cont := false, body }

/-- The ORIGIN of a record that no context caused (R335). -/
def noOrigin : Nat := 0x0FFF

/-- Mark report flags of the active event (R161). -/
def State.markAct (s : State) (c mask : Nat) : State :=
  match (s.ch c).active with
  | none => s
  | some a => s.setCh c { s.ch c with active := some { a with flags := a.flags ||| mask } }

/-- The counter of a Husk cause (R186). -/
def hskCounter (cause : Nat) : Fld :=
  if cause == cOnMax then HSK_CNT0_ONMAX
  else if cause == cOffMin then HSK_CNT0_OFFMIN
  else if cause == cEdgeMax then HSK_CNT0_EDGEMAX
  else if cause == cRevOn then HSK_CNT0_REVON
  else if cause == cWindow then HSK_CNT1_WINDOW
  else if cause == cI2t then HSK_CNT1_I2T
  else if cause == cSync || cause == cWinHold then HSK_CNT1_SYNC
  else HSK_CNT1_FORCE

/-- A Husk action (R186): the LAST registers, the counter, the journal record, HSKg_ACT for limit causes, the group
status bit, and HUSK in the event's report. `t` is the pad time at which it acts; TB and AW are those of its TCLK. (DEDUCED: log 33.) -/
def State.huskAct (s : State) (c cause : Nat) (suppr : Bool) (t : Nat) : State :=
  let g := c / 8
  let (tag, org) := match (s.ch c).active with
    | some a => (bitsOf a.ev.w0 16 8, a.ev.ctx)
    | none => (0, noOrigin)
  let k := if suppr then 1 else 0
  let s := s.wr (HSK_LAST.addr c) (BitVec.ofNat 32 (cause * 65536 + k * 256 + tag))
  let tb := t / 32
  let aw := if s.chBound c then s.awAt (s.chTrk c) tb else 0
  let s := s.wr (HSK_LASTAW.addr c) (BitVec.ofNat 32 aw)
  let s := s.wr (HSK_LASTTB.addr c) (BitVec.ofNat 32 tb)
  let s := s.bump (hskCounter cause) c
  let s := s.emit (.record { s.mkRec 0x04 c (if s.chBound c then s.chTrk c else 7) org [cause, k, tag, 0] with tb := tb, aw := aw })
  let s := s.when (decide (0x10 ≤ cause)) fun s => s.raiseFault (76 + g) (c * 256 + cause)
  (s.setCauses .padg g (2 ^ (c % 8))).markAct c fHusk

/-- A field-driver channel (CH112-CH127). -/
def isDriver (c : Nat) : Bool := decide (112 ≤ c)

/-- The pad time of an edge: field drivers ignore the tap (R192). -/
def padTime (c t : Nat) : Nat := if isDriver c then t / 32 * 32 else t

/-- The edge of the output at pad time t stands at the pad driver input TRIM taps later (R190); the level expected at the pin stands from its TCLK on. -/
def State.padEdge (s : State) (c : Nat) (on : Bool) (t : Nat) : State :=
  s.setPd c { s.pd c with edge := some (on, (t : Int) + s.sfld PAD_TRIM c), since := t / 32 }

/-- A pad changes its state (R196). -/
def State.padState (s : State) (c st : Nat) : State :=
  let s := s.setFld PAD_STAT_STATE st c
  s.setPd c { s.pd c with since := s.now, normalAt := if st = padNormal then s.now else (s.pd c).normalAt }

/-- The pin is on in a TCLK from the last rise on: the pad time of that rise has come, and that of the off after it has not. -/
def State.pinOnAt (s : State) (c t : Nat) : Bool :=
  decide ((s.hsk c).riseAt / 32 ≤ t) &&
    (s.flag HSK_STAT_OUT c || match (s.hsk c).offAt with | some u => decide (t < u / 32) | none => false)

/-- The pin is on in the current TCLK. -/
def State.pinOn (s : State) (c : Nat) : Bool := s.pinOnAt c s.now

/-- The pin turns off at a pad time (1/32 TCLK): on-times are added up (R181, R187). -/
def State.pinOff (s : State) (c t : Nat) : State :=
  let t := padTime c t
  let h := s.hsk c
  let h := { h with offAt := some t, revAcc := s.revOnTime c t, dur := h.dur + (t - h.riseAt) }
  ((s.setHsk c h).setFld HSK_STAT_OUT 0 c).padEdge c false t

/-- The Husk turns the pin off and records it (R184). (DEDUCED: log 3, 33.) -/
def State.truncate (s : State) (c cause t : Nat) : State :=
  (((s.pinOff c t).huskAct c cause false t).setFld HSK_STAT_BLOCKED 1 c)

/-- The first limit that suppresses a rise at pad time `t` (R184); 0 with none. (DEDUCED: log 34.) -/
def State.suppressor (s : State) (c t : Nat) : Nat :=
  let h := s.hsk c
  let early := match h.offAt with
    | none => false
    | some o => decide (t < o + s.hskUnits c HSK_OFFMIN_LIM)
  if s.fld HSK_OFFMIN_LIM c != 0 && early then cOffMin
  else if s.chBound c && s.fld HSK_EDGES_EDGEMAX c != 0 &&
      decide (s.fld HSK_EDGES_EDGEMAX c ≤ s.fld HSK_STAT_EDGECNT c) then cEdgeMax
  else if s.chBound c && s.fld HSK_REVON_LIM c != 0 &&
      decide (s.hskUnits c HSK_REVON_LIM ≤ s.revOnTime c t) then cRevOn
  else if s.touchedWins c != [] then cWindow
  else if s.flag HSK_STAT_TRIPPED c then cI2t
  else 0

/-- An intent rise whose edge reaches the pad driver input at pad time t, with the forced-off cause f that the Husk has found for it (R184). -/
def State.huskRiseBy (s : State) (c t f : Nat) : State :=
  let t := padTime c t
  let s := (s.setFld HSK_STAT_INTENT 1 c).setFld HSK_STAT_BLOCKED 0 c
  if f != 0 then
    if s.flag HSK_STAT_OUT c && !(s.pd c).pulse then s.truncate c f (s.now * 32)
    else (s.huskAct c f true t).setFld HSK_STAT_BLOCKED 1 c
  else if s.flag HSK_STAT_OUT c then s
  else
    let l := s.suppressor c t
    if l != 0 then (s.huskAct c l true t).setFld HSK_STAT_BLOCKED 1 c
    else
      (((s.setHsk c { s.hsk c with riseAt := t }).setFld HSK_STAT_OUT 1 c).bump HSK_STAT_EDGECNT c).padEdge c true t

/-- An intent rise that the Husk judges in the current TCLK (R174, R176). -/
def State.huskRiseAt (s : State) (c t : Nat) : State := s.huskRiseBy c t (s.forced c)

/-- The Husk judges its forced-off causes, present from TCLK `at_` (R176, R184): a pin that is on turns off two TCLK
later at tap 0, unless its intent falls by then (R185), and the output stays off until the next intent rise. (DEDUCED: log 33.) -/
def State.huskCheck (s : State) (c at_ : Nat) : State :=
  let f := s.forcedBy c (s.pd c).pulse
  let t := (at_ + 2) * 32
  if f == 0 then s
  else
    let s := s.when (s.flag HSK_STAT_OUT c && !s.fallsBy c t) fun s => (s.pinOff c t).huskAct c f false t
    s.when (s.flag HSK_STAT_INTENT c) fun s => s.setFld HSK_STAT_BLOCKED 1 c

/-- A rise of the scheduler's intent at pad time t in the current TCLK (R176): the Husk has judged it 2 TCLK earlier, in the second TCLK of its pipeline;
a forced-off cause that has come since turns the pin off again 2 TCLK after it came. (DEDUCED: log 3.) -/
def State.huskRise (s : State) (c t : Nat) : State :=
  match (s.ch c).judged with
  | some (p, f, since) =>
    if p = t / 32 then
      let s := s.huskRiseBy c t f
      s.when (f == 0 && s.flag HSK_STAT_OUT c) fun s => s.huskCheck c (if since then s.now - 1 else s.now)
    else s.huskRiseAt c t
  | none => s.huskRiseAt c t

/-- An intent fall at pad time `t` (R184, R185): an ordinary off, where no truncation has come before it. A test pulse goes on (R175). (DEDUCED: log 3.) -/
def State.huskFall (s : State) (c t : Nat) : State :=
  (s.when (s.flag HSK_STAT_OUT c && !(s.pd c).pulse) fun s => s.pinOff c t).setFld HSK_STAT_INTENT 0 c

/-- TCLK of the next rise in the pipeline of a channel: a start whose compare has been issued, or a PWM reload edge. -/
def State.nextRise (s : State) (c : Nat) : Option Nat :=
  let x := s.ch c
  match x.issued.find? fun i => (match i.edge with | .start e => e.lasts | _ => false) && decide (s.now < i.pad / 32) with
  | some i => some (i.pad / 32)
  | none => x.pwm.map fun p => p.start + p.per

/-- The Husk's stage of the pipeline in the TCLK that ends (R176): the rise that reaches the pad 2 TCLK later is judged, and a cause that comes after that is
noted. -/
def State.huskJudge (s : State) (c : Nat) : State :=
  let x := s.ch c
  match s.nextRise c with
  | none => s
  | some p =>
    if p = s.now + 2 then s.setCh c { x with judged := some (p, s.forced c, false) }
    else
      match x.judged with
      | some (q, f, _) => if q = s.now + 1 ∧ p = q then s.setCh c { x with judged := some (q, f, s.forced c != 0) } else s
      | none => s

/-- The test pulse of a field driver is over (R201). -/
def State.pulseEnd (s : State) (c t : Nat) (ok : Bool) : State :=
  let on := s.flag HSK_STAT_OUT c && (s.pd c).pulse
  let s := s.setPd c { s.pd c with pulse := false, pulseOk := on && ok }
  s.when on fun s => s.pinOff c t

/-- The running pad test is over (R201): a pad still in TEST goes back to its state before, or stays RETIRED. -/
def State.testOver (s : State) (c : Nat) : State :=
  let s := s.setFld PAD_TEST_START 0 c
  s.when (s.fld PAD_STAT_STATE c == padTest) fun s => s.padState c (if s.retired c then padRetired else (s.pd c).testFrom)

/-- A pad test that runs while the channel is neither cut nor retired any longer ends with NOT_OFF (R201); its pulse turns off as by the Husk (R176). -/
def State.testAbort (s : State) (c : Nat) : State :=
  if s.flag PAD_TEST_START c && !s.flag CH_STAT_CUTL c && !s.retired c then
    let s := ((s.pulseEnd c ((s.now + 2) * 32) false).testOver c).setFld PAD_TEST_RESULT 3 c
    s.setPd c { s.pd c with passOk := false }
  else s

/-- The Husks of all channels judge their forced-off causes. -/
def State.huskCheckAll (s : State) (cs : List Nat) (at_ : Nat) : State := s.each cs fun s c => s.huskCheck c at_

/-- The channels bound to a tracker, enabled ones. (DEDUCED: log 31.) -/
def State.boundChans (s : State) (n : Nat) : List Nat :=
  (List.range 128).filter fun c => s.flag CH_CFG_EN c && s.chTrk c == n

/-- The channels whose Husk sees a tracker, one that a pin sequencer drives included (R180, R181, R269). -/
def State.huskChans (s : State) (n : Nat) : List Nat := (List.range 128).filter fun c => s.chTrk c == n

end Sys2Proof.Machine
end

