-- ==== Sys2Proof/Machine/SchedOps.lean ====
section
/-! DEFINITION. The scheduler's shared operations (chapter 5): events and their fields, anchors, outcomes and reports,
ends, discards, and the reactions to a tracker's state. -/

namespace Sys2Proof.Machine

/-- (anchor - TB[31:0]) read as signed 32 bits, for a TB value (R138). -/
def tabsDiff (anchor tb : Nat) : Int := signedOf 32 ((anchor + 2 ^ 32 - tb % 2 ^ 32) % 2 ^ 32)

/-- MIN and MAX of an event in TCLK (R9); an end lies at least 2 TCLK after its start (R149). -/
def State.minTclk (s : State) (c : Nat) (e : Ev) : Nat := Nat.max (e.min * 2 ^ s.fld CH_DUNIT_K c) 2
def State.maxTclk (s : State) (c : Nat) (e : Ev) : Nat := e.max * 2 ^ s.fld CH_DUNIT_K c

/-- Events held by a channel: pending and active (R143). -/
def Chan.count (x : Chan) : Nat := x.queue.length + (if x.active.isSome then 1 else 0)

/-- Slots that a channel takes beyond its reservation. -/
def State.sharedUse (s : State) (c : Nat) (x : Chan) : Nat := x.count - s.fld CH_DEPTH_RSV c

/-- Free shared slots (R143). -/
def State.sharedFree (s : State) : Nat :=
  8192 - s.fld SCH_RSV_RSVTOT - (s.chan.map fun p => s.sharedUse p.1 p.2).sum

/-- Take a slot of the pool; LOW follows the lowest FREE. -/
def State.takeSlot (s : State) : State :=
  let s := s.setFld SCH_POOL_FREE (s.fld SCH_POOL_FREE - 1)
  s.setFld SCH_POOL_LOW (min (s.fld SCH_POOL_LOW) (s.fld SCH_POOL_FREE))

/-- Return a slot to the pool. -/
def State.freeSlot (s : State) : State := s.setFld SCH_POOL_FREE (min 8192 (s.fld SCH_POOL_FREE + 1))

/-- A function runs host-assisted for an instance (R32, R35): the mode in force, or the new mode once the instance has
switched. -/
def State.hostMode (s : State) (fn inst : Nat) : Bool :=
  let bit (w : Nat) : Bool := w / 2 ^ fn % 2 == 1
  if bit (s.fld SYS_FNSTAT_PEND) && tget false s.switched (fn * 128 + inst) then bit (s.fld SYS_FNMODE_MODE)
  else bit (s.fld SYS_FNSTAT_INFORCE)

/-- Functions (R32). -/
def fnSync : Nat := 0
def fnTooth : Nat := 1
def fnKnock : Nat := 2
def fnInjdly : Nat := 3
def fnRetry : Nat := 4
def fnCaltrk : Nat := 5
def fnJrec : Nat := 6
def fnRestart : Nat := 7

/-- The deadline of a function's outstanding request (R32). -/
def State.askOf (s : State) (fn inst : Nat) : Option Nat := tget none s.ask (fn * 128 + inst)
def State.setAsk (s : State) (fn inst : Nat) (d : Option Nat) : State :=
  { s with ask := tput none s.ask (fn * 128 + inst) d }

/-- Raise a decision request (R32, R324): it is announced to the gateway, and the function's timeout starts if no earlier
request of the instance is unanswered. -/
def State.request (s : State) (fn inst : Nat) : State :=
  let s := s.emit (.ask fn inst)
  if (s.askOf fn inst).isSome then s
  else s.setAsk fn inst (some (s.now + s.fld SYS_FNTMO_TMO fn * usTclk))

/-- A late decision (R33). -/
def State.lateDecision (s : State) : State := s.bump SYS_FNSTAT_LATE

/-! Outcomes and reports (R160, R161) -/

def oExecuted : Nat := 0x01
def oOverlap : Nat := 0x02
def oSkipRebase : Nat := 0x03
def oSkipReverse : Nat := 0x04
def oHeldSkip : Nat := 0x05
def oFlushed : Nat := 0x06
def oCut : Nat := 0x07
def oRetired : Nat := 0x08

/-- The learner of R170 and R171 at the outcome of an event: `flags` are its report flags, `ts` its start edge. -/
def State.injLearn (s : State) (c : Nat) (e : Ev) (outcome flags : Nat) : State :=
  let bad := fCatchup ||| fLate ||| fMaxcut ||| fLossend ||| fRevend ||| fCutend ||| fHusk
  if !s.flag CH_INJCFG_EN c || outcome != oExecuted || e.op != opPulse || flags &&& bad != 0 then s
  else
    match (s.ch c).active, (s.ch c).hit with
    | some a, some r =>
      let m := r - a.ts
      let s := s.setFld CH_INJDEC_MEAS (min (2 ^ 24 - 1) m) c
      if s.hostMode fnInjdly c then
        ((s.setFld CH_INJDEC_REQ 1 c).cause .ch CH_INTST_INJREQ c).request fnInjdly c
      else
        let cor := s.sfld CH_INJDLY_COR c
        let err := roundDivI ((m : Int) - 16 * (s.fld CH_INJLIM_REF c : Int)) 4
        let lim : Int := s.fld CH_INJLIM_CORMAX c
        let new := cor + roundDivI (err - cor) (2 ^ s.fld CH_INJCFG_GAIN c)
        s.setSFld CH_INJDLY_COR (max (-lim) (min lim new)) c
    | _, _ => s.bump CH_CNT1_NOOPEN c

/-- An event reaches its outcome (R160): slot, counters, report registers, and with RPT the report. `ts` is the start edge
if one executed, with its angle word; `dur` the pin on-time in 1/32 TCLK (R187). The event is no longer held. (DEDUCED: log 32.) -/
def State.outcome (s : State) (c : Nat) (e : Ev) (o flags : Nat) (start : Option (Nat × Nat)) (dur : Nat) : State :=
  let has (m : Nat) : Bool := flags &&& m != 0
  let s := s.freeSlot
  let s := s.when (o == oOverlap) fun s => s.bump CH_CNT0_OVERLAP c
  let s := s.when (o == oSkipRebase || o == oSkipReverse || o == oHeldSkip) fun s => s.bump CH_CNT0_SKIPPED c
  let s := s.when (has fCatchup) fun s => s.bump CH_CNT1_CATCHUP c
  let s := s.when (has fMinext) fun s => s.bump CH_CNT1_MINEXT c
  let s := s.when (has fMaxcut) fun s => s.bump CH_CNT1_MAXCUT c
  let w0 := BitVec.ofNat 32 (e.tag * 2 ^ 24 + o * 2 ^ 16 + flags % 4096)
  let w1 := BitVec.ofNat 32 (match start with | some p => p.1 | none => 0)
  let w2 := BitVec.ofNat 32 (min 0xFFFFFFFF ((dur + 16) / 32))
  let w3 := BitVec.ofNat 32 (match start with | some p => p.2 | none => 0)
  let s := (((s.wr (CH_RPT0.addr c) w0).wr (CH_RPT1.addr c) w1).wr (CH_RPT2.addr c) w2).wr (CH_RPT3.addr c) w3
  let s := s.when e.rpt fun s =>
    let trk := if s.chBound c then s.chTrk c else 7
    let body := leBytes 4 w0.toNat ++ leBytes 4 w1.toNat ++ leBytes 4 w2.toNat ++ leBytes 4 w3.toNat
    (s.emit (.record (s.mkRec 0x03 c trk e.ctx body))).emit (.report ⟨c, e.ctx, w0, w1, w2, w3⟩)
  let s := s.when (o != oExecuted) fun s => s.cause .ch CH_INTST_DROP c
  let s := s.when (has fLossend) fun s => s.cause .ch CH_INTST_LOSSEND c
  let s := s.when e.irq fun s => s.cause .ch CH_INTST_DONE c
  s.when ((s.ch c).count == 0) fun s => s.cause .ch CH_INTST_EMPTY c

/-- No end of a channel has its compare issued any more. -/
def Chan.noFin (x : Chan) : List Issue := x.issued.filter fun i => match i.edge with | .fin _ => false | _ => true

/-- The active event ends at a pad time (R149): the output falls, the event reaches EXECUTED. -/
def State.endActive (s : State) (c flags t : Nat) : State :=
  match (s.ch c).active with
  | none => s
  | some a =>
    let s := s.when (s.schedIntent c) fun s => s.huskFall c t
    let a' := ((s.ch c).active.getD a)
    let fl := a'.flags ||| flags
    let dur := (s.hsk c).dur
    let s := s.injLearn c a.ev oExecuted fl
    let s := s.setCh c { s.ch c with active := none, pwm := none, edgeAt := some (t / 32), hit := none, issued := (s.ch c).noFin, endFl := none }
    let s := s.setHsk c { s.hsk c with dur := 0 }
    let s := (s.setFld CH_STAT_ACTIVE 0 c).setFld CH_STAT_PWM 0 c
    s.outcome c a.ev oExecuted fl (some (a.ts, a.startAw)) dur

/-- The ends of a channel whose compare has been issued. -/
def Chan.fins (x : Chan) : List Issue := x.issued.filter fun i => match i.edge with | .fin _ => true | _ => false

/-- Discard every pending event with an outcome (R154, R156, R157), in queue order: none has started, one whose compare has been issued included. -/
def State.discard (s : State) (c o : Nat) : State :=
  let q := (s.ch c).queue
  let s := s.setCh c { s.ch c with queue := [], issued := (s.ch c).fins, armed := none, flushing := true }
  let s := s.setFld CH_CMD_FLUSH 1 c
  s.each q fun s e => s.outcome c e o 0 none 0

/-- CHnnn_EPOCH increments, modulo 256 (R154). -/
def State.bumpEpoch (s : State) (c : Nat) : State := s.setFld CH_EPOCH (s.fld CH_EPOCH c + 1) c

/-! Anchors and due edges -/

/-- States in which the predictor moves the angle word (R126). -/
def movesAngle (st : Nat) : Bool := st == stGapFound || st == stRevSync || st == stCycleSync || st == stRestored
def State.angleRuns (s : State) (n : Nat) : Bool := movesAngle (s.trkState n)

/-- Subtract a signed number of AU from an angle word. -/
def State.awSub (s : State) (n a : Nat) (d : Int) : Nat :=
  let span := s.span n
  let whole : Int := 1024 * span
  let x := (((cycOf a * span + posOf a : Nat) : Int) - d) % whole
  awOf (x.toNat / span) (x.toNat % span)

/-- MIN point, MAX point and start tap of an event with start edge (ts, tap) as pad times (R149). -/
def Act.minPad (a : Act) (s : State) (c : Nat) : Nat := (a.ts + s.minTclk c a.ev) * 32 + a.tap
def Act.maxPad (a : Act) (s : State) (c : Nat) : Nat := (a.ts + s.maxTclk c a.ev) * 32 + a.tap

/-- Pad time of a TREL end (R147): start tap plus delay, with the carry going into whole TCLK. -/
def Act.trelPad (a : Act) : Nat := a.ts * 32 + a.tap + a.ev.w2.toNat

/-! Reactions to a tracker's state (R158, R159) -/

/-- The active event's own end has been issued for a pad time at or before tap 0 of the next TCLK: it executes as an ordinary end (R18, R154). -/
def State.ownEnd (s : State) (c : Nat) : Bool := (s.ch c).fins.any fun i => decide (i.pad ≤ (s.now + 1) * 32)

/-- An end by loss at once, in the TCLK in which the channel sees the state (tap 0). -/
def State.lossNow (s : State) (c flags : Nat) : State :=
  if s.ownEnd c then s else s.endActive c flags ((s.now + 1) * 32)

/-- LOSS_POLICY on the active event (R159). An end whose compare has been issued completes (R18). -/
def State.lossEndOf (s : State) (c : Nat) (a : Act) (endNow : Bool) : State :=
  if endNow || !s.flag CH_CFG_LOSS c then s.lossNow c fLossend
  else if (s.ch c).fins != [] then s
  else
    let t := if a.ev.isOpen || a.pd == 0xFFFFFFFF then
        (if a.ev.max = 0 then s.now else a.ts + s.maxTclk c a.ev)
      else a.ts + a.pd
    if t ≤ s.now && decide (a.ts + s.minTclk c a.ev ≤ s.now + 1) then s.lossNow c fLossend
    else s.setCh c { s.ch c with active := some { a with lossEnd := some t } }

/-- The pending events whose ANGLE start lies at or before the angle word end with an outcome (R158), but those whose compare has been issued (R18). -/
def State.skipPassed (s : State) (c o : Nat) : State :=
  let n := s.chTrk c
  let out (e : Ev) : Bool := e.skind == kAngle && awLe e.w1.toNat (s.aw n)
    && !((s.ch c).issued.any fun i => match i.edge with | .start q => q == e | .drop q _ => q == e | .fin _ => false)
  let gone := (s.ch c).queue.filter out
  let keep := (s.ch c).queue.filter fun e => !out e
  let s := s.setCh c { s.ch c with queue := keep }
  s.each gone fun s e => s.outcome c e o 0 none 0

/-- The channels bound to tracker n react to its new state (R158). `endNow` is the case of R93; `back` a return from
REVERSE (R91). The Husk turns the pin off first where it no longer admits the output, so that the report carries HUSK (R159). (DEDUCED: log 32.) -/
def State.lossReact (s : State) (n : Nat) (endNow back : Bool) : State :=
  let st := s.trkState n
  let s := s.huskCheckAll (s.huskChans n) (s.now + 1)
  s.each (s.boundChans n) fun s c =>
    let s :=
      match (s.ch c).active with
      | none => s
      | some a =>
        if st == stReverse then s.lossNow c fRevend
        else if st == stLost || st == stStopped then
          (if a.ev.ekind == kAngle || a.ev.isOpen then s.lossEndOf c a endNow else s)
        else s
    s.when back fun s => s.skipPassed c oSkipReverse

/-- The channels bound to tracker n react to a re-base (R158). -/
def State.rebaseReact (s : State) (n : Nat) : State :=
  s.each (s.boundChans n) fun s c => s.skipPassed c oSkipRebase

/-- The active event ends by force in the next TCLK (R154, R156, R157): its own end stands if it has been issued for a pad time by then. -/
def State.forceEnd (s : State) (c flags : Nat) : State :=
  match (s.ch c).active with
  | none => s
  | some _ => s.lossNow c flags

/-- The scheduler's part of a retirement (R157): EPOCH increments, the queue is discarded, the active event ends. -/
def State.retireSched (s : State) (c : Nat) : State :=
  ((s.bumpEpoch c).discard c oRetired).forceEnd c (fCutend ||| fHusk)

/-- The scheduler's part of a flush (R154). -/
def State.flushSched (s : State) (c : Nat) (endact : Bool) : State :=
  if s.flag CH_CMD_FLUSH c then s
  else ((s.bumpEpoch c).discard c oFlushed).when endact fun s => s.forceEnd c fFlushend

/-- CUT of a channel (R156): the Husk's cut latch, then the discard with outcome CUT and the forced end with CUTEND. -/
def State.cutChan (s : State) (c : Nat) : State :=
  let s := (s.setFld CH_STAT_CUTL 1 c).huskCheck c s.now
  ((s.bumpEpoch c).discard c oCut).forceEnd c fCutend

/-- UNCUT of a channel (R156). -/
def State.uncutChan (s : State) (c : Nat) : State := (s.setFld CH_STAT_CUTL 0 c).testAbort c

end Sys2Proof.Machine
end

