-- ==== Sys2Proof/Machine/ModeOps.lean ====
section
/-! DEFINITION. Changes of a dual-mode function (R32-R36): its instances, the switch of one instance, and a pending change. -/

namespace Sys2Proof.Machine

/-- The instances of a function (R35). -/
def State.fnInstances (s : State) (fn : Nat) : List Nat :=
  if fn == fnSync || fn == fnTooth then (List.range 6).filter fun n => s.flag TRK_CFG_EN n
  else if fn == fnKnock then (List.range 4).filter fun n => s.flag KNK_CFG_EN n
  else if fn == fnInjdly then (List.range 128).filter fun c => s.flag CH_CFG_EN c && s.flag CH_INJCFG_EN c
  else if fn == fnRetry then List.range 128
  else if fn == fnCaltrk then
    (List.range 4).filter fun a => (List.range 64).any fun j => s.flag ADC_IN_EN j && s.fld ADC_IN_CONV j == a
  else [0]

/-- A change of function fn is pending. -/
def State.fnPending (s : State) (fn : Nat) : Bool := s.fld SYS_FNSTAT_PEND / 2 ^ fn % 2 == 1

/-- Set bit i of a number. -/
def setBitNat (m i : Nat) (b : Bool) : Nat :=
  m / 2 ^ (i + 1) * 2 ^ (i + 1) + (if b then 2 ^ i else 0) + m % 2 ^ i

/-- When the last instance has switched, INFORCE takes the mode and PEND clears (R35). (DEDUCED: log 23.) -/
def State.fnSettle (s : State) (fn : Nat) : State :=
  if s.fnPending fn && (s.fnInstances fn).all fun k => tget false s.switched (fn * 128 + k) then
    let b := s.fld SYS_FNMODE_MODE / 2 ^ fn % 2 == 1
    let s := s.setFld SYS_FNSTAT_INFORCE (setBitNat (s.fld SYS_FNSTAT_INFORCE) fn b)
    let s := s.setFld SYS_FNSTAT_PEND (setBitNat (s.fld SYS_FNSTAT_PEND) fn false)
    { s with switched := (List.range 128).foldl (fun t k => tput false t (fn * 128 + k) false) s.switched }
  else s

/-- An instance reaches its switch point while a change is pending (R35). (DEDUCED: log 23.) -/
def State.switchInst (s : State) (fn k : Nat) : State :=
  if s.fnPending fn && (s.fnInstances fn).contains k then
    State.fnSettle { s with switched := tput false s.switched (fn * 128 + k) true } fn
  else s

end Sys2Proof.Machine
end

