-- ==== Sys2Proof/Machine/FaultOps.lean ====
section
/-! DEFINITION. The fault collector's reactions (R355-R363, R373): severities, latches, the log, the classifier, retry and
retirement of a channel, and the pins FAULT_N and ALIVE. -/

namespace Sys2Proof.Machine

def State.setFco (s : State) (f : Fco) : State := { s with fco := f }

/-- Reserved sources (R358): they never raise. -/
def srcReserved (k : Nat) : Bool :=
  k == 14 || k == 15
    || (decide (16 ≤ k) && decide (k < 40) && (k - 16) % 6 == 5)
    || (decide (40 ≤ k) && decide (k < 64) && (k - 40) % 4 == 3)
    || (decide (138 ≤ k) && decide (k < 144))
    || (decide (152 ≤ k) && decide (k < 256))
    || decide (384 ≤ k)

/-- The silicon floor of a source (R358). -/
def siliconFloor (k : Nat) : Nat :=
  if srcReserved k then 7
  else if k < 5 then 0
  else if k == 5 || k == 6 then 5
  else if k == 7 then 0
  else if k == 8 then 4
  else if k == 9 then 6
  else if k == 10 || k == 11 || k == 12 then 5
  else if k == 13 then 6
  else if k < 40 then
    let i := (k - 16) % 6
    if i == 0 then 3 else if i == 1 then 0 else if i == 2 || i == 3 then 4 else 6
  else if k < 64 then
    let i := (k - 40) % 4
    if i == 1 then 4 else 6
  else if k < 128 then 6
  else if k < 136 then 5
  else if k == 136 then 6
  else if k == 137 then 7
  else if k < 152 then 6
  else 4

/-- A source is active (R358): a level source while its condition holds, any other in the TCLK of its raise. -/
def State.srcActive (s : State) (k : Nat) : Bool :=
  s.bankBit FCO_ACT k || (decide (k < 256 ∨ 384 ≤ k) && tget none s.fco.raisedAt k == some s.now)

/-- A word of FCO_ACT. -/
def State.actWord (s : State) (w : Nat) : Word :=
  BitVec.ofNat 32 ((List.range 32).map fun j => if s.srcActive (32 * w + j) then 2 ^ j else 0).sum

/-- The affected channel of a source: that of a PAD source is its channel, that of an HSK source the channel whose Husk
acted (R356). -/
def Raise.channel (r : Raise) : Option Nat :=
  if 256 ≤ r.src ∧ r.src < 384 then some (r.src - 256)
  else if 76 ≤ r.src ∧ r.src < 92 then some (r.data / 256 % 128)
  else none

/-- A PAD source. -/
def Raise.isPad (r : Raise) : Bool := decide (256 ≤ r.src) && decide (r.src < 384)

/-- The reaction that is actually applied (R356). (DEDUCED: log 52.) -/
def State.react (s : State) (r : Raise) : Nat :=
  let sev := s.fld FCO_SRC_SEV r.src
  match r.channel with
  | some _ => sev
  | none =>
    if sev == 1 && s.fld FCO_SRC_GMASK r.src == 0 then 0
    else if sev == 2 then 3
    else sev

/-- The groups whose latch a severity-1 reaction sets. -/
def State.groups (s : State) (r : Raise) : Nat :=
  match r.channel with
  | some c => 2 ^ (c / 8)
  | none => s.fld FCO_SRC_GMASK r.src

/-- An FCO_LOG entry and a FAULT record (R339, R373): the raises of one TCLK stand in ascending source number (R357). -/
def State.logFault (s : State) (kind react src data : Nat) : State :=
  let sev := s.fld FCO_SRC_SEV src
  let cnt := min 0xFFFFFFFF (tget 0 s.fco.counts src)
  let e : LogEntry := ⟨kind, react, sev, src, s.now % 2 ^ 32, data, cnt⟩
  let s :=
    if s.fco.log.length < 32 then
      s.setFco { s.fco with log := insertTail (fun q => e.kind == 0 && q.kind == 0 && q.tb == e.tb && decide (e.src < q.src)) e s.fco.log }
    else (s.hwFlag FCO_LOGSTAT_OVF).cause .fco FCO_INTST_LOGOVF
  s.emit (.record (s.mkRec 0x05 src 7 noOrigin ([sev, react, kind, 0] ++ leBytes 4 cnt ++ leBytes 8 data)))

/-- DATA of a source's record (R373): DATA[15:0] of its last raise, and for a PAD source B and RC. (DESIGN CHOICE: log 51.) -/
def State.recData (s : State) (src : Nat) : Nat :=
  let d := tget 0 s.fco.data src % 65536
  if 256 ≤ src ∧ src < 384 then
    let c := src - 256
    c * 256 + d % 256 + s.fld FCO_BKT_B c * 2 ^ 16 + s.fld FCO_BKT_RC c * 2 ^ 20
  else d

/-- A record of a source that is no raise (R373). Its REACT, which the spec states for raises only, is free. (DESIGN CHOICE: log 51.) -/
def State.logOther (s : State) (kind src : Nat) : State :=
  let (react, s) := s.fresh 3
  s.logFault kind react src (s.recData src)

/-- A record of the classifier about channel c. (DEDUCED: log 52.) -/
def State.logCls (s : State) (c kind : Nat) : State := s.logOther kind (256 + c)

/-- Set the latch of one group (0-15) or the global one (16), in the name of a source: SAFECUTS counts it when it was
clear. (DEDUCED: log 52.) -/
def State.setLatch (s : State) (i src : Nat) : State :=
  let was := if i = 16 then s.flag FCO_GSAFE_ALL else s.fld FCO_GSAFE_GRP / 2 ^ i % 2 == 1
  let old := if was then tget [] s.fco.latchSrc i else []
  let s := s.setFco { s.fco with latchSrc := tput [] s.fco.latchSrc i (if old.contains src then old else old ++ [src]) }
  let s :=
    if i = 16 then s.setFld FCO_GSAFE_ALL 1
    else s.when (!was) fun s => s.setFld FCO_GSAFE_GRP (s.fld FCO_GSAFE_GRP + 2 ^ i)
  let s := s.when (!was) fun s => s.bump FCO_CNT_SAFECUTS
  s.cause .fco FCO_INTST_SAFE

/-- FCO_KASTAT.ARMED as it reads: 1 where no kicks are checked (R369). -/
def State.armed (s : State) : Bool := !s.flag FCO_KACFG_KAEN || s.flag FCO_KASTAT_ARMED

/-- ALIVE runs while ARMED and no latch is set (R370): RUN follows, and the pin starts low. -/
def State.aliveUpdate (s : State) : State :=
  let run := s.fld IMG_STATUS_STATE == 2 && s.armed && !s.flag FCO_GSAFE_ALL && s.fld FCO_GSAFE_GRP == 0
  if run == s.flag FCO_KASTAT_RUN then s
  else if run then
    ((s.setFld FCO_KASTAT_RUN 1).setFld FCO_STAT_ALIVE 0).setFco { s.fco with toggleAt := s.now + s.fld FCO_KACFG_HALF * usTclk }
  else s.setFld FCO_KASTAT_RUN 0

/-- In the TCLK after ALIVE stops its pin is driven low (R370). -/
def State.aliveLow (s : State) : State := s.when (!s.flag FCO_KASTAT_RUN && s.flag FCO_STAT_ALIVE) fun s => s.setFld FCO_STAT_ALIVE 0

/-- Channel state in the classifier (FCO_BKTnnn.CSTATE). -/
def csIdle : Nat := 0
def csCool : Nat := 1
def csHold : Nat := 2
def csWaitdec : Nat := 3
def csRetired : Nat := 4

/-- B[c] takes a value; the forgiveness period runs from its last change (R362). -/
def State.setBucket (s : State) (c b : Nat) : State :=
  if s.fld FCO_BKT_B c = b then s
  else (s.setFld FCO_BKT_B b c).setCls c { s.clsOf c with changedAt := s.now }

/-- The number of channels retired, as FCO_STAT shows it. -/
def State.retireCount (s : State) : Nat := ((List.range 128).filter fun c => s.bankBit FCO_RET c).length

/-- Retirement of a channel by a source (R363, R200, R157): the pad's fault gives way to it, and the Husk sees it in the TCLK after (R371). -/
def State.retire (s : State) (c src : Nat) : State :=
  if s.retired c then s
  else
    let s := (s.setBankBit FCO_RET c true).setFld FCO_BKT_CSTATE csRetired c
    let s := s.setBankBit FCO_RREQ c false
    let s := s.setAsk fnRetry c none
    let s := (s.when (!s.flag PAD_TEST_START c) fun s => s.padState c padRetired).setFld PAD_STAT_CAUSE 0 c
    let s := s.setPd c { s.pd c with passOk := false, testOk := false, testFrom := padRetired }
    let s := (s.bump FCO_CNT_RETIRES).cause .fco FCO_INTST_RETIRE
    let s := (s.huskCheck c (s.now + 1)).retireSched c
    s.logOther 2 src

/-- Start a cool-down with a fresh token (R362); a request that still awaits its decision holds none any longer (R365). A pending mode change of FN_RETRY switches the instance here (R35).
(DEDUCED: log 54.) -/
def State.startCool (s : State) (c : Nat) : State :=
  let s := ((s.switchInst fnRetry c).setBankBit FCO_RREQ c false).setAsk fnRetry c none
  (s.setFld FCO_BKT_CSTATE csCool c).setCls c { s.clsOf c with coolEnd := s.now + s.fld FCO_CLS0_CD * 10 * usTclk }

/-- The budget of a channel is spent (R362). -/
def State.spent (s : State) (c : Nat) : Bool :=
  decide (s.fld FCO_CLS1_RETIRE_AT ≤ s.fld FCO_BKT_B c) || decide (s.fld FCO_CLS1_RETRY_MAX ≤ s.fld FCO_BKT_RC c)

/-- The first part of upset(c) of R362: the bucket. `therm` says whether the cause is THERMAL. -/
def State.upsetCount (s : State) (c : Nat) (therm : Bool) : State :=
  let s := s.setCls c { s.clsOf c with hot := therm }
  if s.retired c || decide (s.fld FCO_SRC_SEV (256 + c) ≤ 2) then s else s.setBucket c (min 15 (s.fld FCO_BKT_B c + 1))

/-- The second part of upset(c): retirement or a cool-down. (DEDUCED: log 54.) -/
def State.upsetAct (s : State) (c : Nat) : State :=
  if s.retired c then s
  else if s.fld FCO_SRC_SEV (256 + c) ≤ 2 || s.spent c then s.retire c (256 + c)
  else s.startCool c

/-- retry(c) of R362 with the pad action of R199: the fault latch clears and the pad returns to NORMAL at the inactive
level, one under test when its test is over. -/
def State.retry (s : State) (c : Nat) : State :=
  let s := (if s.fld PAD_STAT_STATE c == padTest then s.setPd c { s.pd c with testFrom := padNormal } else s.padState c padNormal).setFld PAD_STAT_CAUSE 0 c
  let s := (s.setFld FCO_BKT_CSTATE csIdle c).setFld FCO_BKT_RC (min 15 (s.fld FCO_BKT_RC c + 1)) c
  (s.setCls c { s.clsOf c with retryAt := s.now }).logCls c 1

/-- fail(c) of R362. -/
def State.failRetry (s : State) (c : Nat) : State :=
  let s := s.setBucket c (min 15 (s.fld FCO_BKT_B c + 1))
  let s := s.setFld FCO_BKT_RC (min 15 (s.fld FCO_BKT_RC c + 1)) c
  if s.spent c then s.retire c (256 + c) else s.startCool c

/-- The collector handles one raise (R356, R357). A latch reaches the Husks in the TCLK after it is set (R371). -/
def State.collect (s : State) (r : Raise) : State :=
  if srcReserved r.src then s
  else
    let sev := s.fld FCO_SRC_SEV r.src
    let s := s.setFco { s.fco with raisedAt := tput none s.fco.raisedAt r.src (some s.now) }
    if sev == 7 then s
    else
      let f := s.fco
      let s := s.setFco { f with counts := tput 0 f.counts r.src (tget 0 f.counts r.src + 1), data := tput 0 f.data r.src r.data }
      let s := s.hwBank FCO_PEND r.src
      let act := s.react r
      let s :=
        if act == 0 then (s.setLatch 16 r.src).huskCheckAll (List.range 128) (s.now + 1)
        else if act == 1 then
          let gs := (List.range 16).filter fun g => s.groups r / 2 ^ g % 2 == 1
          (s.each gs fun s g => s.setLatch g r.src).huskCheckAll (gs.flatMap fun g => (List.range 8).map (8 * g + ·)) (s.now + 1)
        else s
      let s :=
        if act ≤ 3 then s.cause .fco FCO_INTST_URGENT
        else if act == 4 then s.cause .fco FCO_INTST_NORMAL
        else s
      let s := match r.channel with
        | some c => s.when r.isPad fun s => s.upsetCount c (r.data % 256 == 5)
        | none => s
      let s := s.when (decide (sev ≤ 5)) fun s => s.logFault 0 act r.src (s.recData r.src)
      let s :=
        match r.channel with
        | none => s
        | some c => if r.isPad then s.upsetAct c else s.when (decide (act ≤ 2)) fun s => s.retire c r.src
      s.aliveUpdate

/-- Put a raise into a list in ascending source number, behind its equals (R357). -/
def insertRaise (r : Raise) : List Raise → List Raise
  | [] => [r]
  | q :: l => if r.src < q.src then r :: q :: l else q :: insertRaise r l

/-- Raises in the order in which they enter the log. -/
def sortRaises (l : List Raise) : List Raise := l.foldl (fun acc r => insertRaise r acc) []

/-- FAULT_N is low (R368): a latch is set, a raised source has a severity at most FNSEV, the image load has failed, or the
device is in reset. (DEDUCED: log 52.) -/
def State.faultNLow (s : State) : Bool :=
  s.flag FCO_GSAFE_ALL || s.fld FCO_GSAFE_GRP != 0
    || s.fld IMG_STATUS_STATE == 3 || s.fld IMG_STATUS_STATE == 0 || s.fld IMG_STATUS_STATE == 1
    || (List.range 512).any fun k =>
        s.bankBit FCO_PEND k && decide (s.fld FCO_SRC_SEV k ≤ s.fld FCO_CFG_FNSEV)

/-- A level source becomes active (R358). -/
def State.setActive (s : State) (src : Nat) (b : Bool) : State := s.setBankBit FCO_ACT src b

end Sys2Proof.Machine
end

