-- ==== Sys2Proof/Machine/CalOps.lean ====
section
/-! DEFINITION. The values of the calibration store in force (R400, R402, R403). -/

namespace Sys2Proof.Machine

/-- The neutral default of a word of the store (R400). (DESIGN CHOICE: log 9.) -/
def calNeutral (w : Nat) : Nat :=
  let k := w / 128
  let i := w % 128
  if k < 4 then (if 6 ≤ i ∧ i ≤ 10 then 0x8000 else 0)
  else if k = 4 then (if i = 2 ∨ i = 4 then 0x8000 else 0)
  else if k = 6 then (if 1 ≤ i ∧ i ≤ 16 then 0x8000 else 0)
  else if k = 7 then (if i = 1 then 0x2FAF0800 else 0)
  else 0

/-- Group k is in force from the store. (DESIGN CHOICE: log 9.) -/
def State.calGroup (s : State) (k : Nat) : Bool := s.calUse / 2 ^ k % 2 == 1

/-- Value word i of group k in force. -/
def State.calWord (s : State) (k i : Nat) : Nat :=
  if s.calGroup k then (tget 0 s.calForce (128 * k + i)).toNat else calNeutral (128 * k + i)

/-- CALOFS[g] of converter a (R217). -/
def State.calOfs (s : State) (a g : Nat) : Int := signedOf 16 (s.calWord a (1 + g) % 65536)

/-- GT[g] of converter a, 1.15 (R205). -/
def State.calGt (s : State) (a g : Nat) : Nat := s.calWord a (6 + g) % 65536

/-- The offsets in force of converter a take the stored ones (R217). (DESIGN CHOICE: log 9.) -/
def State.loadOfs (s : State) (a : Nat) : State := s.each (List.range 5) fun s g => s.setFld ADC_OFS (unsignedOf 16 (s.calOfs a g)) a g

end Sys2Proof.Machine
end

