-- ==== Sys2Proof/Machine/Crypto.lean ====
section
/-! DEFINITION. The cryptographic functions that the spec names by their standards: SHA-256 and HMAC-SHA-256 (R43, R314), CRC-32 of IEEE 802.3 (R401),
the AES-256 key wrap of RFC 3394 (R312) and ECDSA on NIST P-256 (R43, R306). Messages are lists of byte values. -/

namespace Sys2Proof.Machine

/-! SHA-256 -/

/-- The round constants of SHA-256. -/
def shaK : List Nat :=
   [0x428A2F98, 0x71374491, 0xB5C0FBCF, 0xE9B5DBA5, 0x3956C25B, 0x59F111F1, 0x923F82A4, 0xAB1C5ED5] ++
   [0xD807AA98, 0x12835B01, 0x243185BE, 0x550C7DC3, 0x72BE5D74, 0x80DEB1FE, 0x9BDC06A7, 0xC19BF174] ++
   [0xE49B69C1, 0xEFBE4786, 0x0FC19DC6, 0x240CA1CC, 0x2DE92C6F, 0x4A7484AA, 0x5CB0A9DC, 0x76F988DA] ++
   [0x983E5152, 0xA831C66D, 0xB00327C8, 0xBF597FC7, 0xC6E00BF3, 0xD5A79147, 0x06CA6351, 0x14292967] ++
   [0x27B70A85, 0x2E1B2138, 0x4D2C6DFC, 0x53380D13, 0x650A7354, 0x766A0ABB, 0x81C2C92E, 0x92722C85] ++
   [0xA2BFE8A1, 0xA81A664B, 0xC24B8B70, 0xC76C51A3, 0xD192E819, 0xD6990624, 0xF40E3585, 0x106AA070] ++
   [0x19A4C116, 0x1E376C08, 0x2748774C, 0x34B0BCB5, 0x391C0CB3, 0x4ED8AA4A, 0x5B9CCA4F, 0x682E6FF3] ++
   [0x748F82EE, 0x78A5636F, 0x84C87814, 0x8CC70208, 0x90BEFFFA, 0xA4506CEB, 0xBEF9A3F7, 0xC67178F2]

/-- The initial hash value. -/
def shaH : List Nat :=
   [0x6A09E667, 0xBB67AE85, 0x3C6EF372, 0xA54FF53A, 0x510E527F, 0x9B05688C, 0x1F83D9AB, 0x5BE0CD19]

/-- Rotation to the right in 32 bits. -/
def rotr (x n : Nat) : Nat := (x / 2 ^ n + x * 2 ^ (32 - n)) % 2 ^ 32

/-- The message schedule, newest word first, for a number of further words. -/
def shaSched : Nat → List Nat → List Nat
  | 0, w => w
  | k + 1, w =>
    let g (i : Nat) : Nat := w.getD i 0
    let s0 := rotr (g 14) 7 ^^^ rotr (g 14) 18 ^^^ (g 14 / 2 ^ 3)
    let s1 := rotr (g 1) 17 ^^^ rotr (g 1) 19 ^^^ (g 1 / 2 ^ 10)
    shaSched k ((s1 + g 6 + s0 + g 15) % 2 ^ 32 :: w)

/-- One round: the eight working words, with the constant and the schedule word. -/
def shaRound (v : List Nat) (kw : Nat) : List Nat :=
  match v with
  | [a, b, c, d, e, f, g, h] =>
    let s1 := rotr e 6 ^^^ rotr e 11 ^^^ rotr e 25
    let ch := (e &&& f) ^^^ ((0xFFFFFFFF ^^^ e) &&& g)
    let t1 := h + s1 + ch + kw
    let s0 := rotr a 2 ^^^ rotr a 13 ^^^ rotr a 22
    let maj := (a &&& b) ^^^ (a &&& c) ^^^ (b &&& c)
    [(t1 + s0 + maj) % 2 ^ 32, a, b, c, (d + t1) % 2 ^ 32, e, f, g]
  | v => v

/-- The 32-bit words of a block, most significant byte first. -/
def words32 : List Nat → List Nat
  | a :: b :: c :: d :: l => (((a * 256 + b) * 256 + c) * 256 + d) :: words32 l
  | _ => []

/-- One block of 64 bytes. -/
def shaBlock (h blk : List Nat) : List Nat :=
  let w := (shaSched 48 (words32 blk).reverse).reverse
  let v := (List.zipWith (fun k x => k + x) shaK w).foldl shaRound h
  List.zipWith (fun a b => (a + b) % 2 ^ 32) h v

/-- A list cut into pieces of n. -/
def pieces {α : Type} (n : Nat) : Nat → List α → List (List α)
  | 0, _ => []
  | k + 1, l => if l.isEmpty then [] else l.take n :: pieces n k (l.drop n)

/-- A message with its padding. -/
def shaPad (m : List Nat) : List Nat :=
  m ++ [0x80] ++ List.replicate ((119 - m.length % 64) % 64) 0 ++ beBytes 8 (8 * m.length)

/-- SHA-256 of a message: 32 bytes. -/
def sha256 (m : List Nat) : List Nat :=
  let p := shaPad m
  ((pieces 64 (p.length / 64) p).foldl shaBlock shaH).flatMap (beBytes 4)

/-- HMAC-SHA-256 of a message under a 32-byte key. -/
def hmac256 (key : List Nat) (m : List Nat) : List Nat :=
  let k := key ++ List.replicate (64 - key.length) 0
  sha256 (k.map (0x5C ^^^ ·) ++ sha256 (k.map (0x36 ^^^ ·) ++ m))

/-! CRC-32 of IEEE 802.3 -/

/-- One bit of the CRC register. -/
def crcBit (c : Nat) : Nat := if c % 2 = 1 then (c / 2) ^^^ 0xEDB88320 else c / 2

/-- One byte into the CRC register. -/
def crcByte (c b : Nat) : Nat := (List.range 8).foldl (fun c _ => crcBit c) (c ^^^ b)

/-- CRC-32 of a message. -/
def crc32 (m : List Nat) : Nat := m.foldl crcByte 0xFFFFFFFF ^^^ 0xFFFFFFFF

/-! AES-256, decryption -/

/-- The S-box and its inverse. -/
def aesS : List Nat :=
   [99, 124, 119, 123, 242, 107, 111, 197, 48, 1, 103, 43, 254, 215, 171, 118] ++
   [202, 130, 201, 125, 250, 89, 71, 240, 173, 212, 162, 175, 156, 164, 114, 192] ++
   [183, 253, 147, 38, 54, 63, 247, 204, 52, 165, 229, 241, 113, 216, 49, 21] ++
   [4, 199, 35, 195, 24, 150, 5, 154, 7, 18, 128, 226, 235, 39, 178, 117] ++
   [9, 131, 44, 26, 27, 110, 90, 160, 82, 59, 214, 179, 41, 227, 47, 132] ++
   [83, 209, 0, 237, 32, 252, 177, 91, 106, 203, 190, 57, 74, 76, 88, 207] ++
   [208, 239, 170, 251, 67, 77, 51, 133, 69, 249, 2, 127, 80, 60, 159, 168] ++
   [81, 163, 64, 143, 146, 157, 56, 245, 188, 182, 218, 33, 16, 255, 243, 210] ++
   [205, 12, 19, 236, 95, 151, 68, 23, 196, 167, 126, 61, 100, 93, 25, 115] ++
   [96, 129, 79, 220, 34, 42, 144, 136, 70, 238, 184, 20, 222, 94, 11, 219] ++
   [224, 50, 58, 10, 73, 6, 36, 92, 194, 211, 172, 98, 145, 149, 228, 121] ++
   [231, 200, 55, 109, 141, 213, 78, 169, 108, 86, 244, 234, 101, 122, 174, 8] ++
   [186, 120, 37, 46, 28, 166, 180, 198, 232, 221, 116, 31, 75, 189, 139, 138] ++
   [112, 62, 181, 102, 72, 3, 246, 14, 97, 53, 87, 185, 134, 193, 29, 158] ++
   [225, 248, 152, 17, 105, 217, 142, 148, 155, 30, 135, 233, 206, 85, 40, 223] ++
   [140, 161, 137, 13, 191, 230, 66, 104, 65, 153, 45, 15, 176, 84, 187, 22]
def aesSi : List Nat :=
   [82, 9, 106, 213, 48, 54, 165, 56, 191, 64, 163, 158, 129, 243, 215, 251] ++
   [124, 227, 57, 130, 155, 47, 255, 135, 52, 142, 67, 68, 196, 222, 233, 203] ++
   [84, 123, 148, 50, 166, 194, 35, 61, 238, 76, 149, 11, 66, 250, 195, 78] ++
   [8, 46, 161, 102, 40, 217, 36, 178, 118, 91, 162, 73, 109, 139, 209, 37] ++
   [114, 248, 246, 100, 134, 104, 152, 22, 212, 164, 92, 204, 93, 101, 182, 146] ++
   [108, 112, 72, 80, 253, 237, 185, 218, 94, 21, 70, 87, 167, 141, 157, 132] ++
   [144, 216, 171, 0, 140, 188, 211, 10, 247, 228, 88, 5, 184, 179, 69, 6] ++
   [208, 44, 30, 143, 202, 63, 15, 2, 193, 175, 189, 3, 1, 19, 138, 107] ++
   [58, 145, 17, 65, 79, 103, 220, 234, 151, 242, 207, 206, 240, 180, 230, 115] ++
   [150, 172, 116, 34, 231, 173, 53, 133, 226, 249, 55, 232, 28, 117, 223, 110] ++
   [71, 241, 26, 113, 29, 41, 197, 137, 111, 183, 98, 14, 170, 24, 190, 27] ++
   [252, 86, 62, 75, 198, 210, 121, 32, 154, 219, 192, 254, 120, 205, 90, 244] ++
   [31, 221, 168, 51, 136, 7, 199, 49, 177, 18, 16, 89, 39, 128, 236, 95] ++
   [96, 81, 127, 169, 25, 181, 74, 13, 45, 229, 122, 159, 147, 201, 156, 239] ++
   [160, 224, 59, 77, 174, 42, 245, 176, 200, 235, 187, 60, 131, 83, 153, 97] ++
   [23, 43, 4, 126, 186, 119, 214, 38, 225, 105, 20, 99, 85, 33, 12, 125]

/-- Multiplication by x in GF(2^8). -/
def gfX (a : Nat) : Nat := if 128 ≤ a then (2 * a) ^^^ 0x11B else 2 * a

/-- Multiplication in GF(2^8), by a factor below 16. -/
def gfMul (a b : Nat) : Nat :=
  let t (i x : Nat) : Nat := if b / 2 ^ i % 2 = 1 then x else 0
  t 0 a ^^^ t 1 (gfX a) ^^^ t 2 (gfX (gfX a)) ^^^ t 3 (gfX (gfX (gfX a)))

/-- Bytewise exclusive or. -/
def xorBytes (a b : List Nat) : List Nat := List.zipWith (· ^^^ ·) a b

/-- The key schedule, newest word (four bytes) first; i is the number of the next word. -/
def aesKeys : Nat → Nat → Nat → List (List Nat) → List (List Nat)
  | 0, _, _, w => w
  | n + 1, i, rcon, w =>
    let t := w.headD []
    let sub (l : List Nat) : List Nat := l.map (aesS.getD · 0)
    let t :=
      if i % 8 = 0 then xorBytes (sub (t.drop 1 ++ t.take 1)) [rcon, 0, 0, 0]
      else if i % 8 = 4 then sub t
      else t
    aesKeys n (i + 1) (if i % 8 = 0 then gfX rcon else rcon) (xorBytes (w.getD 7 []) t :: w)

/-- The fifteen round keys of a 32-byte key. -/
def aesRoundKeys (key : List Nat) : List (List Nat) :=
  pieces 16 15 (aesKeys 52 8 1 (pieces 4 8 key).reverse).reverse.flatten

/-- Inverse ShiftRows and SubBytes of a state held column by column. -/
def aesInvSub (s : List Nat) : List Nat :=
  (List.range 16).map fun i => aesSi.getD (s.getD ((i + 12 * (i % 4)) % 16) 0) 0

/-- Inverse MixColumns. -/
def aesInvMix (s : List Nat) : List Nat :=
  (List.range 16).map fun i =>
    let g (k : Nat) : Nat := s.getD (i / 4 * 4 + (i + k) % 4) 0
    gfMul (g 0) 14 ^^^ gfMul (g 1) 11 ^^^ gfMul (g 2) 13 ^^^ gfMul (g 3) 9

/-- AES-256 decryption of a block of 16 bytes under its round keys. -/
def aesDec (ks : List (List Nat)) (b : List Nat) : List Nat :=
  match ks.reverse with
  | [] => b
  | k :: rest =>
    (rest.zip (List.range 14)).foldl (fun s (k, i) =>
      let s := xorBytes (aesInvSub s) k
      if i = 13 then s else aesInvMix s) (xorBytes b k)

/-- Key unwrap of RFC 3394: the key that a wrapped block holds, or nothing where the integrity check fails. -/
def keyUnwrap (kek blk : List Nat) : Option (List Nat) :=
  let ks := aesRoundKeys kek
  let n := blk.length / 8 - 1
  let step (st : List Nat × List (List Nat)) (t : Nat) : List Nat × List (List Nat) :=
    let i := (t - 1) % n
    let d := aesDec ks (xorBytes st.1 (beBytes 8 t) ++ st.2.getD i [])
    (d.take 8, st.2.set i (d.drop 8))
  let r := ((List.range (6 * n)).reverse.map (· + 1)).foldl step (blk.take 8, pieces 8 n (blk.drop 8))
  if r.1 = List.replicate 8 0xA6 then some r.2.flatten else none

/-! ECDSA on NIST P-256 -/

/-- Field prime, group order, coefficient b and base point of P-256. -/
def p256P : Nat := 2 ^ 256 - 2 ^ 224 + 2 ^ 192 + 2 ^ 96 - 1
def p256N : Nat := 0xFFFFFFFF00000000FFFFFFFFFFFFFFFFBCE6FAADA7179E84F3B9CAC2FC632551
def p256B : Nat := 0x5AC635D8AA3A93E7B3EBBD55769886BC651D06B0CC53B0F63BCE3C3E27D2604B
def p256Gx : Nat := 0x6B17D1F2E12C4247F8BCE6E563A440F277037D812DEB33A0F4A13945D898C296
def p256Gy : Nat := 0x4FE342E2FE1A7F9B8EE7EB4A7C0F9E162BCE33576B315ECECBB6406837BF51F5

/-- Power modulo m, by the bits of the exponent. -/
def powMod (m : Nat) : Nat → Nat → Nat → Nat
  | 0, _, _ => 1 % m
  | k + 1, b, e =>
    let r := powMod m k (b * b % m) (e / 2)
    if e % 2 = 1 then b * r % m else r

/-- Inverse modulo a prime. -/
def invMod (m a : Nat) : Nat := powMod m 256 (a % m) (m - 2)

/-- A point of the curve in Jacobian coordinates: (X, Y, Z) with Z not 0 is x = X / Z^2 and y = Y / Z^3, and Z = 0 is the point at infinity. -/
abbrev Pt := Nat × Nat × Nat

/-- Difference modulo the field prime. -/
def subP (a b : Nat) : Nat := (a + (p256P - b)) % p256P

/-- Twice a point. -/
def ptDbl (p : Pt) : Pt :=
  let (x, y, z) := p
  let m := p256P
  let z2 := z * z % m
  let y2 := y * y % m
  let b := x * y2 % m
  let a := 3 * subP x z2 * (x + z2) % m
  let x3 := subP (a * a % m) (8 * b % m)
  (x3, subP (a * subP (4 * b % m) x3 % m) (8 * (y2 * y2) % m), 2 * y * z % m)

/-- Addition of points. -/
def ptAdd (p q : Pt) : Pt :=
  let (x1, y1, z1) := p
  let (x2, y2, z2) := q
  let m := p256P
  if z1 = 0 then q
  else if z2 = 0 then p
  else
    let zz1 := z1 * z1 % m
    let zz2 := z2 * z2 % m
    let u1 := x1 * zz2 % m
    let s1 := y1 * (z2 * zz2) % m
    let h := subP (x2 * zz1 % m) u1
    let r := subP (y2 * (z1 * zz1) % m) s1
    if h = 0 then (if r = 0 then ptDbl p else (1, 1, 0))
    else
      let h2 := h * h % m
      let h3 := h * h2 % m
      let v := u1 * h2 % m
      let x3 := subP (r * r % m) ((h3 + 2 * v) % m)
      (x3, subP (r * subP v x3 % m) (s1 * h3 % m), h * (z1 * z2) % m)

/-- Multiple of a point, by the bits of the factor. -/
def ptMul : Nat → Nat → Pt → Pt
  | 0, _, _ => (1, 1, 0)
  | k + 1, e, p =>
    let r := ptMul k (e / 2) (ptDbl p)
    if e % 2 = 1 then ptAdd p r else r

/-- A pair of coordinates lies on the curve. -/
def onCurve (x y : Nat) : Bool :=
  let m := p256P
  decide (x < m) && decide (y < m) && decide (y * y % m = (x * x * x + (m - 3) * x + p256B) % m)

/-- ECDSA verification of (r, s) over a 32-byte digest under the public key (x, y). -/
def ecdsaOk (x y r s : Nat) (digest : List Nat) : Bool :=
  let n := p256N
  if !onCurve x y || r == 0 || s == 0 || decide (n ≤ r) || decide (n ≤ s) then false
  else
    let w := invMod n s
    let u1 := beNat digest * w % n
    let u2 := r * w % n
    let (x1, _, z1) := ptAdd (ptMul 256 u1 (p256Gx, p256Gy, 1)) (ptMul 256 u2 (x, y, 1))
    let i := invMod p256P z1
    z1 != 0 && x1 * (i * i) % p256P % n == r

end Sys2Proof.Machine
end

