-- ==== Sys2Proof/Machine/JournalOps.lean ====
section
/-! DEFINITION. Records, their layout (R335-R339), admission to the streams and the gap accumulator (R346, R347). -/

namespace Sys2Proof.Machine

/-- Stream states (JSnn_CNT1.STATE). -/
def jsOff : Nat := 0
def jsUp : Nat := 1
def jsDraining : Nat := 2
def jsDown : Nat := 3

def State.jsState (s : State) (j : Nat) : Nat := s.fld JS_CNT1_STATE j

/-- Record types of class L (R338); every other type is of class H. -/
def recClassL (ty : Nat) : Bool := ty == 0x02 || ty == 0x03 || ty == 0x04 || ty == 0x08

/-- Length of a record in 32-byte units: header, then the body padded to a multiple of 32 (R335). -/
def Rec.units (r : Rec) : Nat := 1 + (r.body.length + 31) / 32

/-- RFLAGS of a record (R335). -/
def Rec.rflags (r : Rec) : Nat :=
  (if r.nobody then 1 else 0) + (if r.hostbody then 2 else 0) + (if r.cont then 4 else 0) + (if r.nosync then 8 else 0)

/-- The commit word (R336). -/
def commitWord (seq units ty : Nat) : Nat :=
  seq % 2 ^ 44 * 2 ^ 20 + units % 256 * 2 ^ 12 + ty % 16 * 2 ^ 8 + 0xA5

/-- The bytes of a record after its commit word (R335). The body of a PAD record stands for the rest of the ring (R342), and its BLEN is 0. -/
def Rec.tail (r : Rec) : List Nat :=
  leBytes 8 r.tb ++ leBytes 4 r.aw ++ leBytes 2 r.src ++ [r.ty, r.rflags] ++ leBytes 2 r.origin ++ [r.trk, 0]
    ++ leBytes 2 (if r.ty = 0 then 0 else r.body.length) ++ [0, 0] ++ r.body ++ List.replicate (r.units * 32 - 32 - r.body.length) 0

/-- The stream that a type is routed to (R346). -/
def State.route (s : State) (ty : Nat) : Option Nat :=
  let b := bitsOf (s.rd (JRN_RTE.addr (ty / 4))) (8 * (ty % 4)) 8
  if b / 128 % 2 = 1 then some (b % 16) else none

/-- Body bytes held in the FIFOs of all streams (R346). -/
def State.bodyUse (s : State) : Nat :=
  (s.strm.map fun p => (p.2.fifo.map fun q => q.r.body.length).sum).sum

/-- Bytes of the shared body buffer (R346). -/
def bodyBuffer : Nat := 262144

/-- A record is lost (R347): the accumulator opens at the first loss, with JSnn_LOSS and INTST.LOSS; the record counts by
type. (DEDUCED: log 50.) -/
def State.loseRec (s : State) (j ty : Nat) : State :=
  let x := s.str j
  let g := x.gap.getD ⟨0, 0, 0, s.now, s.now, []⟩
  let first := g.lost == 0
  let g := { g with lost := g.lost + 1, first := if first then s.now else g.first, last := s.now,
                    byType := tput 0 g.byType ty (min 65535 (tget 0 g.byType ty + 1)) }
  let s := (s.setStr j { x with gap := some g }).bump JS_CNT0 j
  if first then (s.raiseFault (96 + j)).cause .js JS_INTST_LOSS j else s

/-- The GAP record of an accumulator, stamped at its placement (R339, R347). -/
def State.gapRec (s : State) (g : Gap) : Rec :=
  s.mkRec 0x01 0 7 noOrigin
    (leBytes 4 g.lost ++ leBytes 4 g.abSeq ++ leBytes 4 g.abCnt ++ leBytes 4 0 ++ leBytes 8 g.first ++ leBytes 8 g.last
      ++ (List.range 16).flatMap fun t => leBytes 2 (tget 0 g.byType t))

/-- Of two records of one TCLK the one with the lower TYPE comes first, then the one with the lower SRC (R346). -/
def Rec.before (r q : Rec) : Bool := decide (r.ty < q.ty) || (r.ty == q.ty && decide (r.src < q.src))

/-- A record takes its place in a FIFO: within one TCLK in ascending TYPE, then SRC (R346), though behind a record that the host is assembling and
behind a GAP record. -/
def State.place (s : State) (j : Nat) (r : Rec) : List QRec :=
  let l := (s.str j).fifo
  let n := match s.jrnReq with | some q => if q.stream = j then 1 else 0 | none => 0
  l.take n ++ insertTail (fun q => q.at_ == s.now && q.r.ty != 1 && r.before q.r) ⟨r, s.now⟩ (l.drop n)

/-- A record reaches an UP stream: accepted, behind a GAP record where the accumulator is open, or lost (R346, R347). -/
def State.acceptUp (s : State) (j : Nat) (r : Rec) : State :=
  let x := s.str j
  let n := x.fifo.length
  let used := s.bodyUse
  let fits :=
    if recClassL r.ty then decide (n < 56) && decide (used + 16384 ≤ bodyBuffer)
    else decide (n < 64) && decide (used + r.body.length ≤ bodyBuffer)
  if !fits then s.loseRec j r.ty
  else
    match x.gap with
    | none => s.setStr j { x with fifo := s.place j r }
    | some g =>
      let gr := s.gapRec g
      if n + 2 ≤ 64 ∧ used + gr.body.length + r.body.length ≤ bodyBuffer then
        s.setStr j { x with fifo := x.fifo ++ [⟨gr, s.now⟩, ⟨r, s.now⟩], gap := none }
      else s.loseRec j r.ty

/-- The fate of a new record (R346). With JRN_CFG.EN = 0 the journal is not in use and keeps no record. -/
def State.acceptRec (s : State) (r : Rec) : State :=
  if !s.flag JRN_CFG_EN then s
  else
    match s.route r.ty with
    | none => s.bump JRN_CNT_NOSTREAM
    | some j =>
      let st := s.jsState j
      if st == jsUp then s.acceptUp j r
      else if st == jsDown then s.loseRec j r.ty
      else s.bump JRN_CNT_NOSTREAM

/-- Put a record into a list in ascending TYPE, then ascending SRC, behind its equals (R346). -/
def insertRec (r : Rec) : List Rec → List Rec
  | [] => [r]
  | q :: l => if r.before q then r :: q :: l else q :: insertRec r l

/-- Records in the order in which they are accepted within one TCLK. -/
def sortRecs (l : List Rec) : List Rec := l.foldl (fun acc r => insertRec r acc) []

end Sys2Proof.Machine
end

