-- ==== Sys2Proof/Machine/StreamOps.lean ====
section
/-! DEFINITION. The journal engine's shared operations (R337-R353): room in the ring, the writes of a record over PCIe and Yunae, abandonment, the
host-assisted assembly of TRACE records, and the control of a stream. -/

namespace Sys2Proof.Machine

/-- Send something out of the part. -/
def State.send (s : State) (x : Sent) : State := { s with sent := x :: s.sent }

/-- Ring size of a stream (R341). -/
def State.ringSize (s : State) (j : Nat) : Nat := 2 ^ s.fld JS_CFG_S j

/-- STMO of a stream in TCLK. -/
def State.stmo (s : State) (j : Nat) : Nat := s.fld JS_TMO_STMO j * usTclk

/-- Bytes that a record of `len` bytes takes at count `h`, with the PAD before it (R342): the PAD's length, 0 with none. -/
def State.padLen (s : State) (j h len : Nat) : Nat :=
  let r := s.ringSize j
  if r < h % r + len then r - h % r else 0

/-- The head record has room (R343): under WRAP always. -/
def State.hasRoom (s : State) (j : Nat) (r : Rec) : Bool :=
  let h := s.wide JS_HEADC j
  let len := 32 * r.units
  let spare := if r.ty = 1 then 8 else 192
  s.flag JS_CFG_POLICY j || decide (h + s.padLen j h len + len + spare ≤ s.wide JS_RELC j + s.ringSize j)

/-- What a record puts into remote memory (R337, R344), by ring offset: invalidations of older commit words, the bytes after its commit word with
the forward zero, and the commit word. -/
structure RecOut where
  inval : List Nat
  off : Nat
  tail : List Nat
  zero : Option Nat
  commit : Nat
  seq : Nat
  deriving DecidableEq, Repr

/-- HEADC − RELC reaches the watermark (R345). (DEDUCED: log 50.) -/
def State.waterCheck (s : State) (j old : Nat) : State :=
  let wm := s.wide JS_WM j
  let lag := s.wide JS_HEADC j - s.wide JS_RELC j
  if old < wm ∧ wm ≤ lag then s.cause .js JS_INTST_WATER j else s

/-- Lay a record at the head of its ring (R336, R337, R341, R344): its writes, and the state with SEQ, HEADC and TAILC moved on. -/
def State.layRec (s : State) (j : Nat) (r : Rec) : RecOut × State :=
  let size := s.ringSize j
  let h := s.wide JS_HEADC j
  let seq := s.wide JS_SEQ j
  let h' := h + 32 * r.units
  let x := s.str j
  let old := x.starts.takeWhile fun c => decide (c + size < h' + 8)
  let rest := x.starts.drop old.length ++ [h]
  let wrap := s.flag JS_CFG_POLICY j
  let tail := if old = [] then s.wide JS_TAILC j else rest.headD h
  let lag := h - s.wide JS_RELC j
  let s := s.setStr j { x with starts := rest }
  let s := ((s.setWide JS_HEADC h' j).setWide JS_SEQ ((seq + 1) % 2 ^ 44) j).setWide JS_TAILC tail j
  let s := s.when (wrap && old != [] && decide (s.wide JS_RELC j < tail)) fun s => (s.bump JS_CNT1_OVERRUN j).cause .js JS_INTST_OVERRUN j
  let s := s.waterCheck j lag
  let next := h' % size
  (⟨if wrap then old.map (· % size) else [], h % size, r.tail ++ (if next = 0 then [] else List.replicate 8 0),
    if next = 0 then some 0 else none, commitWord seq r.units r.ty, seq⟩, s)

/-- Posted writes of at most 256 bytes in ascending address (R348). -/
def State.pcieWrite (s : State) (addr : Nat) (data : List Nat) : State :=
  let ps := pieces 256 (data.length / 256 + 1) data
  (s.each (ps.zip (List.range ps.length)) fun s p => s.send (.pcie (addr + 256 * p.2) p.1))

/-- The writes of a record over PCIe (R337, R344, R348): invalidations, the record without its commit word, the commit word. -/
def State.pcieRec (s : State) (j : Nat) (o : RecOut) : State :=
  let base := s.wide JRN_PCIBASE + s.wide JS_BASE j
  let z := List.replicate 8 0
  let s := s.each o.inval fun s a => s.send (.pcie (base + a) z)
  let s := s.pcieWrite (base + o.off + 8) o.tail
  let s := match o.zero with
    | some a => s.send (.pcie (base + a) z)
    | none => s
  s.send (.pcie (base + o.off) (leBytes 8 o.commit))

/-! Yunae (R349, R350) -/

/-- Frame kinds. -/
def yData : Nat := 1
def yCommit : Nat := 2
def yProbe : Nat := 3

/-- The order of frame sequence numbers, modulo 2^32. -/
def fseqLe (a b : Nat) : Bool := decide ((b + 2 ^ 32 - a % 2 ^ 32) % 2 ^ 32 < 2 ^ 31)

/-- The bytes of a frame, without its tag. (DESIGN CHOICE: log 51.) -/
def State.yBytes (s : State) (j : Nat) (f : YFrame) : List Nat :=
  [0x59, 1, f.kind, j] ++ beBytes 2 (s.fld JS_CFG_CTX j) ++ beBytes 2 f.data.length ++ beBytes 4 f.fseq ++ beBytes 4 f.rseq ++ beBytes 8 f.addr ++ f.data

/-- Send a frame to the stream's destination, tagged with the key of its context. Without a key the tag is free. (DEDUCED: log 50.) -/
def State.ySend (s : State) (j : Nat) (f : YFrame) : State :=
  let k := s.fld JS_CFG_YDST j
  let a (i : Nat) : Nat := (s.rd (JRN_YDSTA.addr k i)).toNat
  let ip := if s.flag JRN_YDSTCFG_V6 k then ((a 0 * 2 ^ 32 + a 1) * 2 ^ 32 + a 2) * 2 ^ 32 + a 3 else a 3
  let b := s.yBytes j f
  let (tag, s) : List Nat × State := match (tget {} s.gw (s.fld JS_CFG_CTX j)).key with
    | some key => ((hmac256 (beBytes 32 key) b).take 16, s)
    | none =>
      let (v, s) := s.fresh 128
      (beBytes 16 v, s)
  s.send (.udp (s.fld JRN_YDSTCFG_ETH k) ip (s.fld JRN_YDSTCFG_PORT k) (b ++ tag))

/-- The frames of a record in flight. -/
def State.yFrames (s : State) (j : Nat) (o : RecOut) : List YFrame :=
  let base := s.wide JS_BASE j
  let rs := o.seq % 2 ^ 32
  let z := List.replicate 8 0
  let ps := pieces 1408 (o.tail.length / 1408 + 1) o.tail
  o.inval.map (fun a => ⟨yData, 0, rs, base + a, z⟩)
    ++ (ps.zip (List.range ps.length)).map (fun p => ⟨yData, 0, rs, base + o.off + 8 + 1408 * p.2, p.1⟩)
    ++ (match o.zero with | some a => [⟨yData, 0, rs, base + a, z⟩] | none => [])

/-- A record goes in flight with the time of its acceptance. -/
def State.yFly (s : State) (j : Nat) (o : RecOut) (at_ : Nat) : State :=
  let x := s.str j
  let commit : YFrame := ⟨yCommit, 0, o.seq % 2 ^ 32, s.wide JS_BASE j + o.off, leBytes 8 o.commit⟩
  s.setStr j { x with flight := x.flight ++ [⟨o.seq, at_, none, s.yFrames j o, commit⟩] }

/-- The next frame that may be sent, and the flights after it: DATA in order, and a COMMIT once every DATA frame of its record is acknowledged. -/
def nextFrame (unacked : List (YFrame × Nat)) (fseq : Nat) : List Flight → Option (YFrame × List Flight)
  | [] => none
  | fl :: rest =>
    match fl.data with
    | f :: fs => some (f, { fl with data := fs } :: rest)
    | [] =>
      if fl.commitSent.isNone && !unacked.any (fun u => u.1.kind == yData && u.1.rseq == fl.seq % 2 ^ 32) then
        some (fl.commit, { fl with commitSent := some fseq } :: rest)
      else (nextFrame unacked fseq rest).map fun p => (p.1, fl :: p.2)

/-- Send frames while fewer than WIN are unacknowledged. -/
def State.yPump (s : State) (j : Nat) : Nat → State
  | 0 => s
  | k + 1 =>
    let x := s.str j
    if s.fld JS_CFG_WIN j ≤ x.unacked.length then s
    else
      match nextFrame x.unacked x.fseq x.flight with
      | none => s
      | some (f, fls) =>
        let f := { f with fseq := x.fseq }
        let s := s.setStr j { x with flight := fls, unacked := x.unacked ++ [(f, s.now)], fseq := (x.fseq + 1) % 2 ^ 32 }
        (s.ySend j f).yPump j k

/-- Frames sent at most in one go. -/
def yWin : Nat := 32

/-- The host request of R352 is withdrawn with its record. -/
def State.dropJreq (s : State) (j : Nat) : State :=
  match s.jrnReq with
  | some q => if q.stream = j then ({ s with jrnReq := none }.setFld JRN_HDEC_REQ 0).setAsk fnJrec 0 none else s
  | none => s

/-- An ABANDONED outcome (R350): every record in flight is abandoned, every FIFO record is lost, and the stream goes DOWN. A draining stream stays
DRAINING, since R353 lets it enter OFF. (DEDUCED: log 50.) -/
def State.abandon (s : State) (j : Nat) : State :=
  let x := s.str j
  let first := (x.flight.head?.map (·.seq)).getD 0
  let n := x.flight.length
  let g := x.gap.getD ⟨0, 0, 0, s.now, s.now, []⟩
  let g := { g with abSeq := if g.abCnt = 0 then first % 2 ^ 32 else g.abSeq, abCnt := g.abCnt + n }
  let s := s.setStr j { x with gap := some g, flight := [], unacked := [], fifo := [], resends := 0, probe := none, probeAt := s.now,
                               late := x.flight.filterMap (·.commitSent) }
  let s := s.each x.fifo fun s q => s.loseRec j q.r.ty
  let s := (s.dropJreq j).when (s.jsState j == jsUp) fun s => s.setFld JS_CNT1_STATE jsDown j
  (s.raiseFault (112 + j)).cause .js JS_INTST_DOWN j

/-! The head of the FIFO -/

/-- A TRACE record that the host may still assemble. -/
def Rec.unassembled (r : Rec) : Bool := r.ty == 2 && !r.nobody && !r.hostbody

/-- A TRACE record at the head of a FIFO raises the decision request of FN_JREC in host-assisted mode, one at a time (R352). -/
def State.jrecAsk (s : State) (j : Nat) : State :=
  match s.jrnReq, (s.str j).fifo with
  | none, q :: _ =>
    if s.hostMode fnJrec 0 && q.r.unassembled then
      let ns := leNat ((q.r.body.drop 2).take 2)
      let h := (s.jrnHandle + 1) % 256
      let s := { s with jrnReq := some ⟨j, h⟩, jrnHandle := h }
      let s := ((s.setFld JRN_HREQ_NS ns).setFld JRN_HREQ_SRC q.r.src).setFld JRN_HREQ_ENTRY (q.r.body.headD 0)
      let s := (s.setFld JRN_HDEC_REQ 1).setFld JRN_HDEC_HANDLE h
      (s.cause .jrn JRN_INTST_HREQ).request fnJrec 0
    else s
  | _, _ => s

/-- Every stream's head is looked at, lowest stream first. -/
def State.jrecScan (s : State) : State := s.each (List.range 16) fun s j => s.jrecAsk j

/-- The head record leaves the FIFO and is written, behind a PAD record where it would cross the ring end (R337, R342). The record boundary is the
switch point of FN_JREC (R35). -/
def State.putRec (s : State) (j : Nat) (q : QRec) : State :=
  let h := s.wide JS_HEADC j
  let pad := s.padLen j h (32 * q.r.units)
  let out (s : State) (r : Rec) : State :=
    let (o, s) := s.layRec j r
    if s.flag JS_CFG_TRANSPORT j then s.yFly j o q.at_ else s.pcieRec j o
  let s := s.setStr j { s.str j with fifo := (s.str j).fifo.drop 1 }
  let s := s.when (pad != 0) fun s =>
    let r : Rec := s.mkRec 0 0 7 noOrigin (List.replicate (pad / 32 * 32 - 32) 0)
    (out s r).setWide JS_HEADC (h + pad) j
  let s := (out s q.r).when (s.flag JS_CFG_TRANSPORT j) fun s => s.yPump j yWin
  s.switchInst fnJrec 0

/-- RECORD_WRITE (R337, R343, R346, R348, R352): the head record of an UP or DRAINING stream, once its body is settled, the ring has room and the
link carries writes. (DEDUCED: log 50.) -/
def State.recWrite (s : State) (j : Nat) : State :=
  match (s.str j).fifo with
  | [] => s
  | q :: _ =>
    let live := s.jsState j == jsUp || s.jsState j == jsDraining
    let link := s.flag JS_CFG_TRANSPORT j || s.links.pciUp
    if !live then s
    else if s.hostMode fnJrec 0 && q.r.unassembled then s.jrecAsk j
    else if link && s.hasRoom j q.r then (s.putRec j q).jrecScan
    else s

/-- The head record of a stream takes a body, or none, by a decision or its timeout (R32, R352). -/
def State.jrecBody (s : State) (j : Nat) (body : Option (List Nat)) : State :=
  let x := s.str j
  let s := ({ s with jrnReq := none }.setFld JRN_HDEC_REQ 0).setAsk fnJrec 0 none
  match x.fifo with
  | [] => s
  | q :: l =>
    let r := match body with
      | some b => { q.r with body := b, hostbody := true }
      | none => { q.r with body := [], nobody := true }
    s.setStr j { x with fifo := { q with r := r } :: l }

/-- A write of JRN_HDEC (R352). -/
def State.hdecWrite (s : State) (v : Word) : State :=
  let h := bitsOf v 16 8
  let n := bitsOf v 0 13
  let s := (s.store JRN_HDEC_HANDLE h).store JRN_HDEC_BLEN n
  if bitsOf v 27 1 = 0 then s
  else
    match s.jrnReq with
    | none => (s.setFld JRN_HDEC_RESULT 2).lateDecision
    | some q =>
      if h != q.handle then s.setFld JRN_HDEC_RESULT 4
      else if 4064 < n then s.setFld JRN_HDEC_RESULT 3
      else
        let b := ((List.range 1024).flatMap fun i => leBytes 4 (s.rd (JRN_HBUF.addr i)).toNat).take n
        (s.setFld JRN_HDEC_RESULT 1).jrecBody q.stream (some b)

/-! Streams (R345, R346, R350, R353) -/

/-- A record has not been committed within STMO (R346, R350): a record in flight is abandoned, one in the FIFO is lost. -/
def State.recTimeout (s : State) (j : Nat) : State :=
  let x := s.str j
  if x.flight.any fun f => decide (f.at_ + s.stmo j ≤ s.now) then s.abandon j
  else
    let old := x.fifo.filter fun q => decide (q.at_ + s.stmo j ≤ s.now)
    if old = [] then s
    else
      let head := match x.fifo with | q :: _ => decide (q.at_ + s.stmo j ≤ s.now) | [] => false
      let s := s.setStr j { x with fifo := x.fifo.filter fun q => !decide (q.at_ + s.stmo j ≤ s.now) }
      let s := s.when head fun s => s.dropJreq j
      (s.each old fun s q => s.loseRec j q.r.ty).jrecScan

/-- A cumulative ACK (R349, R350). (DEDUCED: log 50.) -/
def State.yAck (s : State) (j fseq : Nat) : State :=
  let x := s.str j
  if s.jsState j == jsDown && x.probe == some fseq then
    (s.setStr j { x with probe := none, late := [] }).setFld JS_CNT1_STATE jsUp j
  else
    let gone := x.late.filter fun f => fseqLe f fseq
    let s := s.bumpBy JRN_CNT_LATECOMP gone.length
    let left := x.unacked.filter fun u => !fseqLe u.1.fseq fseq
    let x := { x with late := x.late.filter fun f => !fseqLe f fseq,
                      resends := if left.length < x.unacked.length then 0 else x.resends, unacked := left,
                      flight := x.flight.filter fun f => match f.commitSent with
                        | some c => !fseqLe c fseq
                        | none => true }
    (s.setStr j x).yPump j yWin

/-- The oldest unacknowledged frame has waited RTO (R350). -/
def State.yRetx (s : State) (j : Nat) : State :=
  let x := s.str j
  match x.unacked with
  | [] => s
  | (_, t) :: _ =>
    if s.now < t + s.fld JS_TMO_RTO j * 10 * usTclk then s
    else if s.fld JS_TMO_RETRY j ≤ x.resends then s.abandon j
    else
      let s := (s.setStr j { x with resends := x.resends + 1, unacked := x.unacked.map fun u => (u.1, s.now) }).bump JS_CNT1_RETX j
      s.each x.unacked fun s u => s.ySend j u.1

/-- A PROBE falls due in DOWN (R350). -/
def State.yProbeSend (s : State) (j : Nat) : State :=
  let x := s.str j
  if s.jsState j == jsDown && s.flag JS_CFG_TRANSPORT j && decide (x.probeAt + s.stmo j ≤ s.now) then
    let f : YFrame := ⟨yProbe, x.fseq, 0, 0, []⟩
    (s.setStr j { x with probe := some x.fseq, probeAt := s.now, fseq := (x.fseq + 1) % 2 ^ 32 }).ySend j f
  else s

/-- A write of JSnn_RELC (R345). -/
def State.relcWrite (s : State) (j v : Nat) : State :=
  let r := s.wide JS_RELC j
  let h := s.wide JS_HEADC j
  if v % 32 = 0 ∧ r ≤ v ∧ v ≤ h then s.setWide JS_RELC v j else s.bump JS_CNT1_RELERR j

/-- A stream enables in OFF (R353). (DEDUCED: log 50.) -/
def State.jsEnable (s : State) (j : Nat) : State :=
  if s.jsState j == jsOff then
    let s := (((s.setWide JS_HEADC 0 j).setWide JS_RELC 0 j).setWide JS_TAILC 0 j).setWide JS_SEQ 1 j
    (s.setStr j { Strm.zero with fseq := (s.str j).fseq }).setFld JS_CNT1_STATE jsUp j
  else s

/-- A write of JSnn_CTRL (R353). -/
def State.jsCtrl (s : State) (j : Nat) (v : Word) : State :=
  let on := bitsOf v 0 1 == 1
  let s := s.setFlag JS_CTRL_EN on j
  if on then s.jsEnable j
  else s.when (s.jsState j == jsUp || s.jsState j == jsDown) fun s => s.setFld JS_CNT1_STATE jsDraining j

/-- A DRAINING stream that holds nothing enters OFF (R353); its losses have been counted as they came. -/
def State.jsDrained (s : State) (j : Nat) : State :=
  let x := s.str j
  if s.jsState j == jsDraining && x.fifo == [] && x.flight == [] then
    (s.setStr j { Strm.zero with fseq := x.fseq }).setFld JS_CNT1_STATE jsOff j
  else s

end Sys2Proof.Machine
end

