-- ==== Sys2Proof/Machine/RegMap.lean ====
section
/-! DEFINITION. The register maps of spec/01-15 as data: each register family with its place, its fields' access codes (R11),
the fields that the image loader may write (R14, R46) and the values that each field's chapter defines for them (R47). -/

namespace Sys2Proof.Machine

/-- Access codes (R11). -/
inductive Acc where
  | rw | ro | w1c | wo | ws | rc | st
  deriving DecidableEq, Repr

/-- A field of a register: lowest bit, length, access code, whether the image writes it, and the inclusive ranges of the values
that its chapter defines for a record (none listed: every value). -/
structure RegField where
  lo : Nat
  len : Nat
  acc : Acc
  img : Bool
  vals : List (Nat × Nat)
  deriving DecidableEq, Repr

/-- The register families of the device. -/
inductive Fam where
  | SYS_ID
  | SYS_UID
  | SYS_RSTCAUSE
  | SYS_RSTCTL
  | SYS_PWRSTAT
  | SYS_SLPCTL
  | SYS_SLPSTAT
  | SYS_INTEN
  | SYS_INTST
  | SYS_FNMODE
  | SYS_FNLOCK
  | SYS_FNSTAT
  | SYS_FNTMO
  | IMG_STATUS
  | IMG_CAUSE
  | IMG_ERRREC
  | IMG_VERSION
  | IMG_ARB
  | IMG_KEY
  | IMG_DIGEST
  | IMG_DCTL
  | IMG_DSTAT
  | IMG_DSEQ
  | IMG_LOADCTL
  | FCO_CFG
  | FCO_STAT
  | FCO_GSAFE
  | FCO_SAFECLR
  | FCO_CLS0
  | FCO_CLS1
  | FCO_CNT
  | FCO_KACFG
  | FCO_KAWIN
  | FCO_KICK
  | FCO_KASTAT
  | FCO_LOG
  | FCO_LOGSTAT
  | FCO_RDEC
  | FCO_RREQ
  | FCO_RET
  | FCO_RCLR
  | FCO_INTEN
  | FCO_INTST
  | FCO_PEND
  | FCO_ACT
  | FCO_SRC
  | FCO_BKT
  | IRT_SRC
  | IRT_PEND
  | IRT_ACT
  | IRT_SWSET
  | IRT_SWCLR
  | IRT_CPTHR
  | IRT_CPCTL
  | IRT_CPRUN
  | IRT_CPCAND
  | IRT_CPCLAIM
  | IRT_CPEOI
  | CPC_CPCFG
  | CPC_CPBOOT
  | CPC_CPCTL
  | CPC_CPSTAT
  | CPC_LCS
  | CPC_DBGCFG
  | CPC_PART
  | TB_COUNT
  | TB_NTCFG
  | TB_NTSTAT
  | TB_NTBASE
  | TB_NTOFS
  | TB_NTRATE
  | TB_NTAPPLY
  | TB_NOW
  | TB_SLPENT
  | TB_SLEEP
  | TMR_CFG
  | TMR_TRIG
  | TMR_CAPCFG
  | TMR_CTRL
  | TMR_CNT
  | TMR_TOP
  | TMR_CMP
  | TMR_CAP
  | TMR_CAPTB
  | TMR_CAPPREV
  | TMR_STAT
  | TMR_INTEN
  | TMR_INTST
  | TMRG_CFG
  | TRK_CFG
  | TRK_TTAB
  | TRK_GAP
  | TRK_LOSS
  | TRK_INFLT
  | TRK_CAMSEL
  | TRK_CAMFLT
  | TRK_CTRL
  | TRK_CMD
  | TRK_SYNCASSERT
  | TRK_DECSTAT
  | TRK_STATE
  | TRK_AW
  | TRK_PERIOD
  | TRK_EDGETB
  | TRK_CNT
  | TRK_VR
  | TRK_TREC
  | TRK_TRECSTAT
  | TRK_CAMPOS
  | TRK_CAMDEV
  | TRK_CAMTB
  | TRK_INTEN
  | TRK_INTST
  | TRK_PCFG
  | TRK_PLRN
  | TRK_PLRNSPD
  | TRK_PFUSE
  | TRK_PENC
  | TRK_PLOW
  | TRK_RATE
  | TRK_PSTAT
  | TRK_PCNT
  | TRK_PLAST
  | TRK_HOLDT
  | TRK_FOFS
  | TRK_PCMD
  | TRK_PDEC
  | TRK_COR
  | TRK_CAM0
  | TRK_CAM1
  | TRK_TT
  | MK_CFG
  | MK_POS
  | MK_FIRED
  | ENC_CFG
  | ENC_IDXCFG
  | ENC_POS
  | ENC_PERIOD
  | ENC_STAT
  | ENC_IDXPOS
  | ENC_CNT
  | ENC_INTEN
  | ENC_INTST
  | SCH_POOL
  | SCH_RSV
  | SCH_CNT
  | CH_EVT
  | CH_ISTAT
  | CH_CFG
  | CH_DUNIT
  | CH_DEPTH
  | CH_EPOCH
  | CH_CMD
  | CH_STAT
  | CH_HEAD
  | CH_PWMPER
  | CH_PWMDUTY
  | CH_PWMLOCK
  | CH_PWMSTAT
  | CH_INJCFG
  | CH_INJLIM
  | CH_INJDLY
  | CH_INJDEC
  | CH_CNT0
  | CH_CNT1
  | CH_INTEN
  | CH_INTST
  | CH_RPT0
  | CH_RPT1
  | CH_RPT2
  | CH_RPT3
  | HSK_CFG
  | HSK_ONMAX
  | HSK_OFFMIN
  | HSK_REVON
  | HSK_EDGES
  | HSK_I2TMAX
  | HSK_I2TREL
  | HSK_I2TCOOL
  | HSK_WINS
  | HSK_WINE
  | HSK_STAT
  | HSK_LAST
  | HSK_LASTAW
  | HSK_LASTTB
  | HSK_CNT0
  | HSK_CNT1
  | HSK_REVACC
  | HSK_I2TACC
  | HSK_FORCE
  | PAD_CFG
  | PAD_TRIM
  | PAD_STAT
  | PAD_DIAG
  | PAD_FDCFG
  | PAD_ISENSE
  | PAD_TEST
  | PADG_CFG
  | PADG_INTEN
  | PADG_INTST
  | TDAC_CTRL
  | TDAC_STAT
  | ADC_IN
  | ADC_CTRL
  | ADC_CFG
  | ADC_TSEL
  | ADC_TSTAT
  | ADC_URG
  | ADC_URGSTAT
  | ADC_CALCFG
  | ADC_CALLIM
  | ADC_CALSTAT
  | ADC_GCHK
  | ADC_OFS
  | ADC_HOFS
  | ADC_CALDEC
  | ADC_QSTAT
  | ADC_CNT
  | ADC_INTEN
  | ADC_INTST
  | ADC_SEQ0
  | ADC_SEQ1
  | ADC_RES
  | KNK_CFG
  | KNK_TSEL
  | KNK_WLEN
  | KNK_STAT
  | KNK_TSTAT
  | KNK_QSTAT
  | KNK_CNT
  | KNK_INTEN
  | KNK_INTST
  | KNK_RES
  | KNK_COEF
  | PSQ_CFG
  | PSQ_CLK
  | PSQ_LINE
  | PSQ_CRCPOLY
  | PSQ_TMO
  | PSQ_TSEL
  | PSQ_TSTAT
  | PSQ_CTRL
  | PSQ_STAT
  | PSQ_TXQ
  | PSQ_RXQ
  | PSQ_QSTAT
  | PSQ_CNT0
  | PSQ_CNT1
  | PSQ_W
  | PSQ_TXS
  | PSQ_RXS
  | PSQ_INTEN
  | PSQ_INTST
  | PSQ_IMEM
  | CAL_STAT
  | CAL_CTL
  | CAL_WCRC
  | CAL_WBUF
  | CAL_DATA
  | ACN_CFG
  | ACN_STAT
  | ACN_TRK
  | ACN_ROLL
  | ACN_WAKECFG
  | ACN_WAKESTAT
  | ACN_RATIO
  | ACN_SLPN
  | ACN_CTL
  | ACN_REC0
  | ACN_REC1
  | ACN_REC2
  | ACN_Y
  | ACN_CNT01
  | ACN_CNT23
  | ACN_LOG
  | ACN_PROG
  | GW_CFG
  | GW_STAT
  | GW_URGSTAT
  | GW_INTEN
  | GW_INTST
  | GW_KEY
  | CTX_CAP
  | CTX_MQUOTA
  | CTX_EQUOTA
  | CTX_GRP
  | CTX_CHG
  | CTX_ADCG
  | CTX_SEQ
  | CTX_STAT
  | CTX_QSTAT
  | CTX_TXSEQ
  | JRN_CFG
  | JRN_CNT
  | JRN_RTE
  | JRN_TRCIN
  | JRN_PCIBASE
  | JRN_INTEN
  | JRN_INTST
  | JRN_HREQ
  | JRN_HDEC
  | JRN_YDSTCFG
  | JRN_YDSTA
  | JRN_HBUF
  | JS_CFG
  | JS_TMO
  | JS_BASE
  | JS_WM
  | JS_CTRL
  | JS_STAT
  | JS_HEADC
  | JS_RELC
  | JS_TAILC
  | JS_SEQ
  | JS_CNT0
  | JS_CNT1
  | JS_INTEN
  | JS_INTST
  | ETH_CFG
  | ETH_IP4
  | ETH_IP6
  | ETH_HQ
  | ETH_CNT
  | ETH_GCL
  | ETH_TBL
  | ETH_SAK
  | PCI_STAT
  | CAN_CFG
  | CAN_DATA
  | XSP_CFG
  | XSP_CMD
  deriving DecidableEq, Repr

/-- A register family: its address in instance (0, 0), counts and strides of its two instance numbers, whether it is a
64-bit register, the section type that writes it (R44), and its fields. -/
structure FamRow where
  fam : Fam
  base : Nat
  n1 : Nat
  s1 : Nat
  n2 : Nat
  s2 : Nat
  wide : Bool
  sect : Nat
  fields : List RegField
  deriving DecidableEq, Repr

/-- SYS registers. -/
def regRowsSys : List FamRow := [
  ⟨.SYS_ID, 0x40000000, 1, 0x0, 1, 0x0, false, 1,
    [⟨16, 16, .ro, false, []⟩, ⟨8, 8, .ro, false, []⟩]⟩,
  ⟨.SYS_UID, 0x40000008, 1, 0x0, 1, 0x0, true, 1,
    [⟨0, 64, .ro, false, []⟩]⟩,
  ⟨.SYS_RSTCAUSE, 0x40000010, 1, 0x0, 1, 0x0, false, 1,
    [⟨5, 1, .ro, false, []⟩, ⟨4, 1, .ro, false, []⟩, ⟨3, 1, .ro, false, []⟩, ⟨2, 1, .ro, false, []⟩, ⟨1, 1, .ro, false, []⟩, ⟨0, 1, .ro, false, []⟩]⟩,
  ⟨.SYS_RSTCTL, 0x40000014, 1, 0x0, 1, 0x0, false, 1,
    [⟨16, 16, .wo, false, []⟩, ⟨0, 1, .wo, false, []⟩]⟩,
  ⟨.SYS_PWRSTAT, 0x40000018, 1, 0x0, 1, 0x0, false, 1,
    [⟨4, 1, .ro, false, []⟩, ⟨3, 1, .ro, false, []⟩, ⟨2, 1, .ro, false, []⟩, ⟨1, 1, .ro, false, []⟩, ⟨0, 1, .ro, false, []⟩]⟩,
  ⟨.SYS_SLPCTL, 0x40000020, 1, 0x0, 1, 0x0, false, 1,
    [⟨8, 1, .rw, false, []⟩, ⟨0, 1, .ws, false, []⟩]⟩,
  ⟨.SYS_SLPSTAT, 0x40000024, 1, 0x0, 1, 0x0, false, 1,
    [⟨8, 3, .ro, false, []⟩, ⟨0, 1, .ro, false, []⟩]⟩,
  ⟨.SYS_INTEN, 0x40000030, 1, 0x0, 1, 0x0, false, 1,
    [⟨3, 1, .rw, false, []⟩, ⟨2, 1, .rw, false, []⟩, ⟨1, 1, .rw, false, []⟩, ⟨0, 1, .rw, false, []⟩]⟩,
  ⟨.SYS_INTST, 0x40000034, 1, 0x0, 1, 0x0, false, 1,
    [⟨3, 1, .w1c, false, []⟩, ⟨2, 1, .w1c, false, []⟩, ⟨1, 1, .w1c, false, []⟩, ⟨0, 1, .w1c, false, []⟩]⟩,
  ⟨.SYS_FNMODE, 0x40000040, 1, 0x0, 1, 0x0, false, 11,
    [⟨0, 8, .rw, true, []⟩]⟩,
  ⟨.SYS_FNLOCK, 0x40000044, 1, 0x0, 1, 0x0, false, 11,
    [⟨0, 8, .st, true, []⟩]⟩,
  ⟨.SYS_FNSTAT, 0x40000048, 1, 0x0, 1, 0x0, false, 1,
    [⟨16, 8, .rc, false, []⟩, ⟨8, 8, .ro, false, []⟩, ⟨0, 8, .ro, false, []⟩]⟩,
  ⟨.SYS_FNTMO, 0x40000050, 8, 0x4, 1, 0x0, false, 11,
    [⟨0, 20, .st, true, []⟩]⟩]

/-- IMG registers. -/
def regRowsImg : List FamRow := [
  ⟨.IMG_STATUS, 0x40010000, 1, 0x0, 1, 0x0, false, 0,
    [⟨4, 2, .ro, false, []⟩, ⟨0, 3, .ro, false, []⟩]⟩,
  ⟨.IMG_CAUSE, 0x40010004, 1, 0x0, 1, 0x0, false, 0,
    [⟨16, 8, .ro, false, []⟩, ⟨8, 8, .ro, false, []⟩, ⟨0, 8, .ro, false, []⟩]⟩,
  ⟨.IMG_ERRREC, 0x40010008, 1, 0x0, 1, 0x0, false, 0,
    [⟨24, 4, .ro, false, []⟩, ⟨0, 17, .ro, false, []⟩]⟩,
  ⟨.IMG_VERSION, 0x4001000C, 1, 0x0, 1, 0x0, false, 0,
    [⟨0, 32, .ro, false, []⟩]⟩,
  ⟨.IMG_ARB, 0x40010010, 1, 0x0, 1, 0x0, false, 0,
    [⟨8, 7, .ro, false, []⟩, ⟨0, 7, .ro, false, []⟩]⟩,
  ⟨.IMG_KEY, 0x40010014, 1, 0x0, 1, 0x0, false, 0,
    [⟨8, 4, .ro, false, []⟩, ⟨4, 4, .ro, false, []⟩, ⟨0, 2, .ro, false, []⟩]⟩,
  ⟨.IMG_DIGEST, 0x40010020, 8, 0x4, 1, 0x0, false, 0,
    [⟨0, 32, .ro, false, []⟩]⟩,
  ⟨.IMG_DCTL, 0x40010040, 1, 0x0, 1, 0x0, false, 0,
    [⟨16, 10, .rw, false, []⟩, ⟨0, 1, .ws, false, []⟩]⟩,
  ⟨.IMG_DSTAT, 0x40010044, 1, 0x0, 1, 0x0, false, 0,
    [⟨16, 16, .ro, false, []⟩, ⟨8, 1, .ro, false, []⟩, ⟨0, 8, .ro, false, []⟩]⟩,
  ⟨.IMG_DSEQ, 0x40010048, 1, 0x0, 1, 0x0, false, 0,
    [⟨0, 32, .ro, false, []⟩]⟩,
  ⟨.IMG_LOADCTL, 0x40010050, 1, 0x0, 1, 0x0, false, 0,
    [⟨0, 1, .ws, false, []⟩]⟩]

/-- FCO registers. -/
def regRowsFco : List FamRow := [
  ⟨.FCO_CFG, 0x40020000, 1, 0x0, 1, 0x0, false, 6,
    [⟨16, 8, .st, true, []⟩, ⟨8, 3, .st, true, [(0, 6)]⟩]⟩,
  ⟨.FCO_STAT, 0x40020004, 1, 0x0, 1, 0x0, false, 6,
    [⟨16, 8, .ro, false, []⟩, ⟨4, 1, .ro, false, []⟩, ⟨3, 1, .ro, false, []⟩, ⟨2, 1, .ro, false, []⟩, ⟨1, 1, .ro, false, []⟩, ⟨0, 1, .ro, false, []⟩]⟩,
  ⟨.FCO_GSAFE, 0x40020008, 1, 0x0, 1, 0x0, false, 6,
    [⟨16, 1, .ro, false, []⟩, ⟨0, 16, .ro, false, []⟩]⟩,
  ⟨.FCO_SAFECLR, 0x4002000C, 1, 0x0, 1, 0x0, false, 6,
    [⟨16, 1, .wo, false, []⟩, ⟨0, 16, .wo, false, []⟩]⟩,
  ⟨.FCO_CLS0, 0x40020010, 1, 0x0, 1, 0x0, false, 6,
    [⟨16, 16, .st, true, [(1, 65535)]⟩, ⟨0, 16, .st, true, [(1, 65535)]⟩]⟩,
  ⟨.FCO_CLS1, 0x40020014, 1, 0x0, 1, 0x0, false, 6,
    [⟨16, 16, .st, true, [(1, 65535)]⟩, ⟨8, 4, .st, true, [(1, 15)]⟩, ⟨0, 4, .st, true, []⟩]⟩,
  ⟨.FCO_CNT, 0x40020018, 1, 0x0, 1, 0x0, false, 6,
    [⟨16, 16, .rc, false, []⟩, ⟨8, 8, .rc, false, []⟩, ⟨0, 8, .rc, false, []⟩]⟩,
  ⟨.FCO_KACFG, 0x40020020, 1, 0x0, 1, 0x0, false, 6,
    [⟨16, 16, .st, true, [(10, 65535)]⟩, ⟨15, 1, .st, true, []⟩, ⟨0, 9, .st, true, []⟩]⟩,
  ⟨.FCO_KAWIN, 0x40020024, 1, 0x0, 1, 0x0, false, 6,
    [⟨16, 16, .st, true, []⟩, ⟨0, 16, .st, true, []⟩]⟩,
  ⟨.FCO_KICK, 0x40020028, 1, 0x0, 1, 0x0, false, 6,
    [⟨0, 8, .wo, false, []⟩]⟩,
  ⟨.FCO_KASTAT, 0x4002002C, 1, 0x0, 1, 0x0, false, 6,
    [⟨24, 8, .rc, false, []⟩, ⟨9, 1, .ro, false, []⟩, ⟨8, 1, .ro, false, []⟩, ⟨0, 8, .ro, false, []⟩]⟩,
  ⟨.FCO_LOG, 0x40020030, 4, 0x4, 1, 0x0, false, 6,
    [⟨0, 32, .ro, false, []⟩]⟩,
  ⟨.FCO_LOGSTAT, 0x40020040, 1, 0x0, 1, 0x0, false, 6,
    [⟨8, 1, .w1c, false, []⟩, ⟨0, 6, .ro, false, []⟩]⟩,
  ⟨.FCO_RDEC, 0x40020050, 1, 0x0, 1, 0x0, false, 6,
    [⟨31, 1, .wo, false, []⟩, ⟨28, 3, .ro, false, []⟩, ⟨0, 7, .rw, false, []⟩]⟩,
  ⟨.FCO_RREQ, 0x40020060, 4, 0x4, 1, 0x0, false, 6,
    [⟨0, 32, .ro, false, []⟩]⟩,
  ⟨.FCO_RET, 0x40020070, 4, 0x4, 1, 0x0, false, 6,
    [⟨0, 32, .ro, false, []⟩]⟩,
  ⟨.FCO_RCLR, 0x40020080, 1, 0x0, 1, 0x0, false, 6,
    [⟨28, 3, .ro, false, []⟩, ⟨0, 7, .wo, false, []⟩]⟩,
  ⟨.FCO_INTEN, 0x40020090, 1, 0x0, 1, 0x0, false, 6,
    [⟨6, 1, .rw, false, []⟩, ⟨5, 1, .rw, false, []⟩, ⟨4, 1, .rw, false, []⟩, ⟨3, 1, .rw, false, []⟩, ⟨2, 1, .rw, false, []⟩, ⟨1, 1, .rw, false, []⟩, ⟨0, 1, .rw, false, []⟩]⟩,
  ⟨.FCO_INTST, 0x40020094, 1, 0x0, 1, 0x0, false, 6,
    [⟨6, 1, .w1c, false, []⟩, ⟨5, 1, .w1c, false, []⟩, ⟨4, 1, .w1c, false, []⟩, ⟨3, 1, .w1c, false, []⟩, ⟨2, 1, .w1c, false, []⟩, ⟨1, 1, .w1c, false, []⟩, ⟨0, 1, .w1c, false, []⟩]⟩,
  ⟨.FCO_PEND, 0x40020100, 16, 0x4, 1, 0x0, false, 6,
    [⟨0, 32, .w1c, false, []⟩]⟩,
  ⟨.FCO_ACT, 0x40020140, 16, 0x4, 1, 0x0, false, 6,
    [⟨0, 32, .ro, false, []⟩]⟩,
  ⟨.FCO_SRC, 0x40020400, 512, 0x4, 1, 0x0, false, 6,
    [⟨16, 16, .st, true, []⟩, ⟨8, 3, .st, true, []⟩, ⟨4, 3, .rw, true, []⟩]⟩,
  ⟨.FCO_BKT, 0x40020C00, 128, 0x4, 1, 0x0, false, 6,
    [⟨16, 4, .ro, false, []⟩, ⟨8, 4, .ro, false, []⟩, ⟨0, 3, .ro, false, []⟩]⟩]

/-- IRT registers. -/
def regRowsIrt : List FamRow := [
  ⟨.IRT_SRC, 0x40030000, 576, 0x4, 1, 0x0, false, 1,
    [⟨31, 1, .ro, false, []⟩, ⟨30, 1, .ro, false, []⟩, ⟨29, 1, .wo, false, []⟩, ⟨8, 4, .rw, true, []⟩, ⟨7, 1, .rw, true, []⟩, ⟨0, 5, .rw, true, []⟩]⟩,
  ⟨.IRT_PEND, 0x40031000, 32, 0x4, 1, 0x0, false, 1,
    [⟨0, 32, .ro, false, []⟩]⟩,
  ⟨.IRT_ACT, 0x40031080, 32, 0x4, 1, 0x0, false, 1,
    [⟨0, 32, .ro, false, []⟩]⟩,
  ⟨.IRT_SWSET, 0x40031100, 2, 0x4, 1, 0x0, false, 1,
    [⟨0, 32, .wo, false, []⟩]⟩,
  ⟨.IRT_SWCLR, 0x40031108, 2, 0x4, 1, 0x0, false, 1,
    [⟨0, 32, .wo, false, []⟩]⟩,
  ⟨.IRT_CPTHR, 0x40031200, 4, 0x20, 1, 0x0, false, 1,
    [⟨0, 6, .rw, true, [(0, 32)]⟩]⟩,
  ⟨.IRT_CPCTL, 0x40031204, 4, 0x20, 1, 0x0, false, 1,
    [⟨0, 1, .rw, false, []⟩]⟩,
  ⟨.IRT_CPRUN, 0x40031208, 4, 0x20, 1, 0x0, false, 1,
    [⟨31, 1, .w1c, false, []⟩, ⟨16, 10, .ro, false, []⟩, ⟨8, 6, .ro, false, []⟩, ⟨0, 6, .ro, false, []⟩]⟩,
  ⟨.IRT_CPCAND, 0x4003120C, 4, 0x20, 1, 0x0, false, 1,
    [⟨31, 1, .ro, false, []⟩, ⟨0, 10, .ro, false, []⟩]⟩,
  ⟨.IRT_CPCLAIM, 0x40031210, 4, 0x20, 1, 0x0, false, 1,
    [⟨31, 1, .ro, false, []⟩, ⟨0, 10, .ro, false, []⟩]⟩,
  ⟨.IRT_CPEOI, 0x40031214, 4, 0x20, 1, 0x0, false, 1,
    [⟨0, 10, .wo, false, []⟩]⟩]

/-- CPC registers. -/
def regRowsCpc : List FamRow := [
  ⟨.CPC_CPCFG, 0x40038000, 4, 0x20, 1, 0x0, false, 1,
    [⟨8, 4, .st, true, []⟩, ⟨3, 1, .st, true, []⟩, ⟨2, 1, .st, true, []⟩, ⟨1, 1, .st, true, []⟩, ⟨0, 1, .st, true, []⟩]⟩,
  ⟨.CPC_CPBOOT, 0x40038004, 4, 0x20, 1, 0x0, false, 1,
    [⟨0, 32, .st, true, []⟩]⟩,
  ⟨.CPC_CPCTL, 0x40038008, 4, 0x20, 1, 0x0, false, 1,
    [⟨1, 1, .wo, false, []⟩, ⟨0, 1, .ws, false, []⟩]⟩,
  ⟨.CPC_CPSTAT, 0x4003800C, 4, 0x20, 1, 0x0, false, 1,
    [⟨24, 1, .ro, false, []⟩, ⟨16, 8, .rc, false, []⟩, ⟨8, 8, .rc, false, []⟩, ⟨4, 4, .ro, false, []⟩, ⟨0, 3, .ro, false, []⟩]⟩,
  ⟨.CPC_LCS, 0x40038100, 1, 0x0, 1, 0x0, false, 1,
    [⟨8, 1, .ro, false, []⟩, ⟨0, 2, .ro, false, []⟩]⟩,
  ⟨.CPC_DBGCFG, 0x40038104, 1, 0x0, 1, 0x0, false, 1,
    [⟨10, 1, .st, true, []⟩, ⟨0, 9, .st, true, []⟩]⟩,
  ⟨.CPC_PART, 0x40038200, 32, 0x4, 1, 0x0, false, 1,
    [⟨0, 32, .st, true, []⟩]⟩]

/-- TB registers. -/
def regRowsTb : List FamRow := [
  ⟨.TB_COUNT, 0x40040000, 1, 0x0, 1, 0x0, true, 3,
    [⟨0, 64, .ro, false, []⟩]⟩,
  ⟨.TB_NTCFG, 0x40040010, 1, 0x0, 1, 0x0, false, 3,
    [⟨8, 1, .ws, false, []⟩, ⟨0, 2, .st, true, [(0, 2)]⟩]⟩,
  ⟨.TB_NTSTAT, 0x40040014, 1, 0x0, 1, 0x0, false, 3,
    [⟨16, 16, .ro, false, []⟩]⟩,
  ⟨.TB_NTBASE, 0x40040018, 1, 0x0, 1, 0x0, true, 3,
    [⟨0, 64, .rw, false, []⟩]⟩,
  ⟨.TB_NTOFS, 0x40040020, 1, 0x0, 1, 0x0, true, 3,
    [⟨0, 64, .rw, false, []⟩]⟩,
  ⟨.TB_NTRATE, 0x40040028, 1, 0x0, 1, 0x0, true, 3,
    [⟨0, 64, .rw, true, []⟩]⟩,
  ⟨.TB_NTAPPLY, 0x40040030, 1, 0x0, 1, 0x0, true, 3,
    [⟨0, 64, .wo, false, []⟩]⟩,
  ⟨.TB_NOW, 0x40040038, 1, 0x0, 1, 0x0, true, 3,
    [⟨0, 64, .ro, false, []⟩]⟩,
  ⟨.TB_SLPENT, 0x40040040, 1, 0x0, 1, 0x0, true, 3,
    [⟨0, 64, .ro, false, []⟩]⟩,
  ⟨.TB_SLEEP, 0x40040048, 1, 0x0, 1, 0x0, true, 3,
    [⟨0, 64, .ro, false, []⟩]⟩]

/-- TMR registers. -/
def regRowsTmr : List FamRow := [
  ⟨.TMR_CFG, 0x40041000, 48, 0x40, 1, 0x0, false, 3,
    [⟨16, 16, .rw, true, []⟩, ⟨12, 3, .rw, true, [(0, 4)]⟩, ⟨10, 2, .rw, true, []⟩, ⟨9, 1, .rw, true, []⟩, ⟨8, 1, .rw, true, []⟩, ⟨0, 1, .st, true, []⟩]⟩,
  ⟨.TMR_TRIG, 0x40041004, 48, 0x40, 1, 0x0, false, 3,
    [⟨9, 1, .rw, true, []⟩, ⟨0, 9, .rw, true, [(0, 447)]⟩]⟩,
  ⟨.TMR_CAPCFG, 0x40041008, 48, 0x40, 1, 0x0, false, 3,
    [⟨24, 8, .rw, true, []⟩, ⟨20, 4, .rw, true, []⟩, ⟨18, 2, .rw, true, [(0, 2)]⟩, ⟨17, 1, .rw, true, []⟩, ⟨16, 1, .rw, true, []⟩, ⟨0, 9, .rw, true, []⟩]⟩,
  ⟨.TMR_CTRL, 0x4004100C, 48, 0x40, 1, 0x0, false, 3,
    [⟨1, 1, .wo, false, []⟩, ⟨0, 1, .wo, false, []⟩]⟩,
  ⟨.TMR_CNT, 0x40041010, 48, 0x40, 1, 0x0, false, 3,
    [⟨0, 32, .rw, false, []⟩]⟩,
  ⟨.TMR_TOP, 0x40041014, 48, 0x40, 1, 0x0, false, 3,
    [⟨0, 32, .rw, true, []⟩]⟩,
  ⟨.TMR_CMP, 0x40041018, 48, 0x40, 1, 0x0, false, 3,
    [⟨0, 32, .rw, true, []⟩]⟩,
  ⟨.TMR_CAP, 0x4004101C, 48, 0x40, 1, 0x0, false, 3,
    [⟨0, 32, .ro, false, []⟩]⟩,
  ⟨.TMR_CAPTB, 0x40041020, 48, 0x40, 1, 0x0, false, 3,
    [⟨0, 32, .ro, false, []⟩]⟩,
  ⟨.TMR_CAPPREV, 0x40041024, 48, 0x40, 1, 0x0, false, 3,
    [⟨0, 32, .ro, false, []⟩]⟩,
  ⟨.TMR_STAT, 0x40041028, 48, 0x40, 1, 0x0, false, 3,
    [⟨8, 4, .ro, false, []⟩, ⟨7, 1, .w1c, false, []⟩, ⟨6, 1, .w1c, false, []⟩, ⟨5, 1, .w1c, false, []⟩, ⟨4, 1, .ro, false, []⟩, ⟨3, 1, .ro, false, []⟩, ⟨2, 1, .ro, false, []⟩, ⟨0, 1, .ro, false, []⟩]⟩,
  ⟨.TMR_INTEN, 0x4004102C, 48, 0x40, 1, 0x0, false, 3,
    [⟨2, 1, .rw, false, []⟩, ⟨1, 1, .rw, false, []⟩, ⟨0, 1, .rw, false, []⟩]⟩,
  ⟨.TMR_INTST, 0x40041030, 48, 0x40, 1, 0x0, false, 3,
    [⟨2, 1, .w1c, false, []⟩, ⟨1, 1, .w1c, false, []⟩, ⟨0, 1, .w1c, false, []⟩]⟩]

/-- TMRG registers. -/
def regRowsTmrg : List FamRow := [
  ⟨.TMRG_CFG, 0x40041C00, 6, 0x10, 1, 0x0, false, 3,
    [⟨12, 4, .rw, true, []⟩, ⟨0, 9, .st, true, []⟩]⟩]

/-- TRK registers. -/
def regRowsTrk : List FamRow := [
  ⟨.TRK_CFG, 0x40050000, 6, 0x1000, 1, 0x0, false, 3,
    [⟨11, 1, .st, true, []⟩, ⟨10, 1, .st, true, []⟩, ⟨8, 2, .st, true, []⟩, ⟨6, 2, .st, true, [(0, 2)]⟩, ⟨4, 2, .st, true, [(0, 2)]⟩, ⟨2, 1, .st, true, []⟩, ⟨1, 1, .st, true, []⟩, ⟨0, 1, .st, true, []⟩]⟩,
  ⟨.TRK_TTAB, 0x40050004, 6, 0x1000, 1, 0x0, false, 3,
    [⟨16, 7, .st, true, [(0, 64)]⟩, ⟨0, 10, .st, true, [(0, 0), (2, 512)]⟩]⟩,
  ⟨.TRK_GAP, 0x40050008, 6, 0x1000, 1, 0x0, false, 3,
    [⟨16, 8, .st, true, [(8, 192)]⟩, ⟨8, 8, .st, true, []⟩, ⟨0, 8, .st, true, [(1, 255)]⟩]⟩,
  ⟨.TRK_LOSS, 0x4005000C, 6, 0x1000, 1, 0x0, false, 3,
    [⟨16, 10, .st, true, [(1, 1000)]⟩, ⟨12, 2, .st, true, [(1, 3)]⟩, ⟨8, 4, .st, true, [(1, 15)]⟩, ⟨4, 4, .st, true, [(4, 15)]⟩, ⟨0, 4, .st, true, [(1, 15)]⟩]⟩,
  ⟨.TRK_INFLT, 0x40050010, 6, 0x1000, 1, 0x0, false, 3,
    [⟨24, 8, .st, true, [(1, 255)]⟩, ⟨16, 7, .st, true, [(5, 75)]⟩, ⟨12, 4, .st, true, [(0, 8)]⟩, ⟨0, 10, .st, true, []⟩]⟩,
  ⟨.TRK_CAMSEL, 0x40050014, 6, 0x1000, 1, 0x0, false, 3,
    [⟨24, 5, .st, true, [(0, 11), (31, 31)]⟩, ⟨16, 5, .st, true, [(0, 11), (31, 31)]⟩, ⟨8, 5, .st, true, [(0, 11), (31, 31)]⟩, ⟨0, 5, .st, true, [(0, 11), (31, 31)]⟩]⟩,
  ⟨.TRK_CAMFLT, 0x40050018, 6, 0x1000, 1, 0x0, false, 3,
    [⟨16, 4, .st, true, []⟩, ⟨0, 10, .st, true, []⟩]⟩,
  ⟨.TRK_CTRL, 0x40050020, 6, 0x1000, 1, 0x0, false, 3,
    [⟨0, 1, .rw, true, []⟩]⟩,
  ⟨.TRK_CMD, 0x40050024, 6, 0x1000, 1, 0x0, false, 3,
    [⟨2, 1, .wo, false, []⟩, ⟨1, 1, .wo, false, []⟩, ⟨0, 1, .wo, false, []⟩]⟩,
  ⟨.TRK_SYNCASSERT, 0x40050028, 6, 0x1000, 1, 0x0, false, 3,
    [⟨27, 1, .wo, false, []⟩, ⟨25, 2, .wo, false, []⟩, ⟨16, 9, .wo, false, []⟩, ⟨0, 16, .wo, false, []⟩]⟩,
  ⟨.TRK_DECSTAT, 0x4005002C, 6, 0x1000, 1, 0x0, false, 3,
    [⟨8, 16, .ro, false, []⟩, ⟨7, 1, .ro, false, []⟩, ⟨0, 3, .ro, false, []⟩]⟩,
  ⟨.TRK_STATE, 0x40050040, 6, 0x1000, 1, 0x0, false, 3,
    [⟨31, 1, .ro, false, []⟩, ⟨30, 1, .ro, false, []⟩, ⟨29, 1, .ro, false, []⟩, ⟨26, 2, .ro, false, []⟩, ⟨16, 9, .ro, false, []⟩, ⟨12, 4, .ro, false, []⟩, ⟨8, 3, .ro, false, []⟩, ⟨0, 3, .ro, false, []⟩]⟩,
  ⟨.TRK_AW, 0x40050044, 6, 0x1000, 1, 0x0, false, 3,
    [⟨0, 32, .ro, false, []⟩]⟩,
  ⟨.TRK_PERIOD, 0x40050048, 6, 0x1000, 1, 0x0, false, 3,
    [⟨0, 32, .ro, false, []⟩]⟩,
  ⟨.TRK_EDGETB, 0x40050050, 6, 0x1000, 1, 0x0, true, 3,
    [⟨0, 64, .ro, false, []⟩]⟩,
  ⟨.TRK_CNT, 0x40050058, 6, 0x1000, 1, 0x0, false, 3,
    [⟨24, 8, .rc, false, []⟩, ⟨16, 8, .rc, false, []⟩, ⟨8, 8, .rc, false, []⟩, ⟨0, 8, .rc, false, []⟩]⟩,
  ⟨.TRK_VR, 0x4005005C, 6, 0x1000, 1, 0x0, false, 3,
    [⟨16, 12, .ro, false, []⟩, ⟨0, 12, .ro, false, []⟩]⟩,
  ⟨.TRK_TREC, 0x40050060, 6, 0x1000, 1, 0x0, true, 3,
    [⟨0, 64, .ro, false, []⟩]⟩,
  ⟨.TRK_TRECSTAT, 0x40050068, 6, 0x1000, 1, 0x0, false, 3,
    [⟨8, 1, .w1c, false, []⟩, ⟨0, 6, .ro, false, []⟩]⟩,
  ⟨.TRK_CAMPOS, 0x40050070, 6, 0x1000, 4, 0x4, false, 3,
    [⟨0, 32, .ro, false, []⟩]⟩,
  ⟨.TRK_CAMDEV, 0x40050080, 6, 0x1000, 4, 0x4, false, 3,
    [⟨8, 24, .ro, false, []⟩, ⟨7, 1, .ro, false, []⟩, ⟨0, 6, .ro, false, []⟩]⟩,
  ⟨.TRK_CAMTB, 0x40050090, 6, 0x1000, 4, 0x4, false, 3,
    [⟨0, 32, .ro, false, []⟩]⟩,
  ⟨.TRK_INTEN, 0x400500A0, 6, 0x1000, 1, 0x0, false, 3,
    [⟨7, 1, .rw, false, []⟩, ⟨6, 1, .rw, false, []⟩, ⟨5, 1, .rw, false, []⟩, ⟨4, 1, .rw, false, []⟩, ⟨3, 1, .rw, false, []⟩, ⟨2, 1, .rw, false, []⟩, ⟨1, 1, .rw, false, []⟩, ⟨0, 1, .rw, false, []⟩]⟩,
  ⟨.TRK_INTST, 0x400500A4, 6, 0x1000, 1, 0x0, false, 3,
    [⟨7, 1, .w1c, false, []⟩, ⟨6, 1, .w1c, false, []⟩, ⟨5, 1, .w1c, false, []⟩, ⟨4, 1, .w1c, false, []⟩, ⟨3, 1, .w1c, false, []⟩, ⟨2, 1, .w1c, false, []⟩, ⟨1, 1, .w1c, false, []⟩, ⟨0, 1, .w1c, false, []⟩]⟩,
  ⟨.TRK_PCFG, 0x40050100, 6, 0x1000, 1, 0x0, false, 3,
    [⟨16, 16, .st, true, []⟩, ⟨12, 4, .st, true, [(1, 8)]⟩, ⟨8, 4, .st, true, [(0, 8)]⟩, ⟨6, 1, .st, true, []⟩, ⟨4, 2, .st, true, [(0, 2)]⟩, ⟨3, 1, .st, true, []⟩, ⟨0, 2, .st, true, [(0, 2)]⟩]⟩,
  ⟨.TRK_PLRN, 0x40050104, 6, 0x1000, 1, 0x0, false, 3,
    [⟨16, 16, .st, true, [(0, 4096)]⟩, ⟨8, 8, .st, true, []⟩, ⟨0, 8, .st, true, [(1, 255)]⟩]⟩,
  ⟨.TRK_PLRNSPD, 0x40050108, 6, 0x1000, 1, 0x0, false, 3,
    [⟨16, 16, .st, true, [(1, 65535)]⟩, ⟨0, 16, .st, true, [(1, 65535)]⟩]⟩,
  ⟨.TRK_PFUSE, 0x4005010C, 6, 0x1000, 1, 0x0, false, 3,
    [⟨28, 4, .st, true, [(1, 15)]⟩, ⟨16, 12, .st, true, []⟩, ⟨0, 16, .st, true, [(1, 65535)]⟩]⟩,
  ⟨.TRK_PENC, 0x40050110, 6, 0x1000, 1, 0x0, false, 3,
    [⟨0, 32, .st, true, [(1, 4294967295)]⟩]⟩,
  ⟨.TRK_PLOW, 0x40050114, 6, 0x1000, 1, 0x0, false, 3,
    [⟨0, 32, .st, true, []⟩]⟩,
  ⟨.TRK_RATE, 0x40050120, 6, 0x1000, 1, 0x0, false, 3,
    [⟨0, 32, .ro, false, []⟩]⟩,
  ⟨.TRK_PSTAT, 0x40050124, 6, 0x1000, 1, 0x0, false, 3,
    [⟨24, 8, .ro, false, []⟩, ⟨7, 1, .ro, false, []⟩, ⟨6, 1, .ro, false, []⟩, ⟨5, 1, .ro, false, []⟩, ⟨4, 1, .ro, false, []⟩, ⟨3, 1, .ro, false, []⟩, ⟨0, 2, .ro, false, []⟩]⟩,
  ⟨.TRK_PCNT, 0x40050128, 6, 0x1000, 1, 0x0, false, 3,
    [⟨24, 8, .rc, false, []⟩, ⟨16, 8, .rc, false, []⟩, ⟨8, 8, .rc, false, []⟩, ⟨0, 8, .rc, false, []⟩]⟩,
  ⟨.TRK_PLAST, 0x4005012C, 6, 0x1000, 1, 0x0, false, 3,
    [⟨0, 20, .ro, false, []⟩]⟩,
  ⟨.TRK_HOLDT, 0x40050130, 6, 0x1000, 1, 0x0, false, 3,
    [⟨0, 32, .ro, false, []⟩]⟩,
  ⟨.TRK_FOFS, 0x40050134, 6, 0x1000, 1, 0x0, false, 3,
    [⟨0, 32, .ro, false, []⟩]⟩,
  ⟨.TRK_PCMD, 0x40050138, 6, 0x1000, 1, 0x0, false, 3,
    [⟨1, 1, .wo, false, []⟩, ⟨0, 1, .wo, false, []⟩]⟩,
  ⟨.TRK_PDEC, 0x4005013C, 6, 0x1000, 1, 0x0, false, 3,
    [⟨7, 1, .ro, false, []⟩, ⟨0, 3, .ro, false, []⟩]⟩,
  ⟨.TRK_COR, 0x40050200, 6, 0x1000, 256, 0x4, false, 3,
    [⟨16, 16, .rw, false, []⟩, ⟨0, 16, .rw, false, []⟩]⟩,
  ⟨.TRK_CAM0, 0x40050600, 6, 0x1000, 64, 0x8, false, 3,
    [⟨24, 1, .st, true, []⟩, ⟨22, 2, .st, true, []⟩, ⟨0, 22, .st, true, []⟩]⟩,
  ⟨.TRK_CAM1, 0x40050604, 6, 0x1000, 64, 0x8, false, 3,
    [⟨0, 20, .st, true, [(1, 262144)]⟩]⟩,
  ⟨.TRK_TT, 0x40050800, 6, 0x1000, 512, 0x4, false, 3,
    [⟨20, 1, .st, true, []⟩, ⟨0, 20, .st, true, [(1, 1048575)]⟩]⟩]

/-- MK registers. -/
def regRowsMk : List FamRow := [
  ⟨.MK_CFG, 0x40058000, 256, 0x8, 1, 0x0, false, 3,
    [⟨18, 1, .st, true, []⟩, ⟨16, 2, .st, true, [(1, 3)]⟩, ⟨8, 7, .st, true, []⟩, ⟨4, 2, .st, true, []⟩, ⟨0, 3, .st, true, [(0, 5)]⟩]⟩,
  ⟨.MK_POS, 0x40058004, 256, 0x8, 1, 0x0, false, 3,
    [⟨31, 1, .rw, true, []⟩, ⟨0, 22, .rw, true, []⟩]⟩,
  ⟨.MK_FIRED, 0x40058800, 8, 0x4, 1, 0x0, false, 3,
    [⟨0, 32, .w1c, false, []⟩]⟩]

/-- ENC registers. -/
def regRowsEnc : List FamRow := [
  ⟨.ENC_CFG, 0x40060000, 4, 0x400, 1, 0x0, false, 3,
    [⟨24, 8, .st, true, []⟩, ⟨22, 2, .st, true, [(0, 2)]⟩, ⟨21, 1, .st, true, []⟩, ⟨20, 1, .st, true, []⟩, ⟨16, 2, .st, true, [(0, 2)]⟩, ⟨15, 1, .st, true, []⟩, ⟨8, 7, .st, true, [(1, 127)]⟩, ⟨0, 1, .st, true, []⟩]⟩,
  ⟨.ENC_IDXCFG, 0x40060004, 4, 0x400, 1, 0x0, false, 3,
    [⟨16, 16, .st, true, []⟩, ⟨8, 8, .st, true, []⟩, ⟨6, 2, .st, true, []⟩, ⟨5, 1, .st, true, []⟩, ⟨4, 1, .st, true, []⟩, ⟨1, 1, .st, true, []⟩, ⟨0, 1, .st, true, []⟩]⟩,
  ⟨.ENC_POS, 0x40060008, 4, 0x400, 1, 0x0, false, 3,
    [⟨0, 32, .rw, false, []⟩]⟩,
  ⟨.ENC_PERIOD, 0x4006000C, 4, 0x400, 1, 0x0, false, 3,
    [⟨0, 32, .ro, false, []⟩]⟩,
  ⟨.ENC_STAT, 0x40060010, 4, 0x400, 1, 0x0, false, 3,
    [⟨8, 1, .ro, false, []⟩, ⟨7, 1, .ro, false, []⟩, ⟨6, 1, .ro, false, []⟩, ⟨5, 1, .ro, false, []⟩, ⟨4, 1, .w1c, false, []⟩, ⟨3, 1, .ro, false, []⟩, ⟨0, 3, .ro, false, []⟩]⟩,
  ⟨.ENC_IDXPOS, 0x40060014, 4, 0x400, 1, 0x0, false, 3,
    [⟨0, 32, .ro, false, []⟩]⟩,
  ⟨.ENC_CNT, 0x40060018, 4, 0x400, 1, 0x0, false, 3,
    [⟨24, 8, .rc, false, []⟩, ⟨16, 8, .rc, false, []⟩, ⟨8, 8, .rc, false, []⟩, ⟨0, 8, .rc, false, []⟩]⟩,
  ⟨.ENC_INTEN, 0x40060020, 4, 0x400, 1, 0x0, false, 3,
    [⟨3, 1, .rw, false, []⟩, ⟨2, 1, .rw, false, []⟩, ⟨1, 1, .rw, false, []⟩, ⟨0, 1, .rw, false, []⟩]⟩,
  ⟨.ENC_INTST, 0x40060024, 4, 0x400, 1, 0x0, false, 3,
    [⟨3, 1, .w1c, false, []⟩, ⟨2, 1, .w1c, false, []⟩, ⟨1, 1, .w1c, false, []⟩, ⟨0, 1, .w1c, false, []⟩]⟩]

/-- SCH registers. -/
def regRowsSch : List FamRow := [
  ⟨.SCH_POOL, 0x40070000, 1, 0x0, 1, 0x0, false, 4,
    [⟨16, 14, .rc, false, []⟩, ⟨0, 14, .ro, false, []⟩]⟩,
  ⟨.SCH_RSV, 0x40070004, 1, 0x0, 1, 0x0, false, 4,
    [⟨0, 14, .st, true, [(0, 8192)]⟩]⟩,
  ⟨.SCH_CNT, 0x40070008, 1, 0x0, 1, 0x0, false, 4,
    [⟨0, 16, .rc, false, []⟩]⟩]

/-- CH registers. -/
def regRowsCh : List FamRow := [
  ⟨.CH_EVT, 0x40080000, 128, 0x200, 4, 0x4, false, 4,
    [⟨0, 32, .wo, false, []⟩]⟩,
  ⟨.CH_ISTAT, 0x40080010, 128, 0x200, 1, 0x0, false, 4,
    [⟨31, 1, .ro, false, []⟩, ⟨16, 8, .ro, false, []⟩, ⟨8, 8, .ro, false, []⟩, ⟨0, 8, .ro, false, []⟩]⟩,
  ⟨.CH_CFG, 0x40080020, 128, 0x200, 1, 0x0, false, 4,
    [⟨10, 1, .st, true, []⟩, ⟨9, 1, .st, true, []⟩, ⟨4, 3, .st, true, [(0, 5), (7, 7)]⟩, ⟨1, 1, .st, true, []⟩, ⟨0, 1, .st, true, []⟩]⟩,
  ⟨.CH_DUNIT, 0x40080024, 128, 0x200, 1, 0x0, false, 4,
    [⟨0, 4, .st, true, [(0, 12)]⟩]⟩,
  ⟨.CH_DEPTH, 0x40080028, 128, 0x200, 1, 0x0, false, 4,
    [⟨16, 9, .st, true, [(0, 256)]⟩, ⟨0, 9, .st, true, [(1, 256)]⟩]⟩,
  ⟨.CH_EPOCH, 0x4008002C, 128, 0x200, 1, 0x0, false, 4,
    [⟨0, 8, .ro, false, []⟩]⟩,
  ⟨.CH_CMD, 0x40080030, 128, 0x200, 1, 0x0, false, 4,
    [⟨3, 1, .wo, false, []⟩, ⟨2, 1, .wo, false, []⟩, ⟨1, 1, .wo, false, []⟩, ⟨0, 1, .ws, false, []⟩]⟩,
  ⟨.CH_STAT, 0x40080034, 128, 0x200, 1, 0x0, false, 4,
    [⟨16, 9, .ro, false, []⟩, ⟨12, 1, .ro, false, []⟩, ⟨11, 1, .ro, false, []⟩, ⟨10, 1, .ro, false, []⟩, ⟨9, 1, .ro, false, []⟩, ⟨8, 1, .ro, false, []⟩, ⟨2, 2, .ro, false, []⟩, ⟨1, 1, .ro, false, []⟩, ⟨0, 1, .ro, false, []⟩]⟩,
  ⟨.CH_HEAD, 0x40080038, 128, 0x200, 1, 0x0, false, 4,
    [⟨0, 32, .ro, false, []⟩]⟩,
  ⟨.CH_PWMPER, 0x40080040, 128, 0x200, 1, 0x0, false, 4,
    [⟨0, 24, .rw, true, [(2, 16777215)]⟩]⟩,
  ⟨.CH_PWMDUTY, 0x40080044, 128, 0x200, 1, 0x0, false, 4,
    [⟨0, 29, .rw, true, []⟩]⟩,
  ⟨.CH_PWMLOCK, 0x40080048, 128, 0x200, 1, 0x0, false, 4,
    [⟨8, 1, .ro, false, []⟩, ⟨0, 1, .rw, false, []⟩]⟩,
  ⟨.CH_PWMSTAT, 0x4008004C, 128, 0x200, 1, 0x0, false, 4,
    [⟨0, 29, .ro, false, []⟩]⟩,
  ⟨.CH_INJCFG, 0x40080050, 128, 0x200, 1, 0x0, false, 4,
    [⟨31, 1, .st, true, []⟩, ⟨24, 6, .st, true, []⟩, ⟨20, 4, .st, true, [(0, 8)]⟩, ⟨16, 4, .st, true, [(0, 12)]⟩, ⟨0, 16, .st, true, []⟩]⟩,
  ⟨.CH_INJLIM, 0x40080054, 128, 0x200, 1, 0x0, false, 4,
    [⟨16, 16, .st, true, [(1, 65535)]⟩, ⟨0, 16, .st, true, [(1, 32767)]⟩]⟩,
  ⟨.CH_INJDLY, 0x40080058, 128, 0x200, 1, 0x0, false, 4,
    [⟨0, 16, .rw, true, []⟩]⟩,
  ⟨.CH_INJDEC, 0x4008005C, 128, 0x200, 1, 0x0, false, 4,
    [⟨31, 1, .ro, false, []⟩, ⟨28, 3, .ro, false, []⟩, ⟨0, 24, .ro, false, []⟩]⟩,
  ⟨.CH_CNT0, 0x40080060, 128, 0x200, 1, 0x0, false, 4,
    [⟨24, 8, .rc, false, []⟩, ⟨16, 8, .rc, false, []⟩, ⟨8, 8, .rc, false, []⟩, ⟨0, 8, .rc, false, []⟩]⟩,
  ⟨.CH_CNT1, 0x40080064, 128, 0x200, 1, 0x0, false, 4,
    [⟨24, 8, .rc, false, []⟩, ⟨16, 8, .rc, false, []⟩, ⟨8, 8, .rc, false, []⟩, ⟨0, 8, .rc, false, []⟩]⟩,
  ⟨.CH_INTEN, 0x40080070, 128, 0x200, 1, 0x0, false, 4,
    [⟨6, 1, .rw, false, []⟩, ⟨5, 1, .rw, false, []⟩, ⟨4, 1, .rw, false, []⟩, ⟨3, 1, .rw, false, []⟩, ⟨2, 1, .rw, false, []⟩, ⟨1, 1, .rw, false, []⟩, ⟨0, 1, .rw, false, []⟩]⟩,
  ⟨.CH_INTST, 0x40080074, 128, 0x200, 1, 0x0, false, 4,
    [⟨6, 1, .w1c, false, []⟩, ⟨5, 1, .w1c, false, []⟩, ⟨4, 1, .w1c, false, []⟩, ⟨3, 1, .w1c, false, []⟩, ⟨2, 1, .w1c, false, []⟩, ⟨1, 1, .w1c, false, []⟩, ⟨0, 1, .w1c, false, []⟩]⟩,
  ⟨.CH_RPT0, 0x40080080, 128, 0x200, 1, 0x0, false, 4,
    [⟨24, 8, .ro, false, []⟩, ⟨16, 8, .ro, false, []⟩, ⟨0, 12, .ro, false, []⟩]⟩,
  ⟨.CH_RPT1, 0x40080084, 128, 0x200, 1, 0x0, false, 4,
    [⟨0, 32, .ro, false, []⟩]⟩,
  ⟨.CH_RPT2, 0x40080088, 128, 0x200, 1, 0x0, false, 4,
    [⟨0, 32, .ro, false, []⟩]⟩,
  ⟨.CH_RPT3, 0x4008008C, 128, 0x200, 1, 0x0, false, 4,
    [⟨0, 32, .ro, false, []⟩]⟩]

/-- HSK registers. -/
def regRowsHsk : List FamRow := [
  ⟨.HSK_CFG, 0x40090000, 128, 0x80, 1, 0x0, false, 5,
    [⟨8, 4, .st, true, []⟩, ⟨4, 4, .st, true, [(0, 12)]⟩, ⟨2, 1, .st, true, []⟩, ⟨0, 2, .st, true, []⟩]⟩,
  ⟨.HSK_ONMAX, 0x40090004, 128, 0x80, 1, 0x0, false, 5,
    [⟨0, 20, .st, true, []⟩]⟩,
  ⟨.HSK_OFFMIN, 0x40090008, 128, 0x80, 1, 0x0, false, 5,
    [⟨0, 20, .st, true, []⟩]⟩,
  ⟨.HSK_REVON, 0x4009000C, 128, 0x80, 1, 0x0, false, 5,
    [⟨0, 20, .st, true, []⟩]⟩,
  ⟨.HSK_EDGES, 0x40090010, 128, 0x80, 1, 0x0, false, 5,
    [⟨0, 8, .st, true, []⟩]⟩,
  ⟨.HSK_I2TMAX, 0x40090014, 128, 0x80, 1, 0x0, false, 5,
    [⟨0, 32, .st, true, []⟩]⟩,
  ⟨.HSK_I2TREL, 0x40090018, 128, 0x80, 1, 0x0, false, 5,
    [⟨0, 32, .st, true, []⟩]⟩,
  ⟨.HSK_I2TCOOL, 0x4009001C, 128, 0x80, 1, 0x0, false, 5,
    [⟨0, 16, .st, true, []⟩]⟩,
  ⟨.HSK_WINS, 0x40090020, 128, 0x80, 4, 0x8, false, 5,
    [⟨0, 22, .st, true, []⟩]⟩,
  ⟨.HSK_WINE, 0x40090024, 128, 0x80, 4, 0x8, false, 5,
    [⟨0, 22, .st, true, []⟩]⟩,
  ⟨.HSK_STAT, 0x40090040, 128, 0x80, 1, 0x0, false, 5,
    [⟨24, 8, .ro, false, []⟩, ⟨8, 8, .ro, false, []⟩, ⟨4, 1, .ro, false, []⟩, ⟨3, 1, .ro, false, []⟩, ⟨2, 1, .ro, false, []⟩, ⟨0, 1, .ro, false, []⟩]⟩,
  ⟨.HSK_LAST, 0x40090044, 128, 0x80, 1, 0x0, false, 5,
    [⟨16, 8, .ro, false, []⟩, ⟨8, 1, .ro, false, []⟩, ⟨0, 8, .ro, false, []⟩]⟩,
  ⟨.HSK_LASTAW, 0x40090048, 128, 0x80, 1, 0x0, false, 5,
    [⟨0, 32, .ro, false, []⟩]⟩,
  ⟨.HSK_LASTTB, 0x4009004C, 128, 0x80, 1, 0x0, false, 5,
    [⟨0, 32, .ro, false, []⟩]⟩,
  ⟨.HSK_CNT0, 0x40090050, 128, 0x80, 1, 0x0, false, 5,
    [⟨24, 8, .rc, false, []⟩, ⟨16, 8, .rc, false, []⟩, ⟨8, 8, .rc, false, []⟩, ⟨0, 8, .rc, false, []⟩]⟩,
  ⟨.HSK_CNT1, 0x40090054, 128, 0x80, 1, 0x0, false, 5,
    [⟨24, 8, .rc, false, []⟩, ⟨16, 8, .rc, false, []⟩, ⟨8, 8, .rc, false, []⟩, ⟨0, 8, .rc, false, []⟩]⟩,
  ⟨.HSK_REVACC, 0x40090058, 128, 0x80, 1, 0x0, false, 5,
    [⟨0, 20, .ro, false, []⟩]⟩,
  ⟨.HSK_I2TACC, 0x4009005C, 128, 0x80, 1, 0x0, false, 5,
    [⟨0, 32, .ro, false, []⟩]⟩,
  ⟨.HSK_FORCE, 0x40090060, 128, 0x80, 1, 0x0, false, 5,
    [⟨1, 1, .rw, false, []⟩, ⟨0, 1, .rw, false, []⟩]⟩]

/-- PAD registers. -/
def regRowsPad : List FamRow := [
  ⟨.PAD_CFG, 0x400A0000, 128, 0x20, 1, 0x0, false, 2,
    [⟨16, 10, .st, true, [(8, 1023)]⟩, ⟨10, 2, .st, true, []⟩, ⟨8, 2, .st, true, []⟩, ⟨4, 4, .st, true, []⟩, ⟨1, 1, .st, true, []⟩, ⟨0, 1, .st, true, []⟩]⟩,
  ⟨.PAD_TRIM, 0x400A0004, 128, 0x20, 1, 0x0, false, 2,
    [⟨0, 5, .ro, false, []⟩]⟩,
  ⟨.PAD_STAT, 0x400A0008, 128, 0x20, 1, 0x0, false, 2,
    [⟨17, 1, .ro, false, []⟩, ⟨16, 1, .ro, false, []⟩, ⟨8, 4, .ro, false, []⟩, ⟨0, 3, .ro, false, []⟩]⟩,
  ⟨.PAD_DIAG, 0x400A000C, 128, 0x20, 1, 0x0, false, 2,
    [⟨1, 6, .w1c, false, []⟩]⟩,
  ⟨.PAD_FDCFG, 0x400A0010, 128, 0x20, 1, 0x0, false, 2,
    [⟨16, 12, .st, true, []⟩, ⟨8, 6, .st, true, [(1, 63)]⟩, ⟨0, 6, .st, true, [(1, 63)]⟩]⟩,
  ⟨.PAD_ISENSE, 0x400A0014, 128, 0x20, 1, 0x0, false, 2,
    [⟨16, 12, .rc, false, []⟩, ⟨0, 12, .ro, false, []⟩]⟩,
  ⟨.PAD_TEST, 0x400A0018, 128, 0x20, 1, 0x0, false, 2,
    [⟨12, 4, .ro, false, []⟩, ⟨8, 3, .ro, false, []⟩, ⟨0, 1, .ws, false, []⟩]⟩]

/-- PADG registers. -/
def regRowsPadg : List FamRow := [
  ⟨.PADG_CFG, 0x400A8000, 16, 0x10, 1, 0x0, false, 2,
    [⟨0, 6, .st, true, []⟩]⟩,
  ⟨.PADG_INTEN, 0x400A8004, 16, 0x10, 1, 0x0, false, 2,
    [⟨16, 8, .rw, false, []⟩, ⟨8, 8, .rw, false, []⟩, ⟨0, 8, .rw, false, []⟩]⟩,
  ⟨.PADG_INTST, 0x400A8008, 16, 0x10, 1, 0x0, false, 2,
    [⟨16, 8, .w1c, false, []⟩, ⟨8, 8, .w1c, false, []⟩, ⟨0, 8, .w1c, false, []⟩]⟩]

/-- TDAC registers. -/
def regRowsTdac : List FamRow := [
  ⟨.TDAC_CTRL, 0x400B0000, 1, 0x0, 1, 0x0, false, 9,
    [⟨31, 1, .rw, false, []⟩, ⟨16, 6, .rw, false, []⟩, ⟨0, 12, .rw, false, []⟩]⟩,
  ⟨.TDAC_STAT, 0x400B0004, 1, 0x0, 1, 0x0, false, 9,
    [⟨16, 16, .rc, false, []⟩, ⟨0, 1, .ro, false, []⟩]⟩]

/-- ADC registers. -/
def regRowsAdc : List FamRow := [
  ⟨.ADC_IN, 0x400B0100, 64, 0x4, 1, 0x0, false, 9,
    [⟨19, 3, .st, true, [(0, 5), (7, 7)]⟩, ⟨16, 3, .st, true, [(0, 4)]⟩, ⟨12, 3, .st, true, [(0, 4)]⟩, ⟨11, 1, .st, true, []⟩, ⟨8, 2, .st, true, []⟩, ⟨7, 1, .st, true, []⟩, ⟨0, 3, .rw, true, []⟩]⟩,
  ⟨.ADC_CTRL, 0x400B1000, 4, 0x1000, 1, 0x0, false, 9,
    [⟨16, 8, .ro, false, []⟩, ⟨8, 2, .ro, false, []⟩, ⟨2, 1, .wo, false, []⟩, ⟨1, 1, .wo, false, []⟩, ⟨0, 1, .wo, false, []⟩]⟩,
  ⟨.ADC_CFG, 0x400B1004, 4, 0x1000, 1, 0x0, false, 9,
    [⟨17, 1, .rw, true, []⟩, ⟨16, 1, .st, true, []⟩, ⟨4, 11, .rw, true, [(1, 2047)]⟩, ⟨0, 3, .st, true, []⟩]⟩,
  ⟨.ADC_TSEL, 0x400B1008, 4, 0x1000, 4, 0x4, false, 9,
    [⟨31, 1, .rw, true, []⟩, ⟨16, 9, .rw, true, [(0, 447)]⟩, ⟨15, 1, .rw, true, []⟩, ⟨0, 9, .rw, true, [(0, 447)]⟩]⟩,
  ⟨.ADC_TSTAT, 0x400B1018, 4, 0x1000, 1, 0x0, false, 9,
    [⟨8, 1, .w1c, false, []⟩, ⟨0, 4, .ro, false, []⟩]⟩,
  ⟨.ADC_URG, 0x400B1020, 4, 0x1000, 1, 0x0, false, 9,
    [⟨8, 3, .wo, false, []⟩, ⟨0, 6, .wo, false, []⟩]⟩,
  ⟨.ADC_URGSTAT, 0x400B1024, 4, 0x1000, 1, 0x0, false, 9,
    [⟨16, 16, .rc, false, []⟩, ⟨0, 1, .ro, false, []⟩]⟩,
  ⟨.ADC_CALCFG, 0x400B1030, 4, 0x1000, 1, 0x0, false, 9,
    [⟨22, 10, .st, true, [(60, 1023)]⟩, ⟨18, 4, .st, true, [(0, 8)]⟩, ⟨0, 16, .st, true, [(1, 65535)]⟩]⟩,
  ⟨.ADC_CALLIM, 0x400B1034, 4, 0x1000, 1, 0x0, false, 9,
    [⟨16, 12, .st, true, []⟩, ⟨0, 16, .st, true, [(1, 65535)]⟩]⟩,
  ⟨.ADC_CALSTAT, 0x400B1038, 4, 0x1000, 1, 0x0, false, 9,
    [⟨16, 16, .rc, false, []⟩, ⟨0, 16, .rc, false, []⟩]⟩,
  ⟨.ADC_GCHK, 0x400B103C, 4, 0x1000, 1, 0x0, false, 9,
    [⟨0, 16, .ro, false, []⟩]⟩,
  ⟨.ADC_OFS, 0x400B1040, 4, 0x1000, 5, 0x4, false, 9,
    [⟨0, 16, .ro, false, []⟩]⟩,
  ⟨.ADC_HOFS, 0x400B1060, 4, 0x1000, 5, 0x4, false, 9,
    [⟨0, 16, .rw, false, []⟩]⟩,
  ⟨.ADC_CALDEC, 0x400B1074, 4, 0x1000, 1, 0x0, false, 9,
    [⟨31, 1, .ro, false, []⟩, ⟨28, 3, .ro, false, []⟩, ⟨0, 1, .wo, false, []⟩]⟩,
  ⟨.ADC_QSTAT, 0x400B1080, 4, 0x1000, 1, 0x0, false, 9,
    [⟨16, 16, .rc, false, []⟩, ⟨0, 12, .ro, false, []⟩]⟩,
  ⟨.ADC_CNT, 0x400B1084, 4, 0x1000, 1, 0x0, false, 9,
    [⟨24, 8, .rc, false, []⟩, ⟨16, 8, .rc, false, []⟩, ⟨8, 8, .rc, false, []⟩, ⟨0, 8, .rc, false, []⟩]⟩,
  ⟨.ADC_INTEN, 0x400B1090, 4, 0x1000, 1, 0x0, false, 9,
    [⟨7, 1, .rw, false, []⟩, ⟨6, 1, .rw, false, []⟩, ⟨5, 1, .rw, false, []⟩, ⟨4, 1, .rw, false, []⟩, ⟨3, 1, .rw, false, []⟩, ⟨2, 1, .rw, false, []⟩, ⟨1, 1, .rw, false, []⟩, ⟨0, 1, .rw, false, []⟩]⟩,
  ⟨.ADC_INTST, 0x400B1094, 4, 0x1000, 1, 0x0, false, 9,
    [⟨7, 1, .w1c, false, []⟩, ⟨6, 1, .w1c, false, []⟩, ⟨5, 1, .w1c, false, []⟩, ⟨4, 1, .w1c, false, []⟩, ⟨3, 1, .w1c, false, []⟩, ⟨2, 1, .w1c, false, []⟩, ⟨1, 1, .w1c, false, []⟩, ⟨0, 1, .w1c, false, []⟩]⟩,
  ⟨.ADC_SEQ0, 0x400B1800, 4, 0x1000, 256, 0x8, false, 9,
    [⟨31, 1, .rw, true, []⟩, ⟨30, 1, .rw, true, []⟩, ⟨24, 3, .rw, true, [(0, 4), (7, 7)]⟩, ⟨16, 8, .rw, true, []⟩, ⟨0, 7, .rw, true, [(0, 63)]⟩]⟩,
  ⟨.ADC_SEQ1, 0x400B1804, 4, 0x1000, 256, 0x8, false, 9,
    [⟨0, 24, .rw, true, []⟩]⟩,
  ⟨.ADC_RES, 0x400B8000, 4, 0x100, 5, 0x4, false, 9,
    [⟨0, 32, .ro, false, []⟩]⟩]

/-- KNK registers. -/
def regRowsKnk : List FamRow := [
  ⟨.KNK_CFG, 0x400C0000, 4, 0x1000, 1, 0x0, false, 9,
    [⟨31, 1, .st, true, []⟩, ⟨30, 1, .st, true, []⟩, ⟨29, 1, .st, true, []⟩, ⟨24, 5, .st, true, []⟩, ⟨16, 7, .st, true, [(2, 64)]⟩, ⟨12, 3, .st, true, [(0, 5)]⟩, ⟨8, 3, .st, true, [(0, 4)]⟩, ⟨0, 1, .st, true, []⟩]⟩,
  ⟨.KNK_TSEL, 0x400C0004, 4, 0x1000, 1, 0x0, false, 9,
    [⟨31, 1, .st, true, []⟩, ⟨16, 9, .st, true, [(0, 447)]⟩, ⟨15, 1, .st, true, []⟩, ⟨9, 1, .st, true, []⟩, ⟨0, 9, .st, true, [(0, 447)]⟩]⟩,
  ⟨.KNK_WLEN, 0x400C0008, 4, 0x1000, 1, 0x0, false, 9,
    [⟨16, 6, .st, true, []⟩, ⟨0, 16, .st, true, [(1, 65535)]⟩]⟩,
  ⟨.KNK_STAT, 0x400C000C, 4, 0x1000, 1, 0x0, false, 9,
    [⟨24, 8, .ro, false, []⟩, ⟨8, 1, .ro, false, []⟩, ⟨0, 1, .ro, false, []⟩]⟩,
  ⟨.KNK_TSTAT, 0x400C0010, 4, 0x1000, 1, 0x0, false, 9,
    [⟨8, 1, .w1c, false, []⟩, ⟨0, 4, .ro, false, []⟩]⟩,
  ⟨.KNK_QSTAT, 0x400C0014, 4, 0x1000, 1, 0x0, false, 9,
    [⟨16, 16, .rc, false, []⟩, ⟨0, 11, .ro, false, []⟩]⟩,
  ⟨.KNK_CNT, 0x400C0018, 4, 0x1000, 1, 0x0, false, 9,
    [⟨24, 8, .rc, false, []⟩, ⟨16, 8, .rc, false, []⟩, ⟨8, 8, .rc, false, []⟩, ⟨0, 8, .rc, false, []⟩]⟩,
  ⟨.KNK_INTEN, 0x400C0020, 4, 0x1000, 1, 0x0, false, 9,
    [⟨3, 1, .rw, false, []⟩, ⟨2, 1, .rw, false, []⟩, ⟨1, 1, .rw, false, []⟩, ⟨0, 1, .rw, false, []⟩]⟩,
  ⟨.KNK_INTST, 0x400C0024, 4, 0x1000, 1, 0x0, false, 9,
    [⟨3, 1, .w1c, false, []⟩, ⟨2, 1, .w1c, false, []⟩, ⟨1, 1, .w1c, false, []⟩, ⟨0, 1, .w1c, false, []⟩]⟩,
  ⟨.KNK_RES, 0x400C0030, 4, 0x1000, 1, 0x0, false, 9,
    [⟨0, 32, .ro, false, []⟩]⟩,
  ⟨.KNK_COEF, 0x400C0800, 4, 0x1000, 512, 0x4, false, 9,
    [⟨0, 18, .st, true, []⟩]⟩]

/-- PSQ registers. -/
def regRowsPsq : List FamRow := [
  ⟨.PSQ_CFG, 0x400D0000, 16, 0x400, 1, 0x0, false, 10,
    [⟨16, 5, .st, true, []⟩, ⟨11, 5, .st, true, [(0, 16)]⟩, ⟨10, 1, .st, true, []⟩, ⟨6, 1, .st, true, []⟩, ⟨0, 6, .st, true, [(0, 47)]⟩]⟩,
  ⟨.PSQ_CLK, 0x400D0004, 16, 0x400, 1, 0x0, false, 10,
    [⟨8, 16, .st, true, [(1, 65535)]⟩, ⟨0, 8, .st, true, []⟩]⟩,
  ⟨.PSQ_LINE, 0x400D0008, 16, 0x400, 4, 0x4, false, 10,
    [⟨16, 8, .st, true, []⟩, ⟨8, 7, .st, true, []⟩, ⟨4, 1, .st, true, []⟩, ⟨2, 2, .st, true, [(0, 2)]⟩, ⟨0, 2, .st, true, [(0, 2)]⟩]⟩,
  ⟨.PSQ_CRCPOLY, 0x400D0018, 16, 0x400, 1, 0x0, false, 10,
    [⟨0, 32, .st, true, []⟩]⟩,
  ⟨.PSQ_TMO, 0x400D001C, 16, 0x400, 2, 0x4, false, 10,
    [⟨0, 32, .rw, true, []⟩]⟩,
  ⟨.PSQ_TSEL, 0x400D0024, 16, 0x400, 2, 0x4, false, 10,
    [⟨31, 1, .rw, true, []⟩, ⟨16, 9, .rw, true, [(0, 447)]⟩, ⟨15, 1, .rw, true, []⟩, ⟨0, 9, .rw, true, [(0, 447)]⟩]⟩,
  ⟨.PSQ_TSTAT, 0x400D002C, 16, 0x400, 1, 0x0, false, 10,
    [⟨8, 1, .w1c, false, []⟩, ⟨0, 4, .ro, false, []⟩]⟩,
  ⟨.PSQ_CTRL, 0x400D0030, 16, 0x400, 1, 0x0, false, 10,
    [⟨2, 1, .wo, false, []⟩, ⟨1, 1, .wo, false, []⟩, ⟨0, 1, .wo, false, []⟩]⟩,
  ⟨.PSQ_STAT, 0x400D0034, 16, 0x400, 1, 0x0, false, 10,
    [⟨28, 4, .ro, false, []⟩, ⟨24, 4, .ro, false, []⟩, ⟨16, 5, .ro, false, []⟩, ⟨8, 6, .ro, false, []⟩, ⟨0, 2, .ro, false, []⟩]⟩,
  ⟨.PSQ_TXQ, 0x400D0038, 16, 0x400, 1, 0x0, false, 10,
    [⟨0, 32, .wo, false, []⟩]⟩,
  ⟨.PSQ_RXQ, 0x400D003C, 16, 0x400, 1, 0x0, false, 10,
    [⟨0, 32, .ro, false, []⟩]⟩,
  ⟨.PSQ_QSTAT, 0x400D0040, 16, 0x400, 1, 0x0, false, 10,
    [⟨24, 5, .rw, false, []⟩, ⟨16, 5, .rw, false, []⟩, ⟨8, 5, .ro, false, []⟩, ⟨0, 5, .ro, false, []⟩]⟩,
  ⟨.PSQ_CNT0, 0x400D0044, 16, 0x400, 1, 0x0, false, 10,
    [⟨24, 8, .rc, false, []⟩, ⟨16, 8, .rc, false, []⟩, ⟨8, 8, .rc, false, []⟩, ⟨0, 8, .rc, false, []⟩]⟩,
  ⟨.PSQ_CNT1, 0x400D0048, 16, 0x400, 1, 0x0, false, 10,
    [⟨8, 8, .rc, false, []⟩, ⟨0, 8, .rc, false, []⟩]⟩,
  ⟨.PSQ_W, 0x400D0050, 16, 0x400, 4, 0x4, false, 10,
    [⟨0, 32, .ro, false, []⟩]⟩,
  ⟨.PSQ_TXS, 0x400D0060, 16, 0x400, 1, 0x0, false, 10,
    [⟨0, 32, .ro, false, []⟩]⟩,
  ⟨.PSQ_RXS, 0x400D0064, 16, 0x400, 1, 0x0, false, 10,
    [⟨0, 32, .ro, false, []⟩]⟩,
  ⟨.PSQ_INTEN, 0x400D0070, 16, 0x400, 1, 0x0, false, 10,
    [⟨13, 1, .rw, false, []⟩, ⟨12, 1, .rw, false, []⟩, ⟨11, 1, .rw, false, []⟩, ⟨10, 1, .rw, false, []⟩, ⟨9, 1, .rw, false, []⟩, ⟨8, 1, .rw, false, []⟩, ⟨3, 1, .rw, false, []⟩, ⟨2, 1, .rw, false, []⟩, ⟨1, 1, .rw, false, []⟩, ⟨0, 1, .rw, false, []⟩]⟩,
  ⟨.PSQ_INTST, 0x400D0074, 16, 0x400, 1, 0x0, false, 10,
    [⟨13, 1, .w1c, false, []⟩, ⟨12, 1, .w1c, false, []⟩, ⟨11, 1, .w1c, false, []⟩, ⟨10, 1, .w1c, false, []⟩, ⟨9, 1, .w1c, false, []⟩, ⟨8, 1, .w1c, false, []⟩, ⟨3, 1, .w1c, false, []⟩, ⟨2, 1, .w1c, false, []⟩, ⟨1, 1, .w1c, false, []⟩, ⟨0, 1, .w1c, false, []⟩]⟩,
  ⟨.PSQ_IMEM, 0x400D0100, 16, 0x400, 48, 0x4, false, 10,
    [⟨0, 24, .st, true, []⟩]⟩]

/-- CAL registers. -/
def regRowsCal : List FamRow := [
  ⟨.CAL_STAT, 0x400E0000, 1, 0x0, 1, 0x0, false, 0,
    [⟨17, 3, .ro, false, []⟩, ⟨16, 1, .ro, false, []⟩, ⟨8, 8, .ro, false, []⟩, ⟨0, 8, .ro, false, []⟩]⟩,
  ⟨.CAL_CTL, 0x400E0004, 1, 0x0, 1, 0x0, false, 0,
    [⟨16, 16, .wo, false, []⟩, ⟨4, 3, .wo, false, []⟩, ⟨0, 1, .ws, false, []⟩]⟩,
  ⟨.CAL_WCRC, 0x400E0008, 1, 0x0, 1, 0x0, false, 0,
    [⟨0, 32, .rw, false, []⟩]⟩,
  ⟨.CAL_WBUF, 0x400E0404, 126, 0x4, 1, 0x0, false, 0,
    [⟨0, 32, .rw, false, []⟩]⟩,
  ⟨.CAL_DATA, 0x400E1000, 1024, 0x4, 1, 0x0, false, 0,
    [⟨0, 32, .ro, false, []⟩]⟩]

/-- ACN registers. -/
def regRowsAcn : List FamRow := [
  ⟨.ACN_CFG, 0x400F0000, 1, 0x0, 1, 0x0, false, 7,
    [⟨16, 16, .st, true, [(1, 65535)]⟩, ⟨8, 4, .st, true, []⟩, ⟨4, 1, .st, true, []⟩, ⟨3, 1, .st, true, []⟩, ⟨2, 1, .st, true, []⟩, ⟨1, 1, .st, true, []⟩, ⟨0, 1, .st, true, []⟩]⟩,
  ⟨.ACN_STAT, 0x400F0004, 1, 0x0, 1, 0x0, false, 7,
    [⟨24, 8, .rc, false, []⟩, ⟨9, 1, .w1c, false, []⟩, ⟨8, 1, .w1c, false, []⟩, ⟨7, 1, .ro, false, []⟩, ⟨6, 1, .ro, false, []⟩, ⟨2, 2, .ro, false, []⟩, ⟨1, 1, .ro, false, []⟩]⟩,
  ⟨.ACN_TRK, 0x400F0008, 1, 0x0, 1, 0x0, false, 7,
    [⟨31, 1, .st, true, []⟩, ⟨24, 3, .st, true, [(0, 5)]⟩, ⟨16, 8, .st, true, [(1, 255)]⟩, ⟨0, 16, .st, true, [(0, 1900)]⟩]⟩,
  ⟨.ACN_ROLL, 0x400F000C, 1, 0x0, 1, 0x0, false, 7,
    [⟨16, 16, .st, true, [(1, 65535)]⟩, ⟨0, 16, .st, true, [(1, 65535)]⟩]⟩,
  ⟨.ACN_WAKECFG, 0x400F0010, 1, 0x0, 1, 0x0, false, 7,
    [⟨16, 16, .st, true, [(0, 8191)]⟩, ⟨8, 4, .st, true, []⟩, ⟨4, 4, .st, true, []⟩, ⟨0, 4, .st, true, []⟩]⟩,
  ⟨.ACN_WAKESTAT, 0x400F0014, 1, 0x0, 1, 0x0, false, 7,
    [⟨24, 8, .ro, false, []⟩, ⟨8, 1, .ro, false, []⟩, ⟨0, 4, .ro, false, []⟩]⟩,
  ⟨.ACN_RATIO, 0x400F0018, 1, 0x0, 1, 0x0, false, 7,
    [⟨0, 32, .ro, false, []⟩]⟩,
  ⟨.ACN_SLPN, 0x400F0020, 1, 0x0, 1, 0x0, true, 7,
    [⟨0, 48, .ro, false, []⟩]⟩,
  ⟨.ACN_CTL, 0x400F0028, 1, 0x0, 1, 0x0, false, 7,
    [⟨0, 1, .wo, false, []⟩]⟩,
  ⟨.ACN_REC0, 0x400F0030, 1, 0x0, 1, 0x0, false, 7,
    [⟨0, 32, .ro, false, []⟩]⟩,
  ⟨.ACN_REC1, 0x400F0034, 1, 0x0, 1, 0x0, false, 7,
    [⟨24, 8, .ro, false, []⟩, ⟨16, 8, .ro, false, []⟩, ⟨0, 16, .ro, false, []⟩]⟩,
  ⟨.ACN_REC2, 0x400F0038, 1, 0x0, 1, 0x0, false, 7,
    [⟨31, 1, .ro, false, []⟩, ⟨30, 1, .ro, false, []⟩, ⟨28, 2, .ro, false, []⟩, ⟨27, 1, .ro, false, []⟩, ⟨24, 3, .ro, false, []⟩, ⟨22, 2, .ro, false, []⟩, ⟨13, 9, .ro, false, []⟩, ⟨0, 13, .ro, false, []⟩]⟩,
  ⟨.ACN_Y, 0x400F0040, 6, 0x4, 1, 0x0, false, 7,
    [⟨0, 18, .ro, false, []⟩]⟩,
  ⟨.ACN_CNT01, 0x400F0058, 1, 0x0, 1, 0x0, false, 7,
    [⟨0, 32, .ro, false, []⟩]⟩,
  ⟨.ACN_CNT23, 0x400F005C, 1, 0x0, 1, 0x0, false, 7,
    [⟨0, 32, .ro, false, []⟩]⟩,
  ⟨.ACN_LOG, 0x400F0060, 2, 0x4, 1, 0x0, false, 7,
    [⟨0, 32, .ro, false, []⟩]⟩,
  ⟨.ACN_PROG, 0x400F0100, 64, 0x4, 1, 0x0, false, 7,
    [⟨0, 32, .st, true, []⟩]⟩]

/-- GW registers. -/
def regRowsGw : List FamRow := [
  ⟨.GW_CFG, 0x40100000, 1, 0x0, 1, 0x0, false, 8,
    [⟨16, 16, .st, true, [(1, 65535)]⟩, ⟨1, 1, .st, true, []⟩, ⟨0, 1, .st, true, []⟩]⟩,
  ⟨.GW_STAT, 0x40100004, 1, 0x0, 1, 0x0, false, 8,
    [⟨24, 8, .rc, false, []⟩, ⟨16, 8, .rc, false, []⟩, ⟨8, 8, .rc, false, []⟩, ⟨0, 8, .rc, false, []⟩]⟩,
  ⟨.GW_URGSTAT, 0x40100008, 1, 0x0, 1, 0x0, false, 8,
    [⟨16, 16, .rc, false, []⟩, ⟨0, 16, .rc, false, []⟩]⟩,
  ⟨.GW_INTEN, 0x40100020, 1, 0x0, 1, 0x0, false, 8,
    [⟨3, 1, .rw, false, []⟩, ⟨2, 1, .rw, false, []⟩, ⟨1, 1, .rw, false, []⟩, ⟨0, 1, .rw, false, []⟩]⟩,
  ⟨.GW_INTST, 0x40100024, 1, 0x0, 1, 0x0, false, 8,
    [⟨3, 1, .w1c, false, []⟩, ⟨2, 1, .w1c, false, []⟩, ⟨1, 1, .w1c, false, []⟩, ⟨0, 1, .w1c, false, []⟩]⟩,
  ⟨.GW_KEY, 0x40102000, 512, 0x28, 10, 0x4, false, 8,
    [⟨0, 32, .st, true, []⟩]⟩]

/-- CTX registers. -/
def regRowsCtx : List FamRow := [
  ⟨.CTX_CAP, 0x40108000, 512, 0x40, 1, 0x0, false, 8,
    [⟨31, 1, .st, true, []⟩, ⟨30, 1, .ro, false, []⟩, ⟨28, 2, .st, true, []⟩, ⟨27, 1, .st, true, []⟩, ⟨21, 6, .st, true, []⟩, ⟨0, 16, .st, true, []⟩]⟩,
  ⟨.CTX_MQUOTA, 0x40108004, 512, 0x40, 1, 0x0, false, 8,
    [⟨16, 16, .st, true, [(1, 65535)]⟩, ⟨0, 16, .st, true, []⟩]⟩,
  ⟨.CTX_EQUOTA, 0x40108008, 512, 0x40, 1, 0x0, false, 8,
    [⟨16, 16, .st, true, [(1, 65535)]⟩, ⟨0, 16, .st, true, []⟩]⟩,
  ⟨.CTX_GRP, 0x4010800C, 512, 0x40, 1, 0x0, false, 8,
    [⟨16, 16, .st, true, []⟩, ⟨0, 16, .st, true, []⟩]⟩,
  ⟨.CTX_CHG, 0x40108010, 512, 0x40, 4, 0x4, false, 8,
    [⟨0, 32, .st, true, []⟩]⟩,
  ⟨.CTX_ADCG, 0x40108020, 512, 0x40, 2, 0x4, false, 8,
    [⟨0, 32, .st, true, []⟩]⟩,
  ⟨.CTX_SEQ, 0x40108028, 512, 0x40, 1, 0x0, false, 8,
    [⟨0, 32, .ro, false, []⟩]⟩,
  ⟨.CTX_STAT, 0x4010802C, 512, 0x40, 1, 0x0, false, 8,
    [⟨24, 8, .rc, false, []⟩, ⟨16, 8, .rc, false, []⟩, ⟨8, 8, .rc, false, []⟩, ⟨0, 8, .rc, false, []⟩]⟩,
  ⟨.CTX_QSTAT, 0x40108030, 512, 0x40, 1, 0x0, false, 8,
    [⟨16, 7, .ro, false, []⟩, ⟨0, 6, .ro, false, []⟩]⟩,
  ⟨.CTX_TXSEQ, 0x40108034, 512, 0x40, 1, 0x0, false, 8,
    [⟨0, 32, .ro, false, []⟩]⟩]

/-- JRN registers. -/
def regRowsJrn : List FamRow := [
  ⟨.JRN_CFG, 0x40110000, 1, 0x0, 1, 0x0, false, 12,
    [⟨1, 4, .st, true, []⟩, ⟨0, 1, .st, true, []⟩]⟩,
  ⟨.JRN_CNT, 0x40110008, 1, 0x0, 1, 0x0, false, 12,
    [⟨16, 16, .rc, false, []⟩, ⟨0, 16, .rc, false, []⟩]⟩,
  ⟨.JRN_RTE, 0x40110010, 4, 0x4, 1, 0x0, false, 12,
    [⟨0, 4, .st, true, []⟩, ⟨7, 1, .st, true, []⟩, ⟨8, 4, .st, true, []⟩, ⟨15, 1, .st, true, []⟩, ⟨16, 4, .st, true, []⟩, ⟨23, 1, .st, true, []⟩, ⟨24, 4, .st, true, []⟩, ⟨31, 1, .st, true, []⟩]⟩,
  ⟨.JRN_TRCIN, 0x40110020, 2, 0x4, 1, 0x0, false, 12,
    [⟨0, 32, .st, true, []⟩]⟩,
  ⟨.JRN_PCIBASE, 0x40110028, 1, 0x0, 1, 0x0, true, 12,
    [⟨0, 64, .st, true, []⟩]⟩,
  ⟨.JRN_INTEN, 0x40110030, 1, 0x0, 1, 0x0, false, 12,
    [⟨0, 1, .rw, false, []⟩]⟩,
  ⟨.JRN_INTST, 0x40110034, 1, 0x0, 1, 0x0, false, 12,
    [⟨0, 1, .w1c, false, []⟩]⟩,
  ⟨.JRN_HREQ, 0x40110040, 1, 0x0, 1, 0x0, false, 12,
    [⟨16, 9, .ro, false, []⟩, ⟨8, 6, .ro, false, []⟩, ⟨0, 8, .ro, false, []⟩]⟩,
  ⟨.JRN_HDEC, 0x40110044, 1, 0x0, 1, 0x0, false, 12,
    [⟨31, 1, .ro, false, []⟩, ⟨28, 3, .ro, false, []⟩, ⟨27, 1, .wo, false, []⟩, ⟨16, 8, .rw, false, []⟩, ⟨0, 13, .rw, false, []⟩]⟩,
  ⟨.JRN_YDSTCFG, 0x40110060, 4, 0x18, 1, 0x0, false, 12,
    [⟨16, 16, .st, true, [(1, 65535)]⟩, ⟨8, 1, .st, true, []⟩, ⟨0, 1, .st, true, []⟩]⟩,
  ⟨.JRN_YDSTA, 0x40110064, 4, 0x18, 4, 0x4, false, 12,
    [⟨0, 32, .st, true, []⟩]⟩,
  ⟨.JRN_HBUF, 0x40111000, 1024, 0x4, 1, 0x0, false, 12,
    [⟨0, 32, .wo, false, []⟩]⟩]

/-- JS registers. -/
def regRowsJs : List FamRow := [
  ⟨.JS_CFG, 0x40112000, 16, 0x80, 1, 0x0, false, 12,
    [⟨24, 6, .st, true, [(16, 46)]⟩, ⟨16, 5, .st, true, [(1, 31)]⟩, ⟨6, 9, .st, true, []⟩, ⟨4, 2, .st, true, []⟩, ⟨2, 1, .st, true, []⟩, ⟨1, 1, .st, true, []⟩, ⟨0, 1, .st, true, []⟩]⟩,
  ⟨.JS_TMO, 0x40112004, 16, 0x80, 1, 0x0, false, 12,
    [⟨16, 16, .st, true, [(1, 65535)]⟩, ⟨8, 8, .st, true, [(1, 255)]⟩, ⟨4, 4, .st, true, []⟩]⟩,
  ⟨.JS_BASE, 0x40112008, 16, 0x80, 1, 0x0, true, 12,
    [⟨0, 64, .st, true, []⟩]⟩,
  ⟨.JS_WM, 0x40112010, 16, 0x80, 1, 0x0, true, 12,
    [⟨0, 64, .st, true, []⟩]⟩,
  ⟨.JS_CTRL, 0x40112018, 16, 0x80, 1, 0x0, false, 12,
    [⟨0, 1, .rw, false, []⟩]⟩,
  ⟨.JS_STAT, 0x4011201C, 16, 0x80, 1, 0x0, false, 12,
    [⟨16, 1, .ro, false, []⟩, ⟨0, 7, .ro, false, []⟩]⟩,
  ⟨.JS_HEADC, 0x40112020, 16, 0x80, 1, 0x0, true, 12,
    [⟨0, 64, .ro, false, []⟩]⟩,
  ⟨.JS_RELC, 0x40112028, 16, 0x80, 1, 0x0, true, 12,
    [⟨0, 64, .rw, false, []⟩]⟩,
  ⟨.JS_TAILC, 0x40112030, 16, 0x80, 1, 0x0, true, 12,
    [⟨0, 64, .ro, false, []⟩]⟩,
  ⟨.JS_SEQ, 0x40112038, 16, 0x80, 1, 0x0, true, 12,
    [⟨0, 44, .ro, false, []⟩]⟩,
  ⟨.JS_CNT0, 0x40112040, 16, 0x80, 1, 0x0, false, 12,
    [⟨0, 32, .rc, false, []⟩]⟩,
  ⟨.JS_CNT1, 0x40112044, 16, 0x80, 1, 0x0, false, 12,
    [⟨30, 2, .ro, false, []⟩, ⟨16, 14, .rc, false, []⟩, ⟨8, 8, .rc, false, []⟩, ⟨0, 8, .rc, false, []⟩]⟩,
  ⟨.JS_INTEN, 0x40112048, 16, 0x80, 1, 0x0, false, 12,
    [⟨3, 1, .rw, false, []⟩, ⟨2, 1, .rw, false, []⟩, ⟨1, 1, .rw, false, []⟩, ⟨0, 1, .rw, false, []⟩]⟩,
  ⟨.JS_INTST, 0x4011204C, 16, 0x80, 1, 0x0, false, 12,
    [⟨3, 1, .w1c, false, []⟩, ⟨2, 1, .w1c, false, []⟩, ⟨1, 1, .w1c, false, []⟩, ⟨0, 1, .w1c, false, []⟩]⟩]

/-- ETH registers. -/
def regRowsEth : List FamRow := [
  ⟨.ETH_CFG, 0x40120000, 2, 0x8000, 1, 0x0, false, 1,
    [⟨24, 8, .st, true, []⟩, ⟨19, 2, .st, true, []⟩, ⟨16, 3, .ro, false, []⟩, ⟨1, 1, .st, true, []⟩, ⟨0, 1, .st, true, []⟩]⟩,
  ⟨.ETH_IP4, 0x40120004, 2, 0x8000, 1, 0x0, false, 1,
    [⟨0, 32, .ro, true, []⟩]⟩,
  ⟨.ETH_IP6, 0x40120010, 2, 0x8000, 4, 0x4, false, 1,
    [⟨0, 32, .st, true, []⟩]⟩,
  ⟨.ETH_HQ, 0x40120020, 2, 0x8000, 1, 0x0, false, 1,
    [⟨0, 32, .ro, false, []⟩]⟩,
  ⟨.ETH_CNT, 0x40120024, 2, 0x8000, 1, 0x0, false, 1,
    [⟨16, 16, .rc, false, []⟩, ⟨0, 16, .rc, false, []⟩]⟩,
  ⟨.ETH_GCL, 0x40121000, 2, 0x8000, 1024, 0x4, false, 1,
    [⟨0, 32, .st, true, []⟩]⟩,
  ⟨.ETH_TBL, 0x40122000, 2, 0x8000, 2048, 0x4, false, 1,
    [⟨0, 32, .st, true, []⟩]⟩,
  ⟨.ETH_SAK, 0x40124000, 2, 0x8000, 1024, 0x4, false, 1,
    [⟨0, 32, .wo, false, []⟩]⟩]

/-- PCI registers. -/
def regRowsPci : List FamRow := [
  ⟨.PCI_STAT, 0x40130000, 1, 0x0, 1, 0x0, false, 1,
    [⟨4, 3, .ro, false, []⟩, ⟨0, 2, .ro, false, []⟩]⟩]

/-- CAN registers. -/
def regRowsCan : List FamRow := [
  ⟨.CAN_CFG, 0x40140000, 4, 0x2000, 1, 0x0, false, 1,
    [⟨3, 1, .st, true, []⟩, ⟨2, 1, .st, true, []⟩, ⟨0, 2, .st, true, []⟩]⟩,
  ⟨.CAN_DATA, 0x40140100, 4, 0x2000, 960, 0x4, false, 1,
    [⟨0, 32, .rw, false, []⟩]⟩]

/-- XSP registers. -/
def regRowsXsp : List FamRow := [
  ⟨.XSP_CFG, 0x40150000, 1, 0x0, 1, 0x0, false, 1,
    [⟨0, 32, .st, true, []⟩]⟩,
  ⟨.XSP_CMD, 0x40150010, 1, 0x0, 1, 0x0, false, 1,
    [⟨28, 4, .ro, false, []⟩, ⟨8, 1, .ws, false, []⟩, ⟨0, 8, .rw, false, []⟩]⟩]

/-- Every register family. -/
def regRows : List FamRow :=
  regRowsSys ++
  regRowsImg ++
  regRowsFco ++
  regRowsIrt ++
  regRowsCpc ++
  regRowsTb ++
  regRowsTmr ++
  regRowsTmrg ++
  regRowsTrk ++
  regRowsMk ++
  regRowsEnc ++
  regRowsSch ++
  regRowsCh ++
  regRowsHsk ++
  regRowsPad ++
  regRowsPadg ++
  regRowsTdac ++
  regRowsAdc ++
  regRowsKnk ++
  regRowsPsq ++
  regRowsCal ++
  regRowsAcn ++
  regRowsGw ++
  regRowsCtx ++
  regRowsJrn ++
  regRowsJs ++
  regRowsEth ++
  regRowsPci ++
  regRowsCan ++
  regRowsXsp

/-- The place of an address in a family: instance numbers and half (0 low, 1 high of a 64-bit register). -/
def FamRow.find (r : FamRow) (a : Nat) : Option (Nat × Nat × Nat) :=
  if a < r.base then none
  else
    let d := a - r.base
    let n := if r.n1 ≤ 1 then 0 else d / r.s1
    let d := if r.n1 ≤ 1 then d else d % r.s1
    let k := if r.n2 ≤ 1 then 0 else d / r.s2
    let d := if r.n2 ≤ 1 then d else d % r.s2
    if n < r.n1 && k < r.n2 && (d == 0 || (r.wide && d == 4)) then some (n, k, d / 4) else none

/-- A register of the map. -/
structure RegHit where
  row : FamRow
  n : Nat
  k : Nat
  half : Nat
  deriving DecidableEq, Repr

/-- The first family of a list that holds an address. -/
def findIn : List FamRow → Nat → Option RegHit
  | [], _ => none
  | r :: l, a =>
    match r.find a with
    | some (n, k, h) => some ⟨r, n, k, h⟩
    | none => findIn l a

/-- The rows of a block, by bits [31:16] of the address. Families whose base lies below an address of their own block only
are searched. -/
def rowsAt (a : Nat) : List FamRow := regRows.filter fun r => r.base / 65536 == a / 65536

/-- The register at an aligned address, if the map has one there. CTXsss reaches from 0x40108000 within its block. -/
def lookupReg (a : Nat) : Option RegHit := findIn (rowsAt a) a

end Sys2Proof.Machine
end

