-- ==== Sys2Proof/Machine/Access.lean ====
section
/-! DEFINITION. The check that every register access passes (R21, R283, R432): capabilities and grants of the context on whose
behalf it is made, by the access rules of the chapters, and the refusal of a core's access. -/

namespace Sys2Proof.Machine

/-- Capability bits (R311). -/
def capObsAngle : Nat := 0
def capObsMeas : Nat := 1
def capObsJrn : Nat := 2
def capSubmit : Nat := 3
def capCut : Nat := 4
def capReqConv : Nat := 5
def capCfgSeq : Nat := 6
def capCfgMode : Nat := 7
def capCalWrite : Nat := 8
def capRetireClear : Nat := 9
def capTune : Nat := 10
def capDiag : Nat := 11
def capPsqIo : Nat := 12
def capTimeSet : Nat := 13
def capFaultRead : Nat := 14
def capFaultAck : Nat := 15

/-- The context on whose behalf an initiator accesses (R21, R305); none for the journal engine and the PCIe host. -/
def State.ctxOf (s : State) : Agent → Option Nat
  | .cp n => some n.val
  | .gw c => some c.val
  | .dbg => some (s.fld CPC_DBGCFG_CTX)
  | .jrn => none
  | .pciHost => none

/-- The initiator's number among the bus initiators of R28. -/
def initNo : Agent → Nat
  | .cp n => n.val
  | .gw _ => 4
  | .jrn => 5
  | .dbg => 6
  | .pciHost => 7

/-- A context holds a capability; a disabled context reaches nothing (R310). -/
def State.cap (s : State) (x b : Nat) : Bool := s.flag CTX_CAP_EN x && s.fld CTX_CAP_CAP x / 2 ^ b % 2 == 1

/-- A context holds at least one capability bit. (DEDUCED: log 16.) -/
def State.anyCap (s : State) (x : Nat) : Bool := s.flag CTX_CAP_EN x && s.fld CTX_CAP_CAP x != 0

/-- Grant sets (R310): channels, inputs, sequencers, streams. -/
def State.grantCh (s : State) (x c : Nat) : Bool := bitsOf (s.rd (CTX_CHG.addr x (c / 32))) (c % 32) 1 == 1
def State.grantAdc (s : State) (x j : Nat) : Bool := bitsOf (s.rd (CTX_ADCG.addr x (j / 32))) (j % 32) 1 == 1
def State.grantPsq (s : State) (x q : Nat) : Bool := s.fld CTX_GRP_PSQ x / 2 ^ q % 2 == 1
def State.grantJs (s : State) (x j : Nat) : Bool := s.fld CTX_GRP_JS x / 2 ^ j % 2 == 1

/-- The grants of R97: every channel bound to tracker n. -/
def State.grantTrk (s : State) (x n : Nat) : Bool := (s.boundChans n).all (s.grantCh x)

/-- Every enabled channel (R398). -/
def State.grantEnabled (s : State) (x : Nat) : Bool :=
  (List.range 128).all fun c => !s.flag CH_CFG_EN c || s.grantCh x c

/-- Every channel of group g. -/
def State.grantGroup (s : State) (x g : Nat) : Bool := (List.range 8).all fun j => s.grantCh x (8 * g + j)

/-- Every enabled input mapped to converter a (R234). -/
def State.grantConv (s : State) (x a : Nat) : Bool :=
  (List.range 64).all fun j => !(s.flag ADC_IN_EN j && s.fld ADC_IN_CONV j == a) || s.grantAdc x j

/-- The owner that MKnnn_CFG gives is in the context's grant set (R102). -/
def State.grantMark (s : State) (x m : Nat) : Bool :=
  let k := s.fld MK_CFG_OWNKIND m
  let i := s.fld MK_CFG_OWNIDX m
  if k == 0 then s.grantCh x i
  else if k == 1 then s.grantAdc x i
  else if k == 2 then s.grantPsq x i
  else false

/-- The stream that TRACE records are routed to (R354). -/
def State.grantTrace (s : State) (x : Nat) : Bool :=
  let b := bitsOf (s.rd (JRN_RTE.addr 0)) 16 8
  b / 128 == 1 && s.grantJs x (b % 16)

/-- What a read of a register needs of context x (n, k the instance). Where no chapter names a capability, any one suffices. (DEDUCED: log 16.) -/
def State.readRule (s : State) (x : Nat) (f : Fam) (n : Nat) (a : Nat) : Bool :=
  let blk := a / 65536 % 4096
  if blk == 0x000 then
    (match f with
     | .SYS_ID | .SYS_UID => s.anyCap x
     | _ => s.cap x capFaultRead || (decide (x < 4) && s.flag CTX_CAP_EN x))
  else if blk == 0x001 then s.anyCap x
  else if blk == 0x002 then s.cap x capFaultRead
  else if blk == 0x003 then s.cap x capFaultRead || (decide (x < 4) && s.flag CTX_CAP_EN x)
  else if blk == 0x004 then
    (if a % 65536 < 0x1000 then s.anyCap x
     else
       let g := match f with | .TMRG_CFG => n | _ => n / 8
       s.flag CTX_CAP_EN x && (s.fld TMRG_CFG_OWN g == x || s.cap x capObsMeas))
  else if blk == 0x005 || blk == 0x006 then s.cap x capObsAngle
  else if blk == 0x007 then
    s.cap x capSubmit || s.cap x capCut || s.cap x capCfgMode || s.cap x capObsAngle
  else if blk == 0x008 then
    s.grantCh x n && (s.cap x capSubmit || s.cap x capCut || s.cap x capCfgMode || s.cap x capObsAngle)
  else if blk == 0x009 || blk == 0x00A then
    (s.cap x capSubmit || s.cap x capCut || s.cap x capObsAngle || s.cap x capFaultRead) &&
      (if 0x8000 ≤ a % 65536 ∧ blk = 0x00A then s.grantGroup x n else s.grantCh x n)
  else if blk == 0x00B then
    s.cap x capObsMeas &&
      (match f with
       | .TDAC_CTRL | .TDAC_STAT => true
       | .ADC_IN => s.grantAdc x n
       | _ => s.grantConv x n)
  else if blk == 0x00C then s.cap x capObsMeas && s.grantAdc x (s.fld KNK_WLEN_GIN n)
  else if blk == 0x00D then
    s.grantPsq x n &&
      (match f with
       | .PSQ_RXQ => s.cap x capPsqIo
       | _ => s.cap x capPsqIo || s.cap x capCfgSeq)
  else if blk == 0x00E then s.cap x capCalWrite || s.cap x capFaultRead
  else if blk == 0x00F then
    (match f with
     | .ACN_LOG => s.cap x capFaultRead
     | _ => s.cap x capFaultRead || s.cap x capObsAngle)
  else if blk == 0x010 then
    (if 0x8000 ≤ a % 65536 then (if n = x then s.anyCap x else s.cap x capFaultRead) else s.anyCap x)
  else if blk == 0x011 then
    s.cap x capObsJrn && (if 0x2000 ≤ a % 65536 then s.grantJs x n else true)
  else if blk == 0x012 then
    (match f with
     | .ETH_HQ => s.flag CTX_CAP_EN x && s.fld ETH_CFG_HQOWN n == x
     | _ => s.anyCap x)
  else if blk == 0x014 then s.flag CTX_CAP_EN x && s.fld CAN_CFG_OWN n == x
  else s.anyCap x

/-- What a write of v to a register with a writable field needs of context x (n the instance). (DEDUCED: log 16.) -/
def State.writeRule (s : State) (x : Nat) (by_ : Agent) (f : Fam) (n a : Nat) (v : Word) : Bool :=
  let bit (i : Nat) : Bool := bitsOf v i 1 == 1
  match f with
  | .SYS_SLPCTL => s.cap x capCfgMode && s.grantEnabled x
  | .SYS_RSTCTL => s.cap x capDiag
  | .SYS_INTEN | .SYS_INTST => decide (x < 4) && s.flag CTX_CAP_EN x
  | .SYS_FNMODE => s.cap x capCfgMode
  | .IMG_DCTL => s.cap x capTune
  | .FCO_PEND | .FCO_SAFECLR | .FCO_LOGSTAT | .FCO_INTEN | .FCO_INTST => s.cap x capFaultAck
  | .FCO_SRC => s.cap x capCfgMode
  | .FCO_RDEC => s.cap x capCfgMode && s.grantCh x (bitsOf v 0 7)
  | .FCO_RCLR => s.cap x capRetireClear && s.grantCh x (bitsOf v 0 7)
  | .FCO_KICK => s.flag CTX_CAP_EN x && s.fld FCO_KACFG_OWN == x
  | .IRT_SRC => s.cap x capCfgMode && decide (x < 4)
  | .IRT_SWSET | .IRT_SWCLR => decide (x < 4) && s.flag CTX_CAP_EN x
  | .IRT_CPTHR | .IRT_CPCTL | .IRT_CPRUN | .IRT_CPEOI => decide (by_ = .cp ⟨n % 4, Nat.mod_lt _ (by decide)⟩)
  | .CPC_CPCTL => s.cap x capDiag && x != n
  | .TB_NTCFG | .TB_NTBASE | .TB_NTOFS | .TB_NTRATE | .TB_NTAPPLY => s.cap x capTimeSet
  | .TMRG_CFG => s.cap x capCfgSeq && s.fld TMRG_CFG_OWN n == x
  | .TMR_CFG | .TMR_TRIG | .TMR_CAPCFG | .TMR_CTRL | .TMR_CNT | .TMR_TOP | .TMR_CMP | .TMR_INTEN | .TMR_INTST
  | .TMR_STAT => s.cap x capCfgSeq && s.fld TMRG_CFG_OWN (n / 8) == x
  | .TRK_CMD | .TRK_SYNCASSERT | .TRK_CTRL | .TRK_INTEN | .TRK_INTST | .TRK_TRECSTAT | .TRK_PCMD | .TRK_COR =>
    s.cap x capCfgMode && s.grantTrk x n
  | .MK_POS => s.cap x capCfgSeq && s.grantMark x n
  | .MK_FIRED => s.cap x capCfgSeq
  | .ENC_POS | .ENC_INTEN | .ENC_INTST =>
    s.cap x capCfgMode && (List.range 6).all fun t =>
      !(s.flag TRK_CFG_ENCUSE t && s.fld TRK_CFG_ENCSEL t == n) || s.grantTrk x t
  | .CH_EVT | .CH_PWMPER | .CH_PWMDUTY | .CH_PWMLOCK | .CH_INTEN | .CH_INTST => s.grantCh x n && s.cap x capSubmit
  | .CH_CMD =>
    s.grantCh x n && (s.cap x capSubmit || s.cap x capCut) && (!bit 0 || s.cap x capSubmit)
      && (!(bit 2 || bit 3) || s.cap x capCut)
  | .CH_INJDLY => s.grantCh x n && s.cap x capCfgMode
  | .HSK_FORCE | .PAD_TEST => s.grantCh x n && s.cap x capDiag
  | .PAD_DIAG => if v = 0 then s.readRule x f n a else s.grantCh x n && s.cap x capFaultAck
  | .PADG_INTEN => s.grantGroup x n && s.cap x capFaultAck
  | .PADG_INTST => if v = 0 then s.readRule x f n a else s.grantGroup x n && s.cap x capFaultAck
  | .TDAC_CTRL => s.cap x capDiag && s.grantAdc x (if s.flag TDAC_CTRL_EN then s.fld TDAC_CTRL_TARGET else bitsOf v TDAC_CTRL_TARGET.lo TDAC_CTRL_TARGET.len)
  | .ADC_IN => s.cap x capCfgSeq && s.grantConv x (s.fld ADC_IN_CONV n)
  | .ADC_CTRL | .ADC_CFG | .ADC_TSEL | .ADC_SEQ1 | .ADC_INTEN | .ADC_INTST | .ADC_TSTAT =>
    s.cap x capCfgSeq && s.grantConv x n
  | .ADC_SEQ0 => s.cap x capCfgSeq && s.grantConv x n && (decide (63 < bitsOf v 0 7) || s.grantAdc x (bitsOf v 0 7))
  | .ADC_URG => s.cap x capReqConv && s.grantAdc x (bitsOf v ADC_URG_SRC.lo ADC_URG_SRC.len)
  | .ADC_HOFS | .ADC_CALDEC => s.cap x capCfgMode && s.grantConv x n
  | .KNK_INTEN | .KNK_INTST | .KNK_TSTAT | .KNK_STAT => s.cap x capCfgSeq && s.grantAdc x (s.fld KNK_WLEN_GIN n)
  | .PSQ_TXQ => s.grantPsq x n && s.cap x capPsqIo
  | .PSQ_CTRL | .PSQ_TMO | .PSQ_TSEL | .PSQ_QSTAT | .PSQ_INTEN | .PSQ_INTST | .PSQ_TSTAT =>
    s.grantPsq x n && s.cap x capCfgSeq
  | .CAL_WBUF | .CAL_WCRC | .CAL_CTL => s.cap x capCalWrite
  | .ACN_CTL => s.cap x capCfgMode && s.grantTrk x (s.fld ACN_TRK_TRK)
  | .JRN_HBUF | .JRN_HDEC => s.cap x capCfgMode && s.grantTrace x
  | .JS_CTRL | .JS_INTEN | .JS_INTST => s.cap x capCfgSeq && s.grantJs x n
  | .XSP_CMD => s.cap x capTune
  | _ => s.readRule x f n a

/-- A family whose fields are all RO, RC or ST (R432). -/
def FamRow.readOnly (r : FamRow) : Bool := r.fields.all fun f => f.acc == .ro || f.acc == .rc || f.acc == .st

/-- Whether an address at or above 0x4000_0000 lies in a listed block (R26). -/
def inBlock (a : Nat) : Bool :=
  let b := a / 65536
  decide (0x4000 ≤ b) && decide (b ≤ 0x4015) && !(b == 0x4014 && decide (0x8000 ≤ a % 65536))

/-- The check of a register access (R21, R26, R27, R56, R67, R304, R308, R432): a pair that does not run makes none, and the journal engine reads the counts
that it stamps with and reaches nothing else. (DEDUCED: log 17, 20.) -/
def State.regAccess (s : State) (by_ : Agent) (a : Nat) (write : Bool) (v : Word) : Bool :=
  let st := s.fld IMG_STATUS_STATE
  let isImg := a / 65536 == 0x4001
  if !inBlock a || a % 4 != 0 then false
  else if (match by_ with | .cp n => s.fld CPC_CPSTAT_STATE n.val != 1 | _ => false) then false
  else if st == 3 then
    isImg && (decide (by_ = .pciHost) || decide (by_ = .cp 0))
  else if st != 2 then false
  else
    match by_, s.ctxOf by_ with
    | .jrn, _ => !write && (match lookupReg a with | some h => h.row.wide && !h.row.fields.any (·.acc == .rw) | none => false)
    | .pciHost, _ => false
    | _, none => false
    | _, some x =>
      (match by_ with | .dbg => s.flag CPC_DBGCFG_SBEN | _ => true) &&
      match lookupReg a with
      | none =>
        if 0x40030900 ≤ a ∧ a < 0x40031000 then
          (if write then s.writeRule x by_ .IRT_SRC ((a - 0x40030000) / 4) a v else s.readRule x .IRT_SRC ((a - 0x40030000) / 4) a)
        else s.anyCap x
      | some h =>
        let f := h.row.fam
        if f == .IRT_CPCLAIM || (write && f == .IRT_CPCAND) then decide (by_ = .cp ⟨h.n % 4, Nat.mod_lt _ (by decide)⟩)
        else if write && !h.row.readOnly then s.writeRule x by_ f h.n a v
        else s.readRule x f h.n a

/-- The debug module is open (R305, R306). (DESIGN CHOICE: log 19; DEDUCED: log 44.) -/
def State.dbgOpen (s : State) : Bool :=
  s.fld CPC_LCS_LCS == 0 || s.fld CPC_LCS_LCS == 3 || (s.fld CPC_LCS_LCS == 1 && s.flag CPC_LCS_UNLOCKED)

/-! Physical memory protection of a core (R279, R282) -/

/-- Trailing ones of a word. -/
def trailOnes : Nat → Nat → Nat
  | 0, _ => 0
  | k + 1, w => if w % 2 = 1 then 1 + trailOnes k (w / 2) else 0

/-- The byte range of PMP entry i: its first byte and its end; empty while it is off. -/
def Core.pmpRange (c : Core) (i : Nat) : Nat × Nat :=
  let w := (c.pmpaddr.getD i 0).toNat
  match ((c.pmpcfg.getD i 0).toNat / 8) % 4 with
  | 0 => (0, 0)
  | 1 => ((if i = 0 then 0 else (c.pmpaddr.getD (i - 1) 0).toNat) * 4, w * 4)
  | 2 => (w * 4, w * 4 + 4)
  | _ =>
    let t := trailOnes 32 w
    (w / 2 ^ (t + 1) * 2 ^ (t + 1) * 4, (w / 2 ^ (t + 1) + 1) * 2 ^ (t + 1) * 4)

/-- Kinds of access, by the PMP permission bit they need: read, write, fetch. -/
def aRead : Nat := 0
def aWrite : Nat := 1
def aFetch : Nat := 2

/-- The PMP admits an access of n bytes at a (R282): the lowest-numbered entry that holds any of the bytes decides, and it must hold them all. Machine mode
passes an unlocked entry, and where no entry holds a byte. -/
def Core.pmpOk (c : Core) (user : Bool) (a n kind : Nat) : Bool :=
  match (List.range 16).find? fun i => decide (a < (c.pmpRange i).2) && decide ((c.pmpRange i).1 < a + n) with
  | none => !user
  | some i =>
    let cfg := (c.pmpcfg.getD i 0).toNat
    decide ((c.pmpRange i).1 ≤ a) && decide (a + n ≤ (c.pmpRange i).2)
      && ((!user && cfg / 128 == 0) || cfg / 2 ^ kind % 2 == 1)

/-- The privilege of a load or store: MPRV puts MPP in its place. -/
def Core.dataUser (c : Core) : Bool :=
  if bitsOf c.mstatus 17 1 == 1 && !c.user then bitsOf c.mstatus 11 2 == 0 else c.user

/-- The PMP of the core that makes a data access admits it; other initiators have none. -/
def State.pmpPass (s : State) (by_ : Agent) (a n : Nat) (write : Bool) : Bool :=
  match by_ with
  | .cp k => (s.core k.val).pmpOk (s.core k.val).dataUser a n (if write then aWrite else aRead)
  | _ => true

end Sys2Proof.Machine
end

