-- ==== Sys2Proof/Machine/TaskOps.lean ====
section
/-! DEFINITION. Task inputs (R166-R168), shared by converters, knock channels, timers and pin sequencers. -/

namespace Sys2Proof.Machine

/-- Task inputs, numbered as State.task holds them. -/
def tiAdc (a : Nat) : Nat := a
def tiKnk (k : Nat) : Nat := 4 + k
def tiTmr (t : Nat) : Nat := 8 + t
def tiPsq (q : Nat) : Nat := 56 + q

/-- The two sources of a TSEL register that are enabled. -/
def State.selPair (s : State) (a : Nat) : List Nat :=
  let w := s.rd a
  (if bitsOf w 15 1 == 1 then [bitsOf w 0 9] else []) ++ (if bitsOf w 31 1 == 1 then [bitsOf w 16 9] else [])

/-- The sources that a task input selects. -/
def State.taskSel (s : State) (i : Nat) : List Nat :=
  if i < 4 then (List.range 4).flatMap fun k => s.selPair (ADC_TSEL.addr i k)
  else if i < 8 then (if s.flag KNK_TSEL_OEN (i - 4) then [s.fld KNK_TSEL_OSRC (i - 4)] else [])
  else if i < 56 then [s.fld TMR_TRIG_MSRC (i - 8)]
  else (List.range 2).flatMap fun k => s.selPair (PSQ_TSEL.addr (i - 56) k)

/-- A task input keeps entries: its consumer is neither disabled nor stopped (R167). A stopped timer in START mode keeps its
entries, since a take starts it (R254). -/
def State.taskLive (s : State) (i : Nat) : Bool :=
  if i < 4 then s.fld ADC_CTRL_STATE i != 0
  else if i < 8 then s.flag KNK_CFG_EN (i - 4)
  else if i < 56 then
    let t := i - 8
    let m := s.fld TMR_CFG_SLAVE t
    s.flag TMR_CFG_EN t && (m == 4 || ((m == 2 || m == 3) && s.flag TMR_STAT_RUN t))
  else s.fld PSQ_STAT_STATE (i - 56) != 0

/-- COALESCE mode of a task input. -/
def State.taskCoal (s : State) (i : Nat) : Bool :=
  if i < 4 then s.flag ADC_CFG_TMODE i
  else if i < 8 then s.flag KNK_TSEL_OMODE (i - 4)
  else if i < 56 then s.flag TMR_TRIG_TMODE (i - 8)
  else s.flag PSQ_CFG_TMODE (i - 56)

/-- Show PEND of a task input in its register. -/
def State.taskPend (s : State) (i : Nat) : State :=
  let n := (s.taskOf i).length
  if i < 4 then s.setFld ADC_TSTAT_PEND n i
  else if i < 8 then s.setFld KNK_TSTAT_PEND n (i - 4)
  else if i < 56 then s.setFld TMR_STAT_PEND n (i - 8)
  else s.setFld PSQ_TSTAT_PEND n (i - 56)

/-- The OVF flag of a task input, with its interrupt cause where the block has one. -/
def State.taskOvf (s : State) (i : Nat) : State :=
  if i < 4 then (s.hwFlag ADC_TSTAT_OVF i).cause .adc ADC_INTST_TOVF i
  else if i < 8 then s.hwFlag KNK_TSTAT_OVF (i - 4)
  else if i < 56 then s.hwFlag TMR_STAT_TOVF (i - 8)
  else (s.hwFlag PSQ_TSTAT_OVF (i - 56)).cause .psq PSQ_INTST_TOVF (i - 56)

/-- Put an entry behind those of earlier TCLK, in ascending source number among those of its own (R167). -/
def insertTask (e : TaskEnt) : List TaskEnt → List TaskEnt
  | [] => [e]
  | q :: l => if q.at_ = e.at_ ∧ e.src < q.src then e :: q :: l else q :: insertTask e l

/-- Add an entry (R167): one that would take PEND above 15 is dropped. -/
def State.taskAdd (s : State) (i src : Nat) (cu : Bool) : State :=
  let l := s.taskOf i
  if 15 ≤ l.length then s.taskOvf i
  else (s.setTask i (insertTask ⟨src, cu, s.now⟩ l)).taskPend i

/-- A source pulses (R166, R167): every live task input that selects it gains an entry. -/
def State.taskPulse (s : State) (src : Nat) (cu : Bool) : State :=
  s.each (List.range 72) fun s i => if s.taskLive i && (s.taskSel i).contains src then s.taskAdd i src cu else s

/-- Clear the pending entries (R167). -/
def State.taskClear (s : State) (i : Nat) : State := (s.setTask i []).taskPend i

/-- A take (R168): the oldest entry, and whether a COALESCE take found PEND above 1. -/
def State.taskTake (s : State) (i : Nat) : Option (TaskEnt × Bool × State) :=
  match s.taskOf i with
  | [] => none
  | e :: l =>
    if s.taskCoal i then some (e, l != [], (s.setTask i []).taskPend i)
    else some (e, false, (s.setTask i l).taskPend i)

end Sys2Proof.Machine
end

