-- ==== Sys2Proof/Machine/TimeOps.lean ====
section
/-! DEFINITION. 64-bit register writes, the network-time translator and the timers (R28, R29, chapter 8). -/

namespace Sys2Proof.Machine

/-- The key of an initiator's latch of the 64-bit register at address a. -/
def latchKey (by_ : Agent) (a : Nat) : Nat := a * 8 + initNo by_

/-- A write of the low half of a 64-bit register is held (R29). -/
def State.splitLow (s : State) (by_ : Agent) (a : Nat) (v : Word) : State :=
  { s with wrLatch := tput none s.wrLatch (latchKey by_ a) (some v) }

/-- A write of the high half (R29): the value with the held low half, or with the current one, and the latch emptied. -/
def State.splitHigh (s : State) (by_ : Agent) (a cur : Nat) (v : Word) : Nat × State :=
  let lo := ((tget none s.wrLatch (latchKey by_ a)).getD (BitVec.ofNat 32 cur)).toNat
  (lo + v.toNat * 2 ^ 32, { s with wrLatch := tput none s.wrLatch (latchKey by_ a) none })

/-! Network time (R248-R250) -/

/-- Shadow values. -/
def Nt.get (x : Nt) : NtReg → Nat | .base => x.base | .ofs => x.ofs | .rate => x.rate | .apply => x.apply
def Nt.set (x : Nt) (r : NtReg) (v : Nat) : Nt :=
  match r with | .base => { x with base := v } | .ofs => { x with ofs := v } | .rate => { x with rate := v } | .apply => { x with apply := v }

/-- The register of a shadow. -/
def ntFld : NtReg → Fld | .base => TB_NTBASE | .ofs => TB_NTOFS | .rate => TB_NTRATE | .apply => TB_NTAPPLY

/-- NT of a TB value (R248), modulo 2^64. -/
def State.ntOf (s : State) (t : Nat) : Nat :=
  let d := signedOf 64 ((t % 2 ^ 64 + 2 ^ 64 - s.wide TB_NTBASE) % 2 ^ 64)
  unsignedOf 64 ((s.wide TB_NTOFS : Int) + d * (s.wide TB_NTRATE : Int) / 2 ^ 32)

/-- A write of half a shadow (R29, R249, R250): ignored while armed, and from a context unless SRC is 0. (DEDUCED: log 40.) -/
def State.ntWrite (s : State) (by_ : Agent) (r : NtReg) (high : Bool) (v : Word) : State :=
  let a := (ntFld r).addr
  if s.flag TB_NTCFG_ARM || s.fld TB_NTCFG_SRC != 0 then s
  else if high then
    let (x, s) := s.splitHigh by_ a (s.nt.get r) v
    { s with nt := s.nt.set r x }
  else s.splitLow by_ a v

/-- A write of 1 to TB_NTCFG.ARM (R249). (DEDUCED: log 40.) -/
def State.ntArm (s : State) : State :=
  if s.flag TB_NTCFG_ARM || s.fld TB_NTCFG_SRC != 0 then s
  else { (s.setFld TB_NTCFG_ARM 1) with nt := { s.nt with armAt := s.now } }

/-- The shadows pass (R249). (DEDUCED: log 40.) -/
def State.ntApply (s : State) : State :=
  if s.flag TB_NTCFG_ARM && decide (s.nt.armAt < s.now) && decide (s.nt.apply ≤ s.now) then
    let x := s.nt
    let s := ((s.setWide TB_NTBASE x.base).setWide TB_NTOFS x.ofs).setWide TB_NTRATE x.rate
    (s.setFld TB_NTCFG_ARM 0).setFld TB_NTSTAT_APPLIED (s.fld TB_NTSTAT_APPLIED + 1)
  else s

/-! Timers (R251-R257) -/

/-- Slave modes (R254). -/
def slGate : Nat := 1
def slReset : Nat := 2
def slClock : Nat := 3
def slStart : Nat := 4

/-- The master timer of a GATE slave. -/
def State.tmrMaster (s : State) (t : Nat) : Nat := s.fld TMR_TRIG_MSRC t - 384

/-- Ticks and prescaler of a timer are held: frozen, or gated off (R252, R257). -/
def State.tmrHeld (s : State) (t : Nat) : Bool :=
  s.flag TMR_STAT_FROZEN t || (s.fld TMR_CFG_SLAVE t == slGate && !s.flag TMR_STAT_OUTL (s.tmrMaster t))

/-- The prescalers of a group's running timers stop and go on with their holds. -/
def State.tmrHolds (s : State) (g : Nat) : State :=
  s.each ((List.range 8).map (8 * g + ·)) fun s t =>
    if !s.flag TMR_STAT_RUN t then s
    else
      let x := s.tm t
      match s.tmrHeld t, x.pscHeld with
      | true, none => s.setTm t { x with pscHeld := some (s.now - x.pscAt) }
      | false, some k => s.setTm t { x with pscHeld := none, pscAt := s.now - k }
      | _, _ => s

/-- The freeze of a group follows the halted processors (R257). -/
def State.tmrFreeze (s : State) : State :=
  s.each (List.range 6) fun s g =>
    let f := (List.range 4).any fun k => s.fld CPC_CPSTAT_STATE k == 5 && s.fld TMRG_CFG_DBGFRZ g / 2 ^ k % 2 == 1
    let l := ((List.range 8).map (8 * g + ·)).filter fun t => s.flag TMR_STAT_FROZEN t != f
    if l = [] then s else (s.each l fun s t => s.setFlag TMR_STAT_FROZEN f t).tmrHolds g

/-- The prescaler restarts. -/
def State.pscRestart (s : State) (t : Nat) : State :=
  s.setTm t { s.tm t with pscAt := s.now, pscHeld := if s.tmrHeld t then some 0 else none }

/-- START (R251). -/
def State.tmrStart (s : State) (t : Nat) : State :=
  if !s.flag TMR_CFG_EN t then s
  else ((s.setFld TMR_STAT_RUN 1 t).setTm t { s.tm t with edges := 0 }).pscRestart t

/-- STOP (R251); the task input's entries clear (R167). -/
def State.tmrStop (s : State) (t : Nat) : State := (s.setFld TMR_STAT_RUN 0 t).taskClear (tiTmr t)

/-- A write of TMRnn_CTRL: STOP after START. -/
def State.tmrCtl (s : State) (t : Nat) (v : Word) : State :=
  let s := s.when (bitsOf v 0 1 == 1) fun s => s.tmrStart t
  s.when (bitsOf v 1 1 == 1) fun s => s.tmrStop t

/-- A timer runs in the current TCLK: an ONESHOT stop comes after its TCLK (R252). -/
def State.tmrRuns (s : State) (t : Nat) : Bool := s.flag TMR_STAT_RUN t || (s.tm t).stopAt == some s.now

/-- The end of a timer's TCLK (R252): where CNT has changed or CMP has passed, and CNT = CMP, the compare pulses, OUTL moves and the cause is set. -/
def State.tmrCompare (s : State) (t : Nat) (chg : Bool) : State :=
  let x := s.tm t
  let s := s.setTm t { x with cmpNew := false }
  if !(chg || x.cmpNew) || s.rd (TMR_CNT.addr t) != x.cmp then s
  else
    let o := s.flag TMR_STAT_OUTL t
    let o := match s.fld TMR_CFG_OUTACT t with | 1 => true | 2 => false | 3 => !o | _ => o
    let s := (s.setFlag TMR_STAT_OUTL o t).tmrHolds (t / 8)
    (s.cause .tmr TMR_INTST_CMP t).emit (.pulse (384 + t) false)

/-- The shadows that a wrap passes (R253): those written in an earlier TCLK. -/
def State.tmrPass (s : State) (t : Nat) : State :=
  let x := s.tm t
  let old (w : Option Nat) : Bool := match w with | none => false | some c => decide (c < s.now)
  let x := if old x.topAt then { x with top := s.rd (TMR_TOP.addr t), topAt := none } else x
  let x := if old x.cmpAt then { x with cmp := s.rd (TMR_CMP.addr t), cmpAt := none, cmpNew := true } else x
  (s.setTm t x).setFlag TMR_STAT_PENDING (x.topAt.isSome || x.cmpAt.isSome) t

/-- A wrap of a ONESHOT timer stops it after this TCLK (R252); the task input's entries clear (R167). -/
def State.tmrOneshot (s : State) (t : Nat) : State :=
  if s.flag TMR_CFG_ONESHOT t then (s.setTm t { s.tm t with stopAt := some s.now }).tmrStop t else s

/-- One tick (R252, R253). -/
def State.tmrTick (s : State) (t : Nat) : State :=
  let c := s.rd (TMR_CNT.addr t)
  if c = (s.tm t).top then ((((s.wr (TMR_CNT.addr t) 0).tmrPass t).cause .tmr TMR_INTST_WRAP t).tmrCompare t (c != 0)).tmrOneshot t
  else (s.wr (TMR_CNT.addr t) (c + 1)).tmrCompare t true

/-- CNT goes to 0 and the prescaler restarts (R252). -/
def State.tmrReset (s : State) (t : Nat) : State :=
  let c := s.rd (TMR_CNT.addr t)
  let s := s.setTm t { s.tm t with resetAt := some (s.now, c) }
  ((s.wr (TMR_CNT.addr t) 0).pscRestart t).tmrCompare t (c != 0)

/-- An edge of the capture source qualifies by its polarity (R255); the undefined EDGE 3 qualifies none. (DEDUCED: log 39.) -/
def State.capEdge (s : State) (t : Nat) (rising : Bool) : Bool :=
  match s.fld TMR_CAPCFG_EDGE t with
  | 0 => rising
  | 1 => !rising
  | 2 => true
  | _ => false

/-- CAPTURE_EDGE of a pin or line comes in its acceptance TCLK (R71, R255); the sources 30 and 31 are undefined and capture nothing. (DEDUCED: log 39.) -/
def State.capTaken (s : State) (t stamp : Nat) (rising : Bool) : Bool :=
  let src := s.fld TMR_CAPCFG_CSRC t
  decide (src < 64) && src != 30 && src != 31 && s.capEdge t rising && decide (stamp + s.fld TMR_CAPCFG_FILT t + 2 = s.now)

/-- The next qualified edge of a timer makes a capture (R255). -/
def State.capFull (s : State) (t : Nat) : Bool :=
  s.flag TMR_CFG_EN t && s.flag TMR_CAPCFG_CEN t && s.tmrRuns t && decide (s.fld TMR_CAPCFG_EPS t ≤ (s.tm t).edges)

/-- A capture that resets the counter comes in this TCLK: it has come, or it waits in the queue (R252). (DEDUCED: log 39.) -/
def State.resetComes (s : State) (t : Nat) : Bool :=
  (match (s.tm t).resetAt with | some (c, _) => c == s.now | none => false)
    || (!s.flag TMR_STAT_FROZEN t && s.pending.any fun i =>
      match i with
      | .captureEdge u edge => u == t && s.flag TMR_CAPCFG_CAPRST t && s.capFull t && s.capTaken t edge.stamp.toNat edge.rising
      | .timerTake u => u == t && s.fld TMR_CFG_SLAVE t == slReset && (s.taskOf (tiTmr t)).any fun e => decide (e.at_ < s.now)
      | _ => false)

/-- A prescaler wrap that has fallen due (R251); a reset in the same TCLK wins over it (R252). -/
def State.tmrDue (s : State) (t : Nat) : State :=
  let x := s.tm t
  let p := s.fld TMR_CFG_PSC t + 1
  if s.flag TMR_STAT_RUN t && s.fld TMR_CFG_SLAVE t != slClock && !s.tmrHeld t && decide (x.pscAt + p ≤ s.now) && !s.resetComes t then
    (s.setTm t { x with pscAt := x.pscAt + p }).tmrTick t
  else s

/-- A take of the task input (R254), of an entry that pulsed in an earlier TCLK, one in a TCLK. (DEDUCED: log 39.) -/
def State.tmrTake (s : State) (t : Nat) : State :=
  let m := s.fld TMR_CFG_SLAVE t
  let run := s.flag TMR_STAT_RUN t
  let ready := s.flag TMR_CFG_EN t && !s.flag TMR_STAT_FROZEN t && ((m == slStart && !run) || ((m == slReset || m == slClock) && run))
    && (s.tm t).takenAt != some s.now
  match ready, s.taskTake (tiTmr t) with
  | true, some (e, ov, s') =>
    if e.at_ < s.now then
      let s := (s'.when ov fun s => s.hwFlag TMR_STAT_OVERLAP t)
      let s := s.setTm t { s.tm t with takenAt := some s.now }
      if m = slStart then s.tmrStart t else if m = slReset then s.tmrReset t else if s.resetComes t then s else s.tmrTick t
    else s
  | _, _ => s

/-- CNT that a capture records (R252): the value before a reset of this TCLK. -/
def State.capCnt (s : State) (t : Nat) : Word :=
  match (s.tm t).resetAt with
  | some (c, v) => if c = s.now then v else s.rd (TMR_CNT.addr t)
  | none => s.rd (TMR_CNT.addr t)

/-- A qualified capture edge with sample TCLK `stamp` (R252, R255, R257): a capture that resets takes CNT before the reset, any other CNT after the step of this TCLK.
(DEDUCED: log 39.) -/
def State.tmrCapture (s : State) (t stamp : Nat) : State :=
  let x := s.tm t
  if !s.flag TMR_CFG_EN t || !s.flag TMR_CAPCFG_CEN t || !s.tmrRuns t then s
  else if x.edges < s.fld TMR_CAPCFG_EPS t then s.setTm t { x with edges := x.edges + 1 }
  else
    let rst := s.flag TMR_CAPCFG_CAPRST t && !s.flag TMR_STAT_FROZEN t
    let s := if rst then s else (s.when (s.fld TMR_CFG_SLAVE t == slClock) fun s => s.tmrTake t).tmrDue t
    let s := (s.wr (TMR_CAPPREV.addr t) (s.rd (TMR_CAP.addr t))).wr (TMR_CAP.addr t) (s.capCnt t)
    let s := s.setFld TMR_CAPTB stamp t
    let s := s.when (s.tm t).unread fun s => s.hwFlag TMR_STAT_OVR t
    let s := (s.setTm t { s.tm t with edges := 0, unread := true }).cause .tmr TMR_INTST_CAP t
    s.when rst fun s => s.tmrReset t

/-- A pulse of a task source reaches the timers that capture on it (R255). -/
def State.capPulse (s : State) (src : Nat) : State :=
  s.each (List.range 48) fun s t => if s.fld TMR_CAPCFG_CSRC t == 64 + src then s.tmrCapture t s.now else s

/-- A write of TMRnn_CNT (R251): while the timer is stopped. -/
def State.tmrCnt (s : State) (t : Nat) (v : Word) : State := if s.flag TMR_STAT_RUN t then s else s.wr (TMR_CNT.addr t) v

/-- A write of TMRnn_TOP or TMRnn_CMP (R253): with SHADOW it waits for a wrap, otherwise it passes in the next TCLK. -/
def State.tmrShadow (s : State) (t : Nat) (cmp : Bool) (v : Word) : State :=
  let s := s.wr (if cmp then TMR_CMP.addr t else TMR_TOP.addr t) v
  let x := s.tm t
  if s.flag TMR_CFG_SHADOW t then
    (s.setTm t (if cmp then { x with cmpAt := some s.now } else { x with topAt := some s.now })).setFld TMR_STAT_PENDING 1 t
  else s.setTm t (if cmp then { x with soon := (x.soon.1, true) } else { x with soon := (true, x.soon.2) })

/-- TOP and CMP written in the TCLK before without SHADOW pass (R253). -/
def State.tmrSoon (s : State) (t : Nat) : State :=
  let x := s.tm t
  let x := if x.soon.1 then { x with top := s.rd (TMR_TOP.addr t) } else x
  let x := if x.soon.2 then { x with cmp := s.rd (TMR_CMP.addr t), cmpNew := true } else x
  s.setTm t { x with soon := (false, false) }

/-- The end of a TCLK at which a CMP has passed while CNT stood (R252). -/
def State.tmrClose (s : State) (t : Nat) : State :=
  if !(s.tm t).cmpNew then s
  else if s.tmrRuns t && !s.flag TMR_STAT_FROZEN t then s.tmrCompare t true
  else s.setTm t { s.tm t with cmpNew := false }

/-- What a new TCLK brings to the timers (R253, R257). -/
def State.tmrAll (s : State) : State := (s.each (s.tmr.map (·.1)) fun s t => s.tmrSoon t).tmrFreeze

/-- What the end of a TCLK brings to the timers. -/
def State.tmrEnd (s : State) : State := s.each (s.tmr.map (·.1)) fun s t => s.tmrClose t

end Sys2Proof.Machine
end

