-- ==== Sys2Proof/Machine/GwOps.lean ====
section
/-! DEFINITION. What the gateway sends (R314-R316, R319, R324-R330): device messages, completions, reports, requests and publications. -/

namespace Sys2Proof.Machine

def State.gx (s : State) (x : Nat) : GwCtx := tget {} s.gw x
def State.setGx (s : State) (x : Nat) (g : GwCtx) : State := { s with gw := tput {} s.gw x g }

/-- Message types (R316). -/
def dSubmit : Nat := 0x01
def dCut : Nat := 0x02
def dUncut : Nat := 0x03
def dFlush : Nat := 0x04
def dRead : Nat := 0x05
def dWrite : Nat := 0x06
def dSubscribe : Nat := 0x07
def dEcho : Nat := 0x08
def dCompletion : Nat := 0x81
def dReport : Nat := 0x82
def dRequest : Nat := 0x83
def dPublish : Nat := 0x84

/-- A message with its tag (R314). -/
def dtpBytes (key ty x seq token : Nat) (body : List Nat) : List Nat :=
  let m := [0xD7, 1, ty, 0] ++ beBytes 2 x ++ beBytes 2 body.length ++ beBytes 4 seq ++ beBytes 4 token ++ body
  m ++ (hmac256 (beBytes 32 key) m).take 16

/-- A context is reached by the UDP path, by the PCIe path. -/
def State.pathUdp (s : State) (x : Nat) : Bool := s.fld CTX_CAP_PATH x % 2 == 1
def State.pathPcie (s : State) (x : Nat) : Bool := s.fld CTX_CAP_PATH x / 2 == 1

/-- The ports that carry a message to a context, of the one given or of both under TXMODE: those on which it has sent one (R328). -/
def State.gwPorts (s : State) (x port : Nat) : List Nat :=
  if !s.pathUdp x then []
  else (if s.flag GW_CFG_TXMODE then [0, 1] else [port]).filter fun p => (s.gx x).peer.any (·.1 == p)

/-- A datagram to the peer of a context on a port (R328); none where it has sent none there. -/
def State.gwUdp (s : State) (x port : Nat) (m : List Nat) : State :=
  match (s.gx x).peer.find? (·.1 == port) with
  | some (_, ip, udp) => s.send (.udp port ip udp m)
  | none => s

/-- A message into the next ring entry of the context's page, padded with zeros, and its vector (R330). -/
def State.gwRing (s : State) (x : Nat) (m : List Nat) : State :=
  let g := s.gx x
  let e := m ++ List.replicate (128 - m.length) 0
  let s := s.setGx x { g with page := (g.page ++ [e]).drop (g.page.length + 1 - 64), pageN := (g.pageN + 1) % 2 ^ 32 }
  s.when (s.flag CTX_CAP_MSIX x) fun s => s.send (.msix (s.fld CTX_CAP_VEC x))

/-- Send a device message to a context (R315, R328, R330): with the next SEQ, on the port given, or on both under TXMODE, and into the page of a context
with the PCIe path. PUBLISH goes over UDP only. A context that is disabled or has no key receives nothing, and a message that goes nowhere takes no SEQ.
(DEDUCED: log 47.) -/
def State.gwSend (s : State) (x ty token port : Nat) (body : List Nat) : State :=
  match s.flag CTX_CAP_EN x, (s.gx x).key with
  | true, some key =>
    let ports := s.gwPorts x port
    let ring := s.pathPcie x && ty != dPublish
    if ports = [] ∧ ring = false then s
    else
      let seq := (s.fld CTX_TXSEQ x + 1) % 2 ^ 32
      let m := dtpBytes key ty x seq token body
      let s := (s.setFld CTX_TXSEQ seq x).each ports fun s p => s.gwUdp x p m
      s.when ring fun s => s.gwRing x m
  | _, _ => s

/-- A completion, report or request enters the completion ring (R319). -/
def State.gwKeep (s : State) (x token ty : Nat) (body : List Nat) : State :=
  let g := s.gx x
  let n := (g.ringN + 1) % 64
  (s.setGx x { g with ring := (g.ring ++ [(token, ty, body)]).drop (g.ring.length + 1 - 64), ringN := n }).setFld CTX_QSTAT_RINGIDX n x

/-- FLAGS of a COMPLETION (R316). -/
def cDup : Nat := 1
def cRefused : Nat := 2
def cUrgent : Nat := 4

/-- Statuses (R320). -/
def sOk : Nat := 0
def sBadFormat : Nat := 1
def sBadType : Nat := 2
def sNoCap : Nat := 3
def sNoGrant : Nat := 4
def sQuota : Nat := 5
def sQueueFull : Nat := 6
def sBusError : Nat := 7
def sPartial : Nat := 8
def sInProgress : Nat := 9

/-- The body of a COMPLETION (R316). -/
def State.compBody (s : State) (status flags idx : Nat) (items : List Nat) : List Nat :=
  [status, flags, items.length, idx] ++ beBytes 8 (s.ntOf s.now) ++ items.flatMap (beBytes 4)

/-- Complete an operation (R319). (DEDUCED: log 47.) -/
def State.gwComplete (s : State) (x token port status flags idx : Nat) (items : List Nat) : State :=
  let b := s.compBody status flags idx items
  (s.gwKeep x token dCompletion b).gwSend x dCompletion token port b

/-- A refusal (R317): a COMPLETION that does not enter the ring, the counters, and for the first since CTXsss_STAT was read the fault and the
interrupt. (DEDUCED: log 47.) -/
def State.gwRefuse (s : State) (x token port status flags : Nat) : State :=
  let s := s.gwSend x dCompletion token port (s.compBody status (flags ||| cRefused) 0 [])
  let s := s.bump CTX_STAT_REFUSED x
  let g := s.gx x
  if g.refHeld then s
  else ((s.setGx x { g with refHeld := true }).raiseFault 137 x).cause .gw GW_INTST_REFUSE

/-- An execution report goes to the committing context (R160). -/
def State.gwReport (s : State) (r : Report) : State :=
  if r.ctx < 4 || 512 ≤ r.ctx then s
  else
    let b := beBytes 2 r.ch ++ [0, 0] ++ ([r.w0, r.w1, r.w2, r.w3].flatMap fun w => beBytes 4 w.toNat)
    (s.gwKeep r.ctx 0 dReport b).gwSend r.ctx dReport 0 (s.gx r.ctx).port b

/-- The grants of a context cover an instance of a function (R32, R324). -/
def State.grantFn (s : State) (x fn inst : Nat) : Bool :=
  if fn == fnSync || fn == fnTooth || fn == fnRestart then s.grantTrk x inst
  else if fn == fnInjdly || fn == fnRetry then s.grantCh x inst
  else if fn == fnCaltrk then s.grantConv x inst
  else if fn == fnJrec then s.grantTrace x
  else true

/-- Contexts that the gateway keeps anything for. -/
def State.gwKeys (s : State) : List Nat := s.gw.map (·.1)

/-- The mask of a subscription; bit i of the four words (R316). -/
def subMask (g : GwCtx) (kind : Nat) : Nat := (tget (0, 0) g.sub kind).2
def subPeriod (g : GwCtx) (kind : Nat) : Nat := (tget (0, 0) g.sub kind).1

/-- DATA of a REQUEST (R324). -/
def State.askData (s : State) (fn inst : Nat) : Nat :=
  if fn == fnSync then s.fld TRK_DECSTAT_RSEQ inst
  else if fn == fnInjdly then s.fld CH_INJDEC_MEAS inst
  else 0

/-- A decision request is sent to the contexts that R324 names. -/
def State.gwAsk (s : State) (fn inst : Nat) : State :=
  let b := [fn, inst, 0, 0] ++ beBytes 4 (s.askData fn inst)
  s.each (s.gwKeys.filter fun x => s.cap x capCfgMode && subMask (s.gx x) 2 / 2 ^ fn % 2 == 1 && s.grantFn x fn inst) fun s x =>
    (s.gwKeep x 0 dRequest b).gwSend x dRequest 0 (s.gx x).port b

/-- Publish the waiting results of a context (R325). -/
def State.gwPublish (s : State) (x : Nat) : State :=
  let g := s.gx x
  let now := g.pubQ.take 48
  let s := s.setGx x { g with pubQ := g.pubQ.drop 48, pubAt := s.now }
  if now = [] then s
  else s.gwSend x dPublish 0 g.port ([0, now.length, 0, 0] ++ now.flatMap fun ws => ws.flatMap (beBytes 4))

/-- A result passes to the contexts subscribed to its input (R325): 48 waiting results are sent at once. (DEDUCED: log 47.) -/
def State.gwResult (s : State) (input : Nat) (ws : List Nat) : State :=
  s.each (s.gwKeys.filter fun x => subMask (s.gx x) 0 / 2 ^ input % 2 == 1) fun s x =>
    let g := s.gx x
    let s := s.setGx x { g with pubQ := g.pubQ ++ [ws], pubAt := if g.pubQ = [] then s.now else g.pubAt }
    s.when (decide (48 ≤ (s.gx x).pubQ.length)) fun s => s.gwPublish x

/-- A tracker publication (R325): one entry per tracker of the mask. -/
def State.gwTrackers (s : State) (x : Nat) : State :=
  let g := s.gx x
  let ns := (List.range 6).filter fun n => subMask g 1 / 2 ^ n % 2 == 1
  let s := s.setGx x { g with trkAt := s.now }
  s.gwSend x dPublish 0 g.port ([1, ns.length, 0, 0] ++ ns.flatMap fun n =>
    beBytes 4 (s.rd (TRK_STATE.addr n)).toNat ++ beBytes 4 (s.aw n) ++ beBytes 4 (s.rateNow n) ++ beBytes 4 (s.now % 2 ^ 32))

/-- Show the level of a command queue. -/
def State.cmdLevel (s : State) (x : Nat) : State := s.setFld CTX_QSTAT_CMDLVL (s.gx x).queue.length x

/-- The operation at the head of a context's queue completes and leaves it. -/
def State.gwFinish (s : State) (x : Nat) (o : GwOp) (status idx : Nat) (items : List Nat) : State :=
  let s := (s.setGx x { s.gx x with queue := (s.gx x).queue.drop 1 }).cmdLevel x
  s.gwComplete x o.token o.port status 0 idx items

/-- The ISTAT word of an item of the gateway is posted (R321): a SUBMIT completes once every event has one. -/
def State.gwPosted (s : State) (x istat : Nat) : State :=
  match (s.gx x).queue with
  | [] => s
  | o :: rest =>
    if !o.run then s
    else
      let o := { o with items := o.items ++ [istat] }
      let n := o.body.getD 2 0
      if o.items.length < n then s.setGx x { s.gx x with queue := o :: rest }
      else
        match o.items.findIdx? fun w => w % 256 != 0 with
        | none => s.gwFinish x o sOk 0 o.items
        | some i => s.gwFinish x o sPartial i o.items

end Sys2Proof.Machine
end

