-- ==== Sys2Proof/Machine/KnockOps.lean ====
section
/-! DEFINITION. The knock front ends' shared operations (chapter 7): windows, the filter bank, results. -/

namespace Sys2Proof.Machine

/-- Flags of a window header (R233). -/
def kAborted : Nat := 2 ^ 0
def kLateopen : Nat := 2 ^ 1
def kIsat : Nat := 2 ^ 2
def kOvr : Nat := 2 ^ 3
def kRaw : Nat := 2 ^ 4
def kLenclose : Nat := 2 ^ 5
def kOverlap : Nat := 2 ^ 6

/-- Angle word of a knock channel's tracker in TCLK t. -/
def State.kAw (s : State) (k t : Nat) : Nat :=
  let n := s.fld KNK_CFG_TRK k
  if n < 6 then s.awAt n t else 0

/-- The window that is open, the newest one of the list. -/
def Knk.open? (x : Knk) : Option Win :=
  match x.wins.getLast? with
  | some w => if w.close.isNone then some w else none
  | none => none

/-- Replace the newest window. -/
def Knk.setLast (x : Knk) (w : Win) : Knk := { x with wins := x.wins.dropLast ++ [w] }

/-- The open window closes in TCLK t, with flags. -/
def State.knkClose (s : State) (k t flags : Nat) : State :=
  let x := s.kn k
  match x.open? with
  | none => s
  | some w =>
    let x := x.setLast { w with close := some (t, s.kAw k t), flags := w.flags ||| flags }
    (s.setKn k { x with closedAt := some t }).setFld KNK_STAT_OPEN 0 k

/-- A close pulse (R228, R229): it acts against the window that was open at the start of the TCLK; one that has closed otherwise in this TCLK stays closed. -/
def State.knockClose (s : State) (k : Nat) : State :=
  let stray := if (s.kn k).closedAt = some s.now then s else s.bump KNK_CNT_STRAYCL k
  match (s.kn k).open? with
  | some w => if w.tbo < s.now then s.knkClose k s.now 0 else stray
  | none => stray

/-- Tracker n enters LOST, REVERSE or STOPPED: its knock channels see it in the TCLK after (R18, R230). -/
def State.knockAbort (s : State) (n : Nat) : State :=
  s.each (List.range 4) fun s k =>
    if s.flag KNK_CFG_EN k && s.fld KNK_CFG_TRK k == n then s.setKn k { s.kn k with abortAt := some (s.now + 1) } else s

/-- A knock channel sees that its tracker has been lost: an open window closes (R230). -/
def State.knkTick (s : State) (k : Nat) : State :=
  if (s.kn k).abortAt = some s.now ∧ (s.kn k).open?.isSome then
    ((s.knkClose k s.now kAborted).bump KNK_CNT_ABORTED k).cause .knk KNK_INTST_ABORT k
  else s

/-- What a new TCLK brings to the knock channels. -/
def State.knkAll (s : State) : State := s.each (List.range 4) fun s k => s.knkTick k

/-- A close pulse of a task source reaches the knock channels that select it (R228). -/
def State.knockPulse (s : State) (src : Nat) : State :=
  s.each (List.range 4) fun s k =>
    if s.flag KNK_CFG_EN k && s.flag KNK_TSEL_CEN k && s.fld KNK_TSEL_CSRC k == src then s.knockClose k else s

/-- Words enter the result queue whole or not at all (R233). -/
def State.knkPut (s : State) (k : Nat) (ws : List Nat) (result : Bool) : State :=
  let x := s.kn k
  if 1024 < x.queue.length + ws.length then (s.bump KNK_QSTAT_DROP k).cause .knk KNK_INTST_DROP k
  else
    let s := (s.setKn k { x with queue := x.queue ++ ws }).setFld KNK_QSTAT_LEVEL (x.queue.length + ws.length) k
    s.when result fun s => s.cause .knk KNK_INTST_RESULT k

/-- An open trigger is taken in the current TCLK (R228): the window opens with a synchronising reset of its filters (R231). A pending
mode change of FN_KNOCK switches the channel here (R35). (DEDUCED: log 38.) -/
def State.knkOpen (s : State) (k : Nat) (e : TaskEnt) (ov : Bool) : State :=
  let s := s.switchInst fnKnock k
  let raw := s.hostMode fnKnock k
  let late := decide (e.at_ < s.now)
  let n := s.fld KNK_CFG_TRK k
  let wcnt := (s.fld KNK_STAT_WCNT k + 1) % 256
  let s := s.when late fun s => s.bump KNK_CNT_LATEOPEN k
  let s := ((s.setFld KNK_STAT_WCNT wcnt k).setFld KNK_STAT_OPEN 1 k).setFlag KNK_STAT_RAWMODE raw k
  let w : Win :=
    { wcnt, tbo := s.now, awo := s.kAw k s.now, tsrc := e.src,
      flags := (if ov then kOverlap else 0) ||| (if raw then kRaw else 0) ||| (if late then kLateopen else 0),
      nosync := decide (6 ≤ n) || s.level n true == 0,
      nsamp := 0, nwarm := 0, bands := List.replicate 8 0, hist := [], raw, close := none }
  s.setKn k { s.kn k with wins := (s.kn k).wins ++ [w] }

/-- Output y_b of the filter for a history (newest sample first): the sum of C_b[i] x[k - i] (R231). -/
def State.knkFir (s : State) (k b : Nat) (hist : List Int) : Int :=
  (List.range (s.fld KNK_CFG_L k)).foldl (fun acc i => acc + s.sfld KNK_COEF_C k (64 * b + i) * hist.getD i 0) 0

/-- The filter bank takes a sample (R231): the window with its histories, warm-up count and integrators. -/
def State.knkFilter (s : State) (k : Nat) (w : Win) (x : Int) : Win :=
  let l := s.fld KNK_CFG_L k
  let prime := s.flag KNK_CFG_PRIME k
  let hist := if w.nsamp = 0 && prime then List.replicate l x else (x :: w.hist).take l
  let warm := !prime && decide (w.nsamp + 1 < l)
  let w := { w with hist, nwarm := if warm then min 255 (w.nwarm + 1) else w.nwarm }
  if warm && !s.flag KNK_CFG_INTWARM k then w
  else
    let u (b : Nat) : Nat :=
      let y := s.knkFir k b hist
      (if s.flag KNK_CFG_RECT k then (y * y).natAbs else y.natAbs) / 2 ^ s.fld KNK_CFG_ISHIFT k
    let sums := (List.range 8).map fun b => w.bands.getD b 0 + u b
    let sat := sums.any (0xFFFFFFFF < ·)
    { w with bands := sums.map (min 0xFFFFFFFF), flags := if sat then w.flags ||| kIsat else w.flags }

/-- A sample belongs to a window: its effective instant lies at or after the open and before the close, and the window does not hold
MAXLEN samples (R228). -/
def Win.includes (w : Win) (maxlen eff : Nat) : Bool :=
  decide (w.tbo ≤ eff) && (w.nsamp == 0 || decide (w.nsamp < maxlen)) &&
    match w.close with
    | none => true
    | some (t, _) => decide (eff < t)

/-- A sample is included in a window (R228, R231, R232). (DEDUCED: log 38.) -/
def State.knkInclude (s : State) (k i : Nat) (w : Win) (x : BitVec 24) (clip : Bool) : State :=
  let first := w.nsamp == 0
  let w := { w with flags := if clip then w.flags ||| kOvr else w.flags }
  let was := w.flags &&& kIsat
  let w := if w.raw then w else s.knkFilter k w x.toInt
  let w := { w with nsamp := w.nsamp + 1 }
  let s := s.setKn k { s.kn k with wins := (s.kn k).wins.set i w }
  let s := s.when (clip || w.flags &&& kIsat != was) fun s => s.cause .knk KNK_INTST_OVR k
  let s := s.when w.raw fun s =>
    s.knkPut k [2 ^ 30 + w.wcnt % 16 * 2 ^ 26 + (if first then 2 ^ 25 else 0) + (if clip then 2 ^ 24 else 0) + x.toNat] false
  if w.close.isNone && decide (s.fld KNK_WLEN_MAXLEN k ≤ w.nsamp) then (s.knkClose k s.now kLenclose).bump KNK_CNT_LENCLOSE k else s

/-- The decimator delivers a sample in the current TCLK: every 2 048 TCLK (R227). -/
def State.knkDue (s : State) (k : Nat) : Bool :=
  match (s.kn k).sampleAt with
  | none => true
  | some t => decide (t < s.now) && (s.now - t) % 2048 == 0

/-- A sample leaves the decimator (R227): its effective instant lies 3 072 TCLK back. -/
def State.knkSample (s : State) (k : Nat) (x : BitVec 24) (clip : Bool) : State :=
  let s := s.setKn k { s.kn k with sampleAt := some s.now }
  if s.now < 3072 then s
  else
    match (s.kn k).wins.findIdx? (Win.includes · (s.fld KNK_WLEN_MAXLEN k) (s.now - 3072)) with
    | none => s
    | some i =>
      match (s.kn k).wins[i]? with
      | none => s
      | some w => s.knkInclude k i w x clip

/-- The result of a closed window (R233). -/
def Win.words (w : Win) (tbc awc : Nat) : List Nat :=
  let len := if w.raw then 6 else 14
  [2 ^ 31 + len * 2 ^ 24 + w.wcnt % 256 * 2 ^ 16 + w.tsrc % 512 * 2 ^ 7 + w.flags % 128, w.tbo % 2 ^ 32, w.tbo / 2 ^ 32 % 2 ^ 32,
    w.awo, tbc % 2 ^ 32, awc, (if w.nosync then 2 ^ 31 else 0) + min 255 w.nwarm * 2 ^ 16 + w.nsamp % 65536]
    ++ (if w.raw then [] else w.bands)

/-- The oldest window has closed and its last sample has been processed, which is so once the next one would lie at or after the close: its result is posted
(R228, R233). (DEDUCED: log 38.) -/
def State.knkPost (s : State) (k : Nat) : State :=
  match (s.kn k).wins with
  | [] => s
  | w :: rest =>
    match w.close with
    | none => s
    | some (t, aw) =>
      let past := match (s.kn k).sampleAt with
        | some p => decide (t + 1024 ≤ p)
        | none => false
      if w.flags &&& kLenclose != 0 || past || decide (t + 3072 ≤ s.now) then
        (s.setKn k { s.kn k with wins := rest }).knkPut k (w.words t aw) true
      else s

/-- A read of KNKn_RES (R233): the oldest word of the queue leaves it; an empty queue reads 0. -/
def State.knkRead (s : State) (k : Nat) : State :=
  match (s.kn k).queue with
  | [] => s.busOk 0
  | w :: rest => ((s.setKn k { s.kn k with queue := rest }).setFld KNK_QSTAT_LEVEL rest.length k).busOk w

end Sys2Proof.Machine
end

