-- ==== Sys2Proof/Machine/IrtOps.lean ====
section
/-! DEFINITION. The interrupt router and the states of the pairs (chapter 10): candidates, claim, completion, halts and restarts. -/

namespace Sys2Proof.Machine

/-- CPC_CPnSTAT.STATE. -/
def cpReset : Nat := 0
def cpRunning : Nat := 1
def cpLockstep : Nat := 2
def cpDouble : Nat := 3
def cpSw : Nat := 4
def cpDebug : Nat := 5

def State.cpState (s : State) (n : Nat) : Nat := s.fld CPC_CPSTAT_STATE n

/-- Source states (R298). -/
def State.irtPend (s : State) (k : Nat) : Bool := s.bankBit IRT_PEND k
def State.irtAct (s : State) (k : Nat) : Bool := s.bankBit IRT_ACT k

/-- RUN(n) + 1, 0 with no active source (R299). -/
def State.runLevel (s : State) (n : Nat) : Nat :=
  match s.nestOf n with
  | [] => 0
  | (_, l) :: _ => l + 1

/-- Show a nesting stack in IRT_CPnRUN. -/
def State.nestShow (s : State) (n : Nat) : State :=
  let l := s.nestOf n
  let (src, run) := match l with
    | [] => (0, 0x3F)
    | (k, v) :: _ => (k, v)
  ((s.setFld IRT_CPRUN_SRC src n).setFld IRT_CPRUN_DEPTH l.length n).setFld IRT_CPRUN_RUN run n

/-- CPn is eligible for source k (R299). -/
def State.eligible (s : State) (n k : Nat) : Bool :=
  let pri := s.fld IRT_SRC_PRI k
  s.fld IRT_SRC_ROUTE k / 2 ^ n % 2 == 1 && s.cpState n == cpRunning && !(s.core n).emerg && !s.flag IRT_CPCTL_GDIS n
    && decide (s.fld IRT_CPTHR_THR n ≤ pri) && decide (s.runLevel n ≤ pri)

/-- Put a source into a list in descending PRI, then ascending number. -/
def insertSrc (pri : Nat → Nat) (k : Nat) : List Nat → List Nat
  | [] => [k]
  | q :: l => if pri q < pri k then k :: q :: l else q :: insertSrc pri k l

/-- The sources that the router assigns in a fabric cycle, in its order: enabled and PENDING; one in ACTIVE_PENDING waits for its active
instance. -/
def State.irtOrder (s : State) : List Nat :=
  ((List.range 576).filter fun k => s.irtPend k && s.flag IRT_SRC_EN k && !s.irtAct k).foldl
    (fun l k => insertSrc (fun q => s.fld IRT_SRC_PRI q) k l) []

/-- The pair that source k goes to: the eligible one of lowest RUN that has no candidate yet. -/
def State.pairFor (s : State) (k : Nat) (taken : List (Nat × Nat)) : Option Nat :=
  ((List.range 4).filter fun n => s.eligible n k && !taken.any (·.1 == n)).foldl
    (fun b n => match b with
      | none => some n
      | some m => if s.runLevel n < s.runLevel m then some n else some m) none

/-- The candidates (R299), as (pair, source). -/
def State.candidates (s : State) : List (Nat × Nat) :=
  s.irtOrder.foldl (fun t k => match s.pairFor k t with
    | some n => t ++ [(n, k)]
    | none => t) []

/-- The candidate of CPn. (DEDUCED: log 45.) -/
def State.candidate (s : State) (n : Nat) : Option Nat := (s.candidates.find? (·.1 == n)).map (·.2)

/-- CPn claims source k (R300). -/
def State.irtClaim (s : State) (n k : Nat) : State :=
  let s := (s.setBankBit IRT_PEND k false).setBankBit IRT_ACT k true
  (s.setNest n ((k, s.fld IRT_SRC_PRI k) :: s.nestOf n)).nestShow n

/-- Completion of the innermost active source of CPn (R301). -/
def State.irtComplete (s : State) (n : Nat) : State :=
  match s.nestOf n with
  | [] => s
  | (k, _) :: l =>
    let s := (s.setBankBit IRT_ACT k false).when (s.line k) fun s => s.setBankBit IRT_PEND k true
    (s.setNest n l).nestShow n

/-- A write of IRT_CPnEOI (R301). -/
def State.irtEoi (s : State) (n : Nat) (v : Word) : State :=
  match s.nestOf n with
  | (k, _) :: _ => if bitsOf v 0 10 = k then s.irtComplete n else s.hwFlag IRT_CPRUN_EOIERR n
  | [] => s.hwFlag IRT_CPRUN_EOIERR n

/-- A read of IRT_CPnCLAIM (R297): the candidate is claimed, and its number is the answer. (DEDUCED: log 45.) -/
def State.claimRead (s : State) (n : Nat) : State :=
  match s.candidate n with
  | some k => (s.irtClaim n k).busOk (2 ^ 31 + k)
  | none => s.busOk 0

/-- Clear the pending part of a source (R298). -/
def State.irtClear (s : State) (k : Nat) : State := s.setBankBit IRT_PEND k false

/-- A write of IRT_SWSETk or IRT_SWCLRk (R298). -/
def State.swSet (s : State) (k : Nat) (v : Word) : State :=
  s.each ((List.range 32).filter fun j => bitsOf v j 1 == 1) fun s j => s.fire (512 + 32 * k + j)
def State.swClear (s : State) (k : Nat) (v : Word) : State :=
  s.each ((List.range 32).filter fun j => bitsOf v j 1 == 1) fun s j => s.irtClear (512 + 32 * k + j)

/-- A write of IRT_SRCsss (R298). -/
def State.irtSrcWrite (s : State) (k : Nat) (v : Word) : State :=
  let s := ((s.setFld IRT_SRC_ROUTE (bitsOf v 8 4) k).setFld IRT_SRC_EN (bitsOf v 7 1) k).setFld IRT_SRC_PRI (bitsOf v 0 5) k
  s.when (bitsOf v 29 1 == 1) fun s => s.irtClear k

/-- A pair halts or enters reset (R304): its nested sources go back to PENDING, and its nesting stack empties. -/
def State.irtRelease (s : State) (n : Nat) : State :=
  let s := s.each (s.nestOf n) fun s p => (s.setBankBit IRT_ACT p.1 false).setBankBit IRT_PEND p.1 true
  (s.setNest n []).nestShow n

/-- Pair n halts in a state of R304. -/
def State.cpStop (s : State) (n st : Nat) : State := (s.setFld CPC_CPSTAT_STATE st n).irtRelease n

/-- Change of a core, with the copy of EMERG in CPC_CPnSTAT. -/
def State.putCore (s : State) (n : Nat) (c : Core) : State :=
  (s.setCore n c).setFlag CPC_CPSTAT_EMERG c.emerg n

/-- Pair n leaves reset at its boot address (R284, R285). (DEDUCED: log 42.) -/
def State.cpStart (s : State) (n : Nat) : State :=
  let s := s.irtRelease n
  let c := { Core.zero with pc := s.rd (CPC_CPBOOT.addr n), hstk := s.flag CPC_CPCFG_HSTK n }
  (s.putCore n c).setFld CPC_CPSTAT_STATE cpRunning n

/-- A write of CPC_CPnCTL (R285): RESTART, then HALT. (DEDUCED: log 42.) -/
def State.cpCtl (s : State) (n : Nat) (v : Word) : State :=
  let s := s.when (bitsOf v 0 1 == 1 && s.cpState n != cpReset && s.fld CPC_CPSTAT_RESTARTS n != s.fld CPC_CPCFG_RSTMAX n) fun s =>
    (s.cpStart n).setFld CPC_CPSTAT_RESTARTS (s.fld CPC_CPSTAT_RESTARTS n + 1) n
  s.when (bitsOf v 1 1 == 1 && s.cpState n == cpRunning) fun s => s.cpStop n cpSw

end Sys2Proof.Machine
end

