-- ==== Sys2Proof/Machine/Traps.lean ====
section
/-! DEFINITION. Traps of the control processors (R279, R290, R295), the CSRs of R289, and the gate before every bus access, whose bus error a core receives as
an access fault (R26, R280, R283). -/

namespace Sys2Proof.Machine

/-! Registers and mstatus -/

/-- A general register; x0 reads 0. -/
def Core.reg (c : Core) (i : Nat) : Word := if i = 0 then 0 else c.x.getD i 0

/-- Write a general register; a write of x0 is discarded. -/
def Core.setReg (c : Core) (i : Nat) (v : Word) : Core := if i = 0 then c else { c with x := c.x.set i v }

/-- mstatus fields. -/
def Core.mie? (c : Core) : Bool := bitsOf c.mstatus 3 1 == 1
def Core.mpp (c : Core) : Nat := bitsOf c.mstatus 11 2

/-- MPP as a privilege: machine is 3, user 0. -/
def Core.priv (c : Core) : Nat := if c.user then 0 else 3

/-- A trap in the standard way: mepc, mcause, mtval, MPIE, MPP, and the pc at mtvec, vectored for interrupts. -/
def Core.trap (c : Core) (cause : Nat) (tval : Word) : Core :=
  let ms := setBits (setBits (setBits c.mstatus 7 1 (bitsOf c.mstatus 3 1)) 3 1 0) 11 2 c.priv
  let base := setBits c.mtvec 0 2 0
  let vec := if 2 ^ 31 ≤ cause ∧ bitsOf c.mtvec 0 2 = 1 then base + BitVec.ofNat 32 (4 * (cause % 2 ^ 31)) else base
  { c with mepc := setBits c.pc 0 1 0, mcause := BitVec.ofNat 32 cause, mtval := tval, mstatus := ms, user := false, pc := vec }

/-- Exception and interrupt causes. -/
def ecFetchFault : Nat := 1
def ecIllegal : Nat := 2
def ecLoadFault : Nat := 5
def ecStoreFault : Nat := 7
def ecExternal : Nat := 0x8000000B

/-- CPn_DOUBLE (R295): the pair halts where the trap would be taken. -/
def State.doubleTrap (s : State) (n : Nat) : State := (s.cpStop n cpDouble).raiseFault (17 + 6 * n)

/-- A synchronous exception of CPn (R290, R295). (DEDUCED: log 42.) -/
def State.coreExc (s : State) (n cause : Nat) (tval : Word) : State :=
  if (s.core n).emerg then s.doubleTrap n else s.putCore n ((s.core n).trap cause tval)

/-- An access fault at address a, whose mtval the architecture leaves to be a or 0. (DEDUCED: log 15.) -/
def State.accFault (s : State) (n cause a : Nat) : State :=
  let (free, s) := s.fresh 1
  s.coreExc n cause (BitVec.ofNat 32 (free * a))

/-! CSRs (R279, R289) -/

/-- misa: RV32IMAFC with user mode. -/
def misaWord : Word := 0x40101125

/-- The word of CSR k of CPn in machine mode, and none where the core has no such CSR. The counters and the identification of the implementation are free
values. -/
def State.csrGet (s : State) (n k : Nat) : Option Word × State :=
  let c := s.core n
  if k = 0x300 then (some c.mstatus, s)
  else if k = 0x301 then (some misaWord, s)
  else if k = 0x304 then (some c.mie, s)
  else if k = 0x305 then (some c.mtvec, s)
  else if k = 0x340 then (some c.mscratch, s)
  else if k = 0x341 then (some c.mepc, s)
  else if k = 0x342 then (some c.mcause, s)
  else if k = 0x343 then (some c.mtval, s)
  else if k = 0x344 then (some (if !c.hstk && (s.candidate n).isSome then 0x800 else 0), s)
  else if 0x3A0 ≤ k ∧ k < 0x3A4 then
    (some (BitVec.ofNat 32 (leNat ((List.range 4).map fun i => (c.pmpcfg.getD (4 * (k - 0x3A0) + i) 0).toNat))), s)
  else if 0x3B0 ≤ k ∧ k < 0x3C0 then (some (c.pmpaddr.getD (k - 0x3B0) 0), s)
  else if k = 1 then (some (c.fcsr &&& 0x1F), s)
  else if k = 2 then (some (BitVec.ofNat 32 (bitsOf c.fcsr 5 3)), s)
  else if k = 3 then (some (c.fcsr &&& 0xFF), s)
  else if k = 0x7C0 then (some (if c.hstk then 1 else 0), s)
  else if k = 0x7C1 then (some c.wstklo, s)
  else if k = 0x7C2 then (some c.wstkhi, s)
  else if k = 0x7C3 then (some c.wmsp, s)
  else if k = 0x7C4 then (some c.wvtab, s)
  else if k = 0x7C5 then (some c.wemvec, s)
  else if k = 0xFC0 then (some (BitVec.ofNat 32 (c.depth * 256 + if c.emerg then 1 else 0)), s)
  else if k = 0xF14 then (some (BitVec.ofNat 32 n), s)
  else if k ∈ [0xF11, 0xF12, 0xF13, 0xB00, 0xB02, 0xB80, 0xB82, 0xC00, 0xC02, 0xC80, 0xC82] then
    let (v, s) := s.fresh 32
    (some (BitVec.ofNat 32 v), s)
  else (none, s)

/-- A read of CSR k by the code of CPn (R289): an illegal instruction outside machine mode, but for the floating-point CSRs and the user counters, and where the
core has no such CSR. -/
def State.csrRead (s : State) (n k : Nat) : Option Word × State :=
  let illegal (s : State) : Option Word × State :=
    let (v, s) := s.fresh 32
    (none, s.coreExc n ecIllegal (BitVec.ofNat 32 v))
  if (s.core n).user && decide (3 ≤ k / 256 % 4) then illegal s
  else match s.csrGet n k with
    | (some w, s) => (some w, s)
    | (none, s) => illegal s

/-- The mstatus bits that the core holds: MIE, MPIE, MPP (machine or user), FS and MPRV. -/
def mstatusMask (old v : Word) : Word :=
  let w := v &&& 0x00027888
  if bitsOf w 11 2 = 1 ∨ bitsOf w 11 2 = 2 then setBits w 11 2 (bitsOf old 11 2) else w

/-- What a write of CSR k by machine-mode code of CPn does (R282, R289): WCFG.HSTK stands while HSTKLOCK is 1, the fields of the stacking CSRs keep their alignment, and a
locked PMP entry stands. -/
def State.csrPut (s : State) (n k : Nat) (v : Word) : State :=
  let c := s.core n
  let locked (i : Nat) : Bool := (c.pmpcfg.getD i 0).toNat / 128 == 1
  let topLocked (i : Nat) : Bool := locked (i + 1) && (c.pmpcfg.getD (i + 1) 0).toNat / 8 % 4 == 1
  if k = 0x300 then s.putCore n { c with mstatus := mstatusMask c.mstatus v }
  else if k = 0x304 then s.putCore n { c with mie := v }
  else if k = 0x305 then s.putCore n { c with mtvec := setBits v 1 1 0 }
  else if k = 0x340 then s.putCore n { c with mscratch := v }
  else if k = 0x341 then s.putCore n { c with mepc := setBits v 0 1 0 }
  else if k = 0x342 then s.putCore n { c with mcause := v }
  else if k = 0x343 then s.putCore n { c with mtval := v }
  else if 0x3A0 ≤ k ∧ k < 0x3A4 then
    s.putCore n { c with pmpcfg := (List.range 16).map fun i =>
      if i / 4 = k - 0x3A0 ∧ !locked i then BitVec.ofNat 8 (bitsOf v (8 * (i % 4)) 8) else c.pmpcfg.getD i 0 }
  else if 0x3B0 ≤ k ∧ k < 0x3C0 then
    s.when (!locked (k - 0x3B0) && !topLocked (k - 0x3B0)) fun s => s.putCore n { c with pmpaddr := c.pmpaddr.set (k - 0x3B0) v }
  else if k = 1 then s.putCore n { c with fcsr := setBits c.fcsr 0 5 (bitsOf v 0 5) }
  else if k = 2 then s.putCore n { c with fcsr := setBits c.fcsr 5 3 (bitsOf v 0 3) }
  else if k = 3 then s.putCore n { c with fcsr := v &&& 0xFF }
  else if k = 0x7C0 then s.when (!s.flag CPC_CPCFG_HSTKLOCK n) fun s => s.putCore n { c with hstk := bitsOf v 0 1 == 1 }
  else if k = 0x7C1 then s.putCore n { c with wstklo := setBits v 0 4 0 }
  else if k = 0x7C2 then s.putCore n { c with wstkhi := setBits v 0 4 0 }
  else if k = 0x7C3 then s.putCore n { c with wmsp := v }
  else if k = 0x7C4 then s.putCore n { c with wvtab := setBits v 0 12 0 }
  else if k = 0x7C5 then s.putCore n { c with wemvec := setBits v 0 1 0 }
  else s

/-- A write of CSR k by the code of CPn (R289): an illegal instruction on a read-only CSR, on one that the core does not have, and outside machine mode but for
the floating-point CSRs. -/
def State.csrWrite (s : State) (n k : Nat) (v : Word) : State :=
  if decide (k / 1024 % 4 = 3) || ((s.core n).user && decide (3 ≤ k / 256 % 4)) || (s.csrGet n k).1.isNone then
    let (t, s) := s.fresh 32
    s.coreExc n ecIllegal (BitVec.ofNat 32 t)
  else s.csrPut n k v

/-! Bus accesses -/

/-- An access is refused (R283): bus error; a core's refusal counts in FWREF and raises CPn_FIREWALL. (DEDUCED: log 15.) -/
def State.refuse (s : State) (by_ : Agent) : State :=
  match by_ with
  | .cp n => (s.busErr.bump CPC_CPSTAT_FWREF n.val).raiseFault (20 + 6 * n.val)
  | _ => s.busErr

/-- A core that runs receives a bus error as a load or store access fault (R26, R283). (DEDUCED: log 15.) -/
def State.faulted (s : State) (by_ : Agent) (a : Nat) (write : Bool) : State :=
  match by_ with
  | .cp n => if s.bus.err && s.cpState n.val == cpRunning then s.accFault n.val (if write then ecStoreFault else ecLoadFault) a else s
  | _ => s

/-- The gate before every access: a main domain that sleeps or has no power carries none (R382), a closed debug module makes none and answers 0 (R305),
the PCIe endpoint is in reset below the threshold of VSER (R376), and one that the PMP of its core does not admit never reaches the bus (R282). -/
def State.gateRaw (s : State) (by_ : Agent) (a n : Nat) (write : Bool) (k : State → State) : State :=
  if s.pwr ≠ .run then s
  else if by_ = .dbg ∧ !s.dbgOpen then s.busOk
  else if by_ = .pciHost ∧ !s.flag SYS_PWRSTAT_VSER then s.busErr
  else if s.pmpPass by_ a n write then k s else s.busErr

/-- An access through the gate, whose bus error a core receives. (DEDUCED: log 15; DESIGN CHOICE: log 19.) -/
def State.gate (s : State) (by_ : Agent) (a n : Nat) (write : Bool) (k : State → State) : State :=
  if s.pwr ≠ .run then s else (s.gateRaw by_ a n write k).faulted by_ a write

/-- Run the effect of a register access that passes the checks; otherwise refuse it. A misaligned access is no access of a register (R27).
(DEDUCED: log 15.) -/
def State.guard (s : State) (by_ : Agent) (a : Nat) (write : Bool) (v : Word) (k : State → State) : State :=
  s.gate by_ a 4 write fun s =>
    if a % 4 ≠ 0 then s.busErr else if s.regAccess by_ a write v then k s.busOk else s.refuse by_

end Sys2Proof.Machine
end

