-- ==== Sys2Proof/Machine/Settle.lean ====
section
/-! DEFINITION. The end of every command: what it has emitted reaches the fault collector, the journal, the task inputs and the gateway, within
the same TCLK (R166, R324, R346, R357). -/

namespace Sys2Proof.Machine

/-- What a command's emissions hold, kind by kind. -/
def dueFaults (l : List Emit) : List Raise := l.filterMap fun | .fault r => some r | _ => none
def dueRecs (l : List Emit) : List Rec := l.filterMap fun | .record r => some r | _ => none
def dueAsks (l : List Emit) : List (Nat × Nat) := l.filterMap fun | .ask f i => some (f, i) | _ => none
def dueReports (l : List Emit) : List Report := l.filterMap fun | .report r => some r | _ => none
def duePulses (l : List Emit) : List (Nat × Bool) := l.filterMap fun | .pulse k cu => some (k, cu) | _ => none
def dueResults (l : List Emit) : List (Nat × List Nat) := l.filterMap fun | .result i w => some (i, w) | _ => none
def dueLatches (l : List Emit) : List Nat := l.filterMap fun | .latch c => some c | _ => none
def duePosted (l : List Emit) : List (Nat × Nat) := l.filterMap fun | .posted x w => some (x, w) | _ => none

/-- A pulse of a task source reaches every consumer: task inputs, knock closes, captures (R166, R228, R255). -/
def State.pulseAll (s : State) (src : Nat) (cu : Bool) : State := ((s.taskPulse src cu).knockPulse src).capPulse src

/-- Put a pulse into a list in ascending source number. -/
def insertPulse (p : Nat × Bool) : List (Nat × Bool) → List (Nat × Bool)
  | [] => [p]
  | q :: l => if p.1 < q.1 then p :: q :: l else q :: insertPulse p l

/-- One round: raises in ascending source number (R357), the Husks of latched pads, records in ascending TYPE and SRC (R346), pulses in ascending source number (R167), then
requests, reports, results and statuses. -/
def State.settleRound (s : State) : State :=
  let l := s.due
  let s := { s with due := [] }
  let s := s.each (sortRaises (dueFaults l)) fun s r => s.collect r
  let s := s.each (dueLatches l) fun s c => s.huskCheck c s.now
  let s := s.each (sortRecs (dueRecs l)) fun s r => s.acceptRec r
  let s := s.each ((duePulses l).foldl (fun acc p => insertPulse p acc) []) fun s p => s.pulseAll p.1 p.2
  let s := s.each (dueAsks l) fun s p => s.gwAsk p.1 p.2
  let s := s.each (dueReports l) fun s r => s.gwReport r
  let s := s.each (dueResults l) fun s p => s.gwResult p.1 p.2
  let s := s.each (duePosted l) fun s p => s.gwPosted p.1 p.2
  s.jrecScan

/-- Rounds until nothing is left; what the last round of the budget leaves is dropped. -/
def State.settleN : Nat → State → State
  | 0, s => { s with due := [] }
  | k + 1, s => if s.due = [] then s else s.settleRound.settleN k

/-- Rounds that a command may need: each hand-over emits only what stands further down the path, and a raise of a new loss is the longest. -/
def settleFuel : Nat := 64

/-- Hand over what the command in hand has emitted. -/
def State.settle (s : State) : State := State.settleN settleFuel s

/-- The outcome of a command: what it emitted is handed over, and the block goes on. -/
def done (s : State) : Host.Outcome State Fault Refusal := .next s.settle

/-- An event of the TCLK domain happens while the main domain runs, and not while it sleeps or has no power (R376, R382). (DESIGN CHOICE: log 2.) -/
def whenAwake (s : State) (o : Host.Outcome State Fault Refusal) : Host.Outcome State Fault Refusal :=
  if s.pwr = .run then o else .next s

end Sys2Proof.Machine
end

