-- ==== Sys2Proof/Machine/CalStore.lean ====
section
/-! DEFINITION. The calibration store (chapter 15): the read into the values in force, and the writing of a group. -/

namespace Sys2Proof.Machine

/-- Stored word i of group k. (DESIGN CHOICE: log 9.) -/
def State.calAt (s : State) (k i : Nat) : Word := tget 0 s.cal.store (128 * k + i)

/-- The CRC of R401 over words 0-126 of a stored group. -/
def State.calCrc (s : State) (k : Nat) : Nat := crc32 ((List.range 127).flatMap fun i => leBytes 4 (s.calAt k i).toNat)

/-- The values in force that registers show follow the store (R190, R388, R402): skew trims, and after a power-on reset the ratio. -/
def State.calShow (s : State) (por : Bool) : State :=
  let s := s.each (List.range 128) fun s c => s.setFld PAD_TRIM (s.calWord 5 (2 + c / 4) / 2 ^ (8 * (c % 4)) % 32) c
  s.when por fun s => s.wr ACN_RATIO.addr (BitVec.ofNat 32 (s.calWord 7 1))

/-- CAL_READ (R402): every group whose CRC passes comes into force, the others fall back to the neutral defaults. (DESIGN CHOICE: log 22.) -/
def State.calRead (s : State) (por : Bool) : State :=
  let good := (List.range 8).filter fun k => s.calCrc k == (s.calAt k 127).toNat
  let mask := (good.map (2 ^ ·)).sum
  let origin := ((List.range 8).map fun k => bitsOf (s.calAt k 0) 0 1 * 2 ^ k).sum
  let s := { s with calUse := mask, calForce := s.cal.store }
  ((s.setFld CAL_STAT_VALID mask).setFld CAL_STAT_ORIGIN origin).calShow por

/-- CAL_CRCk is raised for each group that has fallen back, when the fault collector starts (R402). -/
def State.calFaults (s : State) : State :=
  s.each ((List.range 8).filter fun k => !s.calGroup k) fun s k => s.raiseFault (128 + k) k

/-- The bits of value word i of group k, and the range of its field (R400). -/
def calMask (k i : Nat) : Nat :=
  if k < 4 then (if 1 ≤ i ∧ i ≤ 10 then 0xFFFF else 0)
  else if k = 4 then (if 1 ≤ i ∧ i ≤ 4 then 0xFFFF else 0)
  else if k = 5 then (if i = 1 then 0x3F else if 2 ≤ i ∧ i ≤ 29 then 0x1F1F1F1F else 0)
  else if k = 6 then (if 1 ≤ i ∧ i ≤ 16 then 0xFFFF else 0)
  else if i = 1 then 0xFFFFFFFF else 0
def calRange (k i : Nat) : Option (Nat × Nat) :=
  if (k < 4 ∧ 6 ≤ i ∧ i ≤ 10) ∨ (k = 4 ∧ (i = 2 ∨ i = 4)) ∨ (k = 6 ∧ 1 ≤ i ∧ i ≤ 16) then some (0x6000, 0xA000)
  else if k = 7 ∧ i = 1 then some (0x2F000000, 0x30600000)
  else none

/-- A value word that R405 admits. -/
def calWordOk (k i v : Nat) : Bool :=
  v &&& calMask k i == v &&
    match calRange k i with
    | some (lo, hi) => decide (lo ≤ v) && decide (v ≤ hi)
    | none => true

/-- A write of CAL_CTL (R404): with its key, and while no write runs, GO starts the write of the buffer. -/
def State.calCtl (s : State) (ctx : Nat) (v : Word) : State :=
  if bitsOf v 16 16 = 0xCA1F ∧ bitsOf v 0 1 = 1 ∧ !s.flag CAL_STAT_BUSY then
    let ws := (List.range 126).map fun i => s.rd (CAL_WBUF.addr i)
    let s := (s.setFld CAL_STAT_BUSY 1).setFld CAL_CTL_GO 1
    { s with cal := { s.cal with job := some (bitsOf v 4 3, ctx, ws) } }
  else s

/-- A write of CAL_WBUF or CAL_WCRC, ignored while a write runs (R404). -/
def State.calBuf (s : State) (a : Nat) (v : Word) : State := if s.flag CAL_STAT_BUSY then s else s.wr a v

/-- The stored words of a group. -/
def State.calPut (s : State) (k : Nat) (ws : List Word) : State :=
  let store := (ws.zip (List.range ws.length)).foldl (fun t p => tput 0 t (128 * k + p.2) p.1) s.cal.store
  { s with cal := { s.cal with store := store } }

/-- A group is left in an undefined state (R406): free words. (DEDUCED: log 37.) -/
def State.calLose (s : State) (k : Nat) : State :=
  s.each (List.range 128) fun s i =>
    let (v, s) := s.fresh 32
    { s with cal := { s.cal with store := tput 0 s.cal.store (128 * k + i) (BitVec.ofNat 32 v) } }

/-- RESULT codes of CAL_STAT. -/
def calDone : Nat := 1
def calMismatch : Nat := 2
def calRangeErr : Nat := 3
def calWorn : Nat := 4
def calVerify : Nat := 5

/-- The end of a group write (R405-R407); `ok` is the outcome of the comparison after programming. (DEDUCED: log 37.) -/
def State.calFinish (s : State) (ok : Bool) : State :=
  match s.cal.job with
  | none => s
  | some (k, ctx, ws) =>
    let s := { s with cal := { s.cal with job := none } }
    let s := (s.setFld CAL_STAT_BUSY 0).setFld CAL_CTL_GO 0
    let head := (s.calAt k 0).toNat
    let writes := head / 65536
    if crc32 (ws.flatMap fun w => leBytes 4 w.toNat) != (s.rd CAL_WCRC.addr).toNat then s.setFld CAL_STAT_RESULT calMismatch
    else if !((ws.zip (List.range 126)).all fun p => calWordOk k (p.2 + 1) p.1.toNat) then s.setFld CAL_STAT_RESULT calRangeErr
    else if 1000 ≤ writes then s.setFld CAL_STAT_RESULT calWorn
    else if !ok then
      let s := (s.calLose k).setFld CAL_STAT_VALID (setBitNat (s.fld CAL_STAT_VALID) k false)
      (s.setFld CAL_STAT_RESULT calVerify).raiseFault (128 + k) k
    else
      let old := (s.calAt k 127).toNat
      let body := BitVec.ofNat 32 (1 + (writes + 1) * 65536) :: ws
      let new := crc32 (body.flatMap fun w => leBytes 4 w.toNat)
      let s := s.calPut k (body ++ [BitVec.ofNat 32 new])
      let s := (s.setFld CAL_STAT_ORIGIN (setBitNat (s.fld CAL_STAT_ORIGIN) k true)).setFld CAL_STAT_RESULT calDone
      s.emit (.record (s.mkRec 0x06 k 7 ctx ([k, 1, 0, 0] ++ leBytes 4 old ++ leBytes 4 new ++ [0, 0, 0, 0])))

/-- A reset or power loss during a write (R406). (DEDUCED: log 37.) -/
def State.calBreak (s : State) : State :=
  match s.cal.job with
  | none => s
  | some (k, _, _) => { s.calLose k with cal := { (s.calLose k).cal with job := none } }

/-- CAL_GO (R404). -/
def execCalGo (by_ : Agent) (v : Word) (s : State) : Host.Outcome State Fault Refusal :=
  done (s.guard by_ CAL_CTL.addr true v fun s => s.calCtl ((s.ctxOf by_).getD noOrigin) v)

/-- CAL_WRITE_DONE (R405-R407). -/
def execCalWriteDone (ok : Bool) (s : State) : Host.Outcome State Fault Refusal := whenAwake s <| done (s.calFinish ok)

end Sys2Proof.Machine
end

