-- ==== Sys2Proof/Machine/PredictOps.lean ====
section
/-! DEFINITION. The predictor's operations (chapter 4): rates, holds, catch-up, slewing, fusion and the learner. Angles of a tracker are
absolute: AU counted over the cycles from angle word 0, so that CYC is their quotient by the span. -/

namespace Sys2Proof.Machine

/-- Tooth table (R77) and span. -/
def State.nTooth (s : State) (n : Nat) : Nat := s.fld TRK_TTAB_NTOOTH n
def State.nRev (s : State) (n : Nat) : Nat := 2 ^ s.fld TRK_CFG_SPAN n
def State.pitch (s : State) (n e : Nat) : Nat := s.fld TRK_TT_PITCH n e
def State.gapEntry (s : State) (n e : Nat) : Bool := s.flag TRK_TT_SYNCGAP n e

/-- Entries before and after an entry, modulo NTOOTH. -/
def State.entPrev (s : State) (n e : Nat) : Nat := if e = 0 then s.nTooth n - 1 else e - 1
def State.entNext (s : State) (n e : Nat) : Nat := if e + 1 < s.nTooth n then e + 1 else 0

/-- COR[e] in force (R115, R133). -/
def State.cor (s : State) (n e : Nat) : Int := signedOf 16 (bitsOf (s.rd (TRK_COR.addr n (e / 2))) (16 * (e % 2)) 16)

/-- Set COR[e]. -/
def State.setCor (s : State) (n e : Nat) (v : Int) : State :=
  let a := TRK_COR.addr n (e / 2)
  s.wr a (setBits (s.rd a) (16 * (e % 2)) 16 (unsignedOf 16 v))

/-- The effective mode (R118, R125): 0 LINEAR, 1 PROFILE, 2 FUSED. -/
def State.effMode (s : State) (n : Nat) : Nat :=
  let m := s.fld TRK_PCFG_MODE n
  if m = 0 ∨ 2 < m ∨ s.fld TRK_PSTAT_LRNREV n < s.fld TRK_PLRN_LRNMIN n then 0
  else if m = 1 ∨ s.flag TRK_PSTAT_FUSEFAIL n then 1
  else 2

/-- P(e), the effective pitch (R105, R115). -/
def State.pEff (s : State) (n e : Nat) : Nat :=
  if s.effMode n = 0 then s.pitch n e else ((s.pitch n e : Int) + s.cor n e).toNat

/-- S'(e), the start of entry e within its revolution (R115), and the same from PITCH alone (R90). -/
def State.startEff (s : State) (n e : Nat) : Nat := ((List.range e).map (s.pEff n)).sum
def State.startPitch (s : State) (n e : Nat) : Nat := ((List.range e).map (s.pitch n)).sum

/-- TIDX (R85). -/
def State.tidx (s : State) (n : Nat) : Nat := s.fld TRK_STATE_TIDX n

/-- The absolute start of entry TIDX: by the predictor, and from PITCH alone. -/
def State.entryAt (s : State) (n : Nat) : Nat := (s.tr n).rev * revAu + s.startEff n (s.tidx n)
def State.entryPitchAt (s : State) (n : Nat) : Nat := (s.tr n).rev * revAu + s.startPitch n (s.tidx n)

/-- Set TIDX and the revolution; REVIDX follows. -/
def State.setEntry (s : State) (n e rev : Nat) : State :=
  let s := s.setTr n { s.tr n with rev }
  (s.setFld TRK_STATE_TIDX e n).setFld TRK_STATE_REVIDX (rev % s.nRev n) n

/-- TIDX steps to the next entry (R85). -/
def State.entryFwd (s : State) (n : Nat) : State :=
  let e := s.entNext n (s.tidx n)
  s.setEntry n e (if e = 0 then (s.tr n).rev + 1 else (s.tr n).rev)

/-- TIDX steps to the entry before (R90); CYC counts down modulo 1024. -/
def State.entryBack (s : State) (n : Nat) : State :=
  let e := s.tidx n
  let r := (s.tr n).rev
  s.setEntry n (s.entPrev n e) (if e = 0 then (if r = 0 then 1024 * s.nRev n - 1 else r - 1) else r)

/-- Saturation of a rate (R105). -/
def satRate (p r : Nat) : Nat := if r = 0 && p != 0 then 1 else min r 0xFFFFFFFF

/-- rate1 for pitch p and period t (R105). -/
def rate1 (p t : Nat) : Nat := if t = 0 then 0xFFFFFFFF else satRate p (roundDiv (p * auFrac) t)

/-- The rate of the edge that ends entry e after period t, with period t1 of the entry before where there is one (R106). -/
def State.newRate (s : State) (n e t : Nat) (t1 : Option Nat) : Nat :=
  let r1 := rate1 (s.pEff n e) t
  let second := s.fld TRK_PCFG_ORDER n == 1 || (s.fld TRK_PCFG_ORDER n == 2 && decide (r1 < s.fld TRK_PLOW_LOWRATE n))
  match t1, second with
  | some t1, true =>
    let num := r1 * t1 * s.pEff n e
    let den := s.pEff n (s.entPrev n e) * t
    let r := if den = 0 ∨ 2 * r1 * den < num then 2 * r1 else if 2 * num < r1 * den then roundDiv r1 2 else roundDiv num den
    satRate (s.pEff n e) r
  | _, _ => r1

/-- The TCLK, not after t, in which a hold in force began (R108). -/
def State.holdStart (s : State) (n t : Nat) : Option Nat :=
  match (s.tr n).holdAt with
  | some h => if h ≤ t then some h else none
  | none =>
    let a := s.ang n
    if !a.run then none
    else
      let need := a.lim - a.acc
      let free := match a.cap with | none => true | some c => decide (need ≤ c)
      let h := if need = 0 then a.t0 else a.t0 + (need + a.rate - 1) / a.rate
      if (need == 0 || (a.rate != 0 && free)) && decide (h ≤ t) then some h else none

/-- No hold is in force any more. -/
def State.freeHold (s : State) (n : Nat) : State := (s.setTr n { s.tr n with holdAt := none }).setFld TRK_PSTAT_HOLDING 0 n

/-- No hold and no slew is in force any more. -/
def State.endHold (s : State) (n : Nat) : State := (s.freeHold n).setFld TRK_PSTAT_SLEWING 0 n

/-- The boundary limit of entry TIDX (R108, R123), with `f` AU of fusion window. -/
def State.limitOf (s : State) (n f : Nat) : Nat := (s.entryAt n + s.pEff n (s.tidx n) - 1 + f) * auFrac

/-- AW holds at the value of the TCLK before (R126). -/
def State.stopAngle (s : State) (n : Nat) : State :=
  let x := s.accPrev n
  let a := s.ang n
  let j := if a.jumpAt = some s.now then none else a.jumpAt
  let s := s.setAng n { a with acc := x, t0 := s.now, run := false, cap := none, floor := 0, jumpAt := j }
  (s.endHold n).setFld TRK_PSTAT_STEP 0 n

/-- AW is set by an edge step without interpolation (R90, R128): no re-base. -/
def State.stepAngle (s : State) (n au : Nat) (cuEnd : Option Nat) : State :=
  let x := s.accPrev n
  s.setAng n { s.ang n with acc := au * auFrac, t0 := s.now, run := false, cap := none, floor := 0, jumpAt := some s.now,
                            jumpFrom := x, rebase := false, cuEnd, smooth := false }

/-- Interpolation that ENCm leaves before its next count, in 2^-24 AU (R122): one count at most, of which some has gone. -/
def State.encLeft (s : State) (n : Nat) : Nat :=
  let one := s.fld TRK_PENC_AUPC n * 256
  match (s.tr n).encPts with
  | [] => one
  | (tc, _, r) :: _ => one - (max 0 (min (one : Int) (r * ((s.now - tc : Nat) : Int)))).toNat

/-- The accumulator takes a re-based angle word (R88, R127): fraction cleared, a hold ends and a slew goes on, marks set L (R100). In FUSED mode the angle
runs no further than the encoder's interpolation (R122). -/
def State.loadRebase (s : State) (n au rate : Nat) : State :=
  let x := s.accPrev n
  let s := s.freeHold n
  let fused := s.effMode n == 2
  let lim := s.limitOf n (if fused then s.fld TRK_PFUSE_FWIN n else 0)
  let cap := if fused then some (s.encLeft n) else none
  let s := s.setAng n { acc := au * auFrac, t0 := s.now, rate, run := true, lim, cap, floor := 0, jumpAt := some s.now,
                        jumpFrom := x, rebase := true, cuEnd := none, smooth := false }
  let s := s.setFld TRK_RATE rate n
  let w := s.aw n
  s.each ((List.range 256).filter fun m => s.fld MK_CFG_TRK m == n && s.fld MK_CFG_REQ m != 0) fun s m =>
    { s with mkLast := tput 0 s.mkLast m w }

/-- A corrected rate puts the accumulator at acc in the current TCLK, by a step that was no rotation. -/
def State.loadJump (s : State) (n acc rate lim : Nat) (cuEnd : Option Nat) : State :=
  let x := s.accPrev n
  let s := s.setAng n { acc, t0 := s.now, rate, run := true, lim, cap := none, floor := 0, jumpAt := some s.now, jumpFrom := x,
                        rebase := false, cuEnd, smooth := false }
  s.setFld TRK_RATE rate n

/-! FUSED mode (R122-R125): encoder angle in 2^-16 AU, its interpolation in 2^-24 AU. -/

/-- A_enc in TCLK t, in 2^-24 AU (R122): from the last count at or before t, interpolated no further than one count. -/
def State.encAt (s : State) (n t : Nat) : Int :=
  let one : Int := s.fld TRK_PENC_AUPC n * 256
  match (s.tr n).encPts.find? fun p => decide (p.1 ≤ t) with
  | none => (s.tr n).aEnc * 256
  | some (tc, a, r) => a * 256 + max (-one) (min one (r * ((t - tc : Nat) : Int)))

/-- Set the offset O; TRKn_FOFS shows it. -/
def State.setOfs (s : State) (n : Nat) (o : Int) : State := (s.setTr n { s.tr n with fofs := o }).setSFld TRK_FOFS_O o n

/-- The angle follows A_enc + O from the current TCLK (R122, R123). -/
def State.fusedLoad (s : State) (n : Nat) (cuEnd : Option Nat) (jump : Bool) : State :=
  let x := s.accPrev n
  let y := (s.ang n).accAt s.now
  let f := s.encAt n s.now + (s.tr n).fofs * (auFrac : Int)
  let rate := match (s.tr n).encPts with
    | [] => 0
    | (_, _, r) :: _ => min 0xFFFFFFFF r.toNat
  let a := s.ang n
  let s := s.setAng n { acc := f.toNat, t0 := s.now, rate, run := true, lim := s.limitOf n (s.fld TRK_PFUSE_FWIN n),
                        cap := some (s.encLeft n), floor := if jump then x else y,
                        jumpAt := if jump then some s.now else a.jumpAt, jumpFrom := if jump then x else a.jumpFrom,
                        rebase := if jump then false else a.rebase, cuEnd := if jump then cuEnd else a.cuEnd,
                        smooth := if jump then false else a.smooth }
  s.setFld TRK_RATE rate n

/-- R124 at an evaluated forward edge with stamp t that starts at absolute angle b: d, the offset, and the run of deviations. -/
def State.fuseEdge (s : State) (n b t : Nat) : State :=
  let x := s.tr n
  let d := (b : Int) * auFrac - (s.encAt n t + x.fofs * (auFrac : Int))
  if !x.fusedOn then
    let s := s.setOfs n (x.fofs + roundDivI d auFrac)
    s.setTr n { s.tr n with fusedOn := true, bad := 0 }
  else if d.natAbs ≤ s.fld TRK_PFUSE_FLIM n * auFrac then
    let s := s.setOfs n (x.fofs + roundDivI d (auFrac * 2 ^ s.fld TRK_PCFG_FGAIN n))
    s.setTr n { s.tr n with bad := 0, good := x.good + 1 }
  else
    let s := (s.bump TRK_PCNT_FUSEDEV n).setTr n { x with bad := x.bad + 1, good := 0 }
    s.when (decide (s.fld TRK_PFUSE_FBAD n ≤ x.bad + 1)) fun s =>
      (s.setFld TRK_PSTAT_FUSEFAIL 1 n).setTr n { s.tr n with fusedOn := false }

/-- Fusion at an evaluated forward edge that starts entry TIDX at absolute angle b (R124, R125). With FUSEFAIL the predictor goes on
computing d, moves the offset by it and counts FUSEDEV. (DESIGN CHOICE: log 61.) -/
def State.fuseAll (s : State) (n b t : Nat) : State :=
  if s.fld TRK_PCFG_MODE n ≠ 2 then s
  else if s.fld TRK_PSTAT_LRNREV n < s.fld TRK_PLRN_LRNMIN n then s.setTr n { s.tr n with fusedOn := false }
  else if !s.flag ENC_CFG_EN (s.fld TRK_CFG_ENCSEL n) then s.setFld TRK_PSTAT_FUSEFAIL 1 n
  else if s.flag TRK_PSTAT_FUSEFAIL n then
    let x := s.tr n
    let d := (b : Int) * auFrac - (s.encAt n t + x.fofs * (auFrac : Int))
    if s.tidx n = 0 ∧ s.fld TRK_PFUSE_FBAD n ≤ x.good then
      let s := (s.setFld TRK_PSTAT_FUSEFAIL 0 n).setTr n { x with fusedOn := false, good := 0 }
      s.fuseEdge n b t
    else if d.natAbs ≤ s.fld TRK_PFUSE_FLIM n * auFrac then
      let s := s.setOfs n (x.fofs + roundDivI d (auFrac * 2 ^ s.fld TRK_PCFG_FGAIN n))
      s.setTr n { s.tr n with good := x.good + 1 }
    else (s.bump TRK_PCNT_FUSEDEV n).setTr n { x with good := 0 }
  else s.fuseEdge n b t

/-! An evaluated forward edge (R105-R114, R123, R127, R128) -/

/-- R109: the tooth is late, on time or early, by the hold that began before the current TCLK. -/
def State.classify (s : State) (n stamp : Nat) : State :=
  match s.holdStart n (s.now - 1) with
  | some h =>
    if h < stamp then (s.bump TRK_PCNT_LATE n).setFld TRK_HOLDT (min 0xFFFFFFFF (s.now - h)) n else s
  | none => s.bump TRK_PCNT_EARLY n

/-- The slew of R113 in force from the current TCLK. (DEDUCED: log 30.) -/
def State.loadSlew (s : State) (n rate b2 lim : Nat) : State :=
  let x := s.accPrev n
  let p := s.pEff n (s.tidx n)
  let rs := satRate p (roundDiv (rate * (b2 - x / auFrac)) (max p 1))
  let s := s.setAng n { acc := x + rs / auFrac * auFrac, t0 := s.now, rate := rs, run := true, lim, cap := none, floor := 0,
                        jumpAt := some s.now, jumpFrom := x, rebase := false, cuEnd := none, smooth := true }
  (s.setFld TRK_RATE rs n).setFld TRK_PSTAT_SLEWING 1 n

/-- The predictor at an evaluated forward edge that ends entry e and starts entry TIDX, with period t of entry e and t1 of the one
before. `running` says whether it ran before the edge (it did not in REVERSE). (DEDUCED: log 30.) -/
def State.predEdge (s : State) (n e stamp : Nat) (t t1 : Option Nat) (running : Bool) : State :=
  let b := s.entryAt n
  let x1 := s.accPrev n
  let w1 := x1 / auFrac
  let early := running && (s.holdStart n (s.now - 1)).isNone
  let s := s.when running fun s => s.classify n stamp
  let s := s.endHold n
  let d := b - 1 - w1
  let span := s.span n
  match t with
  | none =>
    let s := s.when running fun s => s.setFld TRK_PLAST_DEF d n
    (s.stepAngle n b (some (awOfAcc span ((b - 1) * auFrac)))).setFld TRK_PSTAT_STEP 1 n
  | some t =>
    let rate := s.newRate n e t t1
    let s := s.setFld TRK_PSTAT_STEP 0 n
    let s := s.fuseAll n b stamp
    if s.effMode n = 2 then
      let w := s.fld TRK_PFUSE_FWIN n
      if running && decide (w1 + w < b) then
        (s.setFld TRK_PLAST_DEF (b - w - w1) n).fusedLoad n (some (awOfAcc span ((b - 1) * auFrac))) true
      else s.fusedLoad n none true
    else
      let b2 := b + s.pEff n (s.tidx n)
      let lim := (b2 - 1) * auFrac
      let may := early && s.flag TRK_PCFG_CUMODE n && !s.gapEntry n e && !s.gapEntry n (s.tidx n)
        && decide (b ≤ w1 + s.pEff n e)
      let s := s.when early fun s => s.setFld TRK_PLAST_DEF d n
      if may && decide (d ≤ s.fld TRK_PCFG_SLEWMAX n) then s.loadSlew n rate b2 lim
      else
        let s := s.when may fun s => s.bump TRK_PCNT_JUMPS n
        let acc := b * auFrac + (if s.flag TRK_PCFG_COMP n then rate * (s.now - stamp) else 0)
        s.loadJump n acc rate lim (if early then some (awOfAcc span ((b - 1) * auFrac)) else none)

/-- The observation rate of SEEKING (R126): the last period over the smallest pitch of the table. -/
def State.seekRate (s : State) (n : Nat) (t : Option Nat) : State :=
  match t with
  | none => s
  | some t =>
    let p := (List.range (s.nTooth n)).foldl (fun m e => min m (s.pitch n e)) (s.pitch n 0)
    s.setFld TRK_RATE (rate1 p t) n

/-! The learner (R116-R121) -/

/-- The periods in hand are broken off: the revolution neither qualifies nor counts as the one before. -/
def State.breakRev (s : State) (n : Nat) : State :=
  s.setTr n { s.tr n with revT := [], revOk := false, prevRev := none }

/-- The corrected table (R117). -/
def State.learn (s : State) (n trev : Nat) (ps : List Nat) : State :=
  let nt := s.nTooth n
  let lim : Int := s.fld TRK_PLRN_CORLIM n
  let c : List Int := (List.range nt).map fun e =>
    let m : Int := (roundDiv (revAu * ps.getD e 0) trev : Int) - (s.pitch n e : Int)
    let c := s.cor n e + roundDivI (m - s.cor n e) (2 ^ s.fld TRK_PCFG_LGAIN n)
    max (-lim) (min lim c)
  let sum : Int := c.foldl (· + ·) (0 : Int)
  let mean := sum.tdiv nt
  let s := s.each (List.range nt) fun s e =>
    s.setCor n e (c.getD e 0 - mean - (if e = 0 then sum - mean * nt else 0))
  s.setFld TRK_PSTAT_LRNREV (min 255 (s.fld TRK_PSTAT_LRNREV n + 1)) n

/-- qualify of R117 for a complete revolution. -/
def State.qualifies (s : State) (n trev : Nat) : Bool :=
  (s.tr n).revOk &&
    match (s.tr n).prevRev with
    | none => false
    | some p =>
      decide ((max trev p - min trev p) * 65536 ≤ s.fld TRK_PLRN_ACCLIM n * trev)
        && decide (s.fld TRK_PLRNSPD_MINRPM n * trev ≤ 24000000000) && decide (24000000000 ≤ s.fld TRK_PLRNSPD_MAXRPM n * trev)

end Sys2Proof.Machine
end

