-- ==== Sys2Proof/Machine/TrackOps.lean ====
section
/-! DEFINITION. The trackers' shared operations (chapter 3): state changes, re-bases, gap test and verification, decisions. -/

namespace Sys2Proof.Machine

/-- Causes of LOST (TRKn_STATE.CAUSE). -/
def lcUnexpected : Nat := 1
def lcMissing : Nat := 2
def lcTooth : Nat := 3
def lcMismatch : Nat := 4
def lcNogap : Nat := 5
def lcRefused : Nat := 6
def lcResync : Nat := 7
def lcReverse : Nat := 8
def lcDirsrc : Nat := 9

/-- Every candidate offset of the cam phase (R87), as a mask. -/
def State.allCand (s : State) (n : Nat) : Nat := 2 ^ s.nRev n - 1

/-- The restart request of tracker n is withdrawn with its hold (R94). -/
def State.dropHeld (s : State) (n : Nat) : State := (s.setFld TRK_STATE_HELD 0 n).setAsk fnRestart n none

/-- What the tracker forgets on entry to a state. -/
def State.trkClear (s : State) (n st : Nat) : State :=
  let s := s.when (st == stStopped || st == stSeeking || st == stGapFound || st == stLost || st == stReverse) fun s =>
    s.setTr n { s.tr n with errs := 0, fwd := 0, revT := [], revOk := false, prevRev := none, fusedOn := st == stGapFound && (s.tr n).fusedOn }
  let s := s.when (st == stStopped) fun s =>
    (s.setTr n { s.tr n with haveLast := false, tp := none, lastT := none, pulse := none, deferred := none, peaks := [] }).setFld TRK_RATE 0 n
  let s := s.when (st == stRevSync) fun s => s.setTr n { s.tr n with cand := s.allCand n, nres := 0 }
  s.when (st == stCycleSync) fun s => s.setTr n { s.tr n with miss := 0, matchAw := s.aw n }

/-- A state change of tracker n (R81-R83), the angle word being set already: registers, record, faults, and the reactions of the
consumers (R19), which see the new state from the next TCLK on (R18). -/
def State.trkGo (s : State) (n st cause : Nat) : State :=
  let old := s.trkState n
  let s := s.trkClear n st
  let s := (s.setFld TRK_STATE_PREV old n).setFld TRK_STATE_STATE st n
  let s := s.when (st == stLost) fun s => (s.setFld TRK_STATE_CAUSE cause n).bump TRK_CNT_LOSTS n
  let s := s.when (st == stLost || st == stStopped) fun s => s.dropHeld n
  let s := s.when ((st == stRevSync || st == stCycleSync) && (s.askOf fnRestart n).isNone) fun s => s.setFld TRK_STATE_HELD 0 n
  let bits := 1 + (if st == stRevSync || st == stCycleSync then 2 else 0) + (if st == stLost then 4 else 0)
    + (if st == stReverse then 8 else 0)
  let s := s.setCauses .trk n bits
  let s := s.emit (.record (s.mkRec 0x07 n n noOrigin
    ([old, st, s.fld TRK_STATE_CAUSE n, 0] ++ leBytes 2 (s.tidx n) ++ [0, 0])))
  let s := s.when (st == stLost) fun s =>
    let s := s.raiseFault (40 + 4 * n) cause
    s.when (cause == lcMismatch || cause == lcNogap) fun s => s.raiseFault (41 + 4 * n) cause
  let s := s.when (st == stRevSync && old == stCycleSync) fun s => s.raiseFault (42 + 4 * n)
  let s := s.when (st == stLost || st == stReverse || st == stStopped) fun s => s.knockAbort n
  let s := s.when (st == stStopped || st == stSeeking) fun s => s.switchInst fnSync n
  let s := s.lossReact n (st == stLost && (cause == lcMismatch || cause == lcNogap)) (old == stReverse && st != stLost && st != stStopped)
  s.setTr n { s.tr n with chgAt := some s.now, movedAt := some s.now }

/-- A change to a state in which the predictor does not run and AW keeps the value of the TCLK before (R126). -/
def State.trkHalt (s : State) (n st cause : Nat) : State := (s.stopAngle n).trkGo n st cause

/-- Entry to LOST (R83). -/
def State.trkLost (s : State) (n cause : Nat) : State := s.trkHalt n stLost cause

/-- Entry to REVERSE: the angle word goes to an absolute angle (R90). -/
def State.trkReverse (s : State) (n au : Nat) : State :=
  (((s.endHold n).setFld TRK_PSTAT_STEP 0 n).stepAngle n au none).trkGo n stReverse 0

/-! The corrections at the reference tooth (R116-R121) -/

/-- The corrections go to 0 with LRNREV at the next reference tooth (R116, R119). (DEDUCED: log 30.) -/
def State.clearCor (s : State) (n : Nat) : State :=
  s.setTr n { s.tr n with corNext := some [] }

/-- A table that awaits the reference tooth takes effect (R116); an empty one stands for the cleared table. (DEDUCED: log 30.) -/
def State.applyCor (s : State) (n : Nat) : State :=
  match (s.tr n).corNext with
  | none => s
  | some l =>
    let s := s.each (List.range (s.nTooth n)) fun s e => s.setCor n e (l.getD e 0)
    let s := s.setTr n { s.tr n with corNext := none }
    s.when (l == []) fun s => s.setFld TRK_PSTAT_LRNREV 0 n

/-- The evaluation of a reference-tooth edge (R35, R116): FN_TOOTH switches, and a table that awaits it takes effect. -/
def State.refEdge (s : State) (n : Nat) : State := (s.switchInst fnTooth n).applyCor n

/-- The re-base of GAP_FOUND at a tooth edge (R85, R86, R127): TIDX 0, POS 0, CYC + 1, rate1 with entry e taken as the SYNCGAP
entry. It is a reference-tooth edge. -/
def State.gapRebase (s : State) (n stamp : Nat) (t : Option Nat) : State :=
  let cyc := cycOf (s.awPrev n)
  let s := s.setEntry n 0 ((cyc + 1) * s.nRev n)
  let s := ((s.breakRev n).refEdge n).endHold n
  let g := ((List.range (s.nTooth n)).find? (s.gapEntry n)).getD 0
  let rate := match t with | some t => rate1 (s.pEff n g) t | none => s.rateNow n
  let au := (s.tr n).rev * revAu
  let s := s.loadRebase n au rate
  if s.effMode n = 2 then
    let x := s.setTr n { s.tr n with fusedOn := false }
    x.fuseAll n au stamp
  else s

/-! Gap test and verification (R85) -/

/-- r in 4.4, and whether it lies in the gap window. -/
def State.gapTest (s : State) (n : Nat) (t tp : Option Nat) : Bool :=
  match t, tp with
  | some t, some p =>
    let r := if p = 0 then 255 else min 255 (16 * t / p)
    decide (s.fld TRK_GAP_GAPLO n ≤ r) && decide (r ≤ s.fld TRK_GAP_GAPHI n)
  | _, _ => false

/-- tol_ok of R85: entry e after entry p. -/
def State.tolOk (s : State) (n e p : Nat) (t tp : Option Nat) : Bool :=
  match t, tp with
  | some t, some q =>
    let a := t * s.pitch n p
    let b := q * s.pitch n e
    decide ((max a b - min a b) * 256 ≤ s.fld TRK_GAP_TOL n * b)
  | _, _ => false

/-- What the verification of an edge finds. -/
inductive Verdict where
  /-- Nothing wrong; `gap` where the SYNCGAP entry has passed its test. -/
  | ok (gap : Bool)
  | missing
  | unexpected
  /-- A tolerance failure that does not reach LOSSN. -/
  | tol
  | tolLoss
  deriving DecidableEq, Repr

/-- Verification of the edge that ends entry e after entry p (R85, R90): consecutive failures, TOOTHERR, the interrupt causes. -/
def State.verify (s : State) (n e p : Nat) (t tp : Option Nat) : Verdict × State :=
  let gap := s.gapTest n t tp
  let have_ := t.isSome && tp.isSome
  let x := s.tr n
  if s.gapEntry n e then
    if !have_ then (if s.fld TRK_LOSS_LOSSN n ≤ x.errs then .tolLoss else .ok false, s)
    else if gap then (if s.fld TRK_LOSS_LOSSN n ≤ x.errs then .tolLoss else .ok true, s.cause .trk TRK_INTST_GAP n)
    else (.missing, s)
  else if gap then (.unexpected, s)
  else if have_ && !s.tolOk n e p t tp then
    let s := (s.setTr n { x with errs := x.errs + 1, revOk := false }).bump TRK_CNT_TOOTHERR n
    (if s.fld TRK_LOSS_LOSSN n ≤ x.errs + 1 then .tolLoss else .tol, s.cause .trk TRK_INTST_ERR n)
  else (.ok false, s.setTr n { x with errs := 0 })

/-- Blanking (R72): the edge comes sooner than BLANK/16 of the expected period, which is Texp of R85, and in SEEKING the last measured period. -/
def State.blanked (s : State) (n stamp : Nat) (back : Bool) : Bool :=
  let x := s.tr n
  let b := s.fld TRK_INFLT_BLANK n
  let d := stamp - (s.wide TRK_EDGETB n)
  let st := s.trkState n
  if b = 0 || !x.haveLast then false
  else if st == stSeeking then
    match x.lastT with
    | none => false
    | some p => decide (16 * d < b * p)
  else
    let e := s.tidx n
    let p := if back then s.entNext n e else s.entPrev n e
    match x.tp with
    | none => false
    | some q => decide (16 * d * s.pitch n p < b * q * s.pitch n e)

/-! Decision requests of FN_SYNC (R95, R96) -/

/-- An accepted edge enters the history and, in host-assisted mode, the tooth-record queue. -/
def State.trecAdd (s : State) (n : Nat) (cand back : Bool) (t : Option Nat) : State :=
  let x := s.tr n
  let seq := x.edgeSeq % 65536
  let s := s.setTr n { x with edgeSeq := (x.edgeSeq + 1) % 65536, histN := min 64 (x.histN + 1) }
  if !s.hostMode fnSync n then s
  else if 32 ≤ x.trec.length then s.hwFlag TRK_TRECSTAT_OVF n
  else
    let s := s.setTr n { s.tr n with trec := x.trec ++ [(seq, cand, back, t.getD 0)] }
    s.setFld TRK_TRECSTAT_LEVEL (x.trec.length + 1) n

/-- A candidate edge raises a decision request, in place of an outstanding one. -/
def State.syncRequest (s : State) (n : Nat) : State :=
  let seq := ((s.tr n).edgeSeq + 65535) % 65536
  let s := (s.setFld TRK_DECSTAT_RSEQ seq n).setFld TRK_DECSTAT_REQ 1 n
  let s := s.setAsk fnSync n none
  (s.cause .trk TRK_INTST_DEC n).request fnSync n

/-! The learner at the reference tooth (R117-R120) -/

/-- The revolution-period record of R120; a period that this revolution did not measure is a free value. (DEDUCED: log 28.) -/
def State.revPerRecord (s : State) (n : Nat) (ps : List Nat) : State :=
  let nt := s.nTooth n
  let miss := nt - ps.length
  let (free, s) : List Nat × State := (List.range miss).foldl (fun (acc : List Nat × State) _ =>
    let (v, s) := acc.2.fresh 32
    (acc.1 ++ [v], s)) ([], s)
  s.emit (.record (s.mkRec 0x08 n n noOrigin (leBytes 2 nt ++ [0, 0] ++ (free ++ ps).flatMap (leBytes 4))))

/-- A reference-tooth edge that leaves the tracker in state st (R116, R117, R120). -/
def State.refTooth (s : State) (n st : Nat) : State :=
  let s := s.refEdge n
  let x := s.tr n
  let ps := x.revT.reverse
  let full := ps.length == s.nTooth n
  let trev := ps.sum
  let sync := st == stRevSync || st == stCycleSync
  let s :=
    if s.hostMode fnTooth n then
      s.when sync fun s =>
        (((s.revPerRecord n ps).setFld TRK_PDEC_REQ 1 n).cause .trk TRK_INTST_DEC n).request fnTooth n
    else s.when (full && sync && s.qualifies n trev) fun s => s.learn n trev ps
  s.setTr n { s.tr n with revT := [], revOk := sync, prevRev := if full then some trev else none }

/-! The inputs of one TCLK (R81) -/

/-- The place of an input in the order of R81: RESYNC and RREFUSE, stop time-out, reverse detection (with the direction-source failure), tooth edge,
cam edge, assertion and RCONF. (DESIGN CHOICE: log 24.) -/
def TrkIn.rank : TrkIn → Nat
  | .cmd v => if bitsOf v 0 1 = 1 ∨ bitsOf v 2 1 = 1 then 1 else 6
  | .stop => 2
  | .trail _ => 3
  | .dirsrc => 3
  | .tooth _ _ => 4
  | .cam _ _ _ _ => 5
  | .assert _ => 6

/-- The place of the input that a waiting command brings to tracker n. (DESIGN CHOICE: log 24.) -/
def trkRank (n : Nat) : Instr → Option Nat
  | .resync _ m | .rrefuse _ m => if m.val = n then some 1 else none
  | .registerWrite _ a _ v => if a = TRK_CMD.addr n then some (if v.toNat % 2 = 1 ∨ v.toNat / 4 % 2 = 1 then 1 else 6) else none
  | .stopTimeout m => if m.val = n then some 2 else none
  | .trailingEdge m _ => if m.val = n then some 3 else none
  | .toothEdge m _ _ => if m.val = n then some 4 else none
  | .camEdge m _ _ _ _ => if m.val = n then some 5 else none
  | _ => none

/-- A command of this TCLK that still waits brings tracker n an input which R81 takes before one of rank r. (DESIGN CHOICE: log 24.) -/
def State.outranked (s : State) (n r : Nat) : Bool :=
  s.pending.any fun c => match trkRank n c with | some q => decide (q < r) | none => false

/-- The tracker has made its one transition of the current TCLK (R81). (DESIGN CHOICE: log 24.) -/
def State.trkBusy (s : State) (n : Nat) : Bool := (s.tr n).movedAt == some s.now

/-- An input that finds the transition of this TCLK made, or that comes before one which R81 takes first, waits. (DESIGN CHOICE: log 24.) -/
def State.trkTake (s : State) (n : Nat) (i : TrkIn) (k : State → State) : State :=
  if s.trkBusy n || s.outranked n i.rank then s.setTr n { s.tr n with wait := (s.tr n).wait ++ [i] } else k s

/-- A direction-source failure (R82, R84). -/
def State.dirsrcIn (s : State) (n : Nat) : State :=
  let st := s.trkState n
  if s.fld TRK_CFG_DIRSRC n = 2 ∧ (st = stRevSync ∨ st = stCycleSync) then s.trkLost n lcDirsrc else s

/-- The arming threshold of a VR input in mV (R69), rounded down; 0 in Hall mode, which has none. (DEDUCED: log 21.) -/
def State.vrThr (s : State) (n : Nat) : Nat :=
  if !s.flag TRK_CFG_INTYPE n then 0
  else match (s.tr n).peaks with
  | a :: b :: _ => max 20 (min a b * s.fld TRK_INFLT_VRTHR n / 100)
  | _ => 20

/-- Set the first state after the gap check of RESTORED (R92): the level of the record. -/
def State.restoredTo (s : State) (n : Nat) : Nat := if (s.tr n).restPhase then stCycleSync else stRevSync

end Sys2Proof.Machine
end

