-- ==== Sys2Proof/Machine/EncOps.lean ====
section
/-! DEFINITION. The quadrature ports' shared operations (chapter 8) and what a count does to the trackers that use the port. -/

namespace Sys2Proof.Machine

/-- The enabled trackers that are bound to port e (R74, R122). -/
def State.encTrks (s : State) (e : Nat) : List Nat :=
  (List.range 6).filter fun n => s.flag TRK_CFG_EN n && s.flag TRK_CFG_ENCUSE n && s.fld TRK_CFG_ENCSEL n == e

/-- A_enc of a tracker takes a new point (R122, R240): the angle word follows it while FUSED is effective. Points older than the longest
sensing latency are forgotten. -/
def State.encPoint (s : State) (n : Nat) (d rate : Int) : State :=
  if s.fld TRK_PCFG_MODE n ≠ 2 then s
  else
  let h := s.holdStart n s.now
  let s := s.when (s.effMode n == 2 && h.isSome) fun s => s.setTr n { s.tr n with holdAt := h }
  let x := s.tr n
  let a := x.aEnc + d
  let pts := (s.now, a, rate) :: x.encPts
  let keep := pts.filter fun p => decide (s.now ≤ p.1 + 1100)
  let keep := if keep.length < pts.length then keep ++ (pts.drop keep.length).take 1 else keep
  let s := s.setTr n { x with aEnc := a, encPts := keep }
  if s.effMode n = 2 ∧ x.fusedOn ∧ s.angleRuns n ∧ !s.flag TRK_PSTAT_STEP n then s.fusedLoad n none false else s

/-- The interpolation rate of A_enc in 2^-24 AU per TCLK (R122, R240): one count per period while PERV = 1. -/
def State.encRate (s : State) (e n : Nat) (back : Bool) : Int :=
  let p := s.fld ENC_PERIOD e
  if !s.flag ENC_STAT_PERV e || p = 0 then 0
  else
    let r : Int := roundDiv (s.fld TRK_PENC_AUPC n * 256) p
    if back then -r else r

/-- POS is set or shifted other than by counts: the trackers that measure travel from POS shift with it (R74). -/
def State.encShift (s : State) (e : Nat) (new : Word) : State :=
  let d := new - s.rd (ENC_POS.addr e)
  let s := s.wr (ENC_POS.addr e) new
  s.each (s.encTrks e) fun s n => s.setTr n { s.tr n with encPos := (s.tr n).encPos + d }

/-- A fused angle goes back to the predictor's own pace when fusion ends: it runs on at the rate in force, within the boundary, and one that stands
within FWIN beyond it stays there until the next edge. (DESIGN CHOICE: log 61.) -/
def State.unfuse (s : State) (n : Nat) : State :=
  let a := s.ang n
  let x := a.accAt s.now
  s.setAng n { a with acc := x, t0 := s.now, cap := none, floor := 0, lim := max x (s.limitOf n 0) }

/-- FUSEFAIL is set at once (R125). -/
def State.fuseFail (s : State) (n : Nat) : State :=
  if s.fld TRK_PCFG_MODE n ≠ 2 then s
  else
    let s := s.when (s.effMode n == 2 && s.angleRuns n) fun s => s.unfuse n
    (s.setFld TRK_PSTAT_FUSEFAIL 1 n).setTr n { s.tr n with good := 0, fusedOn := false }

/-- The trackers whose encoder is not enabled have FUSEFAIL (R125). -/
def State.fuseCheck (s : State) : State :=
  s.each ((List.range 6).filter fun n => s.flag TRK_CFG_EN n && !s.flag ENC_CFG_EN (s.fld TRK_CFG_ENCSEL n)) fun s n => s.fuseFail n

/-- An illegal transition (R238, R84, R125). -/
def State.encIllegal (s : State) (e : Nat) : State :=
  let s := ((s.setFld ENC_STAT_ILLEGAL 1 e).bump ENC_CNT_ILLEGAL e).setFld ENC_STAT_PERV 0 e
  let s := s.setEn e { s.en e with clean := false, idxOk := false }
  let s := (s.cause .enc ENC_INTST_ILLEGAL e).raiseFault (64 + 2 * e)
  s.each (s.encTrks e) fun s n => ((s.fuseFail n).encPoint n 0 0).trkTake n .dirsrc fun s => s.dirsrcIn n

/-- The counts that port e has taken in the current TCLK (R237). -/
def State.encNow (s : State) (e : Nat) : Int := if (s.en e).cnts.1 = s.now then (s.en e).cnts.2 else 0

/-- The filtered levels of port e change. -/
def State.encLvl (s : State) (e lvl : Nat) : State :=
  let x := s.en e
  (s.setEn e { x with lvlAt := s.now, lvlOld := if x.lvlAt = s.now then x.lvlOld else s.fld ENC_STAT_LVL e }).setFld ENC_STAT_LVL lvl e

/-- One count of port e (R237, R239). (DEDUCED: log 39.) -/
def State.encCount (s : State) (e : Nat) (back : Bool) (stamp : Nat) : State :=
  let x := s.en e
  let d : Int := if back then -1 else 1
  let s := s.wr (ENC_POS.addr e) (s.rd (ENC_POS.addr e) + BitVec.ofInt 32 d)
  let chg := x.stamp.isSome && back != s.flag ENC_STAT_DIR e
  let s := s.setFlag ENC_STAT_DIR back e
  let s :=
    if chg then ((s.bump ENC_CNT_DIRCHG e).setFld ENC_STAT_PERV 0 e).cause .enc ENC_INTST_DIRCHG e
    else
      match x.stamp with
      | none => s
      | some t => (s.setFld ENC_PERIOD (min 0xFFFFFFFF (stamp - t)) e).setFlag ENC_STAT_PERV x.clean e
  let s := s.setFld ENC_STAT_STILL 0 e
  let s := s.setEn e { x with stamp := some stamp, at_ := s.now, clean := true, trav := x.trav + d, idxOk := x.idxOk && !chg,
                              cnts := (s.now, s.encNow e + d) }
  s.each (s.encTrks e) fun s n => s.encPoint n (d * (s.fld TRK_PENC_AUPC n : Int)) (s.encRate e n back)

/-- The code of a quadrature state in the forward order 00, 10, 11, 01 (R237). -/
def quadCode (a b : Bool) : Nat := match a, b with | false, false => 0 | true, false => 1 | true, true => 2 | false, true => 3

/-- What a change of the filtered levels is (R237, R238): a count, with whether it goes backward, or an illegal transition. -/
inductive Quad where
  | none
  | count (back : Bool)
  | illegal
  deriving DecidableEq, Repr

/-- The decoding of R237 before DIRINV. (DEDUCED: log 39.) -/
def quadOf (mode : Nat) (a0 b0 a b : Bool) : Quad :=
  let old := quadCode a0 b0
  let new := quadCode a b
  if mode = 2 then (if !a0 && a then .count b else .none)
  else
    let d := (new + 4 - old) % 4
    if d = 2 then .illegal
    else if mode = 0 then (if d = 1 then .count false else if d = 3 then .count true else .none)
    else if mode = 1 then
      (if old = 0 ∧ new = 1 then .count false else if old = 1 ∧ new = 0 then .count true else .none)
    else .none

/-- New filtered levels of A and B (R236-R239). -/
def State.encLevels (s : State) (e : Nat) (a b : Bool) (stamp : Nat) : State :=
  let lv := s.fld ENC_STAT_LVL e
  let q := quadOf (s.fld ENC_CFG_MODE e) (lv % 2 == 1) (lv / 2 % 2 == 1) a b
  let s := s.encLvl e (lv / 4 * 4 + (if b then 2 else 0) + (if a then 1 else 0))
  match q with
  | .none => s
  | .illegal => s.encIllegal e
  | .count back => s.encCount e (back != s.flag ENC_CFG_DIRINV e) stamp

/-- A qualified index (R241, R242). -/
def State.encIndex (s : State) (e : Nat) : State :=
  let x := s.en e
  let cpr := s.fld ENC_IDXCFG_CPR e
  let t := x.trav.natAbs
  let bad := cpr != 0 && s.flag ENC_STAT_IDXSEEN e && x.idxOk && decide (s.fld ENC_IDXCFG_IDXTOL e < max t cpr - min t cpr)
  let s := s.wr (ENC_IDXPOS.addr e) (s.rd (ENC_POS.addr e))
  let s := s.when (s.flag ENC_IDXCFG_IDXRST e) fun s => s.encShift e 0
  let s := ((s.setFld ENC_STAT_IDXSEEN 1 e).setFld ENC_STAT_SLEPT 0 e).bump ENC_CNT_INDEX e
  let s := (s.setEn e { x with trav := 0, idxOk := true }).cause .enc ENC_INTST_INDEX e
  s.when bad fun s => ((s.bump ENC_CNT_IDXERR e).cause .enc ENC_INTST_IDXERR e).raiseFault (65 + 2 * e)

/-- A Z edge (R241): an index of the selected polarity that meets the qualification. -/
def State.encZ (s : State) (e : Nat) (z : Bool) : State :=
  let lv := s.fld ENC_STAT_LVL e
  let was := lv / 4 == 1
  let s := s.encLvl e (lv % 4 + (if z then 4 else 0))
  let q := lv % 2 * 2 + lv / 2 % 2
  if was != z && s.flag ENC_IDXCFG_ZEN e && z != s.flag ENC_IDXCFG_ZEDGE e
      && (!s.flag ENC_IDXCFG_ZQEN e || s.fld ENC_IDXCFG_ZQAB e == q) then s.encIndex e
  else s

/-- No count for PTMO ms (R239). -/
def State.encStill (s : State) (e : Nat) : State :=
  let s := ((s.setFld ENC_STAT_STILL 1 e).setFld ENC_STAT_PERV 0 e).setFld ENC_PERIOD 0xFFFFFFFF e
  let s := s.setEn e { s.en e with clean := false, idxOk := false }
  s.each (s.encTrks e) fun s n => s.encPoint n 0 0

/-- A write of ENCn_POS (R237, R259): the fused angle moves by the same count. A count in the same TCLK is added. -/
def State.encPosWrite (s : State) (e : Nat) (v : Word) : State :=
  if !s.flag ENC_CFG_EN e then s
  else
    let v := v + BitVec.ofInt 32 (s.encNow e)
    let d := (v - s.rd (ENC_POS.addr e)).toInt
    let s := s.encShift e v
    s.each (s.encTrks e) fun s n =>
      if s.fld TRK_PCFG_MODE n = 2 then s.encPoint n (d * (s.fld TRK_PENC_AUPC n : Int)) (s.encRate e n (s.flag ENC_STAT_DIR e)) else s

/-- The filtered levels of port e as they stood at the end of the TCLK before. -/
def State.encPast (s : State) (e : Nat) : Nat := if (s.en e).lvlAt = s.now then (s.en e).lvlOld else s.fld ENC_STAT_LVL e

/-- The level of the pass-through output of line k (0 A, 1 B, 2 Z) of port e (R243): none while it is tri-state with its pull-down, before LOADED. A filtered level
comes one TCLK after its acceptance, and a raw one is that of the last transition that the port has taken. (DEDUCED: log 39.) -/
def State.ptOut (s : State) (e k : Nat) : Option Bool :=
  if s.fld IMG_STATUS_STATE != 2 then none
  else if !s.flag ENC_CFG_EN e then some false
  else
    match s.fld ENC_CFG_PTMODE e with
    | 1 => some (s.fld ENC_STAT_LVL e / 2 ^ k % 2 == 1)
    | 2 => some (s.encPast e / 2 ^ k % 2 == 1)
    | _ => some false

/-- The pins of a pass-through output (R243): the level, and with PTDIFF its complement on the second pin of the RS-422 pair. -/
def State.ptPins (s : State) (e k : Nat) : List (Option Bool) :=
  let o := s.ptOut e k
  if s.flag ENC_CFG_PTDIFF e then [o, o.map (!·)] else [o]

end Sys2Proof.Machine
end

