-- ==== Sys2Proof/Machine/Compare.lean ====
section
/-! DEFINITION. The compare stages of the scheduler (R145-R153): at the end of each TCLK the channels issue the edges that fall due 3 TCLK later, and those that
the look-ahead did not foresee. -/

namespace Sys2Proof.Machine

/-- How an anchor stands at the end of a TCLK t: it does not fall due by t + 3; it falls due in t + 3, at a tap; it will be crossed in t + 1 or t + 2, which was
not foreseen; it has been crossed in t without having been issued, in the catch-up span or not; it has been passed before. -/
inductive Stand where
  | ahead
  | due (tap : Nat)
  | soon
  | now (cu : Bool)
  | past
  deriving DecidableEq, Repr

/-- The accumulator that the predictor will hold k TCLK later under its present rate and any hold (R147). -/
def State.accAhead (s : State) (n k : Nat) : Nat := (s.ang n).accAt (s.now + k)

/-- The tap of an angle a that is crossed between two values of the accumulator (R147). -/
def tapBetween (span x0 x1 a : Nat) : Nat :=
  let whole := 1024 * span * auFrac
  let up := (accOfAw span a + whole - x0 % whole) % whole
  if x1 ≤ x0 then 0 else min 31 (32 * up / (x1 - x0))

/-- An ANGLE anchor on tracker n (R146, R147). No angle edge falls due in a re-base TCLK. (DEDUCED: log 4.) -/
def State.standAngle (s : State) (n a : Nat) : Stand :=
  let span := s.span n
  if awLe a (s.aw n) then
    if s.isRebase n then .ahead
    else if awAfter a (s.awPrev n) then .now (s.inCatchUp n a) else .past
  else if awAfter a (awOfAcc span (s.accAhead n 3)) then .ahead
  else if awAfter a (awOfAcc span (s.accAhead n 2)) then .due (tapBetween span (s.accAhead n 2) (s.accAhead n 3) a)
  else .soon

/-- A pad time or a TCLK that is known beforehand. -/
def State.standTime (s : State) (pad : Int) : Stand :=
  let d := pad / 32 - (s.now : Int)
  if 3 < d then .ahead else if d = 3 then .due (pad % 32).toNat else .past

/-- A TABS anchor, moved earlier by `cor` TCLK (R146, R169). -/
def State.standTabs (s : State) (a : Nat) (cor : Int) : Stand := s.standTime (32 * ((s.now : Int) + tabsDiff a s.now - cor))

/-- The pending events whose start has not been issued, in queue order. -/
def Chan.waiting (x : Chan) : List Ev :=
  x.issued.foldl (fun q i => match i.edge with | .start e => q.erase e | .drop e _ => q.erase e | .fin _ => q) x.queue

/-- The event that is active once the issued edges have executed. -/
def Chan.coming (x : Chan) : Option Act :=
  x.issued.foldl (fun a i => match i.edge with
    | .start e => if e.lasts then some ⟨e, i.pad / 32, i.pad % 32, 0, 0, 0, none⟩ else a
    | .drop _ _ => a
    | .fin _ => none) x.active

/-- TCLK of the last edge that has executed or been issued. -/
def Chan.lastEdge (x : Chan) : Option Nat :=
  x.issued.foldl (fun l i => match i.edge with | .drop _ _ => l | _ => some (Nat.max (l.getD 0) (i.pad / 32))) x.edgeAt

/-- Put an issued edge into the list in the order of pad times. -/
def insertIssue (i : Issue) : List Issue → List Issue
  | [] => [i]
  | j :: l => if i.pad < j.pad then i :: j :: l else j :: insertIssue i l

/-- Issue an edge. -/
def State.issue (s : State) (c : Nat) (i : Issue) : State := s.setCh c { s.ch c with issued := insertIssue i (s.ch c).issued }

/-- The correction in TCLK that applies to a start (R169): the one taken when it entered ARMED. (DEDUCED: log 32.) -/
def State.corTclk (s : State) (c : Nat) (e : Ev) : Int :=
  if e.nocor then 0
  else 4 * (match (s.ch c).armed with | some (q, v) => if q = e then v else s.sfld CH_INJDLY_COR c | none => s.sfld CH_INJDLY_COR c)

/-- The start that stands in ARMED keeps the correction of the TCLK in which it entered (R169). (DEDUCED: log 32.) -/
def State.arm (s : State) (c : Nat) : State :=
  let x := s.ch c
  match x.coming, x.waiting with
  | none, e :: _ =>
    (match x.armed with
     | some (q, _) => if q = e then s else s.setCh c { x with armed := some (e, s.sfld CH_INJDLY_COR c) }
     | none => s.setCh c { x with armed := some (e, s.sfld CH_INJDLY_COR c) })
  | _, _ => s

/-- How the corrected start of an event stands (R146, R169). Where the predictor does not run, no ANGLE start falls due (R158). -/
def State.standStart (s : State) (c : Nat) (e : Ev) : Stand :=
  let cor := s.corTclk c e
  if e.skind == kAngle then
    let n := s.chTrk c
    if !movesAngle (s.seen n) then .ahead
    else s.standAngle n (s.awSub n e.w1.toNat (cor * (s.rateNow n : Int) / (auFrac : Int)))
  else s.standTabs e.w1.toNat cor

/-- The anchor itself of a start has not been passed. -/
def State.startEarly (s : State) (c : Nat) (e : Ev) : Bool :=
  decide (0 < s.corTclk c e) &&
    (if e.skind == kAngle then awAfter e.w1.toNat (s.aw (s.chTrk c)) else decide (0 < tabsDiff e.w1.toNat s.now))

/-- The flags of a crossing that the look-ahead did not foresee (R147, R148). -/
def crossFlags (cu : Bool) : Nat := fUnforeseen ||| (if cu then fCatchup else 0)

/-- The start of an event falls due: its tap and flags (R147, R148, R151, R152). A late one, inserted in TCLK n, comes into the compare in n + 1.
(DEDUCED: log 4, 32.) -/
def State.startDue (s : State) (c : Nat) (e : Ev) : Option (Nat × Nat) :=
  if e.delayed || e.behind then some (0, e.fl)
  else if e.late then (if e.at_ < s.now then some (0, 0) else none)
  else
    match s.standStart c e with
    | .due tap => some (tap, 0)
    | .now cu => some (0, crossFlags cu)
    | .past => some (0, if s.startEarly c e then 0 else fCatchup)
    | .ahead => none
    | .soon => none

/-- How the end anchor of an event with start edge stands (R146). -/
def State.standEnd (s : State) (c : Nat) (a : Act) : Stand :=
  if a.lossEnd.isSome then .ahead
  else if a.ev.ekind == kAngle then s.standAngle (s.chTrk c) a.ev.w2.toNat
  else if a.ev.ekind == kTabs then s.standTabs a.ev.w2.toNat 0
  else if a.ev.ekind == kTrel then s.standTime a.trelPad
  else .ahead

/-- MINEXT, where MIN is the reason of the delay and not the least distance of two edges (R149). -/
def State.minFlag (s : State) (c : Nat) (a : Act) : Nat := if 2 ≤ a.ev.min * 2 ^ s.fld CH_DUNIT_K c then fMinext else 0

/-- The end that an anchor gives (R149), where it can be issued now: at its own pad time, or once MIN has passed at the start edge's pad time plus MIN.
`exact` is its tap where it falls due 3 TCLK later, `fl` the flags of its crossing. (DEDUCED: log 32.) -/
def State.endAt (s : State) (c : Nat) (a : Act) (exact : Option Nat) (fl : Nat) : Option Issue :=
  let t := s.now + 3
  let m := a.ts + s.minTclk c a.ev
  if t < m then none
  else
    match exact with
    | some tap => some ⟨.fin .anchor, t * 32 + tap, fl⟩
    | none => if t = m then some ⟨.fin .min, a.minPad s c, fl ||| s.minFlag c a⟩ else some ⟨.fin .anchor, t * 32, fl⟩

/-- The time end by loss (R159), subject to MIN. -/
def State.lossIssue (s : State) (c : Nat) (a : Act) (t : Nat) : Option Issue :=
  let m := a.ts + s.minTclk c a.ev
  if s.now + 3 < Nat.max t m then none
  else if t < m then some ⟨.fin .loss, a.minPad s c, fLossend ||| s.minFlag c a⟩
  else some ⟨.fin .loss, t * 32 + a.tap, fLossend⟩

/-- The first pending event that is no NOP. -/
def firstNonNop (l : List Ev) : Option Ev := l.find? fun e => e.op != opNop

/-- The end of the coming event by its anchor, by loss or, for an open event, by the next start (R149, R151, R159). -/
def State.ownIssue (s : State) (c : Nat) (a : Act) : Option Issue :=
  match a.lossEnd with
  | some t => s.lossIssue c a t
  | none =>
    if a.ev.isOpen then
      match firstNonNop (s.ch c).waiting with
      | none => none
      | some e => if e.delayed then s.endAt c a none 0 else (s.startDue c e).bind fun p => s.endAt c a (some p.1) 0
    else
      match s.standEnd c a with
      | .due tap => s.endAt c a (some tap) 0
      | .now cu => s.endAt c a none ((s.ch c).endFl.getD (crossFlags cu))
      | .past => s.endAt c a none ((s.ch c).endFl.getD 0)
      | .ahead => none
      | .soon => none

/-- The end of the coming event, or its MAX end where the MAX point comes before (R149). -/
def State.endIssue (s : State) (c : Nat) (a : Act) : Option Issue :=
  let own := s.ownIssue c a
  if a.ev.max = 0 ∨ s.now + 3 < a.ts + s.maxTclk c a.ev then own
  else
    match own with
    | some i => if i.pad ≤ a.maxPad s c then some i else some ⟨.fin .max, a.maxPad s c, fMaxcut⟩
    | none => some ⟨.fin .max, a.maxPad s c, fMaxcut⟩

/-- The end anchor is crossed while MIN holds the end back: the flags of its crossing are kept. (DEDUCED: log 32.) -/
def State.noteEnd (s : State) (c : Nat) (a : Act) : State :=
  let x := s.ch c
  if x.endFl.isSome || a.ev.isOpen then s
  else
    match s.standEnd c a with
    | .due _ => s.setCh c { x with endFl := some 0 }
    | .now cu => s.setCh c { x with endFl := some (crossFlags cu) }
    | .past => s.setCh c { x with endFl := some 0 }
    | .ahead => s
    | .soon => s

/-- Change an event in the queue. -/
def State.mapEv (s : State) (c : Nat) (e e' : Ev) : State :=
  s.setCh c { s.ch c with queue := (s.ch c).queue.map fun q => if q = e then e' else q }

/-- Issue a start that falls due, at a tap with flags (R148, R150): 2 TCLK after the edge before it, a NOP only out of the TCLK of another edge. A start that may
not execute ends with an outcome (R158). (DEDUCED: log 4.) -/
def State.issueStart (s : State) (c : Nat) (e : Ev) (tap fl : Nat) : State :=
  let n := s.chTrk c
  let x := s.ch c
  let t := s.now + 3
  if s.chBound c && s.seen n == stReverse && e.skind == kTabs then s.issue c ⟨.drop e oSkipReverse, t * 32 + tap, 0⟩
  else if s.chBound c && s.flag TRK_STATE_HELD n then s.issue c ⟨.drop e oHeldSkip, t * 32 + tap, 0⟩
  else
    let plain := !e.late && !e.delayed
    let cor := plain && s.corTclk c e != 0
    let fl := fl ||| (if plain then 0 else fLate) ||| (if cor then fCorr else 0)
    let busy := x.edgeAt == some t || x.issued.any fun i => i.pad / 32 == t && (match i.edge with | .drop _ _ => false | _ => true)
    let moved := if e.op == opNop then (if busy then t + 2 else t) else Nat.max t (match x.lastEdge with | some l => l + 2 | none => 0)
    if moved = t then s.issue c ⟨.start e, t * 32 + tap, fl⟩
    else s.issue c ⟨.start e, moved * 32, fl ||| (if plain then fCatchup else 0)⟩

/-- A start falls due beside the coming closed event (R150): a NOP executes, FIRE_LATE waits for the end, DROP ends with OVERLAP. Where the end itself is about to be
crossed, the start waits behind it (R148). Under HELD this goes before HELD_SKIP. (DEDUCED: log 4, 5; DESIGN CHOICE: log 62.) -/
def State.overlap (s : State) (c : Nat) (a : Act) (e : Ev) (tap fl : Nat) : State :=
  if e.op == opNop then s.issueStart c e tap fl
  else if s.standEnd c a = .soon then s.mapEv c e { e with behind := true, fl := fl ||| fCatchup }
  else if e.fireLate then s.mapEv c e { e with delayed := true, fl }
  else s.issue c ⟨.drop e oOverlap, (s.now + 3) * 32 + tap, 0⟩

/-- One edge of a channel is issued, or one start is marked; none where nothing more falls due (R145-R152). -/
def State.compareOne (s : State) (c : Nat) : Option State :=
  let x := s.ch c
  match x.coming with
  | none =>
    (match x.waiting with
     | [] => none
     | e :: _ => (s.startDue c e).map fun p => s.issueStart c e p.1 p.2)
  | some a =>
    (match s.endIssue c a with
     | some i =>
       let s := s.issue c i
       some (match i.edge, firstNonNop x.waiting with
         | .fin .max, _ => s
         | _, some e => if a.ev.isOpen && a.lossEnd.isNone && !e.delayed then
             s.mapEv c e { e with delayed := true, fl := ((s.startDue c e).getD (0, 0)).2 } else s
         | _, none => s)
     | none =>
       (match x.waiting.find? fun e => e.op == opNop || !(e.delayed || e.behind) with
        | none => none
        | some e =>
          match s.startDue c e with
          | none => none
          | some (tap, fl) =>
            if e.op == opNop then some (s.issueStart c e tap fl)
            else if a.ev.isOpen then some (s.mapEv c e { e with delayed := true, fl })
            else some (s.overlap c a e tap fl)))

/-- The compares of a channel in one TCLK, as many as fall due. -/
def State.compareN : Nat → State → Nat → State
  | 0, s, _ => s
  | k + 1, s, c => match s.compareOne c with | some s' => s'.compareN k c | none => s

/-- The compare stages of a channel at the end of a TCLK. -/
def State.compare (s : State) (c : Nat) : State :=
  if s.flag CH_CFG_EN c then
    let s := s.arm c
    let s := s.compareN (2 * (s.ch c).queue.length + 4) c
    (match (s.ch c).coming with | some a => s.noteEnd c a | none => s).huskJudge c
  else s

/-- The compare stages of the channels that hold something. (DEDUCED: log 4.) -/
def State.compareAll (s : State) : State := s.each (s.chan.map (·.1)) fun s c => s.compare c

end Sys2Proof.Machine
end

