-- ==== Sys2Proof/Machine/Scheduler.lean ====
section
/-! DEFINITION. The commands of the event scheduler (chapter 5): staging, commit, insertion, edges, flush and cut. -/

namespace Sys2Proof.Machine

/-- Store a word of the initiator's staging buffer (R140). -/
def State.stageWord (s : State) (i c k : Nat) (v : Word) : State :=
  s.setCh c { s.ch c with stage := tput none (s.ch c).stage (i * 4 + k) (some v) }

/-- A word of an initiator's ISTAT (R142): BUSY, EPOCH at insertion, TAG, STATUS. -/
def istatWord (busy : Bool) (epoch tag st : Nat) : Word :=
  BitVec.ofNat 32 ((if busy then 2 ^ 31 else 0) + epoch * 2 ^ 16 + tag * 2 ^ 8 + st)

/-- Commit the staging buffer together with word 3 (R140): the item waits for insertion, ISTAT reads BUSY. A committed event
is the switch point of FN_INJDLY (R35). -/
def State.commitEvent (s : State) (by_ : Agent) (c : Nat) (v : Word) : State :=
  let i := initNo by_
  let x := s.ch c
  let w (k : Nat) : Option Word := tget none x.stage (i * 4 + k)
  let complete := (w 0).isSome && (w 1).isSome && (w 2).isSome
  let e : Ev := ⟨(w 0).getD 0, (w 1).getD 0, (w 2).getD 0, v, (s.ctxOf by_).getD noOrigin, false, false, 0, false, 0⟩
  let stage := [0, 1, 2].foldl (fun t k => tput none t (i * 4 + k) none) x.stage
  let s := s.setCh c { x with stage := stage, inbox := x.inbox ++ [⟨e, complete, i, s.now, false⟩],
                              ist := tput 0 x.ist i (istatWord true 0 e.tag 0) }
  s.switchInst fnInjdly c

/-- Whether an EKIND is allowed for an opcode (R137). -/
def ekindOk (op ek : Nat) : Bool :=
  if op == opPulse then ek != kNone
  else if op == opOff || op == opNop then ek == kNone
  else true

/-- An ANGLE anchor is out of range or too far ahead (R139). -/
def State.badAngle (s : State) (c a : Nat) : Bool :=
  let n := s.chTrk c
  !s.chBound c || decide (s.span n ≤ posOf a)
    || decide ((255 * s.span n : Int) < awDist (s.span n) a (s.aw n))

/-- BAD_ANCHOR (R134, R139). (DEDUCED: log 28.) -/
def State.badAnchor (s : State) (c : Nat) (e : Ev) : Bool :=
  let a := e.w1.toNat
  let b := e.w2.toNat
  (if e.skind == kAngle then s.badAngle c a else decide ((2 ^ 30 : Int) < tabsDiff a s.now))
    || (if e.ekind == kAngle then s.badAngle c b
        else if e.ekind == kTabs then decide ((2 ^ 30 : Int) < tabsDiff b s.now)
        else if e.ekind == kTrel then decide (b < 64)
        else b != 0)
    || (e.skind == kAngle && e.ekind == kAngle && awLe b a)
    || (e.skind == kTabs && e.ekind == kTabs && decide (tabsDiff b a ≤ 0))

/-- passed() of R141: falls due at or before TCLK n + 3. (DEDUCED: log 5.) -/
def State.passedLead (s : State) (c kind a : Nat) : Bool :=
  if kind == kAngle then awLe a (s.awAt (s.chTrk c) (s.now + 3))
  else decide (tabsDiff a s.now ≤ 3)

/-- before() of R141. -/
def startBefore (a b : Ev) : Bool :=
  if a.skind == kAngle then awBefore a.w1.toNat b.w1.toNat else decide (tabsDiff a.w1.toNat b.w1.toNat < 0)

/-- Place an event in the queue: ahead of the first event that starts after it, behind equal starts (R141). -/
def placeEv (e : Ev) : List Ev → List Ev
  | [] => [e]
  | q :: l => if startBefore e q then e :: q :: l else q :: placeEv e l

/-- The status of an item at its insertion (R141, R142); 0 is OK. -/
def State.insertStatus (s : State) (c : Nat) (it : Item) : Nat :=
  let e := it.ev
  let x := s.ch c
  let op := e.op
  if !s.flag CH_CFG_EN c then 0x06
  else if !it.complete then 0x01
  else if !(op == opPulse || op == opOn || op == opOff || op == opNop || op == opPwm) then 0x02
  else if e.resv || !ekindOk op e.ekind then 0x03
  else if ((op == opOff || op == opNop) && (e.min != 0 || e.max != 0)) || (e.max != 0 && decide (e.max < e.min)) then 0x04
  else if s.badAnchor c e then 0x05
  else if e.epoch != s.fld CH_EPOCH c then 0x07
  else if s.retired c then 0x08
  else if s.flag CH_STAT_CUTL c then 0x09
  else if (op == opPwm && !s.flag CH_CFG_PWMOK c) || s.flag HSK_FORCE_EN c then 0x0A
  else if (match x.queue with | [] => false | q :: _ => q.skind != e.skind) then 0x0B
  else if s.passedLead c e.skind e.w1.toNat && !e.fireLate then 0x0C
  else if s.passedLead c e.skind e.w1.toNat && (e.ekind == kAngle || e.ekind == kTabs)
      && s.passedLead c e.ekind e.w2.toNat then 0x0D
  else if s.fld CH_DEPTH_DEPTH c ≤ x.count then 0x0E
  else if s.fld CH_DEPTH_RSV c ≤ x.count && s.sharedFree == 0 then 0x0F
  else 0

/-- Insert one item (R141): a slot and a place in the queue, or a refusal that is counted; the status is posted to the item's
initiator, unless a later commit of the same initiator waits (R142). -/
def State.insertItem (s : State) (c : Nat) (it : Item) : State :=
  let st := s.insertStatus c it
  let e := { it.ev with late := s.passedLead c it.ev.skind it.ev.w1.toNat, at_ := s.now }
  let s :=
    if st = 0 then
      let s := s.takeSlot
      s.setCh c { s.ch c with queue := placeEv e (s.ch c).queue }
    else
      let s := s.bump CH_CNT0_REJECT c
      let s := s.when (st == 0x0C || st == 0x0D) fun s => s.bump CH_CNT0_LATEDROP c
      let s := s.when (st == 0x0F) fun s =>
        ((s.bump SCH_CNT_POOLFULL).raiseFault 13 c).cause .ch CH_INTST_POOL c
      s.cause .ch CH_INTST_REJECT c
  let w := istatWord false (s.fld CH_EPOCH c) it.ev.tag st
  let s := if (s.ch c).inbox.any fun k => k.by_ == it.by_ then s else s.setCh c { s.ch c with ist := tput 0 (s.ch c).ist it.by_ w }
  s.when it.submit fun s => s.emit (.posted it.ev.ctx w.toNat)

/-- The shadows whose write completed before a reload edge in TCLK r pass to the run, unless they are locked, and the period begins (R162, R165).
(DESIGN CHOICE: log 63.) -/
def State.pwmPass (s : State) (c r : Nat) : State :=
  let x := s.ch c
  let old := x.force.getD (s.fld CH_PWMPER_PER c, s.fld CH_PWMDUTY_DUTY c)
  let go (w : Option Nat) : Bool := !s.flag CH_PWMLOCK_LOCK c && (match w with | none => true | some t => decide (t < r))
  let per := if go x.perAt then s.fld CH_PWMPER_PER c else old.1
  let duty := if go x.dutyAt then s.fld CH_PWMDUTY_DUTY c else old.2
  let s := s.setCh c { x with pwm := some ⟨per, duty, r, duty == 0⟩, force := some (per, duty),
                              perAt := if go x.perAt then none else x.perAt, dutyAt := if go x.dutyAt then none else x.dutyAt }
  (s.setFld CH_PWMSTAT_DUTY duty c).setFld CH_STAT_ACTIVE (if duty = 0 then 0 else 1) c

/-- The intent at the beginning of a PWM period (R162): with DUTY = 0 it stays off. -/
def State.pwmIntent (s : State) (c t : Nat) : State :=
  if !s.schedIntent c then s
  else
    match (s.ch c).pwm with
    | none => s
    | some p => if p.duty = 0 then s.huskFall c t else s.huskRise c t

/-- The start edge of an event executes at a pad time (R146-R148, R160, R166): an event that lasts becomes the active one; OFF and NOP are at their outcome. -/
def State.startEdge (s : State) (c : Nat) (e : Ev) (pad fl : Nat) : State :=
  let flags := fl ||| (if s.flag CH_STAT_INJSTALE c then fInjstale else 0)
  let ts := pad / 32
  let x := s.ch c
  let aw := s.chAw c
  let s := s.setCh c { x with queue := x.queue.erase e, edgeAt := some ts, armed := none }
  let s := s.emit (.pulse (256 + c) (fl &&& fCatchup != 0))
  if e.op == opNop then s.outcome c e oExecuted flags (some (ts, aw)) 0
  else if e.op == opOff then (s.when (s.schedIntent c) fun s => s.huskFall c pad).outcome c e oExecuted flags (some (ts, aw)) 0
  else
    let pd := if e.ekind == kAngle then s.tta (s.chTrk c) e.w2.toNat else 0xFFFFFFFF
    let s := s.setCh c { s.ch c with active := some ⟨e, ts, pad % 32, pd, flags, aw, none⟩, hit := none }
    let s := s.setHsk c { s.hsk c with dur := 0 }
    if e.op == opPwm then ((s.pwmPass c ts).setFld CH_STAT_PWM 1 c).pwmIntent c pad
    else (s.setFld CH_STAT_ACTIVE 1 c).when (s.schedIntent c) fun s => s.huskRise c pad

/-- A start that falls due while the channel may not execute it ends with an outcome (R150, R158). -/
def State.dropStart (s : State) (c : Nat) (e : Ev) (o : Nat) : State :=
  (s.setCh c { s.ch c with queue := (s.ch c).queue.erase e, armed := none }).outcome c e o 0 none 0

/-- An issued edge executes (R147). -/
def State.fireIssue (s : State) (c : Nat) (i : Issue) : State :=
  let s := s.setCh c { s.ch c with issued := (s.ch c).issued.erase i }
  match i.edge with
  | .start e => s.startEdge c e i.pad i.flags
  | .drop e o => s.dropStart c e o
  | .fin _ => s.endActive c i.flags i.pad

/-- The first issued edge of a channel executes if its TCLK has come and it is of the kind `k`: an end held back by MIN, one cut by MAX, one by time after a loss,
or (none) any other edge. (DEDUCED: log 4, 5.) -/
def State.fireEdge (s : State) (c : Nat) (k : Option EndWhy) : State :=
  match (s.ch c).issued with
  | [] => s
  | i :: _ =>
    let own := match i.edge with
      | .fin .anchor => k == none
      | .fin w => k == some w
      | .start _ => k == none
      | .drop _ _ => k == none
    if own && decide (i.pad / 32 ≤ s.now) then s.fireIssue c i else s

/-- CHnnn_CMD (R154, R156): CUT wins over UNCUT; a FLUSH in the same write acts before the CUT. (DESIGN CHOICE: log 62.) -/
def State.chCmd (s : State) (c : Nat) (v : Word) : State :=
  let bit (i : Nat) : Bool := bitsOf v i 1 == 1
  let s := s.when (bit 0) fun s => s.flushSched c (bit 1)
  if bit 2 then s.cutChan c else s.when (bit 3) fun s => s.uncutChan c

/-- STAGE_WORD (R140). -/
def execStageWord (by_ : Agent) (c : Fin 128) (i : Fin 3) (v : Word) (s : State) : Host.Outcome State Fault Refusal :=
  done (s.guard by_ (CH_EVT.addr c i) true v fun s => s.stageWord (initNo by_) c i v)

/-- EVENT_COMMIT (R140). -/
def execEventCommit (by_ : Agent) (c : Fin 128) (v : Word) (s : State) : Host.Outcome State Fault Refusal :=
  done (s.guard by_ (CH_EVT.addr c 3) true v fun s => s.commitEvent by_ c v)

/-- EVENT_INSERT (R141): the oldest committed item of the channel, in a TCLK after its commit. -/
def execEventInsert (c : Fin 128) (s : State) : Host.Outcome State Fault Refusal :=
  whenAwake s <|
  match (s.ch c).inbox with
  | [] => .next s
  | it :: rest =>
    if it.at_ < s.now then done ((s.setCh c { s.ch c with inbox := rest }).insertItem c it) else .next s

/-- EDGE_EXECUTE (R146): a start, a start that ends with an outcome instead, or an end at its anchor. -/
def execEdgeExecute (c : Fin 128) (s : State) : Host.Outcome State Fault Refusal := whenAwake s <| done (s.fireEdge c none)

/-- MIN_EXPIRY (R149): an end that MIN has held back. -/
def execMinExpiry (c : Fin 128) (s : State) : Host.Outcome State Fault Refusal := whenAwake s <| done (s.fireEdge c (some .min))

/-- MAXCUT_EXPIRY (R149). -/
def execMaxcutExpiry (c : Fin 128) (s : State) : Host.Outcome State Fault Refusal := whenAwake s <| done (s.fireEdge c (some .max))

/-- LOSS_END_BY_TIME (R159): the time end of an event that lost its tracker, subject to MIN. -/
def execLossEndByTime (c : Fin 128) (s : State) : Host.Outcome State Fault Refusal := whenAwake s <| done (s.fireEdge c (some .loss))

/-- CH_FLUSH (R154). -/
def execChFlush (by_ : Agent) (c : Fin 128) (endact : Bool) (s : State) : Host.Outcome State Fault Refusal :=
  let v : Word := if endact then 3 else 1
  done (s.guard by_ (CH_CMD.addr c) true v fun s => s.chCmd c v)

/-- FLUSH_DONE (R154): every discarded slot has returned. -/
def execFlushDone (c : Fin 128) (s : State) : Host.Outcome State Fault Refusal :=
  whenAwake s <|
  .next (if (s.ch c).flushing then (s.setCh c { s.ch c with flushing := false }).setFld CH_CMD_FLUSH 0 c else s)

/-- CH_CUT (R156). -/
def execChCut (by_ : Agent) (c : Fin 128) (s : State) : Host.Outcome State Fault Refusal :=
  done (s.guard by_ (CH_CMD.addr c) true 4 fun s => s.chCmd c 4)

/-- CH_UNCUT (R156). -/
def execChUncut (by_ : Agent) (c : Fin 128) (s : State) : Host.Outcome State Fault Refusal :=
  done (s.guard by_ (CH_CMD.addr c) true 8 fun s => s.chCmd c 8)

/-- Read the first word of a group that changes together, latching the others for the reading initiator (R28, R173). -/
def State.latchRead (s : State) (by_ : Agent) (first : Nat) (others : List Nat) : State :=
  let s := s.each others fun s a =>
    { s with rdLatch := tput none s.rdLatch (a * 8 + initNo by_) (some (s.rd a)) }
  s.busOk (s.rd first).toNat

/-- REPORT_READ (R173): a read of RPT0 latches RPT1-RPT3. -/
def execReportRead (by_ : Agent) (c : Fin 128) (s : State) : Host.Outcome State Fault Refusal :=
  done (s.guard by_ (CH_RPT0.addr c) false 0 fun s =>
    s.latchRead by_ (CH_RPT0.addr c) [CH_RPT1.addr c, CH_RPT2.addr c, CH_RPT3.addr c])

end Sys2Proof.Machine
end

