-- ==== Sys2Proof/Machine/Husks.lean ====
section
/-! DEFINITION. The commands of the Husk (chapter 6): the diagnostic force, the expiry of its limits, the clearing of its
counts by the angle, and current-sense samples. -/

namespace Sys2Proof.Machine

/-- A write of HSKnnn_FORCE (R174, R203): ignored unless the scheduler drives the channel and holds no event. A rise or fall that
it makes reaches the pad driver input 2 TCLK later. (DEDUCED: log 3.) -/
def State.huskForce (s : State) (c : Nat) (v : Word) : State :=
  if s.flag PAD_CFG_SRC c || (s.ch c).queue != [] || (s.ch c).active.isSome then s
  else
    let was := s.flag HSK_STAT_INTENT c
    let s := s.wr (HSK_FORCE.addr c) (v &&& 3)
    let on := bitsOf v 0 2 == 3
    let t := (s.now + 2) * 32
    if on && !was then s.huskRiseAt c t else if !on && was then s.huskFall c t else s

/-- HUSK_FORCE (R174). -/
def execHuskForce (by_ : Agent) (c : Fin 128) (v : Word) (s : State) : Host.Outcome State Fault Refusal :=
  done (s.guard by_ (HSK_FORCE.addr c) true v fun s => s.huskForce c v)

/-- The first covered angle word of window k after the angle word of the TCLK before (R182). -/
def State.winFirst (s : State) (c k : Nat) : Nat :=
  let n := s.chTrk c
  let w := s.awPrev n
  let p := (posOf w + 1) % s.span n
  awNext w (if winCovers (s.fld HSK_WINS c k) (s.fld HSK_WINE c k) p then p else s.fld HSK_WINS c k)

/-- The pad time of a window truncation (R182): the tap of the crossing of the window's first covered AU, or 2 TCLK later at
tap 0 where the look-ahead, 3 TCLK before, did not foresee it. (DEDUCED: log 33.) -/
def State.winPad (s : State) (c k : Nat) : Nat :=
  let n := s.chTrk c
  let x := s.winFirst c k
  let seg := s.angThen n (s.now - 3)
  let x0 := seg.accAt (s.now - 1)
  let x1 := seg.accAt s.now
  if !s.isRebase n && awAfter x (awOfAcc (s.span n) x0) && awLe x (awOfAcc (s.span n) x1) then s.now * 32 + tapBetween (s.span n) x0 x1 x
  else (s.now + 2) * 32

/-- The pad time of the ONMAX limit (R181). -/
def State.onmaxPad (s : State) (c : Nat) : Nat := (s.hsk c).riseAt + s.hskUnits c HSK_ONMAX_LIM

/-- The accumulator of the energy stands above its limit (R183). -/
def State.i2tOver (s : State) (c : Nat) : Bool := s.fld HSK_I2TMAX_LVL c != 0 && decide (s.fld HSK_I2TMAX_LVL c < s.fld HSK_I2TACC c)

/-- The first truncating limit that is true in the current TCLK, in the order of R184, with the pad time of its off; of several windows touched the one of the
lowest number. (DEDUCED: log 34; DESIGN CHOICE: log 62.) -/
def State.limitHit (s : State) (c : Nat) : Option (Nat × Nat) :=
  if s.fld HSK_ONMAX_LIM c != 0 && decide (s.onmaxPad c / 32 ≤ s.now) then some (cOnMax, s.onmaxPad c)
  else if s.chBound c && s.fld HSK_REVON_LIM c != 0 && decide (s.hskUnits c HSK_REVON_LIM ≤ s.revOnTime c (s.now * 32)) then some (cRevOn, s.now * 32)
  else
    match s.touchedWins c with
    | k :: _ => some (cWindow, s.winPad c k)
    | [] => if isDriver c && s.i2tOver c then some (cI2t, (s.now + 2) * 32) else none

/-- The truncation of a pin that is on (R184, R185): none where the intent falls by the pad time of the limit. -/
def State.limitCut (s : State) (c : Nat) : State :=
  match s.limitHit c with
  | none => s
  | some (k, t) => if s.flag HSK_STAT_OUT c && !s.fallsBy c t then s.truncate c k t else s

/-- ONMAX_EXPIRY (R181): the pin turns off ONMAX after the admitted rise, with the rise's tap, unless its intent
falls by then (R185). (DESIGN CHOICE: log 2; DEDUCED: log 34.) -/
def execOnmaxExpiry (c : Fin 128) (s : State) : Host.Outcome State Fault Refusal := whenAwake s <| done (s.limitCut c)

/-- REVON_EXPIRY (R181): pin on-time in the revolution reaches REVON. (DEDUCED: log 34.) -/
def execRevonExpiry (c : Fin 128) (s : State) : Host.Outcome State Fault Refusal := whenAwake s <| done (s.limitCut c)

/-- HUSK_WINDOW_TOUCH (R182): a window is touched while the pin is on. Of two windows touched in one TCLK the truncation is that of the lower number.
(DESIGN CHOICE: log 62.) -/
def execHuskWindowTouch (c : Fin 128) (s : State) : Host.Outcome State Fault Refusal := whenAwake s <| done (s.limitCut c)

/-- The angle word of tracker n crosses, in forward rotation, a whole multiple of a revolution (R181). -/
def State.crossesRev (s : State) (n : Nat) : Bool :=
  (List.range 4).any fun k => decide (k * revAu < s.span n) && s.crosses n (awOf (cycOf (s.aw n)) (k * revAu))

/-- REVACC_CLEAR (R181): the revolution accumulators of the channels bound to tracker n clear. -/
def execRevaccClear (n : Fin 6) (s : State) : Host.Outcome State Fault Refusal :=
  whenAwake s <|
  if s.crossesRev n then
    .next (s.each (s.huskChans n) fun s c => s.setHsk c { s.hsk c with revAcc := 0, revFrom := s.now * 32 })
  else .next s

/-- CYC of tracker n increments because POS wraps in forward rotation (R5). -/
def State.wrapsCycle (s : State) (n : Nat) : Bool := s.crosses n (awOf (cycOf (s.aw n)) 0)

/-- The current that a sample shows (R193): its code times the gain trim of the calibration store, at most 4095. What becomes of a fraction the spec does not
state. (DESIGN CHOICE: log 63.) -/
def State.senseCurrent (s : State) (d code : Nat) : Nat :=
  let g := s.calWord 6 (1 + d) % 65536
  min 4095 (code * g / 32768 + (if code * g % 32768 != 0 && Config.senseUp code g then 1 else 0))

/-- A current-sense sample of one field driver (R183, R193): ISENSE, the energy accumulator, trip and release. -/
def State.senseDriver (s : State) (c code : Nat) : State :=
  let i := s.senseCurrent (c - 112) code
  let s := s.setFld PAD_ISENSE_I i c
  let s := s.setFld PAD_ISENSE_PEAK (max (s.fld PAD_ISENSE_PEAK c) i) c
  let e := min 0xFFFFFFFF (s.fld HSK_I2TACC c + i * i / 1024 - s.fld HSK_I2TCOOL_COOL c)
  let s := s.setFld HSK_I2TACC e c
  let s := s.when (decide (e ≤ s.fld HSK_I2TREL_LVL c)) fun s => s.setFld HSK_STAT_TRIPPED 0 c
  if s.i2tOver c then (s.setFld HSK_STAT_TRIPPED 1 c).limitCut c else s

/-- I_SENSE_SAMPLE (R193): in a TCLK in which TB is a whole multiple of 400. -/
def execISenseSample (i : Vector (BitVec 12) 16) (s : State) : Host.Outcome State Fault Refusal :=
  whenAwake s <|
  if s.now % 400 = 0 then
    done (s.each (List.range 16) fun s d => s.senseDriver (112 + d) ((i.toList.getD d 0).toNat))
  else .next s

/-- HSK_LAST_READ (R188): a read of LAST latches LASTAW and LASTTB. -/
def execHskLastRead (by_ : Agent) (c : Fin 128) (s : State) : Host.Outcome State Fault Refusal :=
  done (s.guard by_ (HSK_LAST.addr c) false 0 fun s =>
    s.latchRead by_ (HSK_LAST.addr c) [HSK_LASTAW.addr c, HSK_LASTTB.addr c])

end Sys2Proof.Machine
end

