-- ==== Sys2Proof/Machine/Pads.lean ====
section
/-! DEFINITION. Output pads (chapter 6): readback, contention, pad causes and their actions, and the pad test. -/

namespace Sys2Proof.Machine

/-- A pad that drives: a logic pad is tri-state with its pull-down before LOADED, in FAULT and when RETIRED (R191, R197), and under its test (R201). -/
def State.padDrives (s : State) (c : Nat) : Bool :=
  let st := s.fld PAD_STAT_STATE c
  if isDriver c then st != padReset else st == padNormal && !s.fco.async

/-- The physical level that a pad commands (R189, PADnnn_STAT.LVLOUT): on a logic pad high is on with ACTHI; on a field driver the
drain is low when on; low where it does not drive. On the asynchronous path logic pads are tri-state and drivers off (R359). (DEDUCED: log 35.) -/
def State.padLevelAt (s : State) (c t : Nat) : Bool :=
  s.padDrives c && (if isDriver c then s.fco.async || !s.pinOnAt c t else s.pinOnAt c t == s.flag PAD_CFG_ACTHI c)
def State.padLevel (s : State) (c : Nat) : Bool := s.padLevelAt c s.now

/-- The first 4 µs of the test of a logic pad (R201): its pull-up is on. -/
def State.pullUp (s : State) (c : Nat) : Bool :=
  !isDriver c && s.fld PAD_STAT_STATE c == padTest && decide (s.now < (s.pd c).testAt + 4 * usTclk)

/-- The level that a pad expects at its pin (R196): the commanded one, high under the pull-up of the test, low under the pull-down. -/
def State.padExpect (s : State) (c : Nat) : Bool := s.padLevel c || s.pullUp c

/-- A mismatch can have lasted RBFILT without a break (R196): the level expected stands that long, on a driver from the end of the blanking of its edge. -/
def State.rbOver (s : State) (c : Nat) : Bool :=
  let p := s.pd c
  let from_ := match p.edge with
    | some _ => if isDriver c then p.since + s.fld PAD_FDCFG_FDBLANK c * usTclk else p.since
    | none => p.since
  decide (from_ + s.fld PAD_CFG_RBFILT c ≤ s.now)

/-- Pad causes (R197). -/
def pcHiLo : Nat := 1
def pcLoHi : Nat := 2
def pcContention : Nat := 3
def pcOvercurrent : Nat := 4
def pcThermal : Nat := 5
def pcOpenOn : Nat := 6

/-- Whether a cause acts on the pad (R197). (DEDUCED: log 35.) -/
def causeActs (c cause : Nat) : Bool :=
  if isDriver c then cause == pcLoHi || cause == pcOvercurrent || cause == pcThermal
  else cause == pcHiLo || cause == pcLoHi || cause == pcContention

/-- Whether a cause is present in the safe state (R197). (DEDUCED: log 35.) -/
def causeContinues (c cause : Nat) : Bool := if isDriver c then cause == pcHiLo else cause == pcLoHi

/-- The order in which PADnnn_STAT.CAUSE takes causes that mature in one TCLK (R197). -/
def causeRank (cause : Nat) : Nat :=
  if cause == 3 then 0 else if cause == 4 then 1 else if cause == 2 then 2
  else if cause == 5 then 3 else if cause == 1 then 4 else 5

/-- The continuing-fault signal of a pad rises (R197, R358). (DEDUCED: log 35.) -/
def State.contRise (s : State) (c : Nat) : State :=
  let s := s.setPd c { s.pd c with cont := true }
  let k := s.clsOf c
  (s.setCls c { k with contSince := some (k.contSince.getD s.now) }).setActive (256 + c) true

/-- A pad whose causes of the current TCLK mature (R196, R197): one in NORMAL, or one that a cause of this TCLK has moved to FAULT. -/
def State.padJudged (s : State) (c : Nat) : Bool :=
  s.fld PAD_STAT_STATE c == padNormal || (s.fld PAD_STAT_STATE c == padFault && (s.pd c).faultAt == some s.now)

/-- A pad cause matures and acts (R197): DIAG, PADnnn_FAULT, the group status, and where the cause has an action the fault latch with
state FAULT; the pad of a retired channel stays in its state (R200). (DEDUCED: log 35.) -/
def State.padCause (s : State) (c cause : Nat) : State :=
  let g := c / 8
  let j := c % 8
  let acts := causeActs c cause
  let s := s.hwSet (PAD_DIAG.addr c) (BitVec.ofNat 32 (2 ^ cause))
  let s := s.setCauses .padg g (2 ^ (8 + j) + (if cause == pcContention then 2 ^ (16 + j) else 0))
  let s := s.setPd c { s.pd c with passOk := false, testOk := false }
  let st := s.fld PAD_STAT_STATE c
  let inForce := s.fld PAD_STAT_CAUSE c != 0 && s.padLatched c
  let same := (s.pd c).faultAt == some s.now
  let take := !inForce || (same && decide (causeRank cause < causeRank (s.fld PAD_STAT_CAUSE c)))
  let s := s.when (acts && take && !s.retired c) fun s =>
    (s.setFld PAD_STAT_CAUSE cause c).setPd c { s.pd c with faultAt := some s.now }
  let s := s.when (acts && !s.retired c) fun s => (s.when (st != padFault) fun s => s.padState c padFault).emit (.latch c)
  let s := s.when (causeContinues c cause) fun s => s.contRise c
  s.raiseFault (256 + c) (c * 256 + cause)

/-- The opposite mismatch of another pad of the group has matured within CWIN (R198), be it held or acted on. -/
def State.opposes (s : State) (a b cwin : Nat) (high : Bool) : Bool :=
  b != a &&
    match (s.pd b).matured with
    | none => false
    | some (h, t) => h != high && decide (s.now ≤ t + cwin)

/-- A logic pad's mismatch matures (R196, R198): it is held CWIN TCLK, paired with the opposite mismatches of its group. -/
def State.holdMismatch (s : State) (c : Nat) (high : Bool) : State :=
  let g := c / 8
  let cwin := s.fld PADG_CFG_CWIN g
  let others := ((List.range 8).map (8 * g + ·)).filter fun b => s.opposes c b cwin high
  let first := others.foldl (fun t b => match (s.pd b).matured with | some (_, u) => min t u | none => t) s.now
  let s := s.each others fun s b =>
    match (s.pd b).held with
    | none => s
    | some h => s.setPd b { s.pd b with held := some { h with contention := true, actAt := min h.actAt (min h.at_ s.now + cwin + 1) } }
  s.setPd c { s.pd c with held := some ⟨high, s.now, others != [], first + cwin + 1⟩, matured := some (high, s.now) }

/-- READBACK_MISMATCH (R196): the expected level is high and sensed low (`high`), or low and sensed high, for RBFILT TCLK. In FAULT and RETIRED a
logic pad compares a sensed high only. A driver's mismatch acts at once. A mismatch that is held already goes on. -/
def execReadbackMismatch (c : Fin 128) (high : Bool) (s : State) : Host.Outcome State Fault Refusal :=
  whenAwake s <|
  let st := s.fld PAD_STAT_STATE c.val
  if s.rbOver c ∧ s.padLevel c = high then
    if isDriver c then (if s.padJudged c then done (s.padCause c (if high then pcHiLo else pcLoHi)) else .next s)
    else if (st = padNormal ∨ st = padFault ∨ st = padRetired) ∧ (s.pd c).held = none then done (s.holdMismatch c high)
    else .next s
  else .next s

/-- MISMATCH_ACT (R198): at the end of its hold a mismatch acts. -/
def execMismatchAct (c : Fin 128) (s : State) : Host.Outcome State Fault Refusal :=
  whenAwake s <|
  match (s.pd c).held with
  | none => .next s
  | some h =>
    if h.actAt ≤ s.now then
      let s := s.setPd c { s.pd c with held := none }
      done (s.padCause c (if h.contention then pcContention else if h.high then pcHiLo else pcLoHi))
    else .next s

/-- A driver has been on for d TCLK. -/
def State.onFor (s : State) (c d : Nat) : Bool := s.pinOn c && decide ((s.hsk c).riseAt / 32 + d ≤ s.now)

/-- OVERCURRENT (R192): a driver that is on has stayed in current limit for OCT µs. -/
def execOvercurrent (fd : Fin 16) (s : State) : Host.Outcome State Fault Refusal :=
  whenAwake s <|
  let c := 112 + fd.val
  if s.onFor c (s.fld PAD_FDCFG_OCT c * usTclk) ∧ s.padJudged c then done (s.padCause c pcOvercurrent) else .next s

/-- DRIVER_THERMAL (R194): a driver's junction exceeds 175 °C, on or off. Before LOADED the pads stay in their reset state (R56, R57). -/
def execDriverThermal (fd : Fin 16) (s : State) : Host.Outcome State Fault Refusal :=
  whenAwake s <|
  let c := 112 + fd.val
  if s.fld PAD_STAT_STATE c = padReset then .next s else done (s.padCause c pcThermal)

/-- OPEN_ON (R197): a driver that is on carries less than OLTHR for 100 µs after FDBLANK. -/
def execOpenOn (fd : Fin 16) (s : State) : Host.Outcome State Fault Refusal :=
  whenAwake s <|
  let c := 112 + fd.val
  if s.onFor c ((s.fld PAD_FDCFG_FDBLANK c + 100) * usTclk) ∧ s.fld PAD_ISENSE_I c < s.fld PAD_FDCFG_OLTHR c ∧ s.padJudged c then
    done (s.padCause c pcOpenOn)
  else .next s

/-- A write of PADnnn_TEST (R201): START runs the test while the channel is cut or retired, and ends with NOT_OFF otherwise. A mismatch that is held goes on (R198). -/
def State.padTestWrite (s : State) (c : Nat) (v : Word) : State :=
  if bitsOf v 0 1 == 0 || s.flag PAD_TEST_START c then s
  else if s.flag CH_STAT_CUTL c || s.retired c then
    let s := s.setPd c { s.pd c with testFrom := s.fld PAD_STAT_STATE c, testOk := true, testAt := s.now, pulse := false, pulseOk := false }
    (s.setFld PAD_TEST_START 1 c).padState c padTest
  else s.setFld PAD_TEST_RESULT 3 c

/-- PAD_TEST (R201). -/
def execPadTest (by_ : Agent) (c : Fin 128) (s : State) : Host.Outcome State Fault Refusal :=
  done (s.guard by_ (PAD_TEST.addr c) true 1 fun s => s.padTestWrite c 1)

/-- The test pulse of a field driver begins (R175, R201): the Husk admits it as a rise without intent, under its limits and its forced-off causes but CUT and
RETIRED. (DEDUCED: log 35.) -/
def State.pulseStart (s : State) (c : Nat) : State :=
  let t := s.now * 32
  let f := s.forcedBy c true
  let l := if f != 0 then f else s.suppressor c t
  if l != 0 then s.huskAct c l true t
  else
    let s := s.setPd c { s.pd c with pulse := true }
    (((s.setHsk c { s.hsk c with riseAt := t }).setFld HSK_STAT_OUT 1 c).bump HSK_STAT_EDGECNT c).padEdge c true t

/-- The steps of the test of a field driver (R201): off for 50 µs, on for 10 µs. -/
def State.testTick (s : State) (c : Nat) : State :=
  let a := (s.pd c).testAt
  if !s.flag PAD_TEST_START c || !isDriver c then s
  else if s.now = a + 50 * usTclk then s.pulseStart c
  else if s.now = a + 60 * usTclk then s.pulseEnd c (s.now * 32) true
  else s

/-- The pad tests that run take their steps (R201). (DESIGN CHOICE: log 1.) -/
def State.testAll (s : State) : State := s.each (s.pad.map (·.1)) fun s c => s.testTick c

/-- The length of a pad test (R201). -/
def testLen (c : Nat) : Nat := (if isDriver c then 60 else 8) * usTclk

/-- PAD_TEST_DONE (R201): the steps of the test are over, and it ends with PASS, or FAIL with the cause found. A driver's pulse that the Husk held off or
cut fails as an on-state that was not sensed. (DEDUCED: log 35.) -/
def execPadTestDone (c : Fin 128) (fail : Option (Fin 7)) (s : State) : Host.Outcome State Fault Refusal :=
  whenAwake s <|
  if s.flag PAD_TEST_START c ∧ (s.pd c).testAt + testLen c ≤ s.now then
    let ok := !isDriver c || (s.pd c).pulseOk
    let s := s.testOver c
    let p := s.pd c
    let cause := match fail with | some k => k.val | none => if ok then 0 else pcLoHi
    let pass := fail.isNone && ok
    done (((s.setFld PAD_TEST_RESULT (if pass then 1 else 2) c).setFld PAD_TEST_FCAUSE cause c).setPd c
      { p with passOk := pass && p.testOk && s.retired c, pulse := false })
  else .next s

end Sys2Proof.Machine
end

