-- ==== Sys2Proof/Machine/Classifier.lean ====
section
/-! DEFINITION. The commands of the transient and permanent fault classifier (R362-R365). -/

namespace Sys2Proof.Machine

/-- The end of a cool-down once nothing holds it (R362): a retry in hardware mode, a decision request in host-assisted mode. -/
def State.coolOver (s : State) (c : Nat) : State :=
  if s.hostMode fnRetry c then
    let s := (s.setFld FCO_BKT_CSTATE csWaitdec c).setBankBit FCO_RREQ c true
    (s.cause .fco FCO_INTST_RREQ).request fnRetry c
  else s.retry c

/-- A hold ends when neither the continuing fault nor the heat remains (R362). -/
def State.holdCheck (s : State) (c : Nat) : State :=
  if s.fld FCO_BKT_CSTATE c == csHold && !(s.pd c).cont && !(s.clsOf c).hot then s.coolOver c else s

/-- COOLDOWN_END (R362). -/
def execCooldownEnd (c : Fin 128) (s : State) : Host.Outcome State Fault Refusal :=
  whenAwake s <|
  if s.fld FCO_BKT_CSTATE c = csCool ∧ (s.clsOf c).coolEnd ≤ s.now then
    if (s.pd c).cont || (s.clsOf c).hot then .next (s.setFld FCO_BKT_CSTATE csHold c) else done (s.coolOver c)
  else .next s

/-- The continuing-fault signal has been present for T_PERM without a break (R362): a decision of that TCLK comes too late. -/
def State.tpermDue (s : State) (c : Nat) : Bool :=
  match (s.clsOf c).contSince with
  | none => false
  | some t => decide (t + s.fld FCO_CLS1_TPERM * msTclk ≤ s.now)

/-- The request of a channel is answered or gone. (DEDUCED: log 54.) -/
def State.dropRreq (s : State) (c : Nat) : State := (s.setBankBit FCO_RREQ c false).setAsk fnRetry c none

/-- A write of FCO_RDEC (R362, R365): a decision on the channel's outstanding request, or a late one. (DEDUCED: log 54.) -/
def State.retryDecision (s : State) (v : Word) : State :=
  let c := bitsOf v 0 7
  let s := s.setFld FCO_RDEC_CH c
  let open_ := s.bankBit FCO_RREQ c && !s.tpermDue c && (match s.askOf fnRetry c with | some d => decide (s.now < d) | none => false)
  if open_ then
    let s := (s.dropRreq c).setFld FCO_RDEC_RESULT 1
    if bitsOf v 31 1 == 1 then s.retry c else (s.logCls c 5).failRetry c
  else ((s.setFld FCO_RDEC_RESULT 2).lateDecision).bump FCO_CNT_LATECOMP

/-- RETRY_DECISION (R362). -/
def execRetryDecision (by_ : Agent) (v : Word) (s : State) : Host.Outcome State Fault Refusal :=
  done (s.guard by_ (FCO_RDEC.addr) true v fun s => s.retryDecision v)

/-- TPERM_EXPIRY (R362): the continuing-fault signal has been present for T_PERM without a break. -/
def execTpermExpiry (c : Fin 128) (s : State) : Host.Outcome State Fault Refusal :=
  whenAwake s <|
  if s.tpermDue c then done (s.retire c (256 + c)) else .next s

/-- FORGIVENESS (R362): FP has passed since the bucket last changed. -/
def execForgiveness (c : Fin 128) (s : State) : Host.Outcome State Fault Refusal :=
  whenAwake s <|
  if s.fld FCO_BKT_B c ≠ 0 ∧ (s.clsOf c).changedAt + s.fld FCO_CLS0_FP * msTclk ≤ s.now then
    .next (s.setBucket c (s.fld FCO_BKT_B c - 1))
  else .next s

/-- RETRY_COUNT_RESET (R362): the pad has been NORMAL for FP since the last retry. -/
def execRetryCountReset (c : Fin 128) (s : State) : Host.Outcome State Fault Refusal :=
  whenAwake s <|
  if s.fld PAD_STAT_STATE c = padNormal ∧ max (s.clsOf c).retryAt (s.pd c).normalAt + s.fld FCO_CLS0_FP * msTclk ≤ s.now then
    .next (s.setFld FCO_BKT_RC 0 c)
  else .next s

/-- A write of FCO_RCLR (R364). A pad test that still runs goes on while the channel is cut, and ends otherwise (R201). -/
def State.retireClear (s : State) (v : Word) : State :=
  let c := bitsOf v 0 7
  if !s.retired c then s.setFld FCO_RCLR_RESULT 2
  else if !(s.pd c).passOk then s.setFld FCO_RCLR_RESULT 3
  else
    let s := (s.setBankBit FCO_RET c false).when (!s.flag PAD_TEST_START c) fun s => s.padState c padNormal
    let s := (s.setFld PAD_STAT_CAUSE 0 c).setPd c { s.pd c with passOk := false, testOk := false, testFrom := padNormal }
    let s := s.testAbort c
    let s := (s.setFld FCO_BKT_CSTATE csIdle c).setBucket c 0
    ((s.setFld FCO_BKT_RC 0 c).setFld FCO_RCLR_RESULT 1).logCls c 3

/-- RETIRE_CLEAR (R364). -/
def execRetireClear (by_ : Agent) (v : Word) (s : State) : Host.Outcome State Fault Refusal :=
  done (s.guard by_ (FCO_RCLR.addr) true v fun s => s.retireClear v)

/-- CONTINUING_FAULT_ENDS (R362): the signal of R197 goes; the PAD source is active no longer (R358). -/
def execContinuingFaultEnds (c : Fin 128) (s : State) : Host.Outcome State Fault Refusal :=
  whenAwake s <|
  let s := (s.setPd c { s.pd c with cont := false }).setActive (256 + c) false
  done ((s.setCls c { s.clsOf c with contSince := none }).holdCheck c)

/-- DRIVER_THERMAL_RELEASE (R194): the driver's junction is below 160 °C. -/
def execDriverThermalRelease (fd : Fin 16) (s : State) : Host.Outcome State Fault Refusal :=
  whenAwake s <|
  let c := 112 + fd.val
  done ((s.setCls c { s.clsOf c with hot := false }).holdCheck c)

end Sys2Proof.Machine
end

