-- ==== Sys2Proof/Machine/FaultPins.lean ====
section
/-! DEFINITION. Latch release, severities, the fault log, and the pins SAFE_N and ALIVE (chapter 13). -/

namespace Sys2Proof.Machine

/-- A latch (0-15 a group, 16 the global one) is set. -/
def State.latchSet (s : State) (i : Nat) : Bool :=
  if i = 16 then s.flag FCO_GSAFE_ALL else s.fld FCO_GSAFE_GRP / 2 ^ i % 2 == 1

/-- Release one latch (R361), unless a source whose reaction set it is still active. Which of several sources the record names
the spec leaves open. (DEDUCED: log 52.) -/
def State.releaseLatch (s : State) (i : Nat) : State :=
  let srcs := tget [] s.fco.latchSrc i
  if !s.latchSet i || srcs.any s.srcActive then s
  else
    let s := if i = 16 then s.setFld FCO_GSAFE_ALL 0 else s.setFld FCO_GSAFE_GRP (setBitNat (s.fld FCO_GSAFE_GRP) i false)
    let s := s.setFco { s.fco with latchSrc := tput [] s.fco.latchSrc i [] }
    match srcs with
    | [] => s
    | k :: l =>
      let (i, s) := s.fresh 9
      s.logOther 4 ((k :: l).getD (i % (l.length + 1)) k)

/-- The asynchronous path of R359 lets go once PLL_T is locked again and the global latch is released. (DEDUCED: log 52.) -/
def State.asyncCheck (s : State) : State :=
  if s.fco.async && !s.bankBit FCO_ACT 1 && !s.bankBit FCO_ACT 2 && !s.flag FCO_GSAFE_ALL then s.setFco { s.fco with async := false } else s

/-- A write of FCO_SAFECLR (R361). -/
def State.safeClear (s : State) (v : Word) : State :=
  (s.each ((List.range 17).filter fun i => bitsOf v i 1 == 1) fun s i => s.releaseLatch i).asyncCheck.aliveUpdate

/-- SAFE_RELEASE (R361). -/
def execSafeRelease (by_ : Agent) (v : Word) (s : State) : Host.Outcome State Fault Refusal :=
  done (s.guard by_ (FCO_SAFECLR.addr) true v fun s => s.safeClear v)

/-- A write of FCO_SRCsss.SEV (R355, R357, R367): ignored above FLOOR, on a reserved source, and for FS012 below 3. -/
def State.sevWrite (s : State) (k : Nat) (v : Word) : State :=
  let sev := bitsOf v 4 3
  if srcReserved k || decide (s.fld FCO_SRC_FLOOR k < sev) || (k == 12 && decide (sev < 3 ∨ 5 < sev)) then s
  else s.setFld FCO_SRC_SEV sev k

/-- SEV_WRITE (R357). -/
def execSevWrite (by_ : Agent) (src : Fin 512) (v : Word) (s : State) : Host.Outcome State Fault Refusal :=
  done (s.guard by_ (FCO_SRC.addr src) true v fun s => s.sevWrite src v)

/-- A keep-alive violation (R369): 1 early, 2 wrong key, 3 none. (DEDUCED: log 53.) -/
def State.kaViolation (s : State) (kind : Nat) : State :=
  let s := ((s.setFld FCO_KASTAT_ARMED 0).bump FCO_KASTAT_MISS).cause .fco FCO_INTST_KAMISS
  let s := s.setFco { s.fco with anyTime := true, waitKick := true }
  (s.raiseFault 11 kind).aliveUpdate

/-- The first kick after LOADED is still awaited (R369): no window is in force and no violation has happened. (DEDUCED: log 53.) -/
def State.firstKick (s : State) : Bool := s.fco.anyTime && !s.fco.waitKick

/-- A window is in force (R369): the first one after LOADED, one that a kick has started, or one that a re-arming kick has. (DEDUCED: log 53.) -/
def State.kaWindow (s : State) : Bool := !(s.fco.anyTime && s.fco.waitKick)

/-- A kick is accepted (R369): the window restarts and the key alternates. ARMED, with which ALIVE runs (R370), is set by the first kick and by
one in its window, not by a re-arming one. -/
def State.kickAccept (s : State) (inWindow : Bool) : State :=
  let arm := inWindow || s.firstKick
  let s := s.setFld FCO_KASTAT_NEXTKEY (if s.fld FCO_KASTAT_NEXTKEY = 0x5A then 0xA5 else 0x5A)
  let s := (s.setFco { s.fco with kickAt := s.now, anyTime := false, waitKick := !arm }).when arm fun s => s.setFld FCO_KASTAT_ARMED 1
  s.aliveUpdate

/-- The window of the last accepted kick, or of LOADED, has closed. (DEDUCED: log 53.) -/
def State.kaClosed (s : State) : Bool := decide (s.fco.kickAt + s.fld FCO_KAWIN_WCLOSE * usTclk < s.now)

/-- A write of FCO_KICK (R369). (DEDUCED: log 53.) -/
def State.kick (s : State) (v : Word) : State :=
  if !s.flag FCO_KACFG_KAEN || s.fld IMG_STATUS_STATE != 2 then s
  else
    let key := bitsOf v 0 8
    let s := if s.kaWindow && s.kaClosed then s.kaViolation 3 else s
    if key != s.fld FCO_KASTAT_NEXTKEY then s.kaViolation 2
    else if s.fco.anyTime then s.kickAccept false
    else if s.now < s.fco.kickAt + s.fld FCO_KAWIN_WOPEN * usTclk then s.kaViolation 1
    else s.kickAccept true

/-- KICK (R369). -/
def execKick (by_ : Agent) (v : Word) (s : State) : Host.Outcome State Fault Refusal :=
  done (s.guard by_ (FCO_KICK.addr) true v fun s => s.kick v)

/-- KEEPALIVE_TIMEOUT (R369): WCLOSE passes without a kick. -/
def execKeepaliveTimeout (s : State) : Host.Outcome State Fault Refusal :=
  whenAwake s <|
  if s.flag FCO_KACFG_KAEN && s.fld IMG_STATUS_STATE == 2 && s.kaWindow && s.kaClosed then
    done (s.kaViolation 3)
  else .next s

/-- ALIVE_TOGGLE (R370): every HALF µs while ALIVE runs. -/
def execAliveToggle (s : State) : Host.Outcome State Fault Refusal :=
  whenAwake s <|
  if s.flag FCO_KASTAT_RUN ∧ s.fco.toggleAt ≤ s.now then
    let s := s.setFld FCO_STAT_ALIVE (1 - s.fld FCO_STAT_ALIVE)
    .next (s.setFco { s.fco with toggleAt := s.fco.toggleAt + s.fld FCO_KACFG_HALF * usTclk })
  else .next s

/-- SAFE_N_CHANGE (R367): the filtered level of SAFE_N changes. While it is low every Husk holds SAFE and FS012 is active. -/
def execSafeNChange (level : Bool) (s : State) : Host.Outcome State Fault Refusal :=
  whenAwake s <|
  if level then .next ((s.setFld FCO_STAT_SNACT 0).setActive 12 false)
  else if s.flag FCO_STAT_SNACT then .next s
  else
    let s := ((s.setFld FCO_STAT_SNACT 1).setActive 12 true).huskCheckAll (List.range 128) (s.now + 1)
    done (s.raiseFault 12)

/-- The words of a log entry, as FCO_LOG0-FCO_LOG3 show it. -/
def LogEntry.word0 (e : LogEntry) : Word :=
  BitVec.ofNat 32 (2 ^ 31 + e.kind % 8 * 2 ^ 24 + e.react % 8 * 2 ^ 20 + e.sev % 8 * 2 ^ 16 + e.src % 512)

/-- A read of FCO_LOG0 (R373): the head entry is removed, and LOG1-LOG3 are latched for the reader. -/
def State.fcoLogRead (s : State) (by_ : Agent) : State :=
  let (w0, w1, w2, w3, rest) : Word × Nat × Nat × Nat × List LogEntry := match s.fco.log with
    | [] => (0, 0, 0, 0, [])
    | e :: l => (e.word0, e.tb, e.data, e.count, l)
  let s := s.setFco { s.fco with log := rest }
  let s := (((s.wr (FCO_LOG.addr 0) w0).wr (FCO_LOG.addr 1) (BitVec.ofNat 32 w1)).wr (FCO_LOG.addr 2)
    (BitVec.ofNat 32 w2)).wr (FCO_LOG.addr 3) (BitVec.ofNat 32 w3)
  s.latchRead by_ (FCO_LOG.addr 0) [FCO_LOG.addr 1, FCO_LOG.addr 2, FCO_LOG.addr 3]

/-- FCO_LOG_READ (R373). -/
def execFcoLogRead (by_ : Agent) (s : State) : Host.Outcome State Fault Refusal :=
  done (s.guard by_ (FCO_LOG.addr 0) false 0 fun s => s.fcoLogRead by_)

end Sys2Proof.Machine
end

