-- ==== Sys2Proof/Machine/AdcOps.lean ====
section
/-! DEFINITION. The converters' shared operations (chapter 7): gain changes, sequencer entries, results, traces, offsets. -/

namespace Sys2Proof.Machine

/-- A conversion takes 40 TCLK (R209); a changed gain settles for 60 (R206). -/
def convTclk : Nat := 40
def settleTclk : Nat := 60

/-- Result flags (R224). -/
def rGchg : Nat := 2 ^ 0
def rNosync : Nat := 2 ^ 1
def rUrg : Nat := 2 ^ 2
def rCu : Nat := 2 ^ 3
def rOverlap : Nat := 2 ^ 4
def rOvr : Nat := 2 ^ 5
def rCalwait : Nat := 2 ^ 6
def rCalstale : Nat := 2 ^ 7
def rCalraw : Nat := 2 ^ 8
def rDropped : Nat := 2 ^ 9
def rDefcal : Nat := 2 ^ 10
def rTdac : Nat := 2 ^ 11
def rUrgwait : Nat := 2 ^ 12

/-- The gain of input j changes in TCLK c (R206). -/
def State.gainChange (s : State) (j c : Nat) : State :=
  let s := { s with gainAt := tput none s.gainAt j (some c), gchg := tput false s.gchg j true }
  s.bump ADC_CNT_GCHG (s.fld ADC_IN_CONV j)

/-- Input j takes gain code g in TCLK c; the code in force is no change. -/
def State.setGain (s : State) (j g c : Nat) : State :=
  if s.fld ADC_IN_GAIN j = g then s else (s.setFld ADC_IN_GAIN g j).gainChange j c

/-- The gain code that an entry or a request names (7: the one in force); codes 5 and 6 are undefined, so which gain they select
is a free value of the input and the code. (DESIGN CHOICE: log 36.) -/
def State.namedGain (s : State) (j g : Nat) : Nat × State :=
  if g = 7 then (s.fld ADC_IN_GAIN j, s)
  else if g ≤ 4 then (g, s)
  else (Config.undefGain j g % 5, s)

/-- Input j has settled in the current TCLK, and no change of its gain is to come. -/
def State.settled (s : State) (j : Nat) : Bool :=
  (tget none s.gainNext j).isNone &&
    match tget none s.gainAt j with
    | none => true
    | some c => decide (c + settleTclk ≤ s.now)

/-- A conversion of input j runs. -/
def State.converting (s : State) (j : Nat) : Bool :=
  match (s.ad (s.fld ADC_IN_CONV j)).conv with
  | some c => c.src == j
  | none => false

/-- Input j takes gain code g from TCLK t on, but never during a conversion of it (R207). -/
def State.gainAsk (s : State) (j g t : Nat) : State := { s with gainNext := tput none s.gainNext j (some (g, t)) }

/-- A change of gain that has waited for its TCLK or for the end of a conversion (R207). -/
def State.gainTake (s : State) (j : Nat) : State :=
  match tget none s.gainNext j with
  | none => s
  | some (g, t) =>
    if t ≤ s.now && !s.converting j then { s with gainNext := tput none s.gainNext j none }.setGain j g s.now else s

/-- The gains that an urgent request and the entry of a sequencer conversion name, in the TCLK in which the conversion falls due (R206, R212). -/
def State.gainDue (s : State) (a : Nat) : State :=
  let s := match (s.ad a).urg with
    | some (j, g, w) =>
      if g != 7 && decide (w + 1 ≤ s.now) && !s.converting j then
        let (g, s) := s.namedGain j g
        (s.setGain j g s.now).setAd a { s.ad a with urg := some (j, 7, w) }
      else s
    | none => s
  match (s.ad a).due with
  | none => s
  | some d =>
    let i := s.fld ADC_CTRL_IDX a
    let j := s.fld ADC_SEQ0_SRC a i
    if decide (d ≤ s.now) && (s.ad a).gainFor != some d && decide (j < 64) && !s.converting j then
      let (g, s) := s.namedGain j (s.fld ADC_SEQ0_GAIN a i)
      (s.setGain j g s.now).setAd a { s.ad a with gainFor := some d }
    else s

/-- The entry of the sequencer of converter a begins, with its first conversion due (or the entry ready) from TCLK t (R209). -/
def State.adcEnter (s : State) (a t : Nat) : State :=
  let i := s.fld ADC_CTRL_IDX a
  let x := { s.ad a with left := s.fld ADC_SEQ0_REP a i + 1, tsrc := 0x1FF, cu := false, overlap := false }
  s.setAd a (if s.flag ADC_SEQ0_WAIT a i then { x with ready := some t, due := none } else { x with ready := none, due := some t })

/-- START in state STOPPED (R208). -/
def State.adcStart (s : State) (a : Nat) : State :=
  (((s.setFld ADC_CTRL_STATE 1 a).setFld ADC_CTRL_IDX 0 a).taskClear (tiAdc a)).adcEnter a (s.now + 1)

/-- The trace in hand ends (R339, R340). -/
def State.traceFlush (s : State) (a : Nat) (cont : Bool) : State :=
  let x := s.ad a
  if x.trace = [] then s
  else
    let body := [x.traceHead.1, 0] ++ leBytes 2 x.trace.length ++ leBytes 2 x.traceHead.2 ++ [0, 0] ++ leBytes 8 x.traceLast
      ++ x.trace.reverse.flatten
    let r : Rec :=
      { ty := 0x02, src := x.traceIn, trk := min 7 (s.fld ADC_IN_TRK x.traceIn), tb := x.traceTb, aw := x.traceAw,
        nosync := x.traceNs, origin := noOrigin, nobody := false, hostbody := false, cont, body }
    (s.setAd a { x with trace := [] }).emit (.record r)

/-- STOP in RUNNING (R208): a running conversion completes, and its result ends the trace. -/
def State.adcStop (s : State) (a : Nat) : State :=
  let s := (s.setFld ADC_CTRL_STATE 0 a).taskClear (tiAdc a)
  let s := s.setAd a { s.ad a with due := none, ready := none, left := 0 }
  if (s.ad a).conv.isSome then s
  else
    match (s.ad a).out with
    | some (c, code, fl, _) => s.setAd a { s.ad a with out := some (c, code, fl, true) }
    | none => s.traceFlush a false

/-- CLRQ in STOPPED: the queue empties for all readers. -/
def State.adcClrq (s : State) (a : Nat) : State :=
  (s.setAd a { s.ad a with queue := [] }).setFld ADC_QSTAT_LEVEL 0 a

/-- A write of ADCn_CTRL (R208). -/
def State.adcCtl (s : State) (a : Nat) (v : Word) : State :=
  let bit (i : Nat) : Bool := bitsOf v i 1 == 1
  if s.fld ADC_CTRL_STATE a = 0 then
    (s.when (bit 2) fun s => s.adcClrq a).when (bit 0) fun s => s.adcStart a
  else s.when (bit 1) fun s => s.adcStop a

/-- The conversion of an entry's last repetition has ended: the next entry, or entry 0 after LAST (R209). -/
def State.adcAdvance (s : State) (a start : Nat) : State :=
  let i := s.fld ADC_CTRL_IDX a
  let t := start + convTclk + s.fld ADC_SEQ1_DELAY a i
  if s.flag ADC_SEQ0_LAST a i then ((s.setFld ADC_CTRL_IDX 0 a).cause .adc ADC_INTST_WRAP a).adcEnter a t
  else (s.setFld ADC_CTRL_IDX (i + 1) a).adcEnter a t

/-- Put a result's sample into the trace in hand (R340). -/
def State.traceAdd (s : State) (a : Nat) (c : Conv) (code flags : Nat) : State :=
  let s := s.when (decide (500 ≤ (s.ad a).trace.length)) fun s => s.traceFlush a true
  let x := s.ad a
  let smp := leBytes 8 (code * 2 ^ 48 + c.gain * 2 ^ 45 + flags % 2 ^ 13 * 2 ^ 32 + c.aw)
  let x := if x.trace = [] then
      { x with traceTb := c.start, traceAw := c.aw, traceNs := flags / rNosync % 2 == 1, traceIn := c.src, traceHead := (c.entry, c.tsrc) }
    else x
  s.setAd a { x with trace := smp :: x.trace, traceLast := c.start }

/-- A result enters the queue and passes to the other readers, or is dropped (R220). -/
def State.adcStore (s : State) (a : Nat) (c : Conv) (code flags : Nat) : State :=
  let x := s.ad a
  let rd := s.fld ADC_CFG_READERS a
  if rd % 2 = 1 ∧ 2048 ≤ x.queue.length then
    ((s.bump ADC_QSTAT_DROP a).setAd a { x with dropped := true }).cause .adc ADC_INTST_DROP a
  else
    let fl := flags ||| (if x.dropped then rDropped else 0)
    let words := [code * 65536 + c.gain * 8192 + c.src * 16 + 1, c.tsrc * 2 ^ 23 + c.entry * 2 ^ 15 + fl,
                  c.start % 2 ^ 32, c.start / 2 ^ 32, c.aw]
    let s := s.setAd a { x with dropped := false, queue := if rd % 2 = 1 then x.queue ++ [words] else x.queue }
    let lvl := (s.ad a).queue.length
    let s := s.setFld ADC_QSTAT_LEVEL lvl a
    let s := s.when (rd % 2 == 1 && lvl == s.fld ADC_CFG_WM a) fun s => s.cause .adc ADC_INTST_WATER a
    let s := s.when (c.kind == 1) fun s => s.cause .adc ADC_INTST_URGDONE a
    let s := s.when (rd / 2 % 2 == 1) fun s => s.emit (.result c.src words)
    let traced := rd / 4 % 2 == 1 && decide (c.src < 64) && s.bankBit JRN_TRCIN c.src
    if !traced then s
    else if c.kind == 1 then
      let hold := s.ad a
      let s := s.setAd a { hold with trace := [] }
      let s := (s.traceAdd a c code fl).traceFlush a false
      s.setAd a { s.ad a with trace := hold.trace, traceTb := hold.traceTb, traceAw := hold.traceAw, traceNs := hold.traceNs,
                              traceIn := hold.traceIn, traceHead := hold.traceHead, traceLast := hold.traceLast }
    else s.traceAdd a c code fl

/-- A result is formed at the end of its conversion; it enters the queue in the TCLK after (R220). -/
def State.adcForm (s : State) (a : Nat) (c : Conv) (code flags : Nat) : State := s.setAd a { s.ad a with out := some (c, code, flags, false) }

/-- The result formed in the TCLK before enters the queue (R220), and the trace that it ends is written. -/
def State.adcOut (s : State) (a : Nat) : State :=
  match (s.ad a).out with
  | none => s
  | some (c, code, fl, fin) => ((s.setAd a { s.ad a with out := none }).adcStore a c code fl).when fin fun s => s.traceFlush a false

/-- What a new TCLK brings to the converters: results that enter their queues, and gains that change (R206, R207, R220). -/
def State.adcTick (s : State) : State :=
  let s := s.each (List.range 4) fun s a => s.adcOut a
  let s := s.each (s.gainNext.map (·.1)) fun s j => s.gainTake j
  s.each (List.range 4) fun s a => s.gainDue a

/-- CODE of a raw value at gain g, and whether it was clamped (R205). -/
def State.adcCode (s : State) (a g : Nat) (raw : Int) : Nat × Bool :=
  let x := roundDivI ((raw - s.sfld ADC_OFS a g) * (s.calGt a g : Int)) 32768
  if x < 0 then (0, true) else if 65535 < x then (65535, true) else (x.toNat, false)

/-- Auto-ranging of input j after a result (R207): the gain changes in the next TCLK, unless a write of the gain waits for the end of the conversion. -/
def State.autoRange (s : State) (j code : Nat) : State :=
  let g := s.fld ADC_IN_GAIN j
  if !s.flag ADC_IN_AUTO j || (tget none s.gainNext j).isSome then s
  else if 61604 ≤ code ∧ s.fld ADC_IN_GMIN j < g then s.gainAsk j (g - 1) (s.now + 1)
  else if code ≤ 26870 ∧ g < s.fld ADC_IN_GMAX j then s.gainAsk j (g + 1) (s.now + 1)
  else s

/-- The opening-delay learner sees a result (R170, R221). -/
def State.injSee (s : State) (j tb code : Nat) : State :=
  s.each ((List.range 128).filter fun c => s.flag CH_INJCFG_EN c && s.fld CH_INJCFG_AIN c == j) fun s c =>
    match (s.ch c).active, (s.ch c).hit with
    | some a, none =>
      if a.ts ≤ tb ∧ tb < a.ts + 256 * 2 ^ s.fld CH_INJCFG_WINK c ∧ s.fld CH_INJCFG_ITHR c ≤ code then
        s.setCh c { s.ch c with hit := some tb }
      else s
    | _, _ => s

/-- Flags that every result of a converter carries (R218, R219). -/
def State.adcCommon (s : State) (a : Nat) : Nat :=
  (if (s.ad a).stale then rCalstale else 0) ||| (if s.calGroup a then 0 else rDefcal)

/-- The result of an input's conversion (R205-R207, R220-R224). (DESIGN CHOICE: log 36.) -/
def State.adcResult (s : State) (a : Nat) (c : Conv) (raw : Nat) : State :=
  let (code, cl) := s.adcCode a c.gain raw
  let ovr := cl || raw == 0 || raw == 65535
  let flags := c.flags ||| s.adcCommon a ||| (if ovr then rOvr else 0)
  let s := s.when ovr fun s => (s.bump ADC_CNT_OVR a).cause .adc ADC_INTST_OVR a
  let s := s.when (c.flags / rOverlap % 2 == 1) fun s => s.bump ADC_CNT_OVERLAP a
  let s := s.when (c.flags / rUrgwait % 2 == 1) fun s => s.bump ADC_CNT_URGWAIT a
  ((s.injSee c.src c.start code).adcForm a c code flags).when (decide (c.src < 64)) fun s => (s.autoRange c.src code).gainTake c.src

/-- A VREFL slot in hardware mode updates the offset in force (R217). -/
def State.ofsTrack (s : State) (a g : Nat) (m : Int) : State :=
  let o := s.sfld ADC_OFS a g
  let new := o + roundDivI (m - o) (2 ^ s.fld ADC_CALCFG_CALGAIN a)
  let cal := s.calOfs a g
  let lim : Int := s.fld ADC_CALLIM_LIM a
  if lim < new - cal ∨ new - cal < -lim then
    let s := s.setFld ADC_OFS (unsignedOf 16 (if cal < m then cal + lim else cal - lim)) a g
    if (s.ad a).drift then s
    else ((s.setAd a { s.ad a with drift := true }).raiseFault (72 + a) g).cause .adc ADC_INTST_CALDRIFT a
  else s.setFld ADC_OFS (unsignedOf 16 new) a g

/-- The result of a shadow conversion (R216-R218). A VREFL raw value is read as signed, as the offsets are. (DESIGN CHOICE: log 36.) -/
def State.shadowResult (s : State) (a : Nat) (c : Conv) (raw : Nat) : State :=
  let s := s.bump ADC_CALSTAT_SLOTS a
  if s.hostMode fnCaltrk a then
    let edge := if c.src = 64 then raw == 0x7FFF || raw == 0x8000 else raw == 0 || raw == 65535
    let s := s.when edge fun s => (s.bump ADC_CNT_OVR a).cause .adc ADC_INTST_OVR a
    s.adcForm a c raw (c.flags ||| rCalraw ||| s.adcCommon a ||| (if edge then rOvr else 0))
  else if c.src = 64 then s.ofsTrack a c.gain (signedOf 16 raw)
  else
    let (code, _) := s.adcCode a 0 raw
    s.setFld ADC_GCHK_DEV (unsignedOf 16 ((code : Int) - 16 * (s.fld ADC_CALLIM_CALCODE a : Int))) a

/-- A pending mode change of FN_CALTRK switches converter a in a gap between conversions (R35, R217). -/
def State.caltrkSwitch (s : State) (a : Nat) : State :=
  if s.fnPending fnCaltrk && !tget false s.switched (fnCaltrk * 128 + a) && (s.fnInstances fnCaltrk).contains a then
    (s.switchInst fnCaltrk a).loadOfs a
  else s

/-- The stamp of input j in the current TCLK (R20): angle word and NOSYNC of its stamping tracker; both 0 for a source without one. (DESIGN CHOICE: log 63.) -/
def State.adcStamp (s : State) (j : Nat) : Nat × Bool :=
  let n := s.fld ADC_IN_TRK j
  if j < 64 ∧ n < 6 then (s.aw n, s.level n false == 0) else (0, false)

/-- Start a conversion of input j in the current TCLK. -/
def State.convStart (s : State) (a kind j gain tsrc entry flags : Nat) (final : Bool) : State :=
  let (aw, ns) := s.adcStamp j
  let g := decide (j < 64) && tget false s.gchg j
  let td := s.flag TDAC_CTRL_EN && s.fld TDAC_CTRL_TARGET == j
  let fl := flags ||| (if g then rGchg else 0) ||| (if ns then rNosync else 0) ||| (if td then rTdac else 0)
  let s := s.when g fun s => { s with gchg := tput false s.gchg j false }
  s.setAd a { s.ad a with conv := some ⟨kind, j, gain, s.now, aw, tsrc, entry, fl, final⟩ }

/-- Start what is due, once its gain has settled (R206, R209, R212-R214). (DESIGN CHOICE: log 36.) -/
def State.convPick (s : State) (a : Nat) : State :=
  let s := s.gainDue a
  let x := s.ad a
  match x.urg with
  | some (j, _, w) =>
    if s.now < w + 1 || !s.settled j then s
    else
      let s := s.convStart a 1 j (s.fld ADC_IN_GAIN j) 0x1FF 0 rUrg false
      s.setAd a { s.ad a with urg := none, urgEnd := s.now + convTclk }
  | none =>
    match x.due with
    | none => s
    | some d =>
      let i := s.fld ADC_CTRL_IDX a
      let j := s.fld ADC_SEQ0_SRC a i
      if s.now < d || (decide (j < 64) && !s.settled j) then s
      else
        let g := if j < 64 then s.fld ADC_IN_GAIN j else s.fld ADC_SEQ0_GAIN a i
        let cw := decide (d < x.calEnd)
        let flags := (if x.cu then rCu else 0) ||| (if x.overlap then rOverlap else 0) ||| (if cw then rCalwait else 0)
          ||| (if d < x.urgEnd then rUrgwait else 0)
        let s := s.when cw fun s => s.bump ADC_CALSTAT_WAITS a
        let s := s.convStart a 0 j g x.tsrc i flags (x.left == 1)
        let next := if x.left ≤ 1 then none else some (s.now + convTclk + s.fld ADC_SEQ1_DELAY a i)
        s.setAd a { s.ad a with left := x.left - 1, due := next }

/-- The running conversion of converter a ends with a raw value (R220). -/
def State.convEnd (s : State) (a : Nat) (c : Conv) (raw : Nat) : State :=
  let s := s.setAd a { s.ad a with conv := none }
  let s :=
    if c.kind = 2 then s.shadowResult a c raw
    else
      let s := s.adcResult a c raw
      if c.kind = 1 then s.setFld ADC_URGSTAT_PENDING 0 a
      else
        let x := s.ad a
        let s := s.when (c.final || s.fld ADC_CTRL_STATE a == 0) fun s =>
          s.setAd a { s.ad a with out := (s.ad a).out.map fun o => (o.1, o.2.1, o.2.2.1, true) }
        s.when (c.final && s.fld ADC_CTRL_STATE a != 0 && x.left == 0 && x.due.isNone && x.ready.isNone) fun s => s.adcAdvance a c.start
  s.caltrkSwitch a

/-- The next angle word after the present one of tracker n whose POS is `pos` (R215). -/
def State.nextAw (s : State) (n pos : Nat) : Nat :=
  let c := cycOf (s.aw n)
  if posOf (s.aw n) < pos then awOf c pos else awOf (c + 1) pos

/-- TCLK to the next compare of timer t, while it runs; none when it does not. -/
def State.timerNext (s : State) (t : Nat) : Option Nat :=
  if !s.flag TMR_STAT_RUN t || s.flag TMR_STAT_FROZEN t then none
  else
    let cnt := (s.rd (TMR_CNT.addr t)).toNat
    let x := s.tm t
    let ticks :=
      if cnt < x.cmp.toNat then x.cmp.toNat - cnt
      else if cnt ≤ x.top.toNat then x.top.toNat - cnt + 1 + x.cmp.toNat
      else 2 ^ 32 - cnt + x.cmp.toNat
    if s.fld TMR_CFG_SLAVE t = 3 then some ticks
    else some ((ticks - 1) * (s.fld TMR_CFG_PSC t + 1) + (x.pscAt + s.fld TMR_CFG_PSC t + 1 - s.now))

/-- A trigger source lets a shadow conversion start (R215). -/
def State.srcAdmits (s : State) (src margin : Nat) : Bool :=
  if src < 256 then
    !s.flag MK_POS_EN src ||
      (let n := s.fld MK_CFG_TRK src
       decide (margin ≤ s.tta n (s.nextAw n (s.fld MK_POS_POS src))))
  else if 384 ≤ src ∧ src < 432 then
    match s.timerNext (src - 384) with
    | none => true
    | some k => decide (margin ≤ k)
  else false

/-- admit(t) of R215 in the current TCLK. A WAIT entry that is not ready yet has no d: the TCLK in which it will be ready stands for it.
(DESIGN CHOICE: log 63.) -/
def State.shadowAdmit (s : State) (a : Nat) : Bool :=
  let x := s.ad a
  let margin := s.fld ADC_CALCFG_MARGIN a
  if x.conv.isSome || x.urg.isSome || (match x.due with | some d => decide (d ≤ s.now) | none => false) then false
  else if s.fld ADC_CTRL_STATE a = 0 then true
  else
    match x.due, x.ready with
    | some d, _ => decide (margin ≤ d - s.now)
    | none, some r =>
      if s.now < r then decide (margin ≤ r - s.now)
      else s.taskOf (tiAdc a) == [] && (s.taskSel (tiAdc a)).all fun src => s.srcAdmits src margin
    | none, none => false

/-- The next slot of the shadow cycle starts (R215, R216): gain codes 0-4 of VREFL, then the TDAC. -/
def State.shadowStart (s : State) (a : Nat) : State :=
  let x := s.ad a
  match x.slots with
  | [] => s
  | g :: rest =>
    if g = 5 ∧ s.flag TDAC_CTRL_EN then (s.setAd a { x with slots := rest }).bump TDAC_STAT_SKIP
    else if s.shadowAdmit a then
      let s := s.setAd a { x with slots := rest }
      let s := if g = 5 then s.convStart a 2 65 0 0x1FF 0 0 false else s.convStart a 2 64 g 0x1FF 0 0 false
      s.setAd a { s.ad a with calEnd := s.now + convTclk }
    else s

/-- A shadow cycle falls due (R216, R218). (DEDUCED: log 37.) -/
def State.shadowDue (s : State) (a : Nat) : State :=
  let x := s.ad a
  let s := s.setAd a { x with slots := if x.slots = [] then List.range 6 else x.slots, drift := false,
                              nextCycle := x.nextCycle + s.fld ADC_CALCFG_PER a * usTclk }
  if s.hostMode fnCaltrk a then
    ((s.setFld ADC_CALDEC_REQ 1 a).cause .adc ADC_INTST_CALREQ a).request fnCaltrk a
  else s

/-- A write of ADCn_CALDEC.COMMIT (R218). -/
def State.calCommit (s : State) (a : Nat) : State :=
  if !s.flag ADC_CALDEC_REQ a then (s.setFld ADC_CALDEC_RESULT 2 a).lateDecision
  else
    let lim : Int := s.fld ADC_CALLIM_LIM a
    let ok := (List.range 5).all fun g =>
      let d := s.sfld ADC_HOFS a g - s.calOfs a g
      decide (d ≤ lim) && decide (-lim ≤ d)
    if !ok then s.setFld ADC_CALDEC_RESULT 3 a
    else
      let s := s.each (List.range 5) fun s g => s.setFld ADC_OFS (s.fld ADC_HOFS a g) a g
      let s := (s.setFld ADC_CALDEC_REQ 0 a).setFld ADC_CALDEC_RESULT 1 a
      (s.setAd a { s.ad a with stale := false }).setAsk fnCaltrk a none

/-- A write of ADCn_URG (R204, R212). -/
def State.urgWrite (s : State) (a : Nat) (v : Word) : State :=
  let j := bitsOf v 0 6
  if s.flag ADC_URGSTAT_PENDING a || s.fld ADC_IN_CONV j != a || !s.flag ADC_IN_EN j then s.bump ADC_URGSTAT_REFUSED a
  else (s.setFld ADC_URGSTAT_PENDING 1 a).setAd a { s.ad a with urg := some (j, bitsOf v 8 3, s.now) }

/-- A write of ADC_INjj.GAIN (R206, R207): outside GMIN-GMAX it is ignored, and during a conversion of the input it waits for its end. -/
def State.gainWrite (s : State) (j : Nat) (v : Word) : State :=
  let g := bitsOf v 0 3
  if s.fld ADC_IN_GMIN j ≤ g ∧ g ≤ s.fld ADC_IN_GMAX j then (s.gainAsk j g s.now).gainTake j else s

/-- A sequencer entry of converter n names an input that the image maps to another converter (R204). -/
def State.seqForeign (s : State) (n : Nat) (v : Word) : Bool :=
  let j := bitsOf v ADC_SEQ0_SRC.lo ADC_SEQ0_SRC.len
  decide (j < 64) && s.flag ADC_IN_EN j && s.fld ADC_IN_CONV j != n

/-- The input that a write of TDAC_CTRL acts on (R225): the one connected, whose TARGET stands while EN = 1, or the one it names. -/
def State.tdacInput (s : State) (v : Word) : Nat := if s.flag TDAC_CTRL_EN then s.fld TDAC_CTRL_TARGET else bitsOf v 16 6

/-- A write of TDAC_CTRL (R225). -/
def State.tdacWrite (s : State) (v : Word) : State :=
  let was := s.flag TDAC_CTRL_EN
  let on := bitsOf v 31 1 == 1
  let old := s.fld TDAC_CTRL_TARGET
  let s := s.setFld TDAC_CTRL_CODE (bitsOf v 0 12)
  let s := if was then s else s.setFld TDAC_CTRL_TARGET (bitsOf v 16 6)
  let s := (s.setFlag TDAC_CTRL_EN on).setFlag TDAC_STAT_CONN on
  if on && !was then s.gainChange (bitsOf v 16 6) s.now
  else if was && !on then s.gainChange old s.now
  else s

/-- A read of ADCn_RES0 (R222): the oldest entry, with words 1-4 latched for the reader. -/
def State.resRead (s : State) (by_ a : Nat) : State :=
  let (w, rest) : List Nat × List (List Nat) := match (s.ad a).queue with
    | [] => ([0, 0, 0, 0, 0], [])
    | e :: l => (e, l)
  let s := (s.setAd a { s.ad a with queue := rest }).setFld ADC_QSTAT_LEVEL rest.length a
  let s := s.each (List.range 4) fun s i =>
    { s with rdLatch := tput none s.rdLatch (ADC_RES.addr a (i + 1) * 8 + by_) (some (BitVec.ofNat 32 (w.getD (i + 1) 0))) }
  s.busOk (w.getD 0 0)

end Sys2Proof.Machine
end

