-- ==== Sys2Proof/Machine/Tracker.lean ====
section
/-! DEFINITION. The commands of the trackers (chapter 3): tooth and cam edges, time-outs, and the decisions of software. -/

namespace Sys2Proof.Machine

/-- A measured VR peak (R69); none in Hall mode. An edge after an interval longer than STOPTMO begins the measurement anew. (DEDUCED: log 28.) -/
def State.vrPeak (s : State) (n : Nat) (stamp peak : Nat) : State :=
  if s.flag TRK_CFG_INTYPE n then
    let x := s.tr n
    let long := x.haveLast && decide (s.fld TRK_LOSS_STOPTMO n * msTclk < stamp - s.wide TRK_EDGETB n)
    (s.setFld TRK_VR_PEAK peak n).setTr n { x with peaks := if long then [] else (peak :: x.peaks).take 2 }
  else s

/-- Stamp and period of an accepted edge (R73, R85): T, the Tp that its tests may use, and the state after. An edge whose direction
differs from that of the edge before it has no Tp, and its period is not taken as Tp. (DEDUCED: log 28.) -/
def State.stampEdge (s : State) (n stamp : Nat) (back : Bool) : Option Nat × Option Nat × State :=
  let x := s.tr n
  let t := if x.haveLast then some (min 0xFFFFFFFF (stamp - s.wide TRK_EDGETB n)) else none
  let chg := x.haveLast && back != s.flag TRK_STATE_DIR n
  let tp := if chg then none else x.tp
  let s := match t with | some t => s.setFld TRK_PERIOD t n | none => s
  let s := (s.setWide TRK_EDGETB stamp n).setFlag TRK_STATE_DIR back n
  (t, tp, s.setTr n { x with haveLast := true, tp := if chg then none else t, lastT := t <|> x.lastT,
                             encPos := s.rd (ENC_POS.addr (s.fld TRK_CFG_ENCSEL n)) })

/-- The periods of the revolution in hand take one more. -/
def State.addPeriod (s : State) (n : Nat) (t : Option Nat) : State :=
  match t with
  | none => s
  | some t => s.setTr n { s.tr n with revT := t :: (s.tr n).revT }

/-- An edge passes and leaves the tracker in state st: TIDX, the learner, the predictor, then the state. -/
def State.edgePass (s : State) (n e stamp : Nat) (t tp : Option Nat) (st : Nat) (running : Bool) : State :=
  let s := (s.addPeriod n t).entryFwd n
  let s := s.when (s.tidx n == 0) fun s => s.refTooth n st
  let s := s.predEdge n e stamp t tp running
  s.when (s.trkState n != st) fun s => s.trkGo n st 0

/-- A failed verification: the cause of R82 for each verdict. -/
def Verdict.cause : Verdict → Nat
  | .missing => lcMissing
  | .unexpected => lcUnexpected
  | .tolLoss => lcTooth
  | .ok _ => 0
  | .tol => 0

/-- A forward edge in GAP_FOUND, REV_SYNC or CYCLE_SYNC (R85, R86). -/
def State.fwdSync (s : State) (n stamp : Nat) (t tp : Option Nat) : State :=
  let st := s.trkState n
  let e := s.tidx n
  let (v, s) := s.verify n e (s.entPrev n e) t tp
  match v with
  | .ok true =>
    let st' := if st == stGapFound then (if s.nRev n = 1 then stCycleSync else stRevSync) else st
    s.edgePass n e stamp t tp st' true
  | .ok false => s.edgePass n e stamp t tp st true
  | .tol => s.edgePass n e stamp t tp st true
  | v =>
    if st == stGapFound then
      if v = .unexpected then
        let s := (s.gapRebase n stamp t).rebaseReact n
        s.setTr n { s.tr n with movedAt := some s.now }
      else ((s.entryFwd n).trkHalt n stSeeking 0).seekRate n t
    else (s.entryFwd n).trkLost n v.cause

/-- A forward edge in RESTORED (R85, R86, R92). -/
def State.fwdRestored (s : State) (n stamp : Nat) (t tp : Option Nat) : State :=
  let e := s.tidx n
  let s := s.setTr n { s.tr n with restEdges := (s.tr n).restEdges + 1 }
  let last := decide (s.nTooth n + 2 ≤ (s.tr n).restEdges)
  if t.isNone then
    if last then (s.entryFwd n).trkLost n lcNogap else s.edgePass n e stamp t tp stRestored true
  else
    let (v, s) := s.verify n e (s.entPrev n e) t tp
    match v with
    | .ok true => s.edgePass n e stamp t tp (s.restoredTo n) true
    | .ok false => if last then (s.entryFwd n).trkLost n lcNogap else s.edgePass n e stamp t tp stRestored true
    | .tol => if last then (s.entryFwd n).trkLost n lcNogap else s.edgePass n e stamp t tp stRestored true
    | _ => (s.entryFwd n).trkLost n lcMismatch

/-- TIDX steps to the next entry in REVERSE (R91); the edge may be the reference tooth's (R116). -/
def State.stepFwd (s : State) (n : Nat) : State :=
  let s := s.entryFwd n
  s.when (s.tidx n == 0) fun s => s.refEdge n

/-- A forward edge in REVERSE (R91). One that has no Tp, and so no test, counts toward FWDN. (DESIGN CHOICE: log 61.) -/
def State.fwdReverse (s : State) (n stamp : Nat) (t tp : Option Nat) : State :=
  let e := s.tidx n
  let (v, s) := s.verify n e (s.entPrev n e) t tp
  match v with
  | .ok _ =>
    let f := (s.tr n).fwd + 1
    let s := s.setTr n { s.tr n with fwd := f }
    if s.fld TRK_LOSS_FWDN n ≤ f then
      s.edgePass n e stamp t tp (s.fld TRK_STATE_PREV n) false
    else
      (s.stepFwd n).stepAngle n ((s.stepFwd n).entryPitchAt n) none
  | .tol =>
    let s := (s.setTr n { s.tr n with fwd := 0 }).stepFwd n
    s.stepAngle n (s.entryPitchAt n) none
  | _ => (s.entryFwd n).trkLost n lcReverse

/-- A reverse edge in REVERSE (R90): it crosses the start of entry TIDX backward. -/
def State.backReverse (s : State) (n : Nat) (t tp : Option Nat) : State :=
  let e := s.tidx n
  let (v, s) := s.verify n e (s.entNext n e) t tp
  match v with
  | .ok _ | .tol =>
    let au := s.entryPitchAt n
    let s := s.when (e == 0) fun s => s.refEdge n
    ((s.setTr n { s.tr n with fwd := 0 }).entryBack n).stepAngle n au none
  | _ => (s.entryBack n).trkLost n lcReverse

/-- A reverse edge is detected outside REVERSE (R89, R90): `undo` where it was evaluated as forward at its acceptance. -/
def State.revDetect (s : State) (n : Nat) (undo : Bool) : State :=
  let st := s.trkState n
  if st == stGapFound then (s.trkHalt n stSeeking 0).seekRate n (s.tr n).lastT
  else if st == stRevSync || st == stCycleSync || st == stRestored then
    let s := if undo then s.entryBack n else s
    let au := s.entryPitchAt n
    (s.entryBack n).trkReverse n au
  else s

/-- A tooth edge in STOPPED, SEEKING or LOST (R82, R85, R89, R95). A valid stop record keeps its tracker STOPPED until it is presented. -/
def State.edgeIdle (s : State) (n stamp : Nat) (t : Option Nat) (gap : Bool) : State :=
  let st := s.trkState n
  if st == stStopped then
    if s.flag ACN_REC2_VALID && s.roll.trk == n && s.flag TRK_CFG_RESTORE_EN n then s else s.trkGo n stSeeking 0
  else if st == stLost then
    if s.flag TRK_CTRL_LOSTLATCH n then s else (s.trkHalt n stSeeking 0).seekRate n t
  else if s.hostMode fnSync n then (s.when gap fun s => s.syncRequest n).seekRate n t
  else if gap then ((s.gapRebase n stamp t).trkGo n stGapFound 0).rebaseReact n
  else s.seekRate n t

/-- The tracker evaluates an edge of known direction, or as forward at its acceptance (R74, R85, R89-R91). (DEDUCED: log 28.) -/
def State.evalEdge (s : State) (n stamp : Nat) (back : Bool) : State :=
  if s.blanked n stamp back then
    ((s.setTr n { s.tr n with deferred := none }).bump TRK_CNT_NOISE n).cause .trk TRK_INTST_ERR n
  else
    let s := s.setTr n { s.tr n with pulse := if back then none else some stamp, deferred := none }
    let (t, tp, s) := s.stampEdge n stamp back
    let gap := !back && s.gapTest n t tp
    let s := s.trecAdd n gap back t
    let st := s.trkState n
    if st == stReverse then (if back then s.backReverse n t tp else s.fwdReverse n stamp t tp)
    else if st == stStopped || st == stSeeking || st == stLost then s.edgeIdle n stamp t gap
    else if back then s.revDetect n false
    else if st == stRestored then s.fwdRestored n stamp t tp
    else s.fwdSync n stamp t tp

/-- ENCm has counted backward by more than a quarter of the current entry's pitch since the last accepted edge (R74). -/
def State.encBack (s : State) (n : Nat) : Bool :=
  let x := s.tr n
  let d := (s.rd (ENC_POS.addr (s.fld TRK_CFG_ENCSEL n)) - x.encPos).toInt
  x.haveLast && decide ((s.pitch n (s.tidx n) : Int) * 65536 < -d * 4 * (s.fld TRK_PENC_AUPC n : Int))

/-- CAMLOST (R87): in CYCLE_SYNC no cam edge has matched for two full cycles. (DEDUCED: log 29.) -/
def State.camLostCheck (s : State) (n : Nat) : State :=
  if s.trkState n == stCycleSync && s.fld TRK_TTAB_NCAM n != 0
      && decide ((2 * s.span n : Int) ≤ awDist (s.span n) (s.aw n) (s.tr n).matchAw) then s.setFld TRK_STATE_CAMLOST 1 n
  else s

/-- The evaluation of an accepted tooth edge (R74, R85). With PWIDTH in REVERSE it waits for the edge's trailing edge. -/
def State.toothIn (s : State) (n stamp peak : Nat) : State :=
  let d := s.fld TRK_CFG_DIRSRC n
  let s := s.vrPeak n stamp peak
  if d = 1 ∧ s.trkState n = stReverse then s.setTr n { s.tr n with deferred := some stamp }
  else (s.evalEdge n stamp (d == 2 && s.encBack n)).camLostCheck n

/-- TOOTH_EDGE (R68, R69, R71, R74, R85): the level of CRKn, or in VR mode the sign of its signal, changes; the new one is first sampled in TCLK `edge.stamp`
and is sampled again in the `edge.held` TCLK after it. A change of the active polarity that outlasts the filter, in VR mode after arming, is an accepted edge, which the
tracker evaluates FILT + 3 TCLK after its stamp. (DESIGN CHOICE: log 2.) -/
def execToothEdge (n : Fin 6) (edge : ToothLevel) (peak : BitVec 12) (s : State) :
    Host.Outcome State Fault Refusal :=
  whenAwake s <|
  let filt := s.fld TRK_INFLT_FILT n
  if s.flag TRK_CFG_EN n ∧ edge.rising = s.flag TRK_CFG_EDGE n ∧ filt ≤ edge.held.toNat ∧ s.vrThr n ≤ peak.toNat ∧ edge.stamp.toNat + filt + 3 = s.now then
    done (s.trkTake n (.tooth edge.stamp.toNat peak.toNat) fun s => s.toothIn n edge.stamp.toNat peak.toNat)
  else done s

/-- The width of a pulse gives its edge's direction (R74). -/
def State.trailIn (s : State) (n stamp : Nat) : State :=
  let wide (p : Nat) : Bool := decide (s.fld TRK_INFLT_PWTHR n * 200 ≤ stamp - p)
  match (s.tr n).deferred, (s.tr n).pulse with
  | some p, _ =>
    let s := s.evalEdge n p (wide p)
    s.setTr n { s.tr n with pulse := none }
  | none, some p =>
    let s := s.setTr n { s.tr n with pulse := none }
    if wide p then
      let s := (s.setFld TRK_STATE_DIR 1 n).setTr n { s.tr n with tp := none }
      s.revDetect n true
    else s
  | none, none => s

/-- TRAILING_EDGE (R71, R74): the opposite edge of a tooth pulse, first sampled in TCLK `edge.stamp` and again in the `edge.held` TCLK after it, gives the tooth's
direction in the TCLK of its acceptance. -/
def execTrailingEdge (n : Fin 6) (edge : HeldEdge) (s : State) : Host.Outcome State Fault Refusal :=
  whenAwake s <|
  let filt := s.fld TRK_INFLT_FILT n
  if s.flag TRK_CFG_EN n ∧ s.fld TRK_CFG_DIRSRC n = 1 ∧ filt ≤ edge.held.toNat ∧ edge.stamp.toNat + filt + 2 = s.now then
    done (s.trkTake n (.trail edge.stamp.toNat) fun s => s.trailIn n edge.stamp.toNat)
  else done s

/-! Cam edges (R75, R76, R79, R87) -/

/-- Cam-table entry e: local input, polarity, position, half-window. -/
def State.camCin (s : State) (n e : Nat) : Nat := s.fld TRK_CAM0_CIN n e
def State.camPol (s : State) (n e : Nat) : Bool := s.flag TRK_CAM0_POL n e
def State.camPosOf (s : State) (n e : Nat) : Nat := s.fld TRK_CAM0_POS n e
def State.camTol (s : State) (n e : Nat) : Nat := s.fld TRK_CAM1_CTOL n e

/-- q - p the short way round one revolution. -/
def revDev (q p : Nat) : Int :=
  let d := (q + revAu - p % revAu) % revAu
  if d ≤ revAu / 2 then (d : Int) else (d : Int) - revAu

/-- The entries that name an input and a polarity. -/
def State.camNamed (s : State) (n k : Nat) (rising : Bool) : List Nat :=
  (List.range (s.fld TRK_TTAB_NCAM n)).filter fun e => s.camCin n e == k && s.camPol n e == rising

/-- The set M of R87. -/
def State.camMatch (s : State) (n k : Nat) (rising : Bool) (q : Nat) : List Nat :=
  (s.camNamed n k rising).filter fun e => decide ((revDev q (s.camPosOf n e)).natAbs ≤ s.camTol n e)

/-- TRKn_CAMDEVk (R87): the deviation for the matched entry at the smallest distance; MATCH 0 without one. (DEDUCED: log 29.) -/
def State.camDev (s : State) (n k : Nat) (m : List Nat) (q : Nat) : State :=
  let dev (e : Nat) : Int := revDev q (s.camPosOf n e)
  match m with
  | [] => s.setFld TRK_CAMDEV_MATCH 0 n k
  | e0 :: l =>
    let e := l.foldl (fun b e => if (dev e).natAbs < (dev b).natAbs then e else b) e0
    ((s.setSFld TRK_CAMDEV_DEV (dev e) n k).setFld TRK_CAMDEV_MATCH 1 n k).setFld TRK_CAMDEV_ENTRY e n k

/-- The cam phase is resolved (R87, R88): POS moves by whole revolutions, CYC stays, the rate stays in force. Where the encoder is fused its offset
moves along, so that A_enc + O stays the angle (R122). (DEDUCED: log 29.) -/
def State.camRebase (s : State) (n off : Nat) : State :=
  let nr := s.nRev n
  let au := (s.ang n).accAt s.now / auFrac
  let au' := au / s.span n * s.span n + (au + off * revAu) % s.span n
  let r := (s.tr n).rev
  let r' := ((r : Int) + ((au' : Int) - (au : Int)) / (revAu : Int))
  let r' := if r' < 0 then r' + 1024 * nr else r'
  let au' := if (r : Int) + ((au' : Int) - (au : Int)) / (revAu : Int) < 0 then au' + 1024 * nr * revAu else au'
  let s := s.setEntry n (s.tidx n) r'.toNat
  let s := s.setTr n { s.tr n with revOk := false }
  let s := s.when (s.flag TRK_CFG_ENCUSE n) fun s => s.setOfs n ((s.tr n).fofs + ((au' : Int) - (au : Int)))
  s.loadRebase n au' (s.rateNow n)

/-- A cam edge in REV_SYNC (R87). -/
def State.camResolve (s : State) (n k : Nat) (m : List Nat) : State :=
  let nr := s.nRev n
  let x := s.tr n
  if m = [] then (s.setTr n { x with cand := s.allCand n, nres := 0 }).bump TRK_CNT_CAMERR n
  else
    let o := m.foldl (fun o e => o ||| 2 ^ ((s.camPosOf n e / revAu + nr - k % nr) % nr)) 0
    let both := x.cand &&& o
    let (cand, nres) := if both = 0 then (o, 1) else (both, x.nres + 1)
    let s := (s.setTr n { x with cand, nres }).setFld TRK_STATE_CAMLOST 0 n
    match (List.range nr).filter fun j => cand / 2 ^ j % 2 == 1 with
    | [off] =>
      if s.fld TRK_LOSS_CAMRES n ≤ nres then ((s.camRebase n off).trkGo n stCycleSync 0).rebaseReact n else s
    | _ => s

/-- A cam edge in CYCLE_SYNC (R87). -/
def State.camVerify (s : State) (n k : Nat) (m : List Nat) : State :=
  if m.any fun e => s.camPosOf n e / revAu == k then
    (s.setTr n { s.tr n with miss := 0, matchAw := s.aw n }).setFld TRK_STATE_CAMLOST 0 n
  else
    let s := (s.setTr n { s.tr n with miss := (s.tr n).miss + 1 }).bump TRK_CNT_CAMERR n
    s.when (decide (s.fld TRK_LOSS_CAMMIS n ≤ (s.tr n).miss)) fun s => s.trkGo n stRevSync 0

/-- The evaluation of an accepted cam edge (R76, R87). (DEDUCED: log 29.) -/
def State.camIn (s : State) (n k : Nat) (rising : Bool) (stamp aw : Nat) : State :=
  let s := (s.setFld TRK_CAMPOS aw n k).setFld TRK_CAMTB stamp n k
  let st := s.trkState n
  if st = stRevSync ∨ st = stCycleSync then
    let p := posOf aw
    let m := s.camMatch n k rising (p % revAu)
    let s := (s.camLostCheck n).camDev n k m (p % revAu)
    let s := if st = stRevSync then s.camResolve n (p / revAu) m else s.camVerify n (p / revAu) m
    s.cause .trk TRK_INTST_CAM n
  else s

/-- The local cam input k of a tracker is bound to a CAMxx (R75). -/
def State.camBound (s : State) (n k : Nat) : Bool := decide (bitsOf (s.rd (TRK_CAMSEL.addr n)) (8 * k) 5 < 12)

/-- CAM_EDGE (R75, R76, R87): the level of a bound cam input changes, is first sampled in TCLK `stamp` and again in the `held` TCLK after it. An edge that
outlasts the filter and has a polarity that the cam table names is evaluated CFILT + 3 TCLK after its stamp. (DESIGN CHOICE: log 2.) -/
def execCamEdge (n : Fin 6) (k : Fin 4) (rising : Bool) (stamp : BitVec 64) (held : BitVec 10) (s : State) : Host.Outcome State Fault Refusal :=
  whenAwake s <|
  let filt := s.fld TRK_CAMFLT_CFILT n
  let aw := s.awThen n stamp.toNat
  if s.flag TRK_CFG_EN n ∧ s.camBound n k ∧ filt ≤ held.toNat ∧ stamp.toNat + filt + 3 = s.now ∧ s.camNamed n k rising ≠ [] then
    done (s.trkTake n (.cam k.val rising stamp.toNat aw) fun s => s.camIn n k rising stamp.toNat aw)
  else done s

/-- The stop time-out takes a tracker that is not STOPPED to STOPPED. -/
def State.stopIn (s : State) (n : Nat) : State := if s.trkState n = stStopped then s else s.trkHalt n stStopped 0

/-- STOP_TIMEOUT (R82): no accepted tooth edge for STOPTMO, counted from the acceptance of the last one, FILT + 2 TCLK after its stamp (R71); in RESTORED only after
the first edge. (DEDUCED: log 28.) -/
def execStopTimeout (n : Fin 6) (s : State) : Host.Outcome State Fault Refusal :=
  whenAwake s <|
  let x := s.tr n
  let last := max (s.wide TRK_EDGETB n) (x.deferred.getD 0) + s.fld TRK_INFLT_FILT n + 2
  if s.flag TRK_CFG_EN n ∧ s.trkState n ≠ stStopped ∧ (s.trkState n = stRestored → x.haveLast) ∧ last + s.fld TRK_LOSS_STOPTMO n * msTclk ≤ s.now then
    done (s.trkTake n .stop fun s => s.stopIn n)
  else done s

/-- RESYNC (R82). -/
def State.trkResync (s : State) (n : Nat) : State :=
  let st := s.trkState n
  if st == stGapFound || st == stRevSync || st == stCycleSync || st == stRestored || st == stReverse then s.trkLost n lcResync
  else if st == stLost && s.flag TRK_CTRL_LOSTLATCH n then (s.trkHalt n stSeeking 0).seekRate n (s.tr n).lastT
  else s

/-- RREFUSE (R94). -/
def State.trkRefuse (s : State) (n : Nat) : State :=
  let st := s.trkState n
  if (s.askOf fnRestart n).isNone then s.lateDecision
  else if st == stRestored || ((st == stRevSync || st == stCycleSync) && s.flag TRK_STATE_HELD n) then s.trkLost n lcRefused
  else s

/-- RCONF (R94): HELD clears and the request is answered. -/
def State.trkConfirm (s : State) (n : Nat) : State :=
  if (s.askOf fnRestart n).isNone then s.lateDecision else s.dropHeld n

/-- What a write of TRKn_CMD asks for (R81, R82, R94): RESYNC, RREFUSE, RCONF in this order. What comes after a transition waits for the
next TCLK. -/
def State.cmdIn (s : State) (n : Nat) (v : Word) : State :=
  let bit (i : Nat) : Bool := bitsOf v i 1 == 1
  let s := s.when (bit 0) fun s => s.trkResync n
  let s := s.when (bit 2) fun s => s.trkTake n (.cmd 4) fun s => s.trkRefuse n
  s.when (bit 1) fun s => s.trkTake n (.cmd 2) fun s => s.trkConfirm n

/-- A write of TRKn_CMD: RESYNC and RREFUSE, and RCONF in its own place (R81). -/
def State.trkCmd (s : State) (n : Nat) (v : Word) : State :=
  let s := s.when (bitsOf (v &&& 5) 0 3 != 0) fun s => s.trkTake n (.cmd (v &&& 5)) fun s => s.cmdIn n (v &&& 5)
  s.when (bitsOf v 1 1 == 1) fun s => s.trkTake n (.cmd 2) fun s => s.cmdIn n 2

/-- RESYNC (R82). -/
def execResync (by_ : Agent) (n : Fin 6) (s : State) : Host.Outcome State Fault Refusal :=
  done (s.guard by_ (TRK_CMD.addr n) true 1 fun s => s.trkCmd n 1)

/-- RCONF (R94). -/
def execRconf (by_ : Agent) (n : Fin 6) (s : State) : Host.Outcome State Fault Refusal :=
  done (s.guard by_ (TRK_CMD.addr n) true 2 fun s => s.trkCmd n 2)

/-- RREFUSE (R94). -/
def execRrefuse (by_ : Agent) (n : Fin 6) (s : State) : Host.Outcome State Fault Refusal :=
  done (s.guard by_ (TRK_CMD.addr n) true 4 fun s => s.trkCmd n 4)

/-- An accepted sync assertion (R96, R127). The spec gives the angle word's CYC no value here: it is a free value. (DEDUCED: log 28.) -/
def State.assertSync (s : State) (n : Nat) (v : Word) : State :=
  let nt := s.nTooth n
  let since := ((s.tr n).edgeSeq + 65535 - bitsOf v 0 16) % 65536
  let idx := bitsOf v 16 9 + since
  let nr := s.nRev n
  let (cyc, s) := s.fresh 10
  let s := s.setEntry n (idx % nt) (cyc * nr + (bitsOf v 25 2 + idx / nt) % nr)
  let s := (s.breakRev n).setTr n { (s.breakRev n).tr n with errs := 0 }
  let s := (s.setFld TRK_DECSTAT_REQ 0 n).setAsk fnSync n none
  let s := (s.setFld TRK_DECSTAT_RESULT 1 n).loadRebase n (s.entryAt n) (s.rateNow n)
  (s.trkGo n (if bitsOf v 27 1 = 1 ∨ nr = 1 then stCycleSync else stRevSync) 0).rebaseReact n

/-- The judgment of a sync assertion (R96): accepted, or a result that names the condition that fails. -/
def State.assertIn (s : State) (n : Nat) (v : Word) : State :=
  let since := ((s.tr n).edgeSeq + 65535 - bitsOf v 0 16) % 65536
  if !s.flag TRK_DECSTAT_REQ n then (s.setFld TRK_DECSTAT_RESULT 2 n).lateDecision
  else if s.trkState n != stSeeking then s.setFld TRK_DECSTAT_RESULT 3 n
  else if (s.tr n).histN ≤ since then s.setFld TRK_DECSTAT_RESULT 4 n
  else if s.nTooth n ≤ bitsOf v 16 9 ∨ s.nRev n ≤ bitsOf v 25 2 then s.setFld TRK_DECSTAT_RESULT 5 n
  else s.assertSync n v

/-- A write of TRKn_SYNCASSERT. -/
def State.syncAssert (s : State) (n : Nat) (v : Word) : State :=
  s.trkTake n (.assert v) fun s => s.assertIn n v

/-- An input that has waited is evaluated (R81). (DESIGN CHOICE: log 24.) -/
def State.trkInput (s : State) (n : Nat) (i : TrkIn) : State :=
  match i with
  | .tooth t p => s.toothIn n t p
  | .trail t => s.trailIn n t
  | .cam k r t a => s.camIn n k r t a
  | .stop => s.stopIn n
  | .dirsrc => s.dirsrcIn n
  | .cmd v => s.cmdIn n v
  | .assert v => s.assertIn n v

/-- Put an input into a list in the order of R81. -/
def insertIn (i : TrkIn) : List TrkIn → List TrkIn
  | [] => [i]
  | j :: l => if i.rank < j.rank then i :: j :: l else j :: insertIn i l

/-- The inputs of a tracker that have waited are evaluated in the order of R81 against its present state, up to the next transition. (DESIGN CHOICE: log 24.) -/
def State.trkWaiting (s : State) (n : Nat) : State :=
  let l := (s.tr n).wait.foldl (fun acc i => insertIn i acc) []
  if l = [] then s
  else
    let s := s.setTr n { s.tr n with wait := [] }
    s.each l fun s i => s.trkTake n i fun s => s.trkInput n i

/-- SYNC_ASSERT (R96). -/
def execSyncAssert (by_ : Agent) (n : Fin 6) (v : Word) (s : State) : Host.Outcome State Fault Refusal :=
  done (s.guard by_ (TRK_SYNCASSERT.addr n) true v fun s => s.syncAssert n v)

/-- A tooth record as the 64-bit value of TRKn_TREC (R95): SEQ, CAND, DIR, PERIOD. -/
def trecWord (e : Nat × Bool × Bool × Nat) : Nat :=
  let (q, c, d, t) := e
  q % 65536 * 2 ^ 48 + (if c then 2 ^ 47 else 0) + (if d then 2 ^ 46 else 0) + t % 2 ^ 32

/-- A read of the low half of TRKn_TREC (R95): the head record leaves the queue, and its high half is latched for the reader. -/
def State.trecRead (s : State) (by_ : Agent) (n : Nat) : State :=
  let (w, rest) : Nat × List (Nat × Bool × Bool × Nat) := match (s.tr n).trec with
    | [] => (0, [])
    | e :: l => (trecWord e, l)
  let s := (s.setTr n { s.tr n with trec := rest }).setFld TRK_TRECSTAT_LEVEL rest.length n
  let hi := BitVec.ofNat 32 (w / 2 ^ 32)
  let s := { s with rdLatch := tput none s.rdLatch ((TRK_TREC.addr n + 4) * 8 + initNo by_) (some hi) }
  s.busOk (w % 2 ^ 32)

/-- TREC_READ (R95). -/
def execTrecRead (by_ : Agent) (n : Fin 6) (s : State) : Host.Outcome State Fault Refusal :=
  done (s.guard by_ (TRK_TREC.addr n) false 0 fun s => s.trecRead by_ n)

/-- CAMPOS_READ (R76): a read of CAMPOSk latches CAMTBk. -/
def execCamposRead (by_ : Agent) (n : Fin 6) (k : Fin 4) (s : State) : Host.Outcome State Fault Refusal :=
  done (s.guard by_ (TRK_CAMPOS.addr n k) false 0 fun s => s.latchRead by_ (TRK_CAMPOS.addr n k) [TRK_CAMTB.addr n k])

end Sys2Proof.Machine
end

