-- ==== Sys2Proof/Machine/FnOps.lean ====
section
/-! DEFINITION. Mode changes and decision timeouts of the dual-mode functions (R32-R36). -/

namespace Sys2Proof.Machine

/-- An instance that is idle at the time of a change switches at once (R35). A channel in HOLD still has its cool-down to finish.
(DEDUCED: log 23.) -/
def State.fnIdle (s : State) (fn k : Nat) : Bool :=
  if fn == fnRetry then
    let c := s.fld FCO_BKT_CSTATE k
    c != csCool && c != csHold && c != csWaitdec
  else if fn == fnCaltrk then s.fld ADC_CTRL_STATE k == 0
  else false

/-- An instance switches, with what its function does at the switch (R35, R217). -/
def State.fnSwitch (s : State) (fn k : Nat) : State :=
  if fn == fnCaltrk then s.caltrkSwitch k else s.switchInst fn k

/-- A change of function fn from the mode in force is requested, or withdrawn (R34, R35). -/
def State.fnChange (s : State) (fn : Nat) (new : Bool) : State :=
  let old := s.fld SYS_FNSTAT_INFORCE / 2 ^ fn % 2 == 1
  let s := { s with switched := (List.range 128).foldl (fun t k => tput false t (fn * 128 + k) false) s.switched }
  if new == old then s.setFld SYS_FNSTAT_PEND (setBitNat (s.fld SYS_FNSTAT_PEND) fn false)
  else
    let s := s.setFld SYS_FNSTAT_PEND (setBitNat (s.fld SYS_FNSTAT_PEND) fn true)
    (s.each ((s.fnInstances fn).filter (s.fnIdle fn)) fun s k => s.fnSwitch fn k).fnSettle fn

/-- A new value of SYS_FNMODE.MODE (R34, R35). -/
def State.fnModes (s : State) (new : Nat) : State :=
  let old := s.fld SYS_FNMODE_MODE
  let s := s.setFld SYS_FNMODE_MODE new
  s.each ((List.range 8).filter fun i => old / 2 ^ i % 2 != new / 2 ^ i % 2) fun s i => s.fnChange i (new / 2 ^ i % 2 == 1)

/-- A write of SYS_FNMODE (R34): locked bits are ignored. (DEDUCED: log 23.) -/
def State.fnmode (s : State) (v : Word) : State :=
  let lock := s.fld SYS_FNLOCK_LOCK
  let old := s.fld SYS_FNMODE_MODE
  s.fnModes ((List.range 8).foldl (fun m i => setBitNat m i (if lock / 2 ^ i % 2 == 1 then old / 2 ^ i % 2 == 1 else bitsOf v i 1 == 1)) 0)

/-- The switch point of an instance stands at the present moment (R35). The switch points that are events are taken by the commands of those
events; the ones that are conditions are an idle channel, a gap between conversions, and a record boundary. (DEDUCED: log 23.) -/
def State.fnAtPoint (s : State) (fn k : Nat) : Bool :=
  if fn == fnRetry then s.fnIdle fn k
  else if fn == fnCaltrk then (s.ad k).conv.isNone
  else if fn == fnJrec then s.jrnReq.isNone
  else false

/-- The fallback of R32 for a request that has timed out. (DEDUCED: log 23.) -/
def State.fnFallback (s : State) (fn k : Nat) : State :=
  let s := (s.setAsk fn k none).raiseFault (144 + fn) k
  if fn == fnSync then s.setFld TRK_DECSTAT_REQ 0 k
  else if fn == fnTooth then ((s.setFld TRK_PDEC_REQ 0 k).setFld TRK_PSTAT_TOOTHSTALE 1 k).clearCor k
  else if fn == fnInjdly then (s.setFld CH_INJDEC_REQ 0 k).setFld CH_STAT_INJSTALE 1 k
  else if fn == fnRetry then ((s.setBankBit FCO_RREQ k false).logCls k 5).failRetry k
  else if fn == fnCaltrk then ((s.setFld ADC_CALDEC_REQ 0 k).loadOfs k).setAd k { s.ad k with stale := true }
  else if fn == fnJrec then
    match s.jrnReq with
    | some q => s.jrecBody q.stream none
    | none => s
  else if fn == fnRestart then
    s.when (s.trkState k == stRevSync || s.trkState k == stCycleSync) fun s => s.setFld TRK_STATE_HELD 0 k
  else s

end Sys2Proof.Machine
end

