-- ==== Sys2Proof/Machine/ImageOps.lean ====
section
/-! DEFINITION. The container of a structure image and the checks of its parts (R39-R53, R60, R66). A container is read through a function from
byte offset to byte value. -/

namespace Sys2Proof.Machine

/-! Cause codes (R66) -/

def icOk : Nat := 0
def icNoImage : Nat := 1
def icFormat : Nat := 2
def icDevice : Nat := 3
def icKey : Nat := 4
def icSignature : Nat := 5
def icRollback : Nat := 6
def icRange : Nat := 7
def icValue : Nat := 8
def icSealing : Nat := 9
def icBase : Nat := 10
def icSequence : Nat := 11
def icNotTunable : Nat := 12
def icNotSafe : Nat := 13
def icState : Nat := 14
def icKind : Nat := 15

/-! The memories that hold containers -/

/-- The region of the flash that an offset lies in: the two slots (R37), and the rest. -/
def flashRegion (a : Nat) : Nat := if a < 0x800000 then 0 else if a < 0x1000000 then 1 else 2

/-- A byte of the flash; of a region that a command has changed the bytes are free. (DESIGN CHOICE: log 7.) -/
def State.flashAt (s : State) (a : Nat) : Nat :=
  let r := flashRegion a
  let n := tget 0 s.links.flashVer r
  if n = 0 then (tget 0 s.flash a).toNat else (Config.flashByte ((3 * n + r) * 2 ^ 28 + a)).toNat

/-- A byte of the staging buffer (R38). -/
def stageBase : Nat := 0x20700000
def State.stageAt (s : State) (i : Nat) : Nat := (tget 0 s.sram (stageBase + i)).toNat

/-! The container (R39-R43) -/

/-- A field of n bytes at offset o. -/
def boxU (b : Nat → Nat) (o n : Nat) : Nat := leNat ((List.range n).map fun i => b (o + i))

/-- n bytes from offset o. -/
def boxBytes (b : Nat → Nat) (o n : Nat) : List Nat := (List.range n).map fun i => b (o + i)

def boxKind (b : Nat → Nat) : Nat := b 0x06
def boxKeyidx (b : Nat → Nat) : Nat := b 0x07
def boxLen (b : Nat → Nat) : Nat := boxU b 0x08 4
def boxNsect (b : Nat → Nat) : Nat := boxU b 0x0C 2
def boxVer (b : Nat → Nat) : Nat := boxU b 0x14 4
def boxArb (b : Nat → Nat) : Nat := b 0x18
def boxFlags (b : Nat → Nat) : Nat := b 0x19
def boxDseq (b : Nat → Nat) : Nat := boxU b 0x1C 4
def boxBase (b : Nat → Nat) : List Nat := boxBytes b 0x20 32

/-- An entry of the section table (R41). -/
structure BoxSect where
  ty : Nat
  seal_ : Nat
  off : Nat
  len : Nat
  rsv : Nat
  deriving DecidableEq, Repr

/-- The section table. -/
def boxSects (b : Nat → Nat) : List BoxSect :=
  (List.range (boxNsect b)).map fun i =>
    let o := 0x40 + 16 * i
    ⟨b o, b (o + 1), boxU b (o + 4) 4, boxU b (o + 8) 4, boxU b (o + 2) 2 + boxU b (o + 12) 4⟩

/-- The bodies follow each other from `next` without gaps, in strictly ascending TYPE, to `stop` (R42). -/
def layoutOk (stop : Nat) : Nat → Nat → List BoxSect → Bool
  | next, _, [] => next == stop
  | next, ty, x :: l =>
    decide (ty < x.ty) && x.off == next && x.len % 8 == 0 && decide (8 ≤ x.len) && layoutOk stop (next + x.len) x.ty l

/-- Header, table and layout of a container (R39-R42, R52), MAGIC, FMT, KIND and DEVID apart. (DEDUCED: log 25.) -/
def formatOk (b : Nat → Nat) (delta : Bool) : Bool :=
  let n := boxLen b
  n % 8 == 0 && decide (216 ≤ n) && decide (n ≤ 1048576) && decide (1 ≤ boxNsect b) && decide (boxNsect b ≤ 16)
    && boxU b 0x0E 2 == 0 && b 0x10 == 0 && decide (boxArb b ≤ 64) && decide (boxFlags b < 4) && boxU b 0x1A 2 == 0
    && (if delta then boxDseq b != 0 && boxFlags b == 0 else boxDseq b == 0 && (boxBase b).all (· == 0))
    && ((boxSects b).all fun x => decide (1 ≤ x.ty) && decide (x.ty ≤ 12) && decide (x.seal_ ≤ 1) && x.rsv == 0)
    && layoutOk (n - 128) (0x40 + 16 * boxNsect b) 0 (boxSects b)

/-- Part code, and a lowest revision that the device reaches (R40). -/
def State.deviceOk (s : State) (b : Nat → Nat) : Bool :=
  boxU b 0x12 2 == s.fld SYS_ID_PART && decide (b 0x11 ≤ s.fld SYS_ID_REV)

/-- The image digest (R43). -/
def boxDigest (b : Nat → Nat) : List Nat := sha256 (boxBytes b 0 (boxLen b - 64))

/-- The public key and the signature (R43). -/
def boxSig (b : Nat → Nat) (i : Nat) : Nat := beNat (boxBytes b (boxLen b - 128 + 32 * i) 32)

/-- The key slot is programmed and not revoked, and holds the hash of the key (R49). -/
def State.keyOk (s : State) (b : Nat → Nat) : Bool :=
  let k := boxKeyidx b
  decide (k < 4) && s.fld IMG_KEY_PROG / 2 ^ k % 2 == 1 && s.fld IMG_KEY_REVOKED / 2 ^ k % 2 == 0
    && beNat (sha256 (boxBytes b (boxLen b - 128) 64)) == tget 0 s.img.hash k

/-- The signature verifies (R43). -/
def sigOk (b : Nat → Nat) : Bool := ecdsaOk (boxSig b 0) (boxSig b 1) (boxSig b 2) (boxSig b 3) (boxDigest b)

/-- Sections of a container with their records. -/
def boxContents (b : Nat → Nat) : List Sect :=
  (boxSects b).map fun x =>
    ⟨x.ty, x.seal_ == 1, (List.range (x.len / 8)).map fun i => (boxU b (x.off + 8 * i) 4, boxU b (x.off + 8 * i + 4) 4)⟩

/-! Records (R44, R46, R47) -/

/-- Bits of a field in the half of its register at an address. -/
def RegField.mask (f : RegField) (half : Nat) : Nat := (2 ^ f.len - 1) * 2 ^ f.lo / 2 ^ (32 * half) % 2 ^ 32

/-- Bits of a register that the image writes. -/
def RegHit.imgMask (h : RegHit) : Nat := (h.row.fields.filter (·.img)).foldl (fun m f => m ||| f.mask h.half) 0

/-- The values that the chapter of a field defines. (DEDUCED: log 26.) -/
def RegField.valOk (f : RegField) (half v : Nat) : Bool :=
  !f.img || f.vals == [] || f.lo / 32 != half
    || f.vals.any fun r => decide (r.1 ≤ v / 2 ^ (f.lo % 32) % 2 ^ f.len) && decide (v / 2 ^ (f.lo % 32) % 2 ^ f.len ≤ r.2)

/-- The operand bits of each pin-sequencer opcode (R270). (DEDUCED: log 26.) -/
def pqOperands : List Nat :=
  [0, 0x1E03F, 0x1803F, 0x1C03F, 0x100FF, 0x1F800, 0x1E000, 0x1FF00, 0x1F800, 0x1FFFF] ++
  [0x1FFFF, 0x1F000, 0x1F01F, 0x1C000, 0x1C000, 0x1E000, 0x1E000, 0x1FFFF, 0x3, 0]

/-- A pin-sequencer word that R270, R272 and R273 define. (DEDUCED: log 26.) -/
def pqWordOk (w : Nat) : Bool :=
  let op := w / 2 ^ 19
  let o := w % 2 ^ 17
  let dst := w / 2 ^ 14 % 8
  decide (op < 20) && w / 2 ^ 17 % 4 == 0 && o &&& pqOperands.getD op 0 == o
    && (if op == 1 || op == 2 || op == 3 then decide (w % 64 < 48) else true)
    && (if op == 1 then decide (w / 2 ^ 13 % 16 ≤ 12) else true)
    && (if op == 8 || op == 15 then dst != 6 && dst != 7 else true)

/-- A step of the Acorn program that R397 defines. (DEDUCED: log 26.) -/
def acnWordOk (w : Nat) : Bool :=
  let op := w / 2 ^ 27
  let ch := w / 2 ^ 24 % 8
  let sub := w / 2 ^ 22 % 4
  let addr := w / 2 ^ 16 % 64
  let imm := w % 2 ^ 16
  let only (c s a i : Bool) : Bool := (c || ch == 0) && (s || sub == 0) && (a || addr == 0) && (i || imm == 0)
  match op with
  | 0 => only false false false false
  | 1 => only true false false false && decide (ch < 6)
  | 2 => only true false false true && decide (ch < 6) && decide (imm ≤ 8)
  | 3 => only true true false true && decide (ch < 6) && decide (sub < 3)
  | 4 => only true false false true && decide (ch < 4) && decide (imm < 2)
  | 5 => only true false false true && decide (ch < 4)
  | 6 => only false true true false && decide (sub < 3)
  | 7 => only false false false true && decide (imm < 256)
  | 8 => only true false false false
  | 9 => only false false false true && decide (imm < 2)
  | 10 => only false false false true
  | _ => false

/-- The address of a record (R44, R46). -/
def recAddr (ty last a : Nat) : Option RegHit :=
  if a % 4 = 0 ∧ last < a then
    match lookupReg a with
    | some h => if h.row.sect == ty && h.imgMask != 0 then some h else none
    | none => none
  else none

/-- The value of a record (R46, R47), with the checks that the chapters add: the timeouts of R36, the floors of R355, SAFE_N's severities (R367), and the programs of the
pin sequencers and of the Acorn domain (R270, R397). -/
def recValue (h : RegHit) (v : Nat) : Bool :=
  v &&& h.imgMask == v && (h.row.fields.all fun f => f.valOk h.half v)
    && (match h.row.fam with
        | .FCO_SRC =>
          decide (v / 2 ^ 8 % 8 ≤ siliconFloor h.n) && (h.n != 12 || (decide (3 ≤ v / 16 % 8) && decide (v / 16 % 8 ≤ 5)))
        | .SYS_FNTMO => if h.n = fnKnock then v == 0 else v != 0
        | .PSQ_IMEM => pqWordOk v
        | .ACN_PROG => acnWordOk v
        | _ => true)

/-- The first fault of a list of records from index i: cause and index. (DEDUCED: log 26.) -/
def recFault (ty : Nat) : Nat → Nat → List (Nat × Nat) → Option (Nat × Nat)
  | _, _, [] => none
  | i, last, (a, v) :: l =>
    match recAddr ty last a with
    | none => some (icRange, i)
    | some h => if recValue h v then recFault ty (i + 1) a l else some (icValue, i)

/-! Keys of contexts (R312) -/

/-- The wrapped key of context x in a list of records: its ten words as 40 bytes; words that have no record are 0. -/
def keyBlock (recs : List (Nat × Nat)) (x : Nat) : List Nat :=
  (List.range 10).flatMap fun w => leBytes 4 ((recs.find? fun p => p.1 == GW_KEY.addr x w).elim 0 (·.2))

/-- The contexts that a list of records gives words of a key, in ascending number. -/
def keyedBy (recs : List (Nat × Nat)) : List Nat :=
  (List.range 512).filter fun x => recs.any fun p => decide (GW_KEY.addr x ≤ p.1) && decide (p.1 < GW_KEY.addr x + 40)

/-- The key of context x: none for a block of zeros; the outer option is empty where the integrity check fails. (DESIGN CHOICE: log 8.) -/
def State.keyOf (s : State) (recs : List (Nat × Nat)) (x : Nat) : Option (Option Nat) :=
  let b := keyBlock recs x
  if b.all (· == 0) then some none
  else (keyUnwrap (beBytes 32 s.img.kek) b).map fun k => some (beNat k)

/-- The index of the first record of a key block that fails (R312). (DEDUCED: log 25.) -/
def State.keyFault (s : State) (recs : List (Nat × Nat)) : Option Nat :=
  ((keyedBy recs).find? fun x => (s.keyOf recs x).isNone).map fun x => recs.findIdx fun p => decide (GW_KEY.addr x ≤ p.1)

/-- The first failing record of the sections from index i: cause, section and record. (DEDUCED: log 25.) -/
def State.sectFault (s : State) : Nat → List Sect → Option (Nat × Nat × Nat)
  | _, [] => none
  | i, x :: l =>
    match recFault x.ty 0 0 x.recs with
    | some (c, r) => some (c, i, r)
    | none =>
      match (if x.ty = 8 then s.keyFault x.recs else none) with
      | some r => some (icValue, i, r)
      | none => s.sectFault (i + 1) l

/-! The checks in their order -/

/-- The outcome of the checks of a container: the cause, and the failing section and record where a record fails. -/
structure BoxRes where
  cause : Nat
  loc : Option (Nat × Nat)
  deriving DecidableEq, Repr

/-- The section types that a full image must hold (R45): SYSTEM, PADS, TRACK, SCHED, HUSK, FAULT and GRANTS. -/
def sectsNeeded : List Nat := [1, 2, 3, 4, 5, 6, 8]

/-- The types that are SEALED only (R44). -/
def sealedOnly (ty : Nat) : Bool := decide (ty ≤ 6)

/-- The record pass. -/
def State.recPass (s : State) (l : List Sect) : BoxRes :=
  match s.sectFault 0 l with
  | none => ⟨icOk, none⟩
  | some (c, i, r) => ⟨c, some (i, r)⟩

/-- The checks that both kinds of container share up to ROLLBACK (R53): the cause, 0 with none. -/
def State.boxHead (s : State) (b : Nat → Nat) (delta : Bool) : Nat :=
  if boxU b 0 4 ≠ 0x4941444B then icNoImage
  else if boxU b 4 2 ≠ 1 then icFormat
  else if boxKind b ≠ (if delta then 1 else 0) then icKind
  else if !s.deviceOk b then icDevice
  else if !formatOk b delta then icFormat
  else if !s.keyOk b then icKey
  else if !sigOk b then icSignature
  else if boxArb b < s.fld IMG_ARB_CNT then icRollback
  else icOk

/-- The checks of a full image (R53). `err` is a read error. (DEDUCED: log 25.) -/
def State.fullCheck (s : State) (b : Nat → Nat) (err : Bool) : BoxRes :=
  if err then ⟨icNoImage, none⟩
  else
    let c := s.boxHead b false
    if c ≠ icOk then ⟨c, none⟩
    else if (boxSects b).any fun x => sealedOnly x.ty && x.seal_ == 1 then ⟨icSealing, none⟩
    else if sectsNeeded.any fun t => !(boxSects b).any fun x => x.ty == t then ⟨icFormat, none⟩
    else s.recPass (boxContents b)

/-- IMG_DIGEST0-IMG_DIGEST7 as bytes. -/
def State.digestBytes (s : State) : List Nat := (List.range 8).flatMap fun i => leBytes 4 (s.fld IMG_DIGEST_D i)

/-- The checks of a delta (R60). (DEDUCED: log 25.) -/
def State.deltaCheck (s : State) (b : Nat → Nat) : BoxRes :=
  let c := s.boxHead b true
  if c ≠ icOk then ⟨c, none⟩
  else if boxBase b ≠ s.digestBytes then ⟨icBase, none⟩
  else if boxDseq b ≤ s.fld IMG_DSEQ then ⟨icSequence, none⟩
  else if (boxSects b).any fun x => x.seal_ == 0 || s.img.sects.any fun y => y.ty == x.ty && !y.tun then ⟨icNotTunable, none⟩
  else if (boxSects b).any fun x => sealedOnly x.ty then ⟨icSealing, none⟩
  else s.recPass (boxContents b)

/-- Show the location of a failing record (IMG_ERRREC): an attempt that fails otherwise leaves the last location standing, and a refused delta shows its own too.
(DEDUCED: log 25; DESIGN CHOICE: log 64.) -/
def State.showErr (s : State) (r : BoxRes) : State :=
  match r.loc with
  | none => s
  | some (i, k) => (s.setFld IMG_ERRREC_SECT i).setFld IMG_ERRREC_REC k

/-! Writing -/

/-- A loader write (R46, R48): the fields of a register that the image writes. The words of a wrapped key read 0 (R312). -/
def State.imgPut (s : State) (a v : Nat) : State :=
  match lookupReg a with
  | none => s
  | some h =>
    if h.row.fam == .GW_KEY then s
    else
      let m := h.imgMask
      s.wr a (BitVec.ofNat 32 (((s.rd a).toNat &&& (0xFFFFFFFF - m)) ||| (v &&& m)))

/-- The records of a section. -/
def State.imgRecs (s : State) (recs : List (Nat × Nat)) : State := s.each recs fun s p => s.imgPut p.1 p.2

/-- The keys of the contexts follow a GRANTS section (R312); a context with a new key starts its replay window and its transmit sequence afresh. -/
def State.imgKeys (s : State) (recs : List (Nat × Nat)) : State :=
  let had := (s.gw.filter fun p => p.2.key.isSome).map (·.1)
  s.each ((List.range 512).filter fun x => had.contains x || (keyedBy recs).contains x) fun s x =>
    let k := (s.keyOf recs x).getD none
    let g := tget {} s.gw x
    let s := s.setFlag CTX_CAP_KEYV k.isSome x
    if g.key = k then s
    else
      let s := { s with gw := tput {} s.gw x { g with key := k, marks := [] } }
      (s.setFld CTX_SEQ 0 x).setFld CTX_TXSEQ 0 x

end Sys2Proof.Machine
end

