-- ==== Sys2Proof/Machine/PsqOps.lean ====
section
/-! DEFINITION. The pin sequencers' shared operations (chapter 9): divider, lines, registers, queues, waits, edges. -/

namespace Sys2Proof.Machine

/-- States of a sequencer (PSQnn_STAT.STATE). -/
def pqHalted : Nat := 0
def pqRunning : Nat := 1
def pqWaiting : Nat := 2

/-- Flags Z, N, T, E, F as bits of FLAGS (R261). -/
def pfZ : Nat := 0
def pfN : Nat := 1
def pfT : Nat := 2
def pfE : Nat := 3
def pfF : Nat := 4
def State.pqFlag (s : State) (q i : Nat) : Bool := s.fld PSQ_STAT_FLAGS q / 2 ^ i % 2 == 1
def State.setPqFlag (s : State) (q i : Nat) (b : Bool) : State := s.setFld PSQ_STAT_FLAGS (setBitNat (s.fld PSQ_STAT_FLAGS q) i b) q

/-- The TCLK of tick k after the divider's restart (R264). (DEDUCED: log 41.) -/
def State.tickAt (s : State) (q k : Nat) : Nat := (s.sq q).r + (k * bitsOf (s.rd (PSQ_CLK.addr q)) 0 24 + 255) / 256

/-- The instruction at PC. -/
def State.pqWord (s : State) (q : Nat) : Word := s.rd (PSQ_IMEM.addr q (s.fld PSQ_STAT_PC q))

/-- The value of a register code (R270). -/
def State.pqReg (s : State) (q code : Nat) : Nat :=
  if code < 4 then (s.rd (PSQ_W.addr q code)).toNat
  else if code = 4 then (s.rd (PSQ_TXS.addr q)).toNat
  else if code = 5 then (s.rd (PSQ_RXS.addr q)).toNat
  else if code = 6 then s.now % 2 ^ 32
  else 0

/-- Set the register of a code; codes 6 and 7 may only be read, and the loader refuses them as a destination (R47, R270). -/
def State.setPqReg (s : State) (q code v : Nat) : State :=
  if code < 4 then s.setFld PSQ_W v q code
  else if code = 4 then s.setFld PSQ_TXS v q
  else if code = 5 then s.setFld PSQ_RXS v q
  else s

/-- Z and N of a result (R271). -/
def State.pqZN (s : State) (q v : Nat) : State := (s.setPqFlag q pfZ (v == 0)).setPqFlag q pfN (decide (2 ^ 31 ≤ v))

/-- A line input (R267). -/
def State.lineIn (s : State) (q k : Nat) : Bool :=
  s.fld PSQ_LINE_KIND q k != 0 && s.fld PSQ_STAT_LVLIN q / 2 ^ k % 2 == 1

/-- What a general pin drives in the current TCLK; `none` is tri-state, until LOADED with the weak pull-down (R268). -/
def State.gpLevel (s : State) (p : Nat) : Option Bool :=
  let x := tget {} s.gpin p
  if x.at_ ≤ s.now then x.drv else x.was

/-- A general pin's driver input changes in the next TCLK (R266). -/
def State.gpDrive (s : State) (p : Nat) (d : Option Bool) : State :=
  { s with gpin := tput {} s.gpin p ⟨s.gpLevel p, d, s.now + 1⟩ }

/-- The line is the one that a channel's pad takes its intent from (R174, R269). -/
def State.lineFeeds (s : State) (q k c : Nat) : Bool :=
  s.flag PAD_CFG_SRC c && s.fld PAD_CFG_PSQSEL c == q && s.fld PAD_CFG_PSQLINE c == k

/-- Drive a line (R266, R267, R269): a channel line gives intent to its Husk where the pad selects it, a general pin takes the level in the next TCLK,
push-pull or open-drain, where 1 releases. -/
def State.lineOut (s : State) (q k : Nat) (b : Bool) : State :=
  let kind := s.fld PSQ_LINE_KIND q k
  let dir := s.fld PSQ_LINE_DIR q k
  let was := s.fld PSQ_STAT_LVLOUT q / 2 ^ k % 2 == 1
  if kind = 0 ∨ dir = 0 then s
  else
    let s := s.setFld PSQ_STAT_LVLOUT (setBitNat (s.fld PSQ_STAT_LVLOUT q) k b) q
    let c := s.fld PSQ_LINE_PIN q k
    if kind = 1 then
      if was != b && s.lineFeeds q k c then (if b then s.huskRiseAt c ((s.now + 2) * 32) else s.huskFall c ((s.now + 2) * 32)) else s
    else s.gpDrive c (if dir == 2 && b then none else some b)

/-- The lines of a mask take the bits of a value. -/
def State.linesOut (s : State) (q mask val : Nat) : State :=
  s.each ((List.range 4).filter fun k => mask / 2 ^ k % 2 == 1) fun s k => s.lineOut q k (val / 2 ^ k % 2 == 1)

/-- The output lines take their idle levels (R268). -/
def State.linesIdle (s : State) (q : Nat) : State :=
  s.each (List.range 4) fun s k => s.lineOut q k (s.fld PSQ_LINE_KIND q k == 2 && s.flag PSQ_LINE_IDLE q k)

/-- The general pins of the output lines go back to tri-state: what a switch of the image does before it binds them anew. (DEDUCED: log 41.) -/
def State.linesFree (s : State) (q : Nat) : State :=
  let s := s.setFld PSQ_STAT_LVLOUT 0 q
  s.each ((List.range 4).filter fun k => s.fld PSQ_LINE_KIND q k == 2 && s.fld PSQ_LINE_DIR q k != 0) fun s k =>
    s.gpDrive (s.fld PSQ_LINE_PIN q k) none

/-- The edges of a line and polarity. -/
def State.pqEdges (s : State) (q k : Nat) (pol : Bool) : PEdges := tget {} (s.sq q).edges (2 * k + if pol then 1 else 0)
def State.setPqEdges (s : State) (q k : Nat) (pol : Bool) (x : PEdges) : State :=
  s.setSq q { s.sq q with edges := tput {} (s.sq q).edges (2 * k + if pol then 1 else 0) x }

/-- The sequencer halts (R263). -/
def State.pqHalt (s : State) (q : Nat) : State :=
  let s := (s.linesIdle q).taskClear (tiPsq q)
  let s := s.setSq q { s.sq q with wait := none, coMask := 0, coVal := 0 }
  (s.setFld PSQ_STAT_STATE pqHalted q).cause .psq PSQ_INTST_HALT q

/-- START in HALTED (R262): the divider's tick 0 is the TCLK of the first instruction, the one after the write. (DEDUCED: log 41.) -/
def State.pqStart (s : State) (q : Nat) : State :=
  let s := s.each (List.range 4) fun s k => s.setFld PSQ_W 0 q k
  let s := ((s.setFld PSQ_TXS 0 q).setFld PSQ_RXS 0 q).setFld PSQ_STAT_FLAGS 0 q
  let s := s.setSq q { s.sq q with r := s.now + 1, tick := 0, coMask := 0, coVal := 0, wait := none, last := 0,
                                   edges := (s.sq q).edges.map fun p => (p.1, { p.2 with chain := none }) }
  (s.setFld PSQ_STAT_PC (s.fld PSQ_CFG_ENTRY q) q).setFld PSQ_STAT_STATE pqRunning q

/-! Queues (R275, R276) -/

/-- Words of the transmit and of the receive queue. -/
def State.txCap (s : State) (q : Nat) : Nat := min 16 (s.fld PSQ_CFG_QSPLIT q)
def State.rxCap (s : State) (q : Nat) : Nat := 16 - s.txCap q

/-- Show the queue levels. -/
def State.pqLevels (s : State) (q : Nat) : State :=
  (s.setFld PSQ_QSTAT_TXLVL (s.sq q).txq.length q).setFld PSQ_QSTAT_RXLVL (s.sq q).rxq.length q

/-- CLRQ (R276): both queues empty while HALTED. -/
def State.pqClrq (s : State) (q : Nat) : State :=
  let fell := (s.sq q).txq != []
  let s := (s.setSq q { s.sq q with txq := [], rxq := [] }).pqLevels q
  s.when fell fun s => s.cause .psq PSQ_INTST_TXWM q

/-- A write of PSQnn_CTRL. -/
def State.pqCtl (s : State) (q : Nat) (v : Word) : State :=
  let bit (i : Nat) : Bool := bitsOf v i 1 == 1
  if s.fld PSQ_STAT_STATE q = pqHalted then (s.when (bit 2) fun s => s.pqClrq q).when (bit 0) fun s => s.pqStart q
  else s.when (bit 1) fun s => s.pqHalt q

/-- A write of PSQnn_TXQ (R276). -/
def State.txWrite (s : State) (q : Nat) (v : Word) : State :=
  let x := s.sq q
  if s.txCap q ≤ x.txq.length then (s.bump PSQ_CNT0_TXOVF q).cause .psq PSQ_INTST_TXOVF q
  else (s.setSq q { x with txq := x.txq ++ [(v.toNat, s.now)] }).pqLevels q

/-- A read of PSQnn_RXQ (R276). -/
def State.rxRead (s : State) (q : Nat) : State :=
  let x := s.sq q
  match x.rxq with
  | [] => ((s.bump PSQ_CNT0_RXUNDER q).cause .psq PSQ_INTST_RXUNDER q).busOk 0
  | w :: l =>
    let n := if x.rxFreed.1 = s.now then x.rxFreed.2 + 1 else 1
    ((s.setSq q { x with rxq := l, rxFreed := (s.now, n) }).pqLevels q).busOk w

/-- The oldest transmit word that a TAKE may take: one written in an earlier TCLK. -/
def State.txHead (s : State) (q : Nat) : Option Nat :=
  match (s.sq q).txq with
  | [] => none
  | (w, t) :: _ => if t < s.now then some w else none

/-- A GIVE finds room: slots freed by reads of this TCLK are not yet room. -/
def State.rxRoom (s : State) (q : Nat) : Bool :=
  let x := s.sq q
  decide (x.rxq.length + (if x.rxFreed.1 = s.now then x.rxFreed.2 else 0) < s.rxCap q)

/-- TAKE of a held word. -/
def State.pqTake (s : State) (q dst w : Nat) : State :=
  let x := s.sq q
  let s := (s.setSq q { x with txq := x.txq.tail, last := w }).pqLevels q
  let s := (s.setPqReg q dst w).setPqFlag q pfE false
  s.when (decide ((s.sq q).txq.length ≤ s.fld PSQ_QSTAT_TXWM q)) fun s => s.cause .psq PSQ_INTST_TXWM q

/-- GIVE with room. -/
def State.pqGive (s : State) (q w : Nat) : State :=
  let x := s.sq q
  let s := ((s.setSq q { x with rxq := x.rxq ++ [w] }).pqLevels q).setPqFlag q pfF false
  s.when ((s.sq q).rxq.length == s.fld PSQ_QSTAT_RXWM q) fun s => s.cause .psq PSQ_INTST_RXWM q

/-- GIVE without room, non-blocking or to an absent queue. -/
def State.pqDrop (s : State) (q : Nat) : State :=
  ((s.setPqFlag q pfF true).bump PSQ_CNT0_DROP q).cause .psq PSQ_INTST_DROP q

/-! Execution (R265, R270) -/

/-- PC of the next instruction in program order (R263). -/
def State.pcNext (s : State) (q : Nat) : Nat := (s.fld PSQ_STAT_PC q + 1) % 48

/-- Go on at an address after a number of cycles. -/
def State.pqGo (s : State) (q cycles pc : Nat) : State :=
  (s.setSq q { s.sq q with tick := (s.sq q).tick + cycles }).setFld PSQ_STAT_PC pc q

/-- An instruction of one cycle is done. -/
def State.pqStep (s : State) (q : Nat) : State := s.pqGo q 1 (s.pcNext q)

/-- A wait completes in the current TCLK (R265): the divider restarts, and the next instruction executes in the TCLK after. (DEDUCED: log 41.) -/
def State.pqWaited (s : State) (q : Nat) : State :=
  let s := s.setSq q { s.sq q with wait := none, r := s.now + 1, tick := 0 }
  (s.setFld PSQ_STAT_PC (s.pcNext q) q).setFld PSQ_STAT_STATE pqRunning q

/-- The lines that an instruction itself changes in its first TCLK, as a mask; a halt sets them all. -/
def pqOwnLines (w : Word) : Nat :=
  let op := bitsOf w 19 5
  if op = 0x04 then bitsOf w 4 4 else if op = 0x0D then 2 ^ bitsOf w 15 2 else if op = 0x13 then 15 else 0

/-- Line changes of co-issued DRVs act in the first TCLK of the instruction after them, unless it changes the line itself (R270).
(DEDUCED: log 41.) -/
def State.pqCoissue (s : State) (q : Nat) (w : Word) : State :=
  let x := s.sq q
  let own := pqOwnLines w
  let mask := (List.range 4).foldl (fun m k => if x.coMask / 2 ^ k % 2 == 1 && own / 2 ^ k % 2 == 0 then m + 2 ^ k else m) 0
  (s.setSq q { x with coMask := 0, coVal := 0 }).linesOut q mask x.coVal

/-- Run the instruction at PC if the sequencer is RUNNING, its tick has come and the instruction is the one named. -/
def State.pqRun (s : State) (q : Nat) (is : Word → Bool) (f : State → Word → State) : State :=
  let w := s.pqWord q
  if s.fld PSQ_STAT_STATE q = pqRunning ∧ s.tickAt q (s.sq q).tick ≤ s.now ∧ is w then
    (if bitsOf w 19 5 = 0x04 ∧ bitsOf w 16 1 = 1 then f s w else f (s.pqCoissue q w) w)
  else s

/-- An instruction with an opcode. -/
def pqIs (op : Nat) (w : Word) : Bool := bitsOf w 19 5 == op

/-- A waiting instruction begins. -/
def State.pqWait (s : State) (q tmo : Nat) : State :=
  (s.setSq q { s.sq q with wait := some ⟨s.now, (s.sq q).tick, tmo, none, none⟩ }).setFld PSQ_STAT_STATE pqWaiting q

/-- The timeout that TS names (R265). -/
def State.pqTmo (s : State) (q ts : Nat) : Nat :=
  if ts = 1 then (s.rd (PSQ_TMO.addr q 0)).toNat
  else if ts = 2 then (s.rd (PSQ_TMO.addr q 1)).toNat
  else if ts = 3 then s.pqReg q 3
  else 0

/-- BR conditions (R272); codes 13-15 are undefined and the loader refuses them. -/
def State.pqCond (s : State) (q cond : Nat) : Bool :=
  if cond = 0 then true
  else if cond ≤ 10 then
    let i := (cond - 1) / 2
    s.pqFlag q i == (cond % 2 == 1)
  else if cond = 11 then (s.txHead q).isSome
  else if cond = 12 then s.rxRoom q
  else false

/-- A period that MEASURE reports (R273). -/
def pqPeriod (start end_ : Nat) : Nat := min 0xFFFFFFFD (end_ - start)

/-- A MEASURE that begins (R273): with a chained start its end edge, or an overrun, may lie before it. -/
def State.pqMeasureBegin (s : State) (q : Nat) (w : Word) : State :=
  let k := bitsOf w 15 2
  let pol := bitsOf w 14 1 == 1
  let x := s.pqEdges q k pol
  let s := s.pqWait q (s.pqTmo q (bitsOf w 8 2))
  if bitsOf w 13 1 = 1 ∧ bitsOf w 12 1 = 1 then
    match x.chain, (s.sq q).wait with
    | some (i, t), some p =>
      let n := x.count - i
      if n = 0 then s.setSq q { s.sq q with wait := some { p with start := some t } }
      else if 3 ≤ n then s.setSq q { s.sq q with wait := some { p with finish := some (true, 0xFFFFFFFF) } }
      else
        let e := x.stamps.getD (n - 1) t
        let s := s.setPqEdges q k pol { x with chain := some (i + 1, e) }
        s.setSq q { s.sq q with wait := some { p with finish := some (false, pqPeriod t e) } }
    | _, _ => s
  else s

/-- An accepted edge reaches the waiting instruction (R270, R273). -/
def State.pqEdgeWait (s : State) (q k : Nat) (level : Bool) (stamp : Nat) : State :=
  let w := s.pqWord q
  match (s.sq q).wait with
  | none => s
  | some p =>
    if p.finish.isSome then s
    else if pqIs 0x05 w && bitsOf w 15 2 == k && bitsOf w 13 1 == 1 then
      if level == (bitsOf w 14 1 == 1) then s.setSq q { s.sq q with wait := some { p with finish := some (false, 0) } } else s
    else if pqIs 0x07 w && bitsOf w 15 2 == k then
      let pol := bitsOf w 14 1 == 1
      let period := bitsOf w 13 1 == 1
      match p.start with
      | none => if level == pol then s.setSq q { s.sq q with wait := some { p with start := some stamp } } else s
      | some t =>
        if level == (if period then pol else !pol) then
          let x := s.pqEdges q k pol
          let s := s.when period fun s => s.setPqEdges q k pol { x with chain := some (x.count, stamp) }
          s.setSq q { s.sq q with wait := some { p with finish := some (false, pqPeriod t stamp) } }
        else s
    else s

/-- A line's filtered level changes (R267, R273). (DEDUCED: log 41.) -/
def State.pqLineEdge (s : State) (q k : Nat) (level : Bool) (stamp : Nat) : State :=
  let s := s.setFld PSQ_STAT_LVLIN (setBitNat (s.fld PSQ_STAT_LVLIN q) k level) q
  let x := s.pqEdges q k level
  let s := s.setPqEdges q k level { x with stamps := (stamp :: x.stamps).take 2, count := x.count + 1 }
  s.pqEdgeWait q k level stamp

/-- The condition of the waiting instruction holds now (R265, R272, R273, R275): the state in which it has had its effect. -/
def State.pqReady (s : State) (q : Nat) : Option State :=
  let w := s.pqWord q
  match (s.sq q).wait with
  | none => none
  | some p =>
    if pqIs 0x05 w then
      if (bitsOf w 13 1 = 0 ∧ s.lineIn q (bitsOf w 15 2) = (bitsOf w 14 1 == 1)) ∨ p.finish.isSome then some (s.setPqFlag q pfT false)
      else none
    else if pqIs 0x06 w then
      match s.taskTake (tiPsq q) with
      | some (e, ov, s') =>
        if e.at_ < s.now then
          some ((s'.setPqReg q (bitsOf w 15 2) (e.src + (if e.cu then 512 else 0) + (if ov then 1024 else 0))).setPqFlag q pfT false)
        else none
      | none => none
    else if pqIs 0x07 w then
      match p.finish with
      | none => none
      | some (over_, v) =>
        let s := (s.setPqReg q (bitsOf w 10 2) v).setPqFlag q pfT over_
        some (s.when over_ fun s => s.bump PSQ_CNT1_OVERRUN q)
    else if pqIs 0x0F w then (s.txHead q).map fun v => s.pqTake q (bitsOf w 14 3) v
    else if pqIs 0x10 w then (if s.rxRoom q then some (s.pqGive q (s.pqReg q (bitsOf w 14 3))) else none)
    else none

/-- The waiting instruction completes if its condition holds in the current TCLK. -/
def State.pqTry (s : State) (q : Nat) : State :=
  match s.pqReady q with
  | some s' => s'.pqWaited q
  | none => s

/-- The timeout of the waiting instruction has come (R265, R272, R273). (DEDUCED: log 41.) -/
def State.pqTimeout (s : State) (q : Nat) : State :=
  match (s.sq q).wait with
  | none => s
  | some p =>
    if p.tmo ≠ 0 ∧ s.tickAt q (p.tick + p.tmo) ≤ s.now then
      let w := s.pqWord q
      let s := if pqIs 0x06 w then s.setPqReg q (bitsOf w 15 2) 0xFFFFFFFF
        else if pqIs 0x07 w then s.setPqReg q (bitsOf w 10 2) 0xFFFFFFFF else s
      let s := ((s.setPqFlag q pfT true).bump PSQ_CNT1_TIMEOUT q).cause .psq PSQ_INTST_TIMEOUT q
      let s := (s.setSq q { s.sq q with wait := none, tick := p.tick + p.tmo + 1 }).setFld PSQ_STAT_STATE pqRunning q
      s.setFld PSQ_STAT_PC (s.pcNext q) q
    else s

/-- The ALU (R271). -/
def aluResult (fn a b : Nat) : Nat :=
  let m := 2 ^ 32
  if fn = 0 then (a + b) % m
  else if fn = 1 then (a + m - b) % m
  else if fn = 2 then a &&& b
  else if fn = 3 then a ||| b
  else if fn = 4 then a ^^^ b
  else if fn = 5 then a * 2 ^ (b % 32) % m
  else if fn = 6 then a / 2 ^ (b % 32)
  else (a + m - b) % m

/-- An ALU instruction: CMP leaves WD as it is. -/
def State.pqAlu (s : State) (q : Nat) (w : Word) : State :=
  let d := bitsOf w 15 2
  let b := if bitsOf w 11 1 = 1 then bitsOf w 0 11 else s.pqReg q (bitsOf w 0 3)
  let fn := bitsOf w 12 3
  let r := aluResult fn (s.pqReg q d) b
  ((if fn = 7 then s else s.setPqReg q d r).pqZN q r).pqStep q

/-- An ALU instruction with a function code. -/
def pqAluIs (fn : Nat) (w : Word) : Bool := pqIs 0x0A w && bitsOf w 12 3 == fn

/-- The CRC register after the bits of a word, highest of `nb` first (R274). -/
def crcBits (w poly src : Nat) : Nat → Nat → Nat
  | 0, c => c
  | i + 1, c =>
    let fb := (src / 2 ^ i % 2) ^^^ (c / 2 ^ (w - 1) % 2)
    let c' := c * 2 % 2 ^ w
    crcBits w poly src i (if fb = 1 then c' ^^^ poly else c')

end Sys2Proof.Machine
end

