-- ==== Sys2Proof/Machine/Image.lean ====
section
/-! DEFINITION. The loader (chapter 2): boot load, recovery load and deltas, and what begins at LOADED. -/

namespace Sys2Proof.Machine

/-- IMG_STATUS.STATE. -/
def isIdle : Nat := 0
def isLoading : Nat := 1
def isLoaded : Nat := 2
def isFailed : Nat := 3

def State.imgState (s : State) : Nat := s.fld IMG_STATUS_STATE

/-! LOADED -/

/-- Time and measurement at LOADED: marks take L (R100), timers and the translator take the image's values (R249, R253), the offsets in force are loaded and
sequencers with AUTOSTART start (R208, R216, R217). -/
def State.loadedAngle (s : State) : State :=
  let s := { s with mkLast := (List.range 256).foldl (fun t m => tput 0 t m (s.aw (s.fld MK_CFG_TRK m))) s.mkLast }
  let s := s.each (List.range 48) fun s t => s.setTm t { s.tm t with top := s.rd (TMR_TOP.addr t), cmp := s.rd (TMR_CMP.addr t) }
  let s := { s with nt := ⟨s.wide TB_NTBASE, s.wide TB_NTOFS, s.wide TB_NTRATE, s.wide TB_NTAPPLY, 0⟩ }
  s.each (List.range 4) fun s a =>
    let s := (s.loadOfs a).setAd a { s.ad a with nextCycle := s.now + s.fld ADC_CALCFG_PER a * usTclk }
    s.when (s.flag ADC_CFG_AUTOSTART a) fun s => s.adcStart a

/-- Pads, pin sequencers, pairs and streams at LOADED (R191, R262, R268, R284, R353). (DEDUCED: log 27, 37.) -/
def State.loadedUnits (s : State) : State :=
  let s := s.each (List.range 128) fun s c => s.when (!s.retired c) fun s => s.padState c padNormal
  let s := s.each (List.range 4) fun s k => s.setFlag KNK_STAT_RAWMODE (s.hostMode fnKnock k) k
  let s := s.each (List.range 16) fun s q => (s.linesIdle q).when (s.flag PSQ_CFG_AUTOSTART q) fun s => s.pqStart q
  let s := s.each (List.range 4) fun s n => if s.flag CPC_CPCFG_RUN n then s.cpStart n else s.setFld CPC_CPSTAT_STATE cpReset n
  s.each (List.range 16) fun s j => s.when (s.flag JS_CFG_AUTOEN j) fun s => (s.setFld JS_CTRL_EN 1 j).jsEnable j

/-- The TCLK in which IMG_STATUS.STATE becomes LOADED: modes in force (R35), the units, the Acorn program, clock and SENSE_PWR (R390, R397), the keep-alive
(R369), FUSEFAIL of a tracker whose encoder is off (R125), the fault collector (R402). (DEDUCED: log 27.) -/
def State.loaded (s : State) : State :=
  let s := s.setFld IMG_STATUS_STATE isLoaded
  let s := (s.setFld SYS_FNSTAT_INFORCE (s.fld SYS_FNMODE_MODE)).setFld SYS_FNSTAT_PEND 0
  let s := s.loadedAngle.loadedUnits.fuseCheck
  let s := ({ s with acn := { s.acn with reload := true } }.setFld ACN_STAT_SPWR (s.fld ACN_CFG_SPAWAKE)).when (s.flag ACN_CFG_CLKSRC) fun s => s.setFld ACN_STAT_RCACT 1
  let s := s.setFco { s.fco with kickAt := s.now, anyTime := true, waitKick := false }
  s.calFaults.aliveUpdate

/-- The Acorn registers that an image writes keep their values through a main-domain reset; a full image writes them anew (R46).
(DEDUCED: log 27.) -/
def State.acnClear (s : State) : State :=
  s.each ([ACN_CFG.addr, ACN_TRK.addr, ACN_ROLL.addr, ACN_WAKECFG.addr] ++ (List.range 64).map fun i => ACN_PROG.addr i) fun s a => s.imgPut a 0

/-- FLAGS of a full image (R51). -/
def State.burn (s : State) (b : Nat → Nat) : State :=
  let s := s.when (boxFlags b % 2 == 1) fun s => s.setFld IMG_ARB_CNT (max (s.fld IMG_ARB_CNT) (boxArb b))
  s.when (boxFlags b / 2 % 2 == 1) fun s => s.setFld IMG_KEY_REVOKED (s.fld IMG_KEY_REVOKED ||| (2 ^ boxKeyidx b - 1))

/-- A full image that has passed its checks is applied (R51, R53); `slot` is its source. (DEDUCED: log 27.) -/
def State.fullApply (s : State) (b : Nat → Nat) (slot : Nat) : State :=
  let l := boxContents b
  let s := s.acnClear
  let s := s.each l fun s x => s.imgRecs x.recs
  let s := s.each (l.filter (·.ty == 8)) fun s x => s.imgKeys x.recs
  let s := s.burn b
  let d := boxDigest b
  let s := s.each (List.range 8) fun s i => s.setFld IMG_DIGEST_D (leNat ((d.drop (4 * i)).take 4)) i
  let s := ((s.setFld IMG_DSEQ 0).setFld IMG_VERSION_IMGVER (boxVer b)).setFld IMG_ARB_IMG (boxArb b)
  let s := (s.setFld IMG_KEY_USED (boxKeyidx b)).setFld IMG_STATUS_SLOT slot
  State.loaded { s with img := { s.img with pub := (boxSig b 0, boxSig b 1), sects := l, delta := none } }

/-- The device enters FAILED (R57, R284): CP0 runs the recovery loop of the boot ROM. -/
def State.loadFailed (s : State) : State :=
  ((s.setFld IMG_STATUS_STATE isFailed).putCore 0 Core.zero).setFld CPC_CPSTAT_STATE cpRunning 0

/-- The boot load (R37, R53, R54): a slot that fails leaves every field of the image at 0, those of the Acorn domain included. -/
def State.bootLoad (s : State) (errPri errFb : Bool) : State :=
  let pri (i : Nat) : Nat := s.flashAt i
  let fb (i : Nat) : Nat := s.flashAt (0x800000 + i)
  let s := s.setFld IMG_STATUS_STATE isLoading
  let r := s.fullCheck pri errPri
  let s := (s.setFld IMG_CAUSE_PRI r.cause).showErr r
  if r.cause = icOk then s.fullApply pri 0
  else
    let s := s.acnClear
    let r := s.fullCheck fb errFb
    let s := (s.setFld IMG_CAUSE_FB r.cause).showErr r
    if r.cause = icOk then s.fullApply fb 1 else s.acnClear.loadFailed

/-- A write of IMG_LOADCTL (R58). -/
def State.recoveryGo (s : State) (v : Word) : State :=
  if bitsOf v 0 1 = 1 ∧ s.imgState = isFailed then
    let b (i : Nat) : Nat := s.stageAt i
    let r := s.fullCheck b false
    let s := (s.setFld IMG_CAUSE_STG r.cause).showErr r
    if r.cause = icOk then s.fullApply b 2 else s.acnClear
  else s

/-! Deltas -/

/-- A delta ends with a result (R60, R63). (DEDUCED: log 25.) -/
def State.deltaEnd (s : State) (res : Nat) : State :=
  let s := ((s.setFld IMG_DSTAT_BUSY 0).setFld IMG_DCTL_GO 0).setFld IMG_DSTAT_RESULT res
  { s with img := { s.img with delta := none } }

/-- A refused delta raises IMG_DELTA_REFUSED with its cause (R60). -/
def State.deltaRefuse (s : State) (res : Nat) : State := (s.deltaEnd res).raiseFault 9 res

/-- A write of IMG_DCTL (R59): WAIT, and with GO the checks of the delta in the staging buffer. A delta that waits keeps the WAIT of its GO. (DESIGN CHOICE: log 64.) -/
def State.dctlWrite (s : State) (v : Word) : State :=
  let s := s.setFld IMG_DCTL_WAIT (bitsOf v 16 10)
  if bitsOf v 0 1 = 0 ∨ s.flag IMG_DSTAT_BUSY then s
  else if s.imgState ≠ isLoaded then s.deltaEnd icState
  else
    let b (i : Nat) : Nat := s.stageAt i
    let r := s.deltaCheck b
    if r.cause ≠ icOk then (s.showErr r).deltaRefuse r.cause
    else
      let s := (s.setFld IMG_DSTAT_BUSY 1).setFld IMG_DCTL_GO 1
      let d : Delta := ⟨boxDseq b, boxVer b, boxContents b, s.now + s.fld IMG_DCTL_WAIT * msTclk⟩
      { s with img := { s.img with delta := some d } }

/-- The records of the section of a type that is in force. -/
def State.sectRecs (s : State) (ty : Nat) : List (Nat × Nat) := (s.img.sects.filter (·.ty == ty)).flatMap (·.recs)

/-- The registers that the switch of a section writes: those that it names, and those of the section that it replaces (R61). -/
def State.switchHits (s : State) (x : Sect) : List RegHit :=
  (s.sectRecs x.ty ++ x.recs).filterMap fun p => lookupReg p.1

/-- The safe state of a register's unit (R62). -/
def State.unitSafe (s : State) (h : RegHit) : Bool :=
  let adc (a : Nat) : Bool := s.fld ADC_CTRL_STATE a == 0 && (s.ad a).conv.isNone
  let b := h.row.base / 65536
  if b == 0x400B then (if h.row.fam == .ADC_IN then adc (s.fld ADC_IN_CONV h.n) else h.row.fam == .TDAC_CTRL || adc h.n)
  else if b == 0x400C then (s.kn h.n).wins.all (·.close.isSome)
  else if b == 0x400D then s.fld PSQ_STAT_STATE h.n == pqHalted
  else if decide (0x40112000 ≤ h.row.base ∧ b = 0x4011) then s.jsState h.n == jsOff
  else true

/-- The safe state of a section (R62). (DEDUCED: log 27.) -/
def State.sectSafe (s : State) (x : Sect) : Bool :=
  if x.ty == 9 || x.ty == 10 || x.ty == 12 then (s.switchHits x).all s.unitSafe
  else if x.ty == 11 then (List.range 6).all fun n => s.trkState n == stStopped
  else true

/-- Switch one section (R61, R62). The mode bits change under R35; the lines of a halted sequencer take the idle levels of their new binding (R268). -/
def State.switchSect (s : State) (x : Sect) : State :=
  let mode := s.fld SYS_FNMODE_MODE
  let gone := (s.sectRecs x.ty).map fun p => (p.1, 0)
  let idle := (List.range 16).filter fun q => x.ty == 10 && s.fld PSQ_STAT_STATE q == pqHalted
  let s := s.each idle fun s q => s.linesFree q
  let s := (s.imgRecs gone).imgRecs x.recs
  if x.ty = 8 then s.imgKeys x.recs
  else if x.ty = 7 then { s with acn := { s.acn with reload := true } }
  else if x.ty = 11 then
    let new := s.fld SYS_FNMODE_MODE
    (s.setFld SYS_FNMODE_MODE mode).fnModes new
  else if x.ty = 10 then s.each idle fun s q => s.linesIdle q
  else s

/-- The switch of a delta whose safe states hold (R62). (DEDUCED: log 27.) -/
def State.deltaSwitch (s : State) : State :=
  match s.img.delta with
  | none => s
  | some d =>
    if d.sects.all s.sectSafe && decide (s.now ≤ d.until_) then
      let s := s.each d.sects fun s x => s.switchSect x
      let sects := (s.img.sects.filter fun y => !d.sects.any (·.ty == y.ty)) ++ d.sects
      let s := { s with img := { s.img with sects := sects } }
      let s := ((s.setFld IMG_DSEQ d.dseq).bump IMG_DSTAT_COUNT).deltaEnd icOk
      let mask := (d.sects.map fun x => 2 ^ x.ty).sum
      s.emit (.record (s.mkRec 0x09 0 7 noOrigin
        (leBytes 4 d.dseq ++ leBytes 4 d.ver ++ leBytes 2 mask ++ List.replicate 6 0 ++ s.digestBytes)))
    else s

/-- WAIT runs out (R63): in the TCLK in which it ends the safe states may still hold, and after it they come too late. -/
def State.deltaExpire (s : State) : State :=
  match s.img.delta with
  | none => s
  | some d => if decide (d.until_ < s.now) || (d.until_ == s.now && !d.sects.all s.sectSafe) then s.deltaEnd icNotSafe else s

/-! Commands -/

/-- BOOT_LOAD (R53): after reset release, with the main domain powered. -/
def execBootLoad (errPri errFb : Bool) (s : State) : Host.Outcome State Fault Refusal :=
  done (if s.pwr = .run ∧ s.imgState = isIdle then s.bootLoad errPri errFb else s)

/-- RECOVERY_GO (R58). -/
def execRecoveryGo (by_ : Agent) (v : Word) (s : State) : Host.Outcome State Fault Refusal :=
  done (s.guard by_ IMG_LOADCTL.addr true v fun s => s.recoveryGo v)

/-- DELTA_GO (R59). -/
def execDeltaGo (by_ : Agent) (v : Word) (s : State) : Host.Outcome State Fault Refusal :=
  done (s.guard by_ IMG_DCTL.addr true v fun s => s.dctlWrite v)

/-- DELTA_SWITCH (R62). -/
def execDeltaSwitch (s : State) : Host.Outcome State Fault Refusal := whenAwake s <| done s.deltaSwitch

/-- DELTA_WAIT_EXPIRY (R63). -/
def execDeltaWaitExpiry (s : State) : Host.Outcome State Fault Refusal := whenAwake s <| done s.deltaExpire

end Sys2Proof.Machine
end

