-- ==== Sys2Proof/Machine/AcornOps.lean ====
section
/-! DEFINITION. The Acorn domain (chapter 14): roll-out tracking and the stop record, the sampling program, and what main-domain resets leave. -/

namespace Sys2Proof.Machine

/-- The main domain is asleep (R382). -/
def State.asleep (s : State) : Bool := s.pwr == .retain || s.pwr == .off

def State.setRoll (s : State) (r : Roll) : State := { s with roll := r }
def State.setAcn (s : State) (a : Acn) : State := { s with acn := a }

/-- Codes of ACN_REC2.WHY: 1 NOSYNC, 2 STILLTURNING, 3 VBAT, 4 AGE, 5 DROPPED, 6 USED, 7 RESET; 0 for a valid record (R394). -/
def State.recWhy (s : State) : Nat :=
  let r := s.roll
  let max := s.fld ACN_WAKECFG_MAXAGE
  if s.fld ACN_REC2_LEVEL < 2 then 1
  else if !r.ended then 2
  else if r.dip then 3
  else if max != 0 && decide (max < s.fld ACN_REC2_AGE) then 4
  else if r.dropped then 5
  else if r.used then 6
  else if !r.handed then 7
  else 0

/-- Show validity and the first failing condition. (DEDUCED: log 57.) -/
def State.recShow (s : State) : State := (s.setFlag ACN_REC2_VALID (s.recWhy == 0)).setFld ACN_REC2_WHY s.recWhy

/-- ACN_STAT.ROLL. -/
def rollIdle : Nat := 0
def rollOut : Nat := 1
def rollSealed : Nat := 2

/-- LEVEL of a state at hand-over (R391). -/
def levelOf (st : Nat) : Nat := if st = stCycleSync then 3 else if st = stRevSync then 2 else 0

/-- Hand-over of the followed tracker (R391). (DEDUCED: log 57.) -/
def State.handOver (s : State) : State :=
  let n := s.fld ACN_TRK_TRK
  let st := s.trkState n
  let level := if st == stReverse || st == stStopped then levelOf (s.fld TRK_STATE_PREV n) else levelOf st
  let rev := (s.tr n).rev
  let s := s.setRoll ⟨true, n, s.nTooth n, s.nRev n, rev / s.nRev n % 1024, false, false, false, false⟩
  let s := (s.wr ACN_REC1.addr 0).wr ACN_REC2.addr 0
  let s := ((s.setFld ACN_REC2_LEVEL level).setFld ACN_REC2_DIR (s.fld TRK_STATE_DIR n)).setFld ACN_REC2_REVIDX (rev % s.nRev n)
  let s := (s.setFld ACN_REC2_TIDX (s.tidx n)).setFld ACN_STAT_SPWR 1
  (s.setFld ACN_STAT_ROLL rollOut).recShow

/-- A crank pulse in roll-out (R392). (DEDUCED: log 57.) -/
def State.rollPulse (s : State) (back : Bool) : State :=
  let r := s.roll
  let ti := s.fld ACN_REC2_TIDX
  let ri := s.fld ACN_REC2_REVIDX
  let (ti, ri, cyc) :=
    if back then
      if ti = 0 then (if ri = 0 then (r.nTooth - 1, r.nRev - 1, (r.cyc + 1023) % 1024) else (r.nTooth - 1, ri - 1, r.cyc))
      else (ti - 1, ri, r.cyc)
    else if ti + 1 < r.nTooth then (ti + 1, ri, r.cyc)
    else if ri + 1 < r.nRev then (0, ri + 1, r.cyc)
    else (0, 0, (r.cyc + 1) % 1024)
  let s := (s.setRoll { r with cyc }).setFlag ACN_REC2_DIR back
  let s := (s.setFld ACN_REC2_TIDX ti).setFld ACN_REC2_REVIDX ri
  if back then s.bump ACN_REC1_REV else s.bump ACN_REC1_FWD

/-- The record is sealed (R385, R393): by QUIET or ROLLMAX, or by a wake. (DEDUCED: log 57.) -/
def State.rollSeal (s : State) (ended wake : Bool) : State :=
  let s := (s.setRoll { s.roll with ended }).setFld ACN_STAT_ROLL rollSealed
  (s.setFlag ACN_REC2_ROLLING wake).recShow

/-- The angle word of the record (R395). -/
def State.recRev (s : State) : Nat := s.roll.cyc * s.nRev s.roll.trk + s.fld ACN_REC2_REVIDX

/-- Entry of tracker n to RESTORED at the record's place (R82, R94, R128, R395). -/
def State.restore (s : State) (n tidx rev : Nat) (phase : Bool) : State :=
  let s := s.setEntry n tidx rev
  let s := s.setTr n { s.tr n with restPhase := phase, restEdges := 0 }
  let s := (s.loadRebase n (s.entryPitchAt n) 0).setFld TRK_PSTAT_STEP 1 n
  let s := s.trkGo n stRestored 0
  let s := s.when (s.hostMode fnRestart 0) fun s => (s.setFld TRK_STATE_HELD 1 n).request fnRestart n
  s.rebaseReact n

/-- Presentation of the record (R394, R395): once. (DEDUCED: log 57.) -/
def State.recPresent (s : State) : State :=
  if s.roll.used then s
  else
    let n := s.roll.trk
    let why := s.recWhy
    let rev := s.recRev
    let tidx := s.fld ACN_REC2_TIDX
    let s := s.wr ACN_REC0.addr (BitVec.ofNat 32 (awOfAcc (s.span n) ((rev * revAu + s.startPitch n tidx) * auFrac)))
    let s := s.when (why == 0 && s.flag TRK_CFG_RESTORE_EN n && s.trkState n == stStopped) fun s =>
      s.restore n tidx rev (s.fld ACN_REC2_LEVEL == 3)
    (s.setRoll { s.roll with used := true }).recShow

/-! The program (R396, R397) -/

/-- The log is not empty while the main domain runs: SYS_INTST.ACNLOG. -/
def State.acnLogCause (s : State) : State := if s.pwr = .run ∧ s.acn.log ≠ [] then s.cause .sys SYS_INTST_ACNLOG else s

/-- A wake is recognised at Wc (R385): by a pin or by the program. -/
def State.wakeAt (s : State) (pin prog : Nat) : State :=
  let s := { s with slp := { s.slp with wake := true } }
  let s := ((s.setFld ACN_WAKESTAT_PIN pin).setFld ACN_WAKESTAT_PROG prog).setFld ACN_STAT_SPWR 1
  s.when (s.fld ACN_STAT_ROLL == rollOut) fun s => s.rollSeal true true

/-- The steps of the program as the image holds them. -/
def State.acnProg (s : State) : List Word := (List.range 64).map fun i => s.rd (ACN_PROG.addr i)

/-- Y and the counters after a program load. (DEDUCED: log 58.) -/
def State.acnZero (s : State) : State :=
  s.each ((List.range 6).map (fun k => ACN_Y.addr k) ++ [ACN_CNT01.addr, ACN_CNT23.addr]) fun s a => s.wr a 0

/-- A pass start falls due (R396). (DEDUCED: log 58.) -/
def State.acnStart (s : State) : State :=
  if !s.flag ACN_CFG_PEN || !(s.asleep || (s.pwr == .run && s.flag ACN_CFG_RUNAWAKE)) then s
  else if s.acn.pass.isSome then s.bump ACN_STAT_SKIPPED
  else
    let s := s.when s.acn.reload fun s => s.acnZero
    (s.setAcn { s.acn with pass := some (0, 0), prog := s.acnProg, reload := false }).setFld ACN_STAT_C 0

/-- A step has been executed and the pass goes on at `pc`; the 256th step ends it (R396). (DEDUCED: log 58.) -/
def State.acnNext (s : State) (pc : Nat) : State :=
  match s.acn.pass with
  | none => s
  | some (_, n) =>
    if 255 ≤ n then (s.setAcn { s.acn with pass := none }).hwFlag ACN_STAT_LOOP
    else s.setAcn { s.acn with pass := some (pc % 64, n + 1) }

/-- Run the step at hand when its operation is `op`. (DEDUCED: log 58.) -/
def State.acnRun (s : State) (op : Nat) (f : State → Nat → Word → State) : State :=
  match s.acn.pass with
  | none => s
  | some (pc, _) =>
    let w := s.acn.prog.getD pc 0
    if bitsOf w 27 5 = op then f s pc w else s

/-- Fields of a step. -/
def acnCh (w : Word) : Nat := bitsOf w 24 3
def acnSub (w : Word) : Nat := bitsOf w 22 2
def acnImm (w : Word) : Nat := bitsOf w 0 16

def State.acnC (s : State) : Bool := s.flag ACN_STAT_C
def State.setAcnC (s : State) (b : Bool) : State := s.setFlag ACN_STAT_C b

/-- Y of a channel in 10.8 format, and counter k. -/
def State.acnY (s : State) (ch : Nat) : Nat := (s.rd (ACN_Y.addr ch)).toNat
def State.acnV (s : State) (ch : Nat) : Nat := tget 0 s.acn.v ch
def State.acnCnt (s : State) (k : Nat) : Nat := bitsOf (s.rd (ACN_CNT01.addr + 4 * (k / 2))) (16 * (k % 2)) 16
def State.setAcnCnt (s : State) (k v : Nat) : State :=
  let a := ACN_CNT01.addr + 4 * (k / 2)
  s.wr a (setBits (s.rd a) (16 * (k % 2)) 16 v)

/-- FILT: Y + floor((256 V − Y) / 2^K). -/
def acnFiltered (y v k : Nat) : Nat := ((y : Int) + ((256 * v : Nat) - (y : Int)) / (2 ^ k : Nat)).toNat

/-- The comparison of CMP. -/
def acnCompare (sub y v imm : Nat) : Bool :=
  let y := y / 256
  if sub = 0 then decide (imm ≤ y) else if sub = 1 then decide (y < imm) else decide (imm ≤ (if y ≤ v then v - y else y - v))

/-- A log entry of REC (R397): its second word, a count of SCLK since Acorn power-on, is free here, where SCLK has no command. (DEDUCED: log 58.) -/
def State.acnRecord (s : State) (pc ch value : Nat) : State :=
  if 8 ≤ s.acn.log.length then s.hwFlag ACN_STAT_LOGOVF
  else
    let (clk, s) := s.fresh 32
    let w := BitVec.ofNat 32 (2 ^ 31 + pc * 2 ^ 24 + ch * 2 ^ 16 + value)
    (s.setAcn { s.acn with log := s.acn.log ++ [(w, BitVec.ofNat 32 clk)] }).acnLogCause

/-- A read of ACN_LOG0 (R397): the head entry leaves the log, and ACN_LOG1 is latched for the reader. (DEDUCED: log 58.) -/
def State.acnLogRead (s : State) (by_ : Agent) : State :=
  let (w0, w1, rest) : Word × Word × List (Word × Word) := match s.acn.log with
    | [] => (0, 0, [])
    | (a, b) :: l => (a, b, l)
  let s := s.setAcn { s.acn with log := rest }
  ((s.wr (ACN_LOG.addr 0) w0).wr (ACN_LOG.addr 1) w1).latchRead by_ (ACN_LOG.addr 0) [ACN_LOG.addr 1]

/-! Resets (R379) -/

/-- Registers that a main-domain reset does not touch: fuses, rail status, sleep status, and the Acorn registers. -/
def regKept (a : Nat) : Bool :=
  a == SYS_UID.addr || a == SYS_UID.addr + 4 || a == SYS_PWRSTAT.addr || a == SYS_SLPSTAT.addr || a / 65536 == 0x400F

/-- Registers after a main-domain reset. (DEDUCED: log 55.) -/
def State.regsAfter (s : State) : Table Word := (s.regs.filter fun p => regKept p.1).foldl (fun t p => tput 0 t p.1 p.2) (tdel ACN_RATIO.addr resetRegs)

/-- What power does not hold: memories in fuses, flash and calibration store, and the model's own bookkeeping. -/
def State.kept (s : State) : State :=
  let s := s.calBreak
  { State.reset with
    flash := s.flash, links := { flashVer := s.links.flashVer }, cal := { store := s.cal.store },
    img := { hash := s.img.hash, kek := s.img.kek }, pwr := s.pwr, sent := s.sent, free := s.free, pending := s.pending }

/-- Fuses in the registers (R50, R305). (DESIGN CHOICE: log 8.) -/
def State.fuses (s old : State) : State :=
  let s := ((s.setFld IMG_ARB_CNT (old.fld IMG_ARB_CNT)).setFld IMG_KEY_REVOKED (old.fld IMG_KEY_REVOKED)).setFld IMG_KEY_PROG (old.fld IMG_KEY_PROG)
  ((s.setFld CPC_LCS_LCS (old.fld CPC_LCS_LCS)).wr SYS_UID.addr (old.rd SYS_UID.addr)).wr (SYS_UID.addr + 4) (old.rd (SYS_UID.addr + 4))

/-- A fresh debug challenge (R306). (DESIGN CHOICE: log 12.) -/
def State.newChallenge (s : State) : State :=
  let (c, s) := s.fresh 128
  { s with dbg := { s.dbg with challenge := c } }

/-- Retirements that a reset keeps (R363, R379). -/
def State.retain (s old : State) : State :=
  s.each ((List.range 128).filter old.retired) fun s c =>
    ((s.setBankBit FCO_RET c true).setFld FCO_BKT_CSTATE csRetired c).padState c padRetired

/-- A reset of the main domain, Acorn domain kept: `cause` is its bit of SYS_RSTCAUSE, `por` whether it is a power-on reset, and `warm` whether the
main domain kept its power. The levels of the fault conditions and of SAFE_N stand on through a warm reset.
(DESIGN CHOICE: log 7; DEDUCED: log 55.) -/
def State.resetMain (s : State) (cause : Nat) (por warm : Bool) (tb : Nat) : State :=
  let n := { s.kept with regs := s.regsAfter, tb := BitVec.ofNat 64 tb, acn := s.acn, roll := s.roll, slp := { s.slp with req := none, wake := false } }
  let n := (n.fuses s).wr SYS_RSTCAUSE.addr (BitVec.ofNat 32 (2 ^ cause))
  let n := n.when (!por) fun n => n.retain s
  let n := n.when warm fun n =>
    let n := n.each ((List.range 8 ++ [12]).filter (s.bankBit FCO_ACT)) fun n k => (n.setBankBit FCO_ACT k true).setBankBit FCO_PEND k true
    let n := (n.setFld FCO_STAT_SNACT (s.fld FCO_STAT_SNACT)).setFco { n.fco with async := s.fco.async }
    n.each (List.range 4) fun n k => n.setFld CPC_CPSTAT_RESTARTS (s.fld CPC_CPSTAT_RESTARTS k) k
  let n := n.when por fun n => (n.setRoll { n.roll with handed := false }).recShow
  (n.newChallenge.calRead por).acnLogCause.newBase

/-- An Acorn power-on (R379): everything but fuses, flash and calibration store. (DEDUCED: log 6, 55.) -/
def State.resetAll (s : State) : State :=
  let n := ((s.kept.fuses s).newChallenge.calRead true).newBase
  { n with pwr := if s.pwr = .run ∨ s.pwr = .retain then .run else .held }

end Sys2Proof.Machine
end

