-- ==== Sys2Proof/Machine/Acorn.lean ====
section
/-! DEFINITION. Commands of the Acorn domain (R385, R388-R397). -/

namespace Sys2Proof.Machine

/-- STOP_RECORD_PRESENT (R395): at LOADED. -/
def execStopRecordPresent (s : State) : Host.Outcome State Fault Refusal :=
  done (if s.pwr = .run ∧ s.imgState = isLoaded then s.recPresent else s)

/-- ROLLOUT_PULSE (R392): a crank pulse of `width` TCLK periods' length, judged by PWTHR. -/
def execRolloutPulse (width : Nat) (s : State) : Host.Outcome State Fault Refusal :=
  done (if s.fld ACN_STAT_ROLL = rollOut then s.rollPulse (decide (s.fld TRK_INFLT_PWTHR s.roll.trk * 200 ≤ width)) else s)

/-- ROLLOUT_CAM_EDGE (R392). -/
def execRolloutCamEdge (s : State) : Host.Outcome State Fault Refusal :=
  done (if s.fld ACN_STAT_ROLL = rollOut then s.bump ACN_REC1_CAMCNT else s)

/-- ROLLOUT_END (R393): by QUIET or by ROLLMAX. -/
def execRolloutEnd (quiet : Bool) (s : State) : Host.Outcome State Fault Refusal :=
  done (if s.fld ACN_STAT_ROLL = rollOut then (s.setFld ACN_STAT_SPWR 0).rollSeal quiet false else s)

/-- RECORD_AGE_MINUTE (R393). -/
def execRecordAgeMinute (s : State) : Host.Outcome State Fault Refusal :=
  done (if s.fld ACN_STAT_ROLL = rollSealed then (s.bump ACN_REC2_AGE).recShow else s)

/-- ACORN_VBAT_DIP (R394). -/
def execAcornVbatDip (s : State) : Host.Outcome State Fault Refusal := done (s.setRoll { s.roll with dip := true }).recShow

/-- A write of ACN_CTL (R394). -/
def State.acnCtl (s : State) (v : Word) : State :=
  if bitsOf v 0 1 = 1 then (s.setRoll { s.roll with dropped := true }).recShow else s

/-- DROPREC (R394). -/
def execDroprec (by_ : Agent) (s : State) : Host.Outcome State Fault Refusal :=
  done (s.guard by_ ACN_CTL.addr true 1 fun s => s.acnCtl 1)

/-- RATIO_WINDOW (R388): a window of 1 024 SCLK periods held `count` TCLK. -/
def execRatioWindow (count : Nat) (s : State) : Host.Outcome State Fault Refusal :=
  done (if s.pwr = .run then s.wr ACN_RATIO.addr (BitVec.ofNat 32 (count * 64)) else s)

/-- CRYSTAL_STOP (R389). -/
def execCrystalStop (s : State) : Host.Outcome State Fault Refusal := done (s.setFld ACN_STAT_RCACT 1)

/-- ACN_PASS_START (R396). -/
def execAcnPassStart (s : State) : Host.Outcome State Fault Refusal := done s.acnStart

/-- ACN_END (R397). -/
def execAcnEnd (s : State) : Host.Outcome State Fault Refusal :=
  done (s.acnRun 0 fun s _ _ => s.setAcn { s.acn with pass := none })

/-- ACN_SAMPLE (R397): the conversion gives `code`. -/
def execAcnSample (code : BitVec 10) (s : State) : Host.Outcome State Fault Refusal :=
  done (s.acnRun 1 fun s pc w => (s.setAcn { s.acn with v := tput 0 s.acn.v (acnCh w) code.toNat }).acnNext (pc + 1))

/-- ACN_FILT (R397). -/
def execAcnFilt (s : State) : Host.Outcome State Fault Refusal :=
  done (s.acnRun 2 fun s pc w =>
    let ch := acnCh w
    (s.setFld ACN_Y (acnFiltered (s.acnY ch) (s.acnV ch) (acnImm w % 16)) ch).acnNext (pc + 1))

/-- ACN_CMP (R397). -/
def execAcnCmp (s : State) : Host.Outcome State Fault Refusal :=
  done (s.acnRun 3 fun s pc w =>
    (s.setAcnC (acnCompare (acnSub w) (s.acnY (acnCh w)) (s.acnV (acnCh w)) (acnImm w))).acnNext (pc + 1))

/-- ACN_PIN (R397): `level` is the level of the pin. -/
def execAcnPin (level : Bool) (s : State) : Host.Outcome State Fault Refusal :=
  done (s.acnRun 4 fun s pc w =>
    let low := s.fld ACN_WAKECFG_WPOL / 2 ^ (acnCh w % 4) % 2 == 1
    (s.setAcnC ((level != low) == (acnImm w % 2 == 1))).acnNext (pc + 1))

/-- ACN_COUNT (R397). -/
def execAcnCount (s : State) : Host.Outcome State Fault Refusal :=
  done (s.acnRun 5 fun s pc w =>
    let k := acnCh w % 4
    let n := if s.acnC then min 65535 (s.acnCnt k + 1) else 0
    ((s.setAcnCnt k n).setAcnC (decide (acnImm w ≤ n))).acnNext (pc + 1))

/-- ACN_JMP (R397). -/
def execAcnJmp (s : State) : Host.Outcome State Fault Refusal :=
  done (s.acnRun 6 fun s pc w =>
    let take := if acnSub w = 0 then true else if acnSub w = 1 then s.acnC else !s.acnC
    s.acnNext (if take then bitsOf w 16 6 else pc + 1))

/-- ACN_WAKE (R385, R397). -/
def execAcnWake (s : State) : Host.Outcome State Fault Refusal :=
  done (s.acnRun 7 fun s pc w =>
    let s := s.when s.acnC fun s =>
      (s.setFld ACN_WAKESTAT_CODE (acnImm w)).when (s.asleep && !s.slp.wake) fun s => s.wakeAt 0 1
    s.acnNext (pc + 1))

/-- ACN_REC (R397). -/
def execAcnRec (s : State) : Host.Outcome State Fault Refusal :=
  done (s.acnRun 8 fun s pc w =>
    let ch := acnCh w
    let s := s.when s.acnC fun s => s.acnRecord pc ch (if ch < 4 then s.acnY ch / 256 else s.acnCnt (ch - 4))
    s.acnNext (pc + 1))

/-- ACN_PWR (R397): ignored during roll-out. -/
def execAcnPwr (s : State) : Host.Outcome State Fault Refusal :=
  done (s.acnRun 9 fun s pc w =>
    (s.when (s.fld ACN_STAT_ROLL != rollOut) fun s => s.setFld ACN_STAT_SPWR (acnImm w % 2)).acnNext (pc + 1))

/-- ACN_DELAY (R397): its periods are time between commands. -/
def execAcnDelay (s : State) : Host.Outcome State Fault Refusal := done (s.acnRun 10 fun s pc _ => s.acnNext (pc + 1))

/-- ACN_LOG_READ (R397). -/
def execAcnLogRead (by_ : Agent) (s : State) : Host.Outcome State Fault Refusal :=
  done (s.guard by_ (ACN_LOG.addr 0) false 0 fun s => s.acnLogRead by_)

end Sys2Proof.Machine
end

