-- ==== Sys2Proof/Machine/Adc.lean ====
section
/-! DEFINITION. The commands of the converters, the live calibration and the test DAC (chapter 7). -/

namespace Sys2Proof.Machine

/-- ADC_START (R208). -/
def execAdcStart (by_ : Agent) (a : Fin 4) (s : State) : Host.Outcome State Fault Refusal :=
  done (s.guard by_ (ADC_CTRL.addr a) true 1 fun s => s.adcCtl a 1)

/-- ADC_STOP (R208). -/
def execAdcStop (by_ : Agent) (a : Fin 4) (s : State) : Host.Outcome State Fault Refusal :=
  done (s.guard by_ (ADC_CTRL.addr a) true 2 fun s => s.adcCtl a 2)

/-- ADC_CLRQ (R208). -/
def execAdcClrq (by_ : Agent) (a : Fin 4) (s : State) : Host.Outcome State Fault Refusal :=
  done (s.guard by_ (ADC_CTRL.addr a) true 4 fun s => s.adcCtl a 4)

/-- TRIGGER_TAKE (R210): a sequencer that is ready at a WAIT entry takes a trigger that pulsed in an earlier TCLK. -/
def execTriggerTake (a : Fin 4) (s : State) : Host.Outcome State Fault Refusal :=
  whenAwake s <|
  match (s.ad a).ready, s.taskTake (tiAdc a) with
  | some r, some (e, ov, s') =>
    if r ≤ s.now ∧ e.at_ < s.now then
      done (s'.setAd a { s'.ad a with ready := none, due := some (s.now + 1), tsrc := e.src, cu := e.cu, overlap := ov })
    else done s
  | _, _ => done s

/-- CONVERSION_START (R209, R212-R214): the free converter picks the next conversion. -/
def execConversionStart (a : Fin 4) (s : State) : Host.Outcome State Fault Refusal :=
  whenAwake s <|
  done (if (s.ad a).conv.isNone then s.convPick a else s)

/-- CONVERSION_END (R220): 40 TCLK after its start the conversion gives a raw value. (DESIGN CHOICE: log 2.) -/
def execConversionEnd (a : Fin 4) (raw : BitVec 16) (s : State) : Host.Outcome State Fault Refusal :=
  whenAwake s <|
  match (s.ad a).conv with
  | none => done s
  | some c => done (if c.start + convTclk ≤ s.now then s.convEnd a c raw.toNat else s)

/-- URGENT_REQUEST (R212). -/
def execUrgentRequest (by_ : Agent) (a : Fin 4) (v : Word) (s : State) : Host.Outcome State Fault Refusal :=
  done (s.guard by_ (ADC_URG.addr a) true v fun s => s.urgWrite a v)

/-- SHADOW_CYCLE_DUE (R216). -/
def execShadowCycleDue (a : Fin 4) (s : State) : Host.Outcome State Fault Refusal :=
  whenAwake s <|
  done (if s.fld ADC_CALCFG_PER a ≠ 0 ∧ (s.ad a).nextCycle ≤ s.now then s.shadowDue a else s)

/-- SHADOW_START (R215). -/
def execShadowStart (a : Fin 4) (s : State) : Host.Outcome State Fault Refusal := whenAwake s <| done (s.shadowStart a)

/-- CAL_OFFSET_COMMIT (R218). -/
def execCalOffsetCommit (by_ : Agent) (a : Fin 4) (s : State) : Host.Outcome State Fault Refusal :=
  done (s.guard by_ (ADC_CALDEC.addr a) true 1 fun s => s.calCommit a)

/-- ADC_GAIN_WRITE (R206). -/
def execAdcGainWrite (by_ : Agent) (j : Fin 64) (v : Word) (s : State) : Host.Outcome State Fault Refusal :=
  done (s.guard by_ (ADC_IN.addr j) true v fun s => s.gainWrite j v)

/-- ADC_RESULT_READ (R222). -/
def execAdcResultRead (by_ : Agent) (a : Fin 4) (s : State) : Host.Outcome State Fault Refusal :=
  done (s.guard by_ (ADC_RES.addr a 0) false 0 fun s => s.resRead (initNo by_) a)

/-- TDAC_WRITE (R225). -/
def execTdacWrite (by_ : Agent) (v : Word) (s : State) : Host.Outcome State Fault Refusal :=
  done (s.guard by_ (TDAC_CTRL.addr) true v fun s => s.tdacWrite v)

end Sys2Proof.Machine
end

