-- ==== Sys2Proof/Machine/Encoders.lean ====
section
/-! DEFINITION. The commands of the encoder ports (chapter 8). -/

namespace Sys2Proof.Machine

/-- QUAD_COUNT (R236-R239): new filtered levels of A and B, accepted FILT + 2 TCLK after their sample. -/
def execQuadCount (e : Fin 4) (a : Bool) (b : Bool) (stamp : BitVec 64) (s : State) : Host.Outcome State Fault Refusal :=
  whenAwake s <|
  if s.flag ENC_CFG_EN e ∧ stamp.toNat + s.fld ENC_CFG_FILT e + 2 = s.now then done (s.encLevels e a b stamp.toNat) else done s

/-- INDEX_EDGE (R241, R242): a new filtered level of Z. -/
def execIndexEdge (e : Fin 4) (z : Bool) (stamp : BitVec 64) (s : State) : Host.Outcome State Fault Refusal :=
  whenAwake s <|
  if s.flag ENC_CFG_EN e ∧ stamp.toNat + s.fld ENC_CFG_FILT e + 2 = s.now then done (s.encZ e z) else done s

/-- STILL_TIMEOUT (R239): no count has arrived for PTMO ms. -/
def execStillTimeout (e : Fin 4) (s : State) : Host.Outcome State Fault Refusal :=
  whenAwake s <|
  if s.flag ENC_CFG_EN e ∧ !s.flag ENC_STAT_STILL e ∧ (s.en e).at_ + s.fld ENC_CFG_PTMO e * msTclk ≤ s.now then done (s.encStill e)
  else done s

/-- ENC_POS_WRITE (R237, R259). -/
def execEncPosWrite (by_ : Agent) (e : Fin 4) (v : Word) (s : State) : Host.Outcome State Fault Refusal :=
  done (s.guard by_ (ENC_POS.addr e) true v fun s => s.encPosWrite e v)

end Sys2Proof.Machine
end

