-- ==== Sys2Proof/Machine/Functions.lean ====
section
/-! DEFINITION. The commands of the dual-mode functions (R32-R36). -/

namespace Sys2Proof.Machine

/-- FNMODE_WRITE (R34). -/
def execFnmodeWrite (by_ : Agent) (v : Word) (s : State) : Host.Outcome State Fault Refusal :=
  done (s.guard by_ SYS_FNMODE.addr true v fun s => s.fnmode v)

/-- FN_MODE_SWITCH (R35). -/
def execFnModeSwitch (fn : Fin 8) (inst : Fin 128) (s : State) : Host.Outcome State Fault Refusal :=
  whenAwake s <|
  done (if s.fnAtPoint fn inst then s.fnSwitch fn inst else s)

/-- DECISION_TIMEOUT (R32, R33). -/
def execDecisionTimeout (fn : Fin 8) (inst : Fin 128) (s : State) : Host.Outcome State Fault Refusal :=
  whenAwake s <|
  match s.askOf fn inst with
  | none => done s
  | some d => done (if d ≤ s.now then s.fnFallback fn inst else s)

end Sys2Proof.Machine
end

