-- ==== Sys2Proof/Machine/Journal.lean ====
section
/-! DEFINITION. Commands of the combustion journal (chapter 12). -/

namespace Sys2Proof.Machine

/-- RECORD_WRITE (R337). -/
def execRecordWrite (j : Fin 16) (s : State) : Host.Outcome State Fault Refusal := whenAwake s <| done (s.recWrite j)

/-- RECORD_TIMEOUT (R346, R350). -/
def execRecordTimeout (j : Fin 16) (s : State) : Host.Outcome State Fault Refusal := whenAwake s <| done (s.recTimeout j)

/-- YUNAE_ACK (R349, R350). -/
def execYunaeAck (j : Fin 16) (fseq : Word) (s : State) : Host.Outcome State Fault Refusal := whenAwake s <| done (s.yAck j fseq.toNat)

/-- RETRANSMIT_TIMEOUT (R350). -/
def execRetransmitTimeout (j : Fin 16) (s : State) : Host.Outcome State Fault Refusal := whenAwake s <| done (s.yRetx j)

/-- PROBE_SEND (R350). -/
def execProbeSend (j : Fin 16) (s : State) : Host.Outcome State Fault Refusal := whenAwake s <| done (s.yProbeSend j)

/-- RELC_WRITE (R345). -/
def execRelcWrite (by_ : Agent) (j : Fin 16) (v : BitVec 64) (s : State) : Host.Outcome State Fault Refusal :=
  done (s.guard by_ (JS_RELC.addr j) true (BitVec.ofNat 32 v.toNat) fun s => s.relcWrite j v.toNat)

/-- STREAM_ENABLE (R353). -/
def execStreamEnable (by_ : Agent) (j : Fin 16) (s : State) : Host.Outcome State Fault Refusal :=
  done (s.guard by_ (JS_CTRL.addr j) true 1 fun s => s.jsCtrl j 1)

/-- STREAM_DISABLE (R353). -/
def execStreamDisable (by_ : Agent) (j : Fin 16) (s : State) : Host.Outcome State Fault Refusal :=
  done (s.guard by_ (JS_CTRL.addr j) true 0 fun s => s.jsCtrl j 0)

/-- STREAM_DRAINED (R353). -/
def execStreamDrained (j : Fin 16) (s : State) : Host.Outcome State Fault Refusal := whenAwake s <| done (s.jsDrained j)

/-- JREC_COMMIT (R352). -/
def execJrecCommit (by_ : Agent) (v : Word) (s : State) : Host.Outcome State Fault Refusal :=
  done (s.guard by_ JRN_HDEC.addr true v fun s => s.hdecWrite v)

end Sys2Proof.Machine
end

