-- ==== Sys2Proof/Machine/PowerOps.lean ====
section
/-! DEFINITION. Rails, clocks and sleep (R375-R389): level sources, the sleep checks, entry and wake. -/

namespace Sys2Proof.Machine

/-! Level sources (R358) -/

/-- A level source becomes active, and raises once. -/
def State.levelStarts (s : State) (src data : Nat) : State :=
  if s.bankBit FCO_ACT src then s else (s.setActive src true).raiseFault src data

/-- The SYS_PWRSTAT bit of a main rail: 0 VCORE, 1 VIO, 2 VANA. -/
def railBit (rail : Nat) : Fld := if rail = 0 then SYS_PWRSTAT_VCORE else if rail = 1 then SYS_PWRSTAT_VIO else SYS_PWRSTAT_VANA

/-- The condition of a level source FS000-FS007 ends. -/
def State.levelEnds (s : State) (src : Nat) : State :=
  let s := (s.setActive src false).asyncCheck
  s.when (decide (3 ≤ src ∧ src ≤ 5)) fun s => s.setFld (railBit (src - 3)) 1

/-- The Ethernet and PCIe links go down: they are in reset, or restart. (DESIGN CHOICE: log 19.) -/
def State.linksDown (s : State) : State :=
  let s := s.each (List.range 2) fun s p => s.setFld ETH_CFG_LINK 0 p
  let s := (s.setFld PCI_STAT_SPEED 0).setFld PCI_STAT_WIDTH 0
  { s with links := { s.links with pciUp := false } }

/-! Sleep (R381-R384) -/

/-- SYS_SLPSTAT.RESULT. -/
def slEntered : Nat := 1
def slBusyCh : Nat := 2
def slBusyMeas : Nat := 3
def slBusyJrn : Nat := 4
def slBusyImg : Nat := 5
def slNoPwr : Nat := 6

/-- The first failing check of a sleep request, 0 with none (R381). -/
def State.sleepCheck (s : State) (off : Bool) : Nat :=
  let ch (c : Nat) : Bool :=
    let x := s.ch c
    x.active.isSome || x.queue.any (fun e => e.skind == kAngle) || (off && x.queue != [])
  let meas := (List.range 4).any fun k =>
    s.fld ADC_CTRL_STATE k != 0 || (s.kn k).wins.any fun w => w.close.isNone
  let js (j : Nat) : Bool :=
    let x := s.str j
    x.fifo != [] || x.flight != [] || x.unacked != [] || (off && s.jsState j != jsOff)
  if off && !s.flag ACN_CFG_PWREN then slNoPwr
  else if (List.range 128).any ch then slBusyCh
  else if meas || (List.range 16).any fun q => s.fld PSQ_STAT_STATE q != pqHalted then slBusyMeas
  else if (List.range 16).any js then slBusyJrn
  else if s.flag IMG_DSTAT_BUSY then slBusyImg
  else 0

/-- A write of SYS_SLPCTL (R381): DEPTH, and with REQ the checks. -/
def State.slpWrite (s : State) (v : Word) : State :=
  let off := bitsOf v 8 1 == 1
  let s := s.setFlag SYS_SLPCTL_DEPTH off
  if bitsOf v 0 1 = 0 ∨ s.slp.req.isSome then s
  else
    let r := s.sleepCheck off
    if r = 0 then { (s.setFld SYS_SLPCTL_REQ 1) with slp := { s.slp with req := some off } }
    else (s.setFld SYS_SLPSTAT_RESULT r).cause .sys SYS_INTST_SLPREF

/-- Entry into sleep at E0 (R382, R383). (DEDUCED: log 56.) -/
def State.sleepEnter (s : State) (off : Bool) : State :=
  let s := s.when (s.flag ACN_TRK_EN) fun s => s.handOver
  let s := s.each (List.range 128) fun s c => s.when (s.flag HSK_STAT_OUT c) fun s => s.pinOff c (s.now * 32)
  let s := s.each (s.chan.map (·.1)) fun s c => s.setCh c { s.ch c with issued := [], armed := none, judged := none }
  let s := (((s.setFld FCO_KASTAT_ARMED 0).setFld FCO_KASTAT_RUN 0).setFld FCO_STAT_ALIVE 0).setWide TB_SLPENT s.now
  let s := ((s.setFld SYS_SLPCTL_REQ 0).setFld SYS_SLPSTAT_RESULT slEntered).setFlag SYS_SLPSTAT_LASTOFF off
  { s with slp := ⟨none, s.now, (s.rd ACN_RATIO.addr).toNat, false⟩, pwr := if off then .off else .retain }

/-- The make-up M of R389. -/
def sleepMakeup (n ratio : Nat) : Nat := (n * ratio + 2 ^ 15) / 2 ^ 16

/-- Instants that the stopped TCLK has not counted move by M: timers (R258), cool-downs, decision timeouts, calibration cycles, Husk and pad times.
(DEDUCED: log 56.) -/
def State.shiftTimes (s : State) (m : Nat) : State :=
  let later (o : Option Nat) : Option Nat := o.map (· + m)
  { s with
    tmr := s.tmr.map fun p => (p.1, { p.2 with pscAt := p.2.pscAt + m, topAt := later p.2.topAt, cmpAt := later p.2.cmpAt })
    cls := s.cls.map fun p => (p.1, { p.2 with coolEnd := p.2.coolEnd + m, changedAt := p.2.changedAt + m, retryAt := p.2.retryAt + m,
                                               contSince := later p.2.contSince })
    ask := s.ask.map fun p => (p.1, later p.2)
    adc := s.adc.map fun p => (p.1, { p.2 with nextCycle := p.2.nextCycle + m, urgEnd := p.2.urgEnd + m, calEnd := p.2.calEnd + m })
    gainAt := s.gainAt.map fun p => (p.1, later p.2)
    gainNext := s.gainNext.map fun p => (p.1, p.2.map fun q => (q.1, q.2 + m))
    knk := s.knk.map fun p => (p.1, { p.2 with sampleAt := none })
    husk := s.husk.map fun p => (p.1, { p.2 with riseAt := p.2.riseAt + 32 * m, offAt := p.2.offAt.map (· + 32 * m), revFrom := p.2.revFrom + 32 * m })
    pad := s.pad.map fun p => (p.1, { p.2 with held := p.2.held.map fun h => { h with at_ := h.at_ + m, actAt := h.actAt + m },
                                               testFrom := p.2.testFrom, faultAt := later p.2.faultAt, since := p.2.since + m, testAt := p.2.testAt + m,
                                               normalAt := p.2.normalAt + m, matured := p.2.matured.map fun q => (q.1, q.2 + m) })
    img := { s.img with delta := s.img.delta.map fun d => { d with until_ := d.until_ + m } }
    strm := s.strm.map fun p => (p.1, { p.2 with probeAt := p.2.probeAt + m }) }

/-- Events that still wait for a TABS start that the sleep has passed carry LATE (R247). (DEDUCED: log 56.) -/
def State.lateTabs (s : State) : State :=
  s.each (List.range 128) fun s c =>
    let x := s.ch c
    s.setCh c { x with queue := x.queue.map fun e => if e.skind != kAngle && decide (tabsDiff e.w1.toNat s.now ≤ 0) then { e with late := true } else e }

/-- Blocks after a wake from RETAIN (R384): trackers STOPPED, encoders marked, links down. (DEDUCED: log 56.) -/
def State.wakeBlocks (s : State) : State :=
  let s := s.each ((List.range 6).filter fun n => s.trkState n != stStopped) fun s n => s.trkGo n stStopped 0
  let s := s.each (List.range 6) fun s n => s.setTr n { s.tr n with fusedOn := false, wait := [] }
  let s := s.each ((List.range 4).filter fun e => s.flag ENC_CFG_EN e) fun s e =>
    (s.setEn e { s.en e with stamp := none, clean := false }).hwFlag ENC_STAT_SLEPT e
  s.linksDown

/-- The keep-alive and the sleep hold at its release (R383, R386). (DEDUCED: log 56.) -/
def State.holdRelease (s : State) : State :=
  let s := s.setFco { s.fco with kickAt := s.now, anyTime := true, waitKick := false }
  let s := (s.setFld ACN_STAT_SPWR (s.fld ACN_CFG_SPAWAKE)).cause .sys SYS_INTST_WAKE
  s.acnLogCause.aliveUpdate

/-- The end of a sleep of n SCLK edges (R246, R386, R387, R389). (DEDUCED: log 56.) -/
def State.wakeRelease (s : State) (n : Nat) : State :=
  let m := sleepMakeup n s.slp.ratio
  let t := s.slp.s + m
  if s.pwr = .retain then
    let s := s.each ((List.range 6).filter fun n => s.trkState n != stStopped) fun s n => s.stopAngle n
    let s := { s.shiftTimes m with tb := BitVec.ofNat 64 t, pwr := .run, slp := { s.slp with wake := false } }
    let s := (s.setWide TB_SLEEP m).setWide ACN_SLPN (n % 2 ^ 48)
    ((s.newBase.wakeBlocks.lateTabs).switchInst fnRestart 0).recPresent.holdRelease
  else
    let s := { s.resetMain 2 false false t with pwr := .run }
    let s := ((s.setWide TB_SLPENT s.slp.s).setWide TB_SLEEP m).setWide ACN_SLPN (n % 2 ^ 48)
    (s.setFld ACN_STAT_SPWR (s.fld ACN_CFG_SPAWAKE)).holdRelease

end Sys2Proof.Machine
end

