-- ==== Sys2Proof/Machine/Power.lean ====
section
/-! DEFINITION. Commands of rails, clocks, resets and sleep (R358, R359, R375-R389). -/

namespace Sys2Proof.Machine

/-- PLL_LOSS (R358, R359): 0 PLL_SYS, 1 PLL_T or the DLL, 2 REFCLK. -/
def execPllLoss (which : Fin 3) (s : State) : Host.Outcome State Fault Refusal :=
  whenAwake s (done ((s.levelStarts which.val 0).when (which.val != 0) fun s => s.setFco { s.fco with async := true }))

/-- RAIL_UNDERVOLTAGE (R378): 0 VCORE, 1 VIO, 2 VANA. -/
def execRailUndervoltage (rail : Fin 3) (s : State) : Host.Outcome State Fault Refusal :=
  whenAwake s (done ((s.setFld (railBit rail.val) 0).levelStarts (3 + rail.val) 0))

/-- RAIL_RESET_LOSS (R376, R378): the main domain enters the reset state, and a main power-on will start it again. A rail that goes down in
OFF depth is the sleep itself. (DEDUCED: log 55.) -/
def execRailResetLoss (rail : Fin 3) (s : State) : Host.Outcome State Fault Refusal :=
  done (if s.pwr = .run ∨ s.pwr = .retain then { (s.resetMain 1 true false 0).setFld (railBit rail.val) 0 with pwr := .held } else s)

/-- DIE_TEMP_ALARM (R358): TJ_HIGH or TJ_CRIT, with the temperature in °C. -/
def execDieTempAlarm (crit : Bool) (temp : BitVec 16) (s : State) : Host.Outcome State Fault Refusal :=
  whenAwake s (done (s.levelStarts (if crit then 7 else 6) temp.toNat))

/-- LEVEL_SOURCE_ENDS (R358). -/
def execLevelSourceEnds (src : Fin 8) (s : State) : Host.Outcome State Fault Refusal := whenAwake s (done (s.levelEnds src.val))

/-- VBAT_LOW (R375). (DEDUCED: log 55.) -/
def execVbatLow (s : State) : Host.Outcome State Fault Refusal :=
  let s := s.setFld SYS_PWRSTAT_VBATLOW 1
  whenAwake s (done (s.cause .sys SYS_INTST_VBATLOW))

/-- VSER_THRESHOLD_CHANGE (R376). (DESIGN CHOICE: log 19.) -/
def execVserThresholdChange (above : Bool) (s : State) : Host.Outcome State Fault Refusal :=
  done ((s.setFlag SYS_PWRSTAT_VSER above).when (!above) fun s => s.linksDown)

/-- ACORN_POWER_ON (R379). -/
def execAcornPowerOn (s : State) : Host.Outcome State Fault Refusal := done s.resetAll

/-- MAIN_POWER_ON (R376, R379): the rails that were lost have risen again. (DEDUCED: log 55.) -/
def execMainPowerOn (s : State) : Host.Outcome State Fault Refusal :=
  done (if s.pwr = .held then
      let s := { s.resetMain 1 true false 0 with pwr := .run }
      (s.each (List.range 3) fun s k => s.setFld (railBit k) 1).acnLogCause
    else s)

/-- A warm reset of the main domain (R379): TB runs on. In RETAIN it goes on from S, with no make-up M. (DEDUCED: log 55; DESIGN CHOICE: log 64.) -/
def State.warmReset (s : State) (cause : Nat) : State := { s.resetMain cause false true s.now with pwr := .run }.acnLogCause

/-- RESET_N (R379): low for more than 0.5 µs, while the main domain has power. -/
def execResetN (s : State) : Host.Outcome State Fault Refusal :=
  done (if s.pwr = .run ∨ s.pwr = .retain then s.warmReset 3 else s)

/-- A write of SYS_RSTCTL (R379): with its key, SYSRST resets. -/
def State.rstWrite (s : State) (v : Word) : State := if bitsOf v 16 16 = 0x5EC0 ∧ bitsOf v 0 1 = 1 then s.warmReset 4 else s

/-- SYSTEM_RESET (R379). -/
def execSystemReset (by_ : Agent) (v : Word) (s : State) : Host.Outcome State Fault Refusal :=
  done (s.guard by_ SYS_RSTCTL.addr true v fun s => s.rstWrite v)

/-- DEBUG_RESET (R379): an ndmreset of an open debug module. -/
def execDebugReset (s : State) : Host.Outcome State Fault Refusal := whenAwake s (done (if s.dbgOpen then s.warmReset 5 else s))

/-- SLEEP_REQUEST (R381). -/
def execSleepRequest (by_ : Agent) (v : Word) (s : State) : Host.Outcome State Fault Refusal :=
  done (s.guard by_ SYS_SLPCTL.addr true v fun s => s.slpWrite v)

/-- SLEEP_ENTRY (R382): of an accepted request. -/
def execSleepEntry (s : State) : Host.Outcome State Fault Refusal :=
  whenAwake s (match s.slp.req with
    | some off => done (s.sleepEnter off)
    | none => .next s)

/-- WAKE_PIN (R385): an enabled wake pin is recognised. -/
def execWakePin (k : Fin 4) (s : State) : Host.Outcome State Fault Refusal :=
  done (if s.asleep && !s.slp.wake && s.fld ACN_WAKECFG_WEN / 2 ^ k.val % 2 == 1 then s.wakeAt (2 ^ k.val) 0 else s)

/-- WAKE_RELEASE (R386, R387, R389): n SCLK edges after E0. -/
def execWakeRelease (n : Nat) (s : State) : Host.Outcome State Fault Refusal :=
  done (if s.asleep && s.slp.wake then s.wakeRelease n else s)

end Sys2Proof.Machine
end

