-- ==== Sys2Proof/Machine/Predictor.lean ====
section
/-! DEFINITION. The commands of the predictor and of the marks (chapters 3 and 4), and the wrap of a cycle. -/

namespace Sys2Proof.Machine

/-- HOLD_BEGIN (R108): the accumulator has reached B' - 1 before the next edge. -/
def execHoldBegin (n : Fin 6) (s : State) : Host.Outcome State Fault Refusal :=
  whenAwake s <|
  match s.holdStart n s.now with
  | some h => done ((s.setTr n { s.tr n with holdAt := some h }).setFld TRK_PSTAT_HOLDING 1 n)
  | none => done s

/-- COMMIT of the shadow table (R120, R133): late without a request or in hardware mode, SUM before RANGE, or APPLIED at the next reference tooth.
(DESIGN CHOICE: log 61.) -/
def State.corCommit (s : State) (n : Nat) : State :=
  if !s.flag TRK_PDEC_REQ n || !s.hostMode fnTooth n then (s.setFld TRK_PDEC_RESULT 2 n).lateDecision
  else
    let l : List Int := (List.range (s.nTooth n)).map fun e =>
      signedOf 16 (bitsOf (tget 0 (s.tr n).shadow (e / 2)) (16 * (e % 2)) 16)
    let lim : Int := s.fld TRK_PLRN_CORLIM n
    if l.foldl (· + ·) 0 ≠ 0 then s.setFld TRK_PDEC_RESULT 4 n
    else if l.any fun v => decide (lim < v) || decide (v < -lim) then s.setFld TRK_PDEC_RESULT 3 n
    else
      let s := (s.setTr n { s.tr n with corNext := some l }).setFld TRK_PDEC_REQ 0 n
      ((s.setFld TRK_PSTAT_TOOTHSTALE 0 n).setFld TRK_PDEC_RESULT 1 n).setAsk fnTooth n none

/-- A write of TRKn_PCMD (R119, R120). -/
def State.pcmd (s : State) (n : Nat) (v : Word) : State :=
  let s := s.when (bitsOf v 0 1 == 1) fun s => s.corCommit n
  s.when (bitsOf v 1 1 == 1) fun s => s.clearCor n

/-- A write of TRKn_CORj (R133): the shadow table, in host-assisted mode only; entries at or above NTOOTH keep 0. -/
def State.corWrite (s : State) (n j : Nat) (v : Word) : State :=
  if !s.hostMode fnTooth n then s
  else
    let nt := s.nTooth n
    let lo := if 2 * j < nt then bitsOf v 0 16 else 0
    let hi := if 2 * j + 1 < nt then bitsOf v 16 16 else 0
    s.setTr n { s.tr n with shadow := tput 0 (s.tr n).shadow j (BitVec.ofNat 32 (lo + hi * 65536)) }

/-- TOOTH_COMMIT (R120). -/
def execToothCommit (by_ : Agent) (n : Fin 6) (s : State) : Host.Outcome State Fault Refusal :=
  done (s.guard by_ (TRK_PCMD.addr n) true 1 fun s => s.pcmd n 1)

/-- CLRCOR (R119). -/
def execClrcor (by_ : Agent) (n : Fin 6) (s : State) : Host.Outcome State Fault Refusal :=
  done (s.guard by_ (TRK_PCMD.addr n) true 2 fun s => s.pcmd n 2)

/-- COR_WRITE (R133). -/
def execCorWrite (by_ : Agent) (n : Fin 6) (j : Fin 256) (v : Word) (s : State) : Host.Outcome State Fault Refusal :=
  done (s.guard by_ (TRK_COR.addr n j) true v fun s => s.corWrite n j v)

/-- CYCLE_WRAP (R5, R181): CYC counts up as POS wraps in forward rotation; the edge counts of the bound channels clear, and CAMLOST is
judged. -/
def execCycleWrap (n : Fin 6) (s : State) : Host.Outcome State Fault Refusal :=
  whenAwake s <|
  if s.crosses n (awOf (cycOf (s.aw n)) 0) then
    let s := s.each (s.huskChans n) fun s c => s.setFld HSK_STAT_EDGECNT 0 c
    let far := decide ((2 * s.span n : Int) ≤ awDist (s.span n) (s.aw n) (s.tr n).matchAw)
    done (s.when (s.trkState n == stCycleSync && s.fld TRK_TTAB_NCAM n != 0 && far) fun s => s.setFld TRK_STATE_CAMLOST 1 n)
  else done s

/-! Marks (R99-R102) -/

/-- The word of MKnnn_POS in force in the current TCLK (R100): that before a write of this TCLK. -/
def State.mkWord (s : State) (m : Nat) : Word := (tget none s.mkPrev m).getD (s.rd (MK_POS.addr m))

/-- The level of a mark's tracker admits a firing (R99). -/
def State.markLevel (s : State) (m : Nat) : Bool :=
  let n := s.fld MK_CFG_TRK m
  let req := s.fld MK_CFG_REQ m
  req != 0 && (decide (req ≤ s.level n false) || (s.seen n == stRestored && s.flag MK_CFG_ARST m))

/-- The first angle word after that of the TCLK before whose POS is the mark's (R99). (DEDUCED: log 31.) -/
def State.markAt (s : State) (m : Nat) : Nat :=
  let w := s.awPrev (s.fld MK_CFG_TRK m)
  awNext w (bitsOf (s.mkWord m) 0 22)

/-- The mark fires in the current TCLK (R99). (DEDUCED: log 31.) -/
def State.markFires (s : State) (m : Nat) : Bool :=
  let n := s.fld MK_CFG_TRK m
  let x := s.markAt m
  decide (n < 6) && bitsOf (s.mkWord m) 31 1 == 1 && s.markLevel m && !s.isRebase n && awLe x (s.aw n)
    && awAfter x (tget 0 s.mkLast m)

/-- MARK_FIRE (R99-R101): L, the bit in MK_FIRED, the pulse with CU in a catch-up span (R112), and the interrupt source of
MK000-MK063. (DESIGN CHOICE: log 2.) -/
def execMarkFire (m : Fin 256) (s : State) : Host.Outcome State Fault Refusal :=
  whenAwake s <|
  if s.markFires m then
    let x := s.markAt m
    let cu := s.inCatchUp (s.fld MK_CFG_TRK m) x
    let s := { s with mkLast := tput 0 s.mkLast m.val x }
    let s := (s.hwBank MK_FIRED m).emit (.pulse m.val cu)
    done (s.when (decide (m.val < 64)) fun s => s.fire (96 + m.val))
  else done s

/-- A write of MKnnn_POS (R100, R101): a POS at or above the span ends in a bus error; what it changes is in force from the next TCLK on. -/
def State.mkPosWrite (s : State) (m : Nat) (v : Word) : State :=
  if s.span (s.fld MK_CFG_TRK m) ≤ bitsOf v 0 22 then s.busErr
  else
    let s := { s with mkPrev := tput none s.mkPrev m (some (s.mkWord m)) }
    (s.setFld MK_POS_POS (bitsOf v 0 22) m).setFld MK_POS_EN (bitsOf v 31 1) m

/-- The writes of the marks in the TCLK before take effect (R100): L takes the present angle word where EN goes from 0 to 1. -/
def State.mkTake (s : State) : State :=
  let l := (List.range 256).filter fun m => match tget none s.mkPrev m with
    | some w => bitsOf w 31 1 == 0 && s.flag MK_POS_EN m
    | none => false
  { s with mkPrev := [], mkLast := l.foldl (fun t m => tput 0 t m (s.aw (s.fld MK_CFG_TRK m))) s.mkLast }

/-- MK_POS_WRITE (R100, R101). -/
def execMkPosWrite (by_ : Agent) (m : Fin 256) (v : Word) (s : State) : Host.Outcome State Fault Refusal :=
  done (s.guard by_ (MK_POS.addr m) true v fun s => s.mkPosWrite m v)

end Sys2Proof.Machine
end

