-- ==== Sys2Proof/Machine/PwmRun.lean ====
section
/-! DEFINITION. PWM pattern mode and the opening-delay correction (chapter 5): reload and off edges, shadows, the lock, and a
decision about COR. -/

namespace Sys2Proof.Machine

/-- A reload edge (R162, R165): a new period begins; the output turns on. -/
def State.pwmReload (s : State) (c : Nat) (p : Pwm) : State :=
  let r := p.start + p.per
  let s := s.pwmPass c r
  let s := s.setCh c { s.ch c with edgeAt := some r }
  let s := s.when (s.flag CH_CFG_PWMSTB c) fun s => s.emit (.pulse (256 + c) false)
  s.pwmIntent c (r * 32)

/-- PWM_RELOAD (R162): the next period of a run begins. -/
def execPwmReload (c : Fin 128) (s : State) : Host.Outcome State Fault Refusal :=
  whenAwake s <|
  match (s.ch c).pwm with
  | none => .next s
  | some p => if p.start + p.per ≤ s.now then done (s.pwmReload c p) else .next s

/-- PWM_OFF_EDGE (R162, R163): the output turns off DUTY/32 TCLK after the reload edge, with tap DUTY modulo 32. -/
def execPwmOffEdge (c : Fin 128) (s : State) : Host.Outcome State Fault Refusal :=
  whenAwake s <|
  match (s.ch c).pwm with
  | none => .next s
  | some p =>
    match p.offPad with
    | none => .next s
    | some t =>
      if t / 32 ≤ s.now then
        let s := s.setCh c { s.ch c with pwm := some { p with offDone := true }, edgeAt := some (t / 32) }
        let s := s.setFld CH_STAT_ACTIVE 0 c
        done (s.when (s.schedIntent c) fun s => s.huskFall c t)
      else .next s

/-- A write of a PWM shadow (R164, R165). The values in force before the first one are those of the image. -/
def State.pwmShadow (s : State) (c : Nat) (duty : Bool) (v : Word) : State :=
  let x := s.ch c
  let x := { x with force := some (x.force.getD (s.fld CH_PWMPER_PER c, s.fld CH_PWMDUTY_DUTY c)) }
  if duty then (s.setFld CH_PWMDUTY_DUTY v.toNat c).setCh c { x with dutyAt := some s.now }
  else (s.setFld CH_PWMPER_PER v.toNat c).setCh c { x with perAt := some s.now }

/-- A write of PWMLOCK (R165): clearing LOCK counts as the completing write of every shadow written under it. -/
def State.pwmLock (s : State) (c : Nat) (v : Word) : State :=
  let was := s.flag CH_PWMLOCK_LOCK c
  let x := s.ch c
  let s := s.setFld CH_PWMLOCK_LOCK (bitsOf v 0 1) c
  if was && bitsOf v 0 1 == 0 then
    s.setCh c { x with perAt := x.perAt.map fun _ => s.now, dutyAt := x.dutyAt.map fun _ => s.now }
  else s

/-- PWM_SHADOW_WRITE (R164). -/
def execPwmShadowWrite (by_ : Agent) (c : Fin 128) (duty : Bool) (v : Word) (s : State) :
    Host.Outcome State Fault Refusal :=
  done (s.guard by_ (if duty then CH_PWMDUTY.addr c else CH_PWMPER.addr c) true v fun s => s.pwmShadow c duty v)

/-- PWM_LOCK_WRITE (R165). -/
def execPwmLockWrite (by_ : Agent) (c : Fin 128) (v : Word) (s : State) : Host.Outcome State Fault Refusal :=
  done (s.guard by_ (CH_PWMLOCK.addr c) true v fun s => s.pwmLock c v)

/-- A write of CHnnn_INJDLY (R171): ignored in hardware mode, late without a request, refused beyond CORMAX. -/
def State.injdly (s : State) (c : Nat) (v : Word) : State :=
  if !s.hostMode fnInjdly c then s
  else if !s.flag CH_INJDEC_REQ c then (s.setFld CH_INJDEC_RESULT 2 c).lateDecision
  else
    let cor := signedOf 16 (bitsOf v 0 16)
    let lim : Int := s.fld CH_INJLIM_CORMAX c
    if lim < cor ∨ cor < -lim then s.setFld CH_INJDEC_RESULT 3 c
    else
      let s := (s.setSFld CH_INJDLY_COR cor c).setFld CH_INJDEC_REQ 0 c
      ((s.setFld CH_INJDEC_RESULT 1 c).setFld CH_STAT_INJSTALE 0 c).setAsk fnInjdly c none

/-- INJDLY_WRITE (R171). -/
def execInjdlyWrite (by_ : Agent) (c : Fin 128) (v : Word) (s : State) : Host.Outcome State Fault Refusal :=
  done (s.guard by_ (CH_INJDLY.addr c) true v fun s => s.injdly c v)

end Sys2Proof.Machine
end

