-- ==== Sys2Proof/Machine/Knock.lean ====
section
/-! DEFINITION. The commands of the knock front ends (chapter 7). -/

namespace Sys2Proof.Machine

/-- KNOCK_SAMPLE (R227, R231, R232): the decimator delivers a sample. A window's result carries no sample's own stamp, so the angle word
of the stamp goes no further. -/
def execKnockSample (k : Fin 4) (x : BitVec 24) (clip : Bool) (_awStamp : Word) (s : State) : Host.Outcome State Fault Refusal :=
  whenAwake s <|
  done (if s.flag KNK_CFG_EN k && s.knkDue k then s.knkSample k x clip else s)

/-- KNOCK_OPEN (R228, R229): a trigger is taken in a TCLK at whose start no window is open. -/
def execKnockOpen (k : Fin 4) (s : State) : Host.Outcome State Fault Refusal :=
  whenAwake s <|
  let x := s.kn k
  let free := x.open?.isNone && (match x.closedAt with | none => true | some t => decide (t < s.now))
  match s.flag KNK_CFG_EN k && free, s.taskTake (tiKnk k) with
  | true, some (e, ov, s') => done (s'.knkOpen k e ov)
  | _, _ => done s

/-- KNOCK_RESULT_POST (R228). -/
def execKnockResultPost (k : Fin 4) (s : State) : Host.Outcome State Fault Refusal := whenAwake s <| done (s.knkPost k)

/-- KNK_RES_READ (R233). -/
def execKnkResRead (by_ : Agent) (k : Fin 4) (s : State) : Host.Outcome State Fault Refusal :=
  done (s.guard by_ (KNK_RES.addr k) false 0 fun s => s.knkRead k)

end Sys2Proof.Machine
end

