-- ==== Sys2Proof/Machine/Timers.lean ====
section
/-! DEFINITION. The commands of the time base and the timers (chapter 8). -/

namespace Sys2Proof.Machine

/-- NT_SHADOW_WRITE (R249): half a shadow, by the rule of R29. -/
def execNtShadowWrite (by_ : Agent) (r : NtReg) (high : Bool) (v : Word) (s : State) : Host.Outcome State Fault Refusal :=
  done (s.guard by_ ((ntFld r).addr + if high then 4 else 0) true v fun s => s.ntWrite by_ r high v)

/-- NT_ARM (R249). -/
def execNtArm (by_ : Agent) (s : State) : Host.Outcome State Fault Refusal :=
  done (s.guard by_ (TB_NTCFG.addr) true 0x100 fun s => s.ntArm)

/-- NT_APPLY (R249). -/
def execNtApply (s : State) : Host.Outcome State Fault Refusal := whenAwake s <| done s.ntApply

/-- GPTP_SERVO_UPDATE (R250): the servo of the port that SRC names writes the shadows and arms them. (DEDUCED: log 40.) -/
def execGptpServoUpdate (port : Fin 2) (nb : BitVec 64) (no : BitVec 64) (nr : BitVec 64) (na : BitVec 64) (s : State) :
    Host.Outcome State Fault Refusal :=
  whenAwake s <|
  if s.fld TB_NTCFG_SRC = port.val + 1 ∧ !s.flag TB_NTCFG_ARM then
    done { (s.setFld TB_NTCFG_ARM 1) with
      nt := { base := nb.toNat, ofs := no.toNat, rate := nr.toNat, apply := na.toNat, armAt := s.now } }
  else done s

/-- TMR_START (R251). -/
def execTmrStart (by_ : Agent) (t : Fin 48) (s : State) : Host.Outcome State Fault Refusal :=
  done (s.guard by_ (TMR_CTRL.addr t) true 1 fun s => s.tmrCtl t 1)

/-- TMR_STOP (R251). -/
def execTmrStop (by_ : Agent) (t : Fin 48) (s : State) : Host.Outcome State Fault Refusal :=
  done (s.guard by_ (TMR_CTRL.addr t) true 2 fun s => s.tmrCtl t 2)

/-- TMR_CNT_WRITE (R251). -/
def execTmrCntWrite (by_ : Agent) (t : Fin 48) (v : Word) (s : State) : Host.Outcome State Fault Refusal :=
  done (s.guard by_ (TMR_CNT.addr t) true v fun s => s.tmrCnt t v)

/-- TMR_SHADOW_WRITE (R253). -/
def execTmrShadowWrite (by_ : Agent) (t : Fin 48) (cmp : Bool) (v : Word) (s : State) : Host.Outcome State Fault Refusal :=
  done (s.guard by_ (if cmp then TMR_CMP.addr t else TMR_TOP.addr t) true v fun s => s.tmrShadow t cmp v)

/-- TIMER_TICK (R252). -/
def execTimerTick (t : Fin 48) (s : State) : Host.Outcome State Fault Refusal := whenAwake s <| done (s.tmrDue t)

/-- TIMER_TAKE (R254). -/
def execTimerTake (t : Fin 48) (s : State) : Host.Outcome State Fault Refusal := whenAwake s <| done (s.tmrTake t)

/-- CAPTURE_EDGE (R255): an edge of the pin or line that CSRC names, accepted FILT + 2 TCLK after its sample. -/
def execCaptureEdge (t : Fin 48) (edge : SignedEdge) (s : State) : Host.Outcome State Fault Refusal :=
  whenAwake s <|
  if s.capTaken t edge.stamp.toNat edge.rising then done (s.tmrCapture t edge.stamp.toNat) else done s

/-- A read of TMRnn_CAP (R256): CAPTB and CAPPREV are latched for the reader, and CAP counts as read. -/
def State.capRead (s : State) (by_ : Agent) (t : Nat) : State :=
  (s.setTm t { s.tm t with unread := false }).latchRead by_ (TMR_CAP.addr t) [TMR_CAPTB.addr t, TMR_CAPPREV.addr t]

/-- CAP_READ (R256). -/
def execCapRead (by_ : Agent) (t : Fin 48) (s : State) : Host.Outcome State Fault Refusal :=
  done (s.guard by_ (TMR_CAP.addr t) false 0 fun s => s.capRead by_ t)

end Sys2Proof.Machine
end

