-- ==== Sys2Proof/Machine/ReadOps.lean ====
section
/-! DEFINITION. Reads of registers: what each register shows, and what a read does (R11, R13, R28). -/

namespace Sys2Proof.Machine

/-- The bits of a half register that fields of the chosen kind hold. -/
def RegHit.maskOf (h : RegHit) (p : RegField → Bool) : Nat := (h.row.fields.filter p).foldl (fun m f => m ||| f.mask h.half) 0

/-- Edges still to execute that the queue of a channel holds (R145): starts, and ends of closed events. (DEDUCED: log 21.) -/
def State.edgesAhead (s : State) (c : Nat) : Nat :=
  let x := s.ch c
  (match x.active with | some a => if a.ev.isOpen then 0 else 1 | none => 0) + (if x.pwm.isSome then 2 else 0)
    + (x.queue.map fun e => if e.ekind == kNone then 1 else 2).sum

/-- ARMEDV and NEXTV (R145): in the TCLK of an edge both stages still stand, in the one after it NEXT is empty. -/
def State.stagesOf (s : State) (c : Nat) : Bool × Bool :=
  let k := s.edgesAhead c
  match (s.ch c).edgeAt with
  | none => (decide (1 ≤ k), decide (2 ≤ k))
  | some t =>
    if t = s.now then (true, decide (1 ≤ k))
    else if t + 1 = s.now then (decide (1 ≤ k), false)
    else (decide (1 ≤ k), decide (2 ≤ k))

/-- The registers that show state held elsewhere take its value: the state whose register file a reader of family f, instance (n, k), sees.
(DEDUCED: log 21.) -/
def State.present (s : State) (by_ : Agent) (f : Fam) (n k : Nat) : State :=
  match f with
  | .FCO_STAT =>
    (((s.setFld FCO_STAT_RETIRED s.retireCount).setFlag FCO_STAT_FAULTN (!s.faultNLow)).setFlag FCO_STAT_GRP
      (s.fld FCO_GSAFE_GRP != 0)).setFlag FCO_STAT_ALL (s.flag FCO_GSAFE_ALL)
  | .FCO_KASTAT => s.setFlag FCO_KASTAT_ARMED s.armed
  | .FCO_LOG =>
    s.wr (FCO_LOG.addr n) (match s.fco.log with
      | [] => 0
      | e :: _ => if n = 0 then e.word0 else BitVec.ofNat 32 (if n = 1 then e.tb else if n = 2 then e.data else e.count))
  | .ACN_LOG => s.wr (ACN_LOG.addr n) (match s.acn.log with | [] => 0 | e :: _ => if n = 0 then e.1 else e.2)
  | .ADC_CTRL =>
    s.when (s.fld ADC_CTRL_STATE n != 0 && (match (s.ad n).ready with | some t => decide (t ≤ s.now) | none => false)) fun s => s.setFld ADC_CTRL_STATE 2 n
  | .ADC_RES => s.wr (ADC_RES.addr n k) (match (s.ad n).queue with | [] => 0 | e :: _ => BitVec.ofNat 32 (e.getD k 0))
  | .TRK_TREC => s.setWide TRK_TREC (match (s.tr n).trec with | [] => 0 | e :: _ => trecWord e) n
  | .FCO_LOGSTAT => s.setFld FCO_LOGSTAT_LEVEL s.fco.log.length
  | .FCO_SRC => s.when (srcReserved n) fun s => (s.setFld FCO_SRC_FLOOR 7 n).setFld FCO_SRC_SEV 7 n
  | .IRT_SRC => (s.setFlag IRT_SRC_PEND (s.irtPend n) n).setFlag IRT_SRC_ACT (s.irtAct n) n
  | .IRT_CPCAND =>
    match s.candidate n with
    | some k => (s.setFld IRT_CPCAND_SRC k n).setFld IRT_CPCAND_VALID 1 n
    | none => s.wr (IRT_CPCAND.addr n) 0
  | .TB_COUNT => s.setWide TB_COUNT s.now
  | .TB_NOW => s.setWide TB_NOW (s.ntOf s.now)
  | .TRK_AW => s.setFld TRK_AW (s.aw n) n
  | .TRK_VR => s.setFld TRK_VR_THR (s.vrThr n) n
  | .TRK_PSTAT => s.setFld TRK_PSTAT_EFFMODE (s.effMode n) n
  | .ENC_POS => s.when (!s.flag ENC_CFG_EN n) fun s => s.wr (ENC_POS.addr n) 0
  | .CH_ISTAT => s.wr (CH_ISTAT.addr n) (tget 0 (s.ch n).ist (initNo by_))
  | .CH_STAT =>
    let (armed, next) := s.stagesOf n
    let head := match (s.ch n).queue with | [] => 0 | e :: _ => 1 + e.skind
    ((((s.setFld CH_STAT_LEVEL (s.ch n).count n).setFlag CH_STAT_RETIRED (s.retired n) n).setFld CH_STAT_HEADKIND head n).setFlag CH_STAT_ARMEDV armed n).setFlag
      CH_STAT_NEXTV next n
  | .CH_HEAD => s.wr (CH_HEAD.addr n) (match (s.ch n).queue with | [] => 0 | e :: _ => e.w1)
  | .CH_PWMLOCK => s.setFlag CH_PWMLOCK_PENDING ((s.ch n).perAt.isSome || (s.ch n).dutyAt.isSome) n
  | .HSK_STAT => s.setFld HSK_STAT_FORCED (s.forced n) n
  | .HSK_REVACC =>
    s.setFld HSK_REVACC_ACC (min 0xFFFFF (s.revOnTime n (s.now * 32) / (2 ^ s.fld HSK_CFG_TUNIT n * 32))) n
  | .PAD_STAT =>
    let seen := if (s.pd n).held.isSome || (s.pd n).cont then Config.freeVal s.free % 2 == 1 else s.padExpect n
    (s.setFlag PAD_STAT_LVLOUT (s.padLevel n) n).setFlag PAD_STAT_LVLIN seen n
  | .CAL_DATA =>
    let busy := match s.cal.job with | some (g, _, _) => g == n / 128 | none => false
    s.wr (CAL_DATA.addr n) (if busy then 0 else tget 0 s.cal.store n)
  | .JRN_HDEC => s.setFld JRN_HDEC_BLEN (s.fld JRN_HREQ_NS)
  | .FCO_ACT => s.wr (FCO_ACT.addr n) (s.actWord n)
  | .JS_STAT =>
    (s.setFld JS_STAT_LEVEL (s.str n).fifo.length n).setFlag JS_STAT_GAPOPEN (s.str n).gap.isSome n
  | .GW_KEY => s.wr (GW_KEY.addr n k) 0
  | _ => s

/-- The word that a register shows: reserved fields and write-only fields read 0 (R11, R13). (DEDUCED: log 21; DESIGN CHOICE: log 22.) -/
def State.shown (s : State) (by_ : Agent) (h : RegHit) (a : Nat) : Word :=
  (s.present by_ h.row.fam h.n h.k).rd a &&& BitVec.ofNat 32 (h.maskOf fun f => f.acc != .wo)

/-- A latched word of an initiator, or the current one (R28). -/
def State.latched (s : State) (by_ : Agent) (h : RegHit) (a : Nat) : Word :=
  (tget none s.rdLatch (latchKey by_ a)).getD (s.shown by_ h a)

/-- Read the host queue of a port (R328): one word of its first frame, whose place in the word the spec does not give; the frame leaves with its last
word. An empty queue reads 0. (DESIGN CHOICE: log 22, 49.) -/
def State.hqRead (s : State) (p : Nat) : State :=
  match tget [] s.links.hq p with
  | [] => s.busOk 0
  | fr :: rest =>
    let (v, s) := s.fresh 32
    let n := tget 0 s.links.hqRead p + 1
    if 4 * n < fr.length then ({ s with links := { s.links with hqRead := tput 0 s.links.hqRead p n } }).busOk v
    else
      ({ s with links := { s.links with hq := tput [] s.links.hq p rest, hqRead := tput 0 s.links.hqRead p 0 } }).busOk v

/-- What a read answers of RC fields (R11): of a field that the hardware has changed in this TCLK, what stood in it before. -/
def RegHit.readRc (h : RegHit) (base old : Word) : Word :=
  let m := BitVec.ofNat 32 (h.maskOf fun f => f.acc == .rc)
  (old &&& ~~~m) ||| (base &&& m)

/-- A word once its RC fields have been read (R11): what the hardware has added in this TCLK is kept for the next read. A peak that has risen stands whole. -/
def RegHit.keptRc (h : RegHit) (base old : Word) : Word :=
  (h.row.fields.filter (·.acc == .rc)).foldl (fun w f =>
    let o := bitsOf old f.lo f.len
    let b := bitsOf base f.lo f.len
    setBits w f.lo f.len (if o ≤ b then 0 else if h.row.fam == .PAD_ISENSE || (h.row.fam == .GW_URGSTAT && f.lo == 0) then o else o - b)) old

/-- What a read leaves in a register with RC fields (R11): SCH_POOL.LOW takes the current FREE, and a read of CTXsss_STAT ends the holds of R317. -/
def State.readClear (s : State) (h : RegHit) (a : Nat) : State :=
  let m := BitVec.ofNat 32 (h.maskOf fun f => f.acc == .rc)
  let s := (s.wr a (h.keptRc (s.baseRd a) (s.rd a))).baseWr a (s.baseRd a &&& ~~~m)
  match h.row.fam with
  | .SCH_POOL => s.setFld SCH_POOL_LOW (s.fld SCH_POOL_FREE)
  | .CTX_STAT => s.setGx h.n { s.gx h.n with authHeld := false, repHeld := false, refHeld := false }
  | _ => s

/-- A plain read: the word shown, then cleared where it is RC. The low half of a 64-bit register latches its high half (R28). (DEDUCED: log 21.) -/
def State.plainRead (s : State) (by_ : Agent) (h : RegHit) (a : Nat) : State :=
  if h.row.wide then
    if h.half = 0 then
      let hi := s.shown by_ { h with half := 1 } (a + 4)
      { s with rdLatch := tput none s.rdLatch (latchKey by_ (a + 4)) (some hi) }.busOk (s.shown by_ h a).toNat
    else s.busOk (s.latched by_ h a).toNat
  else
    let v := s.shown by_ h a
    if h.row.fields.any (·.acc == .rc) then
      (s.readClear h a).busOk (if h.row.fam = .SCH_POOL then v else h.readRc (s.baseRd a) v).toNat
    else s.busOk v.toNat

/-- A read of the register at a that has passed its checks: the data and everything the read does. -/
def State.regRead (s : State) (by_ : Agent) (h : RegHit) (a : Nat) : State :=
  let n := h.n
  let k := h.k
  match h.row.fam with
  | .FCO_LOG => if n = 0 then s.fcoLogRead by_ else s.busOk (s.latched by_ h a).toNat
  | .ACN_LOG => if n = 0 then s.acnLogRead by_ else s.busOk (s.latched by_ h a).toNat
  | .ADC_RES => if k = 0 then s.resRead (initNo by_) n else s.busOk (s.latched by_ h a).toNat
  | .KNK_RES => s.knkRead n
  | .PSQ_RXQ => s.rxRead n
  | .TRK_TREC => if h.half = 0 then s.trecRead by_ n else s.busOk (s.latched by_ h a).toNat
  | .TRK_CAMPOS => s.latchRead by_ (TRK_CAMPOS.addr n k) [TRK_CAMTB.addr n k]
  | .TMR_CAP => s.capRead by_ n
  | .CH_RPT0 => s.latchRead by_ (CH_RPT0.addr n) [CH_RPT1.addr n, CH_RPT2.addr n, CH_RPT3.addr n]
  | .HSK_LAST => s.latchRead by_ (HSK_LAST.addr n) [HSK_LASTAW.addr n, HSK_LASTTB.addr n]
  | .TRK_CAMTB | .TMR_CAPTB | .TMR_CAPPREV | .CH_RPT1 | .CH_RPT2 | .CH_RPT3 | .HSK_LASTAW | .HSK_LASTTB =>
    s.busOk (s.latched by_ h a).toNat
  | .IRT_CPCLAIM => s.claimRead n
  | .ETH_HQ => s.hqRead n
  | .CAN_DATA =>
    if tget [] s.links.can n = [] then s.plainRead by_ h a
    else
      let (v, s) := s.fresh 32
      s.busOk v
  | .PAD_STAT => (s.busOk (s.shown by_ h a).toNat).when ((s.pd n).held.isSome || (s.pd n).cont) fun s => { s with free := s.free + 1 }
  | _ => s.plainRead by_ h a

/-- A read of an address of the register space that has passed its checks (R13): a reserved offset reads 0. -/
def State.addrRead (s : State) (by_ : Agent) (a : Nat) : State :=
  match lookupReg a with
  | none => s.busOk 0
  | some h => s.regRead by_ h a

end Sys2Proof.Machine
end

