-- ==== Sys2Proof/Machine/WriteOps.lean ====
section
/-! DEFINITION. Writes of registers by the access codes of their fields (R11-R13), and the registers whose write does more (chapters 1-15). -/

namespace Sys2Proof.Machine

/-- The bits of the RW fields that a plain write stores (R11): all but those of a field that the hardware has updated in this TCLK, which keeps its value. `base` is
the word that the TCLK found. -/
def RegHit.stores (h : RegHit) (base old : Word) : Word :=
  BitVec.ofNat 32 (h.maskOf fun f => f.acc == .rw && ((old ^^^ base) &&& BitVec.ofNat 32 (f.mask h.half)) == 0)

/-- The bits of the W1C fields that a plain write of v clears (R11): those written as 1, but for those that the hardware has set in this TCLK. -/
def RegHit.clears (h : RegHit) (base v : Word) : Word := BitVec.ofNat 32 (h.maskOf fun f => f.acc == .w1c) &&& v &&& base

/-- The word w of a register that held `old` after a plain write (R11): RW fields take the value, W1C fields lose the bits written as 1, everything else stays. -/
def RegHit.written (h : RegHit) (base old v w : Word) : Word :=
  (w &&& ~~~(h.stores base old ||| h.clears base v)) ||| (v &&& h.stores base old)

/-- The interrupt block that an enable or status register belongs to. -/
def intBlkOf : Fam → Option IntBlk
  | .SYS_INTEN | .SYS_INTST => some .sys
  | .FCO_INTEN | .FCO_INTST => some .fco
  | .TRK_INTEN | .TRK_INTST => some .trk
  | .ENC_INTEN | .ENC_INTST => some .enc
  | .CH_INTEN | .CH_INTST => some .ch
  | .PADG_INTEN | .PADG_INTST => some .padg
  | .ADC_INTEN | .ADC_INTST => some .adc
  | .KNK_INTEN | .KNK_INTST => some .knk
  | .PSQ_INTEN | .PSQ_INTST => some .psq
  | .TMR_INTEN | .TMR_INTST => some .tmr
  | .GW_INTEN | .GW_INTST => some .gw
  | .JRN_INTEN | .JRN_INTST => some .jrn
  | .JS_INTEN | .JS_INTST => some .js
  | _ => none

/-- A plain write; a line that rises with it fires its source (R298). -/
def State.plainWrite (s : State) (h : RegHit) (a : Nat) (v : Word) : State :=
  let b := s.baseRd a
  let o := s.rd a
  let s' := (s.wr a (h.written b o v o)).baseWr a (h.written b o v b)
  match intBlkOf h.row.fam with
  | some b => s'.fireRises s (s.sources b h.n)
  | none => s'

/-- A write of MK_FIREDk (R102): a bit clears where the owner of its mark is granted, or the mark has none. -/
def State.firedWrite (s : State) (by_ : Agent) (k : Nat) (v : Word) : State :=
  s.each ((List.range 32).filter fun j => bitsOf v j 1 == 1 &&
      (s.fld MK_CFG_OWNKIND (32 * k + j) == 3 || (match s.ctxOf by_ with | some x => s.grantMark x (32 * k + j) | none => false)))
    fun s j => if bitsOf (s.baseRd (MK_FIRED.addr k)) j 1 = 0 then s else
      (s.setBankBit MK_FIRED (32 * k + j) false).baseWr (MK_FIRED.addr k) (setBits (s.baseRd (MK_FIRED.addr k)) j 1 0)

/-- Of a flash region that a program or erase command works on, the bytes are free from then on (R332). (DESIGN CHOICE: log 49.) -/
def State.flashTouch (s : State) (faddr : Nat) : State :=
  let r := flashRegion faddr
  { s with links := { s.links with flashVer := tput 0 s.links.flashVer r (tget 0 s.links.flashVer r + 1) } }

/-- A write of XSP_CMD (R332) with the flash address of the command, which the controller holds: in the slot that supplied the full image in force it ends
DENIED. (DESIGN CHOICE: log 49.) -/
def State.xspWrite (s : State) (v : Word) (faddr : Nat) : State :=
  if s.flag XSP_CMD_GO then s.setFld XSP_CMD_OP (bitsOf v 0 8)
  else
    let s := s.setFld XSP_CMD_OP (bitsOf v 0 8)
    if bitsOf v 8 1 = 0 then s
    else if s.fld IMG_STATUS_SLOT < 2 ∧ flashRegion faddr = s.fld IMG_STATUS_SLOT then s.setFld XSP_CMD_STATUS 3
    else
      let s := (s.setFld XSP_CMD_GO 1).setFld XSP_CMD_STATUS 0
      ({ s with links := { s.links with xsp := some (bitsOf v 0 8, faddr) } }).flashTouch faddr

/-- The 64-bit RW registers: a write of the whole value (R29, R30). -/
def State.wideWrite (s : State) (by_ : Agent) (h : RegHit) (v : Nat) : State :=
  let lo := BitVec.ofNat 32 v
  let hi := BitVec.ofNat 32 (v / 2 ^ 32)
  match h.row.fam with
  | .TB_NTBASE => (s.ntWrite by_ .base false lo).ntWrite by_ .base true hi
  | .TB_NTOFS => (s.ntWrite by_ .ofs false lo).ntWrite by_ .ofs true hi
  | .TB_NTRATE => (s.ntWrite by_ .rate false lo).ntWrite by_ .rate true hi
  | .TB_NTAPPLY => (s.ntWrite by_ .apply false lo).ntWrite by_ .apply true hi
  | .JS_RELC => s.relcWrite h.n v
  | _ => s

/-- A write of half a 64-bit register (R29). -/
def State.halfWrite (s : State) (by_ : Agent) (h : RegHit) (a : Nat) (v : Word) : State :=
  match h.row.fam with
  | .TB_NTBASE => s.ntWrite by_ .base (h.half == 1) v
  | .TB_NTOFS => s.ntWrite by_ .ofs (h.half == 1) v
  | .TB_NTRATE => s.ntWrite by_ .rate (h.half == 1) v
  | .TB_NTAPPLY => s.ntWrite by_ .apply (h.half == 1) v
  | .JS_RELC =>
    if h.half = 0 then s.splitLow by_ a v
    else
      let (x, s) := s.splitHigh by_ (a - 4) (s.rd (a - 4)).toNat v
      s.relcWrite h.n x
  | _ => s

/-- A write of the register at a that has passed its checks. -/
def State.regWrite (s : State) (by_ : Agent) (h : RegHit) (a : Nat) (v : Word) : State :=
  let n := h.n
  let k := h.k
  match h.row.fam with
  | .SYS_RSTCTL => s.rstWrite v
  | .SYS_SLPCTL => s.slpWrite v
  | .SYS_FNMODE => s.fnmode v
  | .SYS_INTST => (s.plainWrite h a v).when (s.acn.log != [] && s.flag SYS_INTST_ACNLOG) fun s => s.setFld SYS_INTST_ACNLOG 1
  | .IMG_DCTL => s.dctlWrite v
  | .IMG_LOADCTL => s.recoveryGo v
  | .FCO_SAFECLR => s.safeClear v
  | .FCO_SRC => s.sevWrite n v
  | .FCO_KICK => s.kick v
  | .FCO_RDEC => s.retryDecision v
  | .FCO_RCLR => s.retireClear v
  | .FCO_PEND =>
    let c := v &&& s.baseRd a &&& ~~~s.actWord n
    (s.wr a (s.rd a &&& ~~~c)).baseWr a (s.baseRd a &&& ~~~c)
  | .IRT_SRC => s.irtSrcWrite n v
  | .IRT_SWSET => s.swSet n v
  | .IRT_SWCLR => s.swClear n v
  | .IRT_CPEOI => s.irtEoi n v
  | .CPC_CPCTL => s.cpCtl n v
  | .TB_NTCFG => s.when (bitsOf v 8 1 == 1) fun s => s.ntArm
  | .TMR_CTRL => s.tmrCtl n v
  | .TMR_CNT => s.tmrCnt n v
  | .TMR_TOP => s.tmrShadow n false v
  | .TMR_CMP => s.tmrShadow n true v
  | .TMR_CFG | .TMR_TRIG => (s.plainWrite h a v).tmrHolds (n / 8)
  | .TMRG_CFG => (s.plainWrite h a v).tmrFreeze
  | .TRK_CMD => s.trkCmd n v
  | .TRK_SYNCASSERT => s.syncAssert n v
  | .TRK_PCMD => s.pcmd n v
  | .TRK_COR => s.corWrite n k v
  | .MK_POS => s.mkPosWrite n v
  | .MK_FIRED => s.firedWrite by_ n v
  | .ENC_POS => s.encPosWrite n v
  | .CH_EVT => if k = 3 then s.commitEvent by_ n v else s.stageWord (initNo by_) n k v
  | .CH_CMD => s.chCmd n v
  | .CH_PWMPER => s.pwmShadow n false v
  | .CH_PWMDUTY => s.pwmShadow n true v
  | .CH_PWMLOCK => s.pwmLock n v
  | .CH_INJDLY => s.injdly n v
  | .HSK_FORCE => s.huskForce n v
  | .PAD_TEST => s.padTestWrite n v
  | .TDAC_CTRL => s.tdacWrite v
  | .ADC_IN => s.gainWrite n v
  | .ADC_SEQ0 => if s.seqForeign n v then s.busErr else if s.fld ADC_CTRL_STATE n = 0 then s.plainWrite h a v else s
  | .ADC_SEQ1 | .ADC_TSEL => if s.fld ADC_CTRL_STATE n = 0 then s.plainWrite h a v else s
  | .ADC_CFG => if s.fld ADC_CTRL_STATE n = 0 then s.plainWrite h a v else s.plainWrite h a (setBits v ADC_CFG_TMODE.lo 1 (s.fld ADC_CFG_TMODE n))
  | .PSQ_TSEL => if s.fld PSQ_STAT_STATE n = 0 then s.plainWrite h a v else s
  | .ADC_CTRL => s.adcCtl n v
  | .ADC_URG => s.urgWrite n v
  | .ADC_CALDEC => s.when (bitsOf v 0 1 == 1) fun s => s.calCommit n
  | .PSQ_CTRL => s.pqCtl n v
  | .PSQ_TXQ => s.txWrite n v
  | .CAL_CTL => s.calCtl ((s.ctxOf by_).getD noOrigin) v
  | .CAL_WCRC | .CAL_WBUF => s.calBuf a v
  | .ACN_CTL => s.acnCtl v
  | .JRN_HDEC => s.hdecWrite v
  | .JRN_HBUF | .ETH_SAK => s.wr a v
  | .JS_CTRL => s.jsCtrl n v
  | .XSP_CMD =>
    let (f, s) := s.fresh 28
    s.xspWrite v f
  | _ => if h.row.wide then s.halfWrite by_ h a v else s.plainWrite h a v

/-- A write of an address of the register space that has passed its checks (R12, R13): one to a reserved offset, or to a register without a writable field, changes
nothing. -/
def State.addrWrite (s : State) (by_ : Agent) (a : Nat) (v : Word) : State :=
  match lookupReg a with
  | none => s
  | some h => if h.row.readOnly then s else s.regWrite by_ h a v

end Sys2Proof.Machine
end

