-- ==== Sys2Proof/Machine/BusOps.lean ====
section
/-! DEFINITION. The address map and bus accesses of every size (R26, R27, R30, R38, R67, R280-R282). -/

namespace Sys2Proof.Machine

/-- The memories below 0x4000_0000. -/
inductive Mem where
  | rom
  | tcm (n : Nat)
  | sram
  | flash
  deriving DecidableEq, Repr

/-- Bytes of an access. -/
def sizeBytes : Size → Nat
  | .b8 => 1
  | .b16 => 2
  | .b32 => 4
  | .b64 => 8

/-- The permissions of pair n on page p of the system SRAM (R281). (DEDUCED: log 17.) -/
def State.pageOk (s : State) (n p : Nat) (write : Bool) : Bool :=
  bitsOf (s.rd (CPC_PART.addr (p / 4))) (8 * (p % 4) + if write then 4 else 0) 4 / 2 ^ n % 2 == 1

/-- The memory that an initiator reaches at an address for a read or a write (R38, R67, R281); none where the access ends in a bus error.
(DEDUCED: log 17, 20.) -/
def State.memOf (s : State) (by_ : Agent) (a : Nat) (write : Bool) : Option Mem :=
  let st := s.fld IMG_STATUS_STATE
  let staging := decide (stageBase ≤ a) && decide (a < 0x20800000)
  match by_ with
  | .cp n =>
    if st = 2 ∨ (st = 3 ∧ n.val = 0) then
      if a < 0x10000 then (if write then none else some .rom)
      else if 0x10000000 ≤ a ∧ a < 0x10100000 then some (.tcm n.val)
      else if 0x20000000 ≤ a ∧ a < 0x20800000 then
        (if st = 3 then (if staging then some .sram else none)
         else if s.pageOk n.val ((a - 0x20000000) / 65536) write && !staging then some .sram
         else none)
      else if 0x30000000 ≤ a ∧ a < 0x40000000 then
        (if st = 2 ∧ !write ∧ s.flag CPC_CPCFG_XSPEN n.val then some .flash else none)
      else none
    else none
  | .gw x =>
    if st = 2 ∧ write ∧ staging ∧ s.cap x.val capTune ∧ !s.flag IMG_DSTAT_BUSY then some .sram else none
  | .dbg =>
    if st = 2 ∧ write ∧ staging ∧ s.flag CPC_DBGCFG_SBEN ∧ s.cap (s.fld CPC_DBGCFG_CTX) capTune ∧ !s.flag IMG_DSTAT_BUSY then some .sram
    else none
  | .pciHost => if st = 3 ∧ staging then some .sram else none
  | .jrn => none

/-- A byte of a memory. (DESIGN CHOICE: log 7, 10.) -/
def State.memByte (s : State) (m : Mem) (a : Nat) : Nat :=
  match m with
  | .rom => (Config.romByte a).toNat
  | .tcm n => (tget 0 s.tcm (n * 2 ^ 20 + (a - 0x10000000))).toNat
  | .sram => (tget 0 s.sram a).toNat
  | .flash => s.flashAt (a - 0x30000000)

/-- Store a byte of a memory. -/
def State.memStore (s : State) (m : Mem) (a v : Nat) : State :=
  match m with
  | .tcm n => { s with tcm := tput 0 s.tcm (n * 2 ^ 20 + (a - 0x10000000)) (BitVec.ofNat 8 v) }
  | .sram => { s with sram := tput 0 s.sram a (BitVec.ofNat 8 v) }
  | _ => s

/-- Store the bytes of a value, least significant first (R10). (DEDUCED: log 18.) -/
def State.memPut (s : State) (m : Mem) : Nat → Nat → Nat → State
  | 0, _, _ => s
  | k + 1, a, v => (s.memStore m a (v % 256)).memPut m k (a + 1) (v / 256)

/-- The value that n bytes of a memory spell (R10). (DEDUCED: log 18.) -/
def State.memGet (s : State) (m : Mem) (a n : Nat) : Nat := leNat ((List.range n).map fun i => s.memByte m (a + i))

/-- A memory access of a size that the memory accepts, wholly inside what the initiator reaches (R27). (DEDUCED: log 17, 18.) -/
def State.memAt (s : State) (by_ : Agent) (a : Nat) (size : Size) (write : Bool) : Option Mem :=
  match s.memOf by_ a write with
  | none => none
  | some m =>
    let fits := s.memOf by_ (a + sizeBytes size - 1) write == some m
    let wide := match m with | .tcm _ => true | _ => size != .b64
    if fits && wide then some m else none

/-- The address of a register access, where it is aligned and of a size that registers accept (R27, R30): 32 bits, and for the gateway both halves of a 64-bit
register at once. (DEDUCED: log 15.) -/
def regSized (by_ : Agent) (a : Nat) (size : Size) : Bool :=
  match size, by_ with
  | .b32, _ => a % 4 == 0
  | .b64, .gw _ => (match lookupReg a with | some h => h.row.wide && h.half == 0 | none => false)
  | _, _ => false

/-- A read at device address a that has passed the gate (R26, R27). -/
def State.readAt (s : State) (by_ : Agent) (a : Nat) (size : Size) : State :=
    if a < 0x40000000 then
      match s.memAt by_ a size false with
      | some m => s.busOk (s.memGet m a (sizeBytes size))
      | none => s.busErr
    else if !inBlock a || !regSized by_ a size then s.busErr
    else if !s.regAccess by_ a false 0 then s.refuse by_
    else if size = .b64 then
      let s := s.busOk.addrRead by_ a
      let lo := s.bus.data.toNat
      let s := s.addrRead by_ (a + 4)
      s.busOk (lo + s.bus.data.toNat * 2 ^ 32)
    else s.busOk.addrRead by_ a

/-- A read at device address a. -/
def State.devRead (s : State) (by_ : Agent) (a : Nat) (size : Size) : State :=
  s.gate by_ a (sizeBytes size) false fun s => s.readAt by_ a size

/-- A write at device address a that has passed the gate (R26, R27). A write of both halves of a 64-bit register applies them as one (R30). -/
def State.writeAt (s : State) (by_ : Agent) (a : Nat) (size : Size) (v : Nat) : State :=
    if a < 0x40000000 then
      match s.memAt by_ a size true with
      | some m => s.busOk.memPut m (sizeBytes size) a v
      | none => s.busErr
    else if !inBlock a || !regSized by_ a size then s.busErr
    else if !s.regAccess by_ a true (BitVec.ofNat 32 v) then s.refuse by_
    else
      match size, lookupReg a with
      | .b64, some h => if h.row.readOnly then s.busOk else s.busOk.wideWrite by_ h v
      | _, _ => s.busOk.addrWrite by_ a (BitVec.ofNat 32 v)

/-- A write at device address a. -/
def State.devWrite (s : State) (by_ : Agent) (a : Nat) (size : Size) (v : Nat) : State :=
  s.gate by_ a (sizeBytes size) true fun s => s.writeAt by_ a size v

end Sys2Proof.Machine
end

