-- ==== Sys2Proof/Machine/Receive.lean ====
section
/-! DEFINITION. Messages to the gateway: receive checks, replay window, the urgent lane and the command queues (R313-R322, R326, R330). -/

namespace Sys2Proof.Machine

/-- A field of a message, most significant byte first. -/
def msgU (m : List Nat) (o n : Nat) : Nat := beNat ((m.drop o).take n)

/-- The mask of four words at offset o: bit j of word w is bit 32w + j (R316). -/
def msgMask (m : List Nat) (o : Nat) : Nat := ((List.range 4).map fun w => msgU m (o + 4 * w) 4 * 2 ^ (32 * w)).sum

/-- A mask as four words. -/
def maskWords (v : Nat) : List Nat := (List.range 4).map fun w => v / 2 ^ (32 * w) % 2 ^ 32

/-- The channels of a mask. -/
def maskChans (v : Nat) : List Nat := (List.range 128).filter fun c => v / 2 ^ c % 2 == 1

/-! The replay window (R318) -/

/-- A SEQ is accepted. -/
def State.windowOk (s : State) (x seq : Nat) : Bool :=
  let h := s.fld CTX_SEQ x
  h != 0xFFFFFFFF && (decide (h < seq) || (decide (h < seq + 64) && seq != 0 && !((s.gx x).marks.any (·.1 == seq))))

/-- Mark an accepted SEQ with the port that it came by; the window slides. (DEDUCED: log 47.) -/
def State.windowMark (s : State) (x seq port : Nat) : State :=
  let h := max (s.fld CTX_SEQ x) seq
  let g := s.gx x
  (s.setGx x { g with marks := ((seq, port) :: g.marks).filter fun p => decide (h < p.1 + 64) }).setFld CTX_SEQ h x

/-- A replay drop, with its interrupt for the first since CTXsss_STAT was read (R317). (DEDUCED: log 47.) -/
def State.replayDrop (s : State) (x : Nat) : State :=
  let s := (s.bump GW_STAT_REPLAY).bump CTX_STAT_REPLAY x
  let g := s.gx x
  if g.repHeld then s else (s.setGx x { g with repHeld := true }).cause .gw GW_INTST_REPLAY

/-- A refused SEQ (R318): DUPPATH where another port has marked it, REPLAY otherwise. -/
def State.windowDrop (s : State) (x seq port : Nat) : State :=
  match (s.gx x).marks.find? (·.1 == seq) with
  | some (_, p) => if p ≠ port then s.bump CTX_STAT_DUPPATH x else s.replayDrop x
  | none => s.replayDrop x

/-- A wrong tag (R317). -/
def State.authFail (s : State) (x : Nat) : State :=
  let s := (s.bump GW_STAT_AUTHFAIL).bump CTX_STAT_AUTHFAIL x
  let g := s.gx x
  if g.authHeld then s else ((s.setGx x { g with authHeld := true }).raiseFault 136 x).cause .gw GW_INTST_AUTH

/-! The urgent lane (R322) -/

/-- A CUT: the cut latches of the granted channels of its mask, and a COMPLETION that lists the others. How long the lane took is free.
(DEDUCED: log 46, 47.) -/
def State.urgentCut (s : State) (x token port : Nat) (body : List Nat) : State :=
  if body.length ≠ 16 then s.gwRefuse x token port sBadFormat cUrgent
  else if !s.cap x capCut then s.gwRefuse x token port sNoCap cUrgent
  else
    let m := msgMask body 0
    let cut := (maskChans m).filter (s.grantCh x)
    let left := cut.foldl (fun v c => setBitNat v c false) m
    let s := s.each cut fun s c => s.cutChan c
    let (lat, s) := s.fresh 16
    let s := s.setFld GW_URGSTAT_MAXLAT (max (s.fld GW_URGSTAT_MAXLAT) lat)
    let s := s.when (cut != []) fun s => (s.bump GW_URGSTAT_CUTS).cause .gw GW_INTST_URGENT
    s.gwComplete x token port (if left = 0 then sOk else sNoGrant) cUrgent 0 (maskWords left)

/-! The ordinary path -/

/-- The type is offered on the path (R320, R326). (DEDUCED: log 46.) -/
def typeOk (ty port : Nat) (body : List Nat) : Bool :=
  decide (1 ≤ ty) && decide (ty ≤ 8) && !(ty == dSubscribe && port == 2 && body.length == 20 && decide (body.getD 0 0 < 2))

/-- The body matches its type (R316). (DEDUCED: log 46.) -/
def bodyOk (ty : Nat) (b : List Nat) : Bool :=
  let n := b.length
  if ty == dSubmit then decide (1 ≤ b.getD 2 0) && decide (b.getD 2 0 ≤ 8) && n == 4 + 16 * b.getD 2 0
  else if ty == dUncut then n == 16
  else if ty == dFlush then n == 4
  else if ty == dRead then n == 8 && decide (1 ≤ b.getD 4 0) && decide (b.getD 4 0 ≤ 8)
  else if ty == dWrite then decide (1 ≤ b.getD 4 0) && decide (b.getD 4 0 ≤ 64) && n == 8 + 4 * b.getD 4 0
  else if ty == dSubscribe then
    n == 20 && (decide (b.getD 0 0 < 2) || (b.getD 0 0 == 2 && decide (msgMask b 4 < 256)))
  else n == 0

/-- The capability that a type needs (R316, R326); READ and WRITE are checked register by register. (DEDUCED: log 46.) -/
def State.typeCap (s : State) (x ty : Nat) (b : List Nat) : Bool :=
  if ty == dSubmit || ty == dFlush then s.cap x capSubmit
  else if ty == dUncut then s.cap x capCut
  else if ty == dSubscribe then s.cap x (match b.getD 0 0 with | 0 => capObsMeas | 1 => capObsAngle | _ => capCfgMode)
  else if ty == dEcho then s.anyCap x
  else true

/-- CHAN, or the mask of a SUBSCRIBE, lies inside the grant sets (R317, R326). (DEDUCED: log 46.) -/
def State.typeGrant (s : State) (x ty : Nat) (b : List Nat) : Bool :=
  if ty == dSubmit || ty == dFlush then decide (msgU b 0 2 < 128) && s.grantCh x (msgU b 0 2)
  else if ty == dSubscribe then
    let on := maskChans (msgMask b 4)
    match b.getD 0 0 with
    | 0 => on.all fun j => decide (j < 64) && s.grantAdc x j
    | 1 => on.all fun n => decide (n < 6) && (s.boundChans n).any (s.grantCh x)
    | _ => true
  else true

/-- The tokens that a message costs, from the MSG and the EVT bucket, in 1/256 (R313). -/
def evtCost (ty : Nat) (b : List Nat) : Nat := if ty == dSubmit then 256 * b.getD 2 0 else 0

/-- A message of the ordinary path (R317, R319): only an accepted one, queued or answered from the ring, costs tokens (R313). (DEDUCED: log 46.) -/
def State.ordinary (s : State) (x ty token port : Nat) (b : List Nat) : State :=
  let g := s.gx x
  if !typeOk ty port b then s.gwRefuse x token port sBadType 0
  else if token = 0 ∨ !bodyOk ty b then s.gwRefuse x token port sBadFormat 0
  else if !s.typeCap x ty b then s.gwRefuse x token port sNoCap 0
  else if !s.typeGrant x ty b then s.gwRefuse x token port sNoGrant 0
  else if g.mtok < 256 ∨ g.etok < evtCost ty b then s.gwRefuse x token port sQuota 0
  else if g.queue.any (·.token == token) then s.gwRefuse x token port sInProgress 0
  else
    let paid := { g with mtok := g.mtok - 256, etok := g.etok - evtCost ty b }
    match g.ring.find? (·.1 == token) with
    | some (_, t, body) => (s.setGx x paid).gwSend x t token port (body.set 1 (body.getD 1 0 ||| cDup))
    | none =>
      if 64 ≤ g.queue.length then s.gwRefuse x token port sQueueFull 0
      else (s.setGx x { paid with queue := g.queue ++ [⟨token, ty, b, port, false, []⟩] }).cmdLevel x

/-- A received message (R317): `port` is 0 or 1 for Ethernet and 2 for PCIe, `peer` the sender's address. (DEDUCED: log 46.) -/
def State.gwReceive (s : State) (port : Nat) (peer : Option (Nat × Nat)) (m : List Nat) : State :=
  let len := msgU m 6 2
  let x := msgU m 4 2
  let ty := m.getD 2 0
  let seq := msgU m 8 4
  let token := msgU m 12 4
  let body := (m.drop 16).take len
  if !s.flag GW_CFG_EN then s
  else if m.length < 32 ∨ m.getD 0 0 ≠ 0xD7 ∨ m.getD 1 0 ≠ 1 ∨ len % 4 ≠ 0 ∨ 1024 < len ∨ m.length ≠ 32 + len then s.bump GW_STAT_FORMAT
  else if x < 4 ∨ 512 ≤ x ∨ !s.flag CTX_CAP_EN x ∨ !(if port < 2 then s.pathUdp x else s.pathPcie x) then s.bump GW_STAT_NOCTX
  else
    match (s.gx x).key with
    | none => s.bump GW_STAT_NOCTX
    | some key =>
      if 128 ≤ ty then s.bump GW_STAT_FORMAT
      else if (hmac256 (beBytes 32 key) (m.take (16 + len))).take 16 ≠ m.drop (16 + len) then s.authFail x
      else if !s.windowOk x seq then s.windowDrop x seq port
      else
        let s := s.windowMark x seq port
        let g := s.gx x
        let s := s.setGx x { g with port := if port < 2 then port else g.port, peer := match peer with | some p => tput (0, 0) g.peer port p | none => g.peer }
        if ty = dCut then s.urgentCut x token port body else s.ordinary x ty token port body

/-- An Ethernet port carries frames: in use, its link up, and the image loaded (R56, R333). -/
def State.ethUp (s : State) (p : Nat) : Bool :=
  s.fld IMG_STATUS_STATE == 2 && s.flag ETH_CFG_EN p && s.fld ETH_CFG_LINK p != 0

/-- The page of a context answers (R329). -/
def State.pageLive (s : State) (x : Nat) : Bool :=
  s.fld IMG_STATUS_STATE == 2 && s.flag SYS_PWRSTAT_VSER && decide (4 ≤ x) && decide (x < 512) && s.flag CTX_CAP_EN x && s.pathPcie x

/-- A DOORBELL write (R330): while the gateway holds the message of a doorbell of the same TCLK it is ignored and counted. -/
def State.ring (s : State) (x : Nat) (m : List Nat) : State :=
  if !s.pageLive x then s
  else if (s.gx x).heldAt = some s.now then s.bump CTX_STAT_REFUSED x
  else (s.setGx x { s.gx x with heldAt := some s.now }).gwReceive 2 none m

/-- The message buffer of a page, its first n bytes. -/
def State.pageBuf (s : State) (x n : Nat) : List Nat := (List.range n).map fun i => tget 0 (s.gx x).buf i

/-- A message that arrives by a path. (DESIGN CHOICE: log 48.) -/
def State.arrive (s : State) (p : Path) (x : Nat) (m : List Nat) : State :=
  match p with
  | .eth port ip udp => if s.ethUp port.val then s.gwReceive port.val (some (ip.toNat, udp.toNat)) m else s
  | .pcie => s.ring x m

/-- The bytes of a message that a tenant sends (R314, R316). -/
def tenantMsg (h : DtpHeader) (ty : Nat) (body : List Nat) : List Nat :=
  [0xD7, 1, ty, 0] ++ beBytes 2 h.ctx.toNat ++ beBytes 2 body.length ++ beBytes 4 h.seq.toNat ++ beBytes 4 h.token.toNat ++ body
    ++ beBytes 16 h.tag.toNat

/-- Body layouts (R316). -/
def bodySubmit (chan : Nat) (evs : List EventWords) : List Nat :=
  beBytes 2 chan ++ [evs.length % 256, 0] ++ evs.flatMap fun e => [e.w0, e.w1, e.w2, e.w3].flatMap fun w => beBytes 4 w.toNat
def bodyMask (m : Nat) : List Nat := (maskWords m).flatMap (beBytes 4)
def bodyFlush (chan ctl : Nat) : List Nat := beBytes 2 chan ++ [ctl, 0]
def bodyRead (addr count : Nat) : List Nat := beBytes 4 addr ++ [count, 0, 0, 0]
def bodyWrite (addr : Nat) (ws : List Word) : List Nat :=
  beBytes 4 addr ++ [ws.length % 256, 0, 0, 0] ++ ws.flatMap fun w => beBytes 4 w.toNat
def bodySubscribe (kind period mask : Nat) : List Nat := [kind, 0] ++ beBytes 2 period ++ bodyMask mask

/-- A tenant's message of a type arrives. -/
def State.tenant (s : State) (p : Path) (h : DtpHeader) (ty : Nat) (body : List Nat) : State :=
  s.arrive p h.ctx.toNat (tenantMsg h ty body)

end Sys2Proof.Machine
end

