-- ==== Sys2Proof/Machine/Execute.lean ====
section
/-! DEFINITION. What the gateway does with a queued operation (R321, R326), the PCIe pages (R329, R330), and the links (R327, R331, R332). -/

namespace Sys2Proof.Machine

/-- The low half of a 64-bit register, whose high half comes next (R30). -/
def pairAt (a : Nat) : Bool := match lookupReg a with | some h => h.row.wide && h.half == 0 | none => false

/-- The reads of a READ, in ascending address (R321): the words read, and the item that ended in a bus error. (DEDUCED: log 18.) -/
def State.opRead (s : State) (x : Fin 512) : Nat → Nat → Nat → List Nat → State × Option Nat × List Nat
  | 0, _, _, acc => (s, none, acc)
  | fuel + 1, a, left, acc =>
    if left = 0 then (s, none, acc)
    else
      let two := decide (2 ≤ left) && pairAt a
      let s := s.devRead (.gw x) a (if two then .b64 else .b32)
      let v := s.bus.data.toNat
      if s.bus.err then (s, some acc.length, acc)
      else if two then s.opRead x fuel (a + 8) (left - 2) (acc ++ [v % 2 ^ 32, v / 2 ^ 32])
      else s.opRead x fuel (a + 4) (left - 1) (acc ++ [v % 2 ^ 32])

/-- The writes of a WRITE (R321): the item that ended in a bus error. (DEDUCED: log 18.) -/
def State.opWrite (s : State) (x : Fin 512) (a i : Nat) : List Nat → State × Option Nat
  | [] => (s, none)
  | [v] =>
    let s := s.devWrite (.gw x) a .b32 v
    (s, if s.bus.err then some i else none)
  | v :: w :: l =>
    if pairAt a then
      let s := s.devWrite (.gw x) a .b64 (v + w * 2 ^ 32)
      if s.bus.err then (s, some i) else s.opWrite x (a + 8) (i + 2) l
    else
      let s := s.devWrite (.gw x) a .b32 v
      if s.bus.err then (s, some i) else s.opWrite x (a + 4) (i + 1) (w :: l)

/-- The words of a body from offset o. -/
def bodyWords (b : List Nat) (o n : Nat) : List Nat := (List.range n).map fun i => msgU b (o + 4 * i) 4

/-- One event of a SUBMIT enters the channel window as one item (R140, R321). -/
def State.submitItem (s : State) (x c : Nat) (ws : List Nat) : State :=
  let w (i : Nat) : Word := BitVec.ofNat 32 (ws.getD i 0)
  let e : Ev := { w0 := w 0, w1 := w 1, w2 := w 2, w3 := w 3, ctx := x, late := false, delayed := false, at_ := 0 }
  let k := s.ch c
  let s := s.setCh c { k with inbox := k.inbox ++ [⟨e, true, 4, s.now, true⟩], ist := tput 0 k.ist 4 (istatWord true 0 e.tag 0) }
  s.switchInst fnInjdly c

/-- A subscription (R326): an empty mask ends it. -/
def State.subscribe (s : State) (x kind period mask : Nat) : State :=
  let g := s.gx x
  let sub := tput (0, 0) g.sub kind (if mask = 0 then (0, 0) else (period, mask))
  let g := { g with sub := sub }
  s.setGx x (if kind = 1 then { g with trkAt := s.now } else if kind = 0 && mask == 0 then { g with pubQ := [] } else g)

/-- The operation at the head of a context's queue is served (R321). -/
def State.gwExecute (s : State) (x : Fin 512) : State :=
  match (s.gx x).queue with
  | [] => s
  | o :: rest =>
    let b := o.body
    if o.run then s
    else if o.ty = dSubmit then
      let s := s.setGx x { s.gx x with queue := { o with run := true } :: rest }
      s.each (List.range (b.getD 2 0)) fun s i => s.submitItem x (msgU b 0 2) (bodyWords b (4 + 16 * i) 4)
    else if o.ty = dRead then
      let (s, e, ws) := s.opRead x 8 (msgU b 0 4) (b.getD 4 0) []
      match e with
      | none => s.gwFinish x o sOk 0 ws
      | some i => s.gwFinish x o sBusError i ws
    else if o.ty = dWrite then
      let (s, e) := s.opWrite x (msgU b 0 4) 0 (bodyWords b 8 (b.getD 4 0))
      match e with
      | none => s.gwFinish x o sOk 0 []
      | some i => s.gwFinish x o sBusError i []
    else if o.ty = dFlush then
      let s := s.devWrite (.gw x) (CH_CMD.addr (msgU b 0 2)) .b32 (1 + 2 * (b.getD 2 0 % 2))
      s.gwFinish x o (if s.bus.err then sBusError else sOk) 0 []
    else if o.ty = dUncut then
      let m := msgMask b 0
      let un := (maskChans m).filter (s.grantCh x)
      let left := un.foldl (fun v c => setBitNat v c false) m
      let s := s.each un fun s c => s.uncutChan c
      s.gwFinish x o (if left = 0 then sOk else sNoGrant) 0 (maskWords left)
    else if o.ty = dSubscribe then
      (s.subscribe x (b.getD 0 0) (msgU b 2 2) (msgMask b 4)).gwFinish x o sOk 0 []
    else s.gwFinish x o sOk 0 []

/-- A PUBLISH that is due (R325): 48 waiting results or PERIOD after the first of them; of kind 1 every PERIOD, at least 100 µs. -/
def State.publishDue (s : State) (x kind : Nat) : State :=
  let g := s.gx x
  if kind = 0 then
    if g.pubQ ≠ [] ∧ (48 ≤ g.pubQ.length ∨ g.pubAt + subPeriod g 0 * usTclk ≤ s.now) then s.gwPublish x else s
  else if subMask g 1 ≠ 0 ∧ g.trkAt + max 100 (subPeriod g 1) * usTclk ≤ s.now then s.gwTrackers x
  else s

/-- Every bucket gains RATE/256 tokens, up to BURST (R313). (DESIGN CHOICE: log 48.) -/
def State.refill (s : State) : State :=
  s.each ((List.range 508).map (4 + ·)) fun s x =>
    let g := s.gx x
    s.setGx x { g with mtok := min (256 * s.fld CTX_MQUOTA_BURST x) (g.mtok + s.fld CTX_MQUOTA_RATE x),
                       etok := min (256 * s.fld CTX_EQUOTA_BURST x) (g.etok + s.fld CTX_EQUOTA_RATE x) }

/-! BAR0 (R57, R329) -/

/-- A byte of a context's page: RINGPI and the completion ring; the message buffer is write-only. -/
def State.pageByte (s : State) (x off : Nat) : Nat :=
  let g := s.gx x
  if 0x804 ≤ off ∧ off < 0x808 then g.pageN / 256 ^ (off - 0x804) % 256
  else if 0x2000 ≤ off then
    let i := (off - 0x2000) / 128
    let d := (g.pageN + 63 - i % 64) % 64
    if d < g.page.length then (g.page.getD (g.page.length - 1 - d) []).getD ((off - 0x2000) % 128) 0 else 0
  else 0

/-- A read through BAR0 at an offset. (DEDUCED: log 60.) -/
def State.barRead (s : State) (off : Nat) (size : Size) : State :=
  if s.pwr ≠ .run then s
  else if s.fld IMG_STATUS_STATE = 3 then
    if off < 0x100000 then s.devRead .pciHost (stageBase + off) size
    else if off < 0x100100 then s.devRead .pciHost (0x40010000 + (off - 0x100000)) size
    else s.busOk
  else if s.pageLive (off / 0x4000) then
    s.busOk (leNat ((List.range (sizeBytes size)).map fun i => s.pageByte (off / 0x4000) (off % 0x4000 + i)))
  else if s.fld IMG_STATUS_STATE = 2 then s.busOk
  else s.busErr

/-- A write through BAR0 at an offset: the message buffer and the DOORBELL. (DEDUCED: log 60.) -/
def State.barWrite (s : State) (off : Nat) (size : Size) (v : Nat) : State :=
  if s.pwr ≠ .run then s
  else if s.fld IMG_STATUS_STATE = 3 then
    if off < 0x100000 then s.devWrite .pciHost (stageBase + off) size v
    else if off < 0x100100 then s.devWrite .pciHost (0x40010000 + (off - 0x100000)) size v
    else s.busOk
  else if s.pageLive (off / 0x4000) then
    let x := off / 0x4000
    let o := off % 0x4000
    if o + sizeBytes size ≤ 0x800 then
      let ps := (List.range (sizeBytes size)).zip (leBytes (sizeBytes size) v)
      (s.setGx x { s.gx x with buf := ps.foldl (fun t p => tput 0 t (o + p.1) p.2) (s.gx x).buf }).busOk
    else if o = 0x800 ∧ size = .b32 then (s.ring x (s.pageBuf x (min v 0x800))).busOk
    else s.busOk
  else if s.fld IMG_STATUS_STATE = 2 then s.busOk
  else s.busErr

/-! Links -/

/-- A frame that is not DTP enters the host queue of its port (R327, R328). -/
def State.hostFrame (s : State) (p : Nat) (fr : List Nat) : State :=
  let q := tget [] s.links.hq p
  if !s.ethUp p then s
  else if 2000 < fr.length then s.bump ETH_CNT_OVERSIZE p
  else if 32 ≤ q.length then s.bump ETH_CNT_HQDROP p
  else { s with links := { s.links with hq := tput [] s.links.hq p (q ++ [fr]) } }

/-- A frame that a CAN controller in use receives (R331): whether its acceptance filters take it the spec leaves to the controller's data; a full FIFO
takes none. An XL frame needs XLEN. (DESIGN CHOICE: log 49.) -/
def State.canFrame (s : State) (n id : Nat) (data : List Nat) : State :=
  let q := tget [] s.links.can n
  if s.fld IMG_STATUS_STATE ≠ 2 ∨ !s.flag CAN_CFG_EN n ∨ (64 < data.length ∧ !s.flag CAN_CFG_XLEN n) then s
  else
    let (ok, s) := s.fresh 1
    if ok = 1 ∧ q.length < 64 then { s with links := { s.links with can := tput [] s.links.can n (q ++ [(id, data, s.now)]) } } else s

/-- A link goes down or comes up (R333, R348). Ethernet: `code` is the LINK code. PCIe: `up` says whether outbound writes are carried, `code` is the
speed code; the width code is free. While VSER is low both stay in reset (R376). (DESIGN CHOICE: log 49.) -/
def State.linkChange (s : State) (link : Link) (up : Bool) (code : Nat) : State :=
  match link with
  | .eth p =>
    if up then (if s.flag SYS_PWRSTAT_VSER && decide (1 ≤ code) && decide (code ≤ 4) then s.setFld ETH_CFG_LINK code p else s)
    else s.setFld ETH_CFG_LINK 0 p
  | .pci =>
    if up && !s.flag SYS_PWRSTAT_VSER then s
    else
      let (w, s) := s.fresh 2
      let s := (s.setFld PCI_STAT_SPEED (if s.flag SYS_PWRSTAT_VSER then code else 0)).setFld PCI_STAT_WIDTH
        (if s.flag SYS_PWRSTAT_VSER && code != 0 then w else 0)
      { s with links := { s.links with pciUp := up } }
  | .can _ => s

/-- The running flash command ends (R332). (DESIGN CHOICE: log 49.) -/
def State.xspDone (s : State) (ok : Bool) : State :=
  match s.links.xsp with
  | none => s
  | some (_, f) =>
    let s := (s.setFld XSP_CMD_GO 0).setFld XSP_CMD_STATUS (if ok then 1 else 2)
    ({ s with links := { s.links with xsp := none } }).flashTouch f

end Sys2Proof.Machine
end

