-- ==== Sys2Proof/Machine/Gateway.lean ====
section
/-! DEFINITION. The commands of the tenant gateway and the links (chapter 11). -/

namespace Sys2Proof.Machine

/-- DTP_SUBMIT (R316, R317). -/
def execDtpSubmit (p : Path) (h : DtpHeader) (chan : BitVec 16) (evs : List EventWords) (s : State) :
    Host.Outcome State Fault Refusal :=
  whenAwake s <| done (s.tenant p h dSubmit (bodySubmit chan.toNat evs))

/-- DTP_CUT (R322). -/
def execDtpCut (p : Path) (h : DtpHeader) (mask : BitVec 128) (s : State) : Host.Outcome State Fault Refusal :=
  whenAwake s <| done (s.tenant p h dCut (bodyMask mask.toNat))

/-- DTP_UNCUT (R316, R317). -/
def execDtpUncut (p : Path) (h : DtpHeader) (mask : BitVec 128) (s : State) : Host.Outcome State Fault Refusal :=
  whenAwake s <| done (s.tenant p h dUncut (bodyMask mask.toNat))

/-- DTP_FLUSH (R316, R317). -/
def execDtpFlush (p : Path) (h : DtpHeader) (chan : BitVec 16) (ctl : Byte) (s : State) : Host.Outcome State Fault Refusal :=
  whenAwake s <| done (s.tenant p h dFlush (bodyFlush chan.toNat ctl.toNat))

/-- DTP_READ (R316, R317). -/
def execDtpRead (p : Path) (h : DtpHeader) (addr : Word) (count : Byte) (s : State) : Host.Outcome State Fault Refusal :=
  whenAwake s <| done (s.tenant p h dRead (bodyRead addr.toNat count.toNat))

/-- DTP_WRITE (R316, R317). -/
def execDtpWrite (p : Path) (h : DtpHeader) (addr : Word) (ws : List Word) (s : State) : Host.Outcome State Fault Refusal :=
  whenAwake s <| done (s.tenant p h dWrite (bodyWrite addr.toNat ws))

/-- DTP_SUBSCRIBE (R317, R326). -/
def execDtpSubscribe (p : Path) (h : DtpHeader) (kind : Byte) (period : BitVec 16) (mask : BitVec 128) (s : State) :
    Host.Outcome State Fault Refusal :=
  whenAwake s <| done (s.tenant p h dSubscribe (bodySubscribe kind.toNat period.toNat mask.toNat))

/-- DTP_ECHO (R316, R317). -/
def execDtpEcho (p : Path) (h : DtpHeader) (s : State) : Host.Outcome State Fault Refusal :=
  whenAwake s <| done (s.tenant p h dEcho [])

/-- DTP_DROPPED_MESSAGE (R317): any bytes that arrive as a message; by PCIe the page is that of the context the bytes name. -/
def execDtpDroppedMessage (p : Path) (msg : List Byte) (s : State) : Host.Outcome State Fault Refusal :=
  let m := msg.map (·.toNat)
  whenAwake s <| done (s.arrive p (msgU m 4 2) m)

/-- OPERATION_EXECUTE (R321). (DESIGN CHOICE: log 48.) -/
def execOperationExecute (x : Fin 512) (s : State) : Host.Outcome State Fault Refusal := whenAwake s <| done (s.gwExecute x)

/-- DOORBELL (R330). (DESIGN CHOICE: log 48.) -/
def execDoorbell (x : Fin 512) (len : Nat) (s : State) : Host.Outcome State Fault Refusal :=
  whenAwake s <| done (s.ring x (s.pageBuf x (min len 0x800)))

/-- PUBLISH_SEND (R325). -/
def execPublishSend (x : Fin 512) (kind : Fin 2) (s : State) : Host.Outcome State Fault Refusal := whenAwake s <| done (s.publishDue x kind)

/-- HOST_QUEUE_FRAME (R328). -/
def execHostQueueFrame (port : Fin 2) (frame : List Byte) (s : State) : Host.Outcome State Fault Refusal :=
  whenAwake s <| done (s.hostFrame port (frame.map (·.toNat)))

/-- CAN_BUS_OFF (R331). -/
def execCanBusOff (n : Fin 4) (s : State) : Host.Outcome State Fault Refusal :=
  whenAwake s <| done (if s.fld IMG_STATUS_STATE = 2 ∧ s.flag CAN_CFG_EN n then s.raiseFault (92 + n.val) else s)

/-- CAN_FRAME_RECEIVE (R331). -/
def execCanFrameReceive (n : Fin 4) (id : Word) (payload : List Byte) (s : State) : Host.Outcome State Fault Refusal :=
  whenAwake s <| done (s.canFrame n id.toNat (payload.map (·.toNat)))

/-- XSP_CMD_GO (R332). -/
def execXspCmdGo (by_ : Agent) (v : Word) (faddr : BitVec 28) (s : State) : Host.Outcome State Fault Refusal :=
  done (s.guard by_ XSP_CMD.addr true v fun s => s.xspWrite v faddr.toNat)

/-- XSP_CMD_DONE (R332). -/
def execXspCmdDone (ok : Bool) (s : State) : Host.Outcome State Fault Refusal := whenAwake s <| done (s.xspDone ok)

/-- TOKEN_REFILL (R313). -/
def execTokenRefill (s : State) : Host.Outcome State Fault Refusal := whenAwake s <| done s.refill

/-- LINK_STATE_CHANGE (R333, R348). -/
def execLinkStateChange (link : Link) (up : Bool) (code : BitVec 3) (s : State) : Host.Outcome State Fault Refusal :=
  whenAwake s <| done (s.linkChange link up code.toNat)

end Sys2Proof.Machine
end

