-- ==== Sys2Proof/Machine/CpOps.lean ====
section
/-! DEFINITION. The control processors (chapter 10): exceptions, interrupt entry in both modes, stacking frames, IRET, halts, and the debug port. -/

namespace Sys2Proof.Machine

/-! Frames (R291) -/

/-- The registers of a frame, in its order. -/
def frameRegs : List Nat := [1, 2, 5, 6, 7, 10, 11, 12, 13, 14, 15, 16, 17, 28, 29, 30, 31]

/-- The words of a frame; `sp` is word 0x04. -/
def Core.frame (c : Core) (sp : Word) : List Word :=
  (frameRegs.map fun i => if i = 2 then sp else c.reg i)
    ++ [setBits c.pc 0 1 (if c.user then 1 else 0), c.mstatus, c.mepc]

/-- Bytes of a frame. -/
def frameBytes : Nat := 80

/-- The save area of R293. -/
def saveArea : Nat := 0x100FFF00

/-- Run accesses of CPn as machine-mode accesses. -/
def State.asMachine {α : Type} (s : State) (n : Nat) (f : State → State × α) : State × α :=
  let c := s.core n
  let r := f (s.setCore n { c with user := false, mstatus := setBits c.mstatus 17 1 0 })
  (r.1.setCore n { r.1.core n with user := c.user, mstatus := c.mstatus }, r.2)

/-- Store words from an address up; false where a store faults, which ends it. -/
def State.putWords (s : State) (by_ : Agent) : Nat → List Word → State × Bool
  | _, [] => (s, true)
  | a, w :: l =>
    let s := s.gateRaw by_ a 4 true fun s => s.writeAt by_ a .b32 w.toNat
    if s.bus.err then (s, false) else s.putWords by_ (a + 4) l

/-- Load k words from an address up; the address of the load that faults in place of them. -/
def State.getWords (s : State) (by_ : Agent) : Nat → Nat → List Word → State × Except Nat (List Word)
  | 0, _, acc => (s, .ok acc)
  | k + 1, a, acc =>
    let s := s.gateRaw by_ a 4 false fun s => s.readAt by_ a .b32
    if s.bus.err then (s, .error a) else s.getWords by_ k (a + 4) (acc ++ [BitVec.ofNat 32 s.bus.data.toNat])

/-! Interrupt entry -/

/-- The core's own write of the save area (R293). -/
def State.saveFrame (s : State) (n : Nat) (ws : List Word) : State :=
  s.each (ws.zip (List.range ws.length)) fun s p => s.memPut (.tcm n) 4 (saveArea + 4 * p.2) p.1.toNat

/-- Emergency entry (R293); `sp` is the invalid stack pointer. (DEDUCED: log 42.) -/
def State.emergency (s : State) (n : Nat) (sp : Word) : State :=
  let c := s.core n
  let s := s.saveFrame n (c.frame sp)
  let c := { c.setReg 2 (BitVec.ofNat 32 saveArea) with emerg := true, mstatus := setBits c.mstatus 3 1 0, pc := c.wemvec, user := false }
  (s.putCore n c).raiseFault (18 + 6 * n)

/-- Entry in stacking mode with candidate k (R290). (DEDUCED: log 42.) -/
def State.stackEntry (s : State) (n : Fin 4) (k : Nat) : State :=
  let c := s.core n
  let sp0 := if c.user then c.wmsp else c.reg 2
  let ok := sp0.toNat % 16 == 0 && decide (c.wstklo.toNat + frameBytes ≤ sp0.toNat) && decide (sp0.toNat ≤ c.wstkhi.toNat)
  if !ok then s.emergency n sp0
  else
    let sp := sp0 - BitVec.ofNat 32 frameBytes
    let (s, stored) := s.asMachine n fun s => s.putWords (.cp n) sp.toNat (c.frame (c.reg 2))
    if !stored then s.emergency n sp0
    else
      let s := s.irtClaim n k
      let ms := setBits (setBits c.mstatus 11 2 c.priv) 7 1 (bitsOf c.mstatus 3 1)
      let c := { c.setReg 2 sp with mcause := BitVec.ofNat 32 (2 ^ 31 + 16 + k), mepc := setBits c.pc 0 1 0, mstatus := ms,
                                    user := false, depth := c.depth + 1 }
      let s := s.putCore n c
      let (s, got) := s.asMachine n fun s => s.getWords (.cp n) 1 (c.wvtab.toNat + 4 * k) []
      match got with
      | .ok ws => s.putCore n { s.core n with pc := setBits (ws.getD 0 0) 0 1 0 }
      | .error a => s.accFault n ecLoadFault a

/-- Interrupt entry (R290, R297): CPn, at an instruction boundary, takes its candidate while interrupts are enabled. (DEDUCED: log 42.) -/
def State.intEntry (s : State) (n : Fin 4) : State :=
  let c := s.core n
  match s.candidate n with
  | none => s
  | some k =>
    if s.cpState n ≠ cpRunning ∨ !(c.user || c.mie?) then s
    else if c.hstk then s.stackEntry n k
    else if bitsOf c.mie 11 1 = 1 then s.putCore n (c.trap ecExternal 0)
    else s

/-! IRET (R292, R294) -/

/-- The core that a frame restores; `fa` is the frame's address. A reserved MPP becomes a legal one, which the spec leaves open.
(DEDUCED: log 42.) -/
def State.unframe (s : State) (n fa : Nat) (ws : List Word) : State :=
  let w (i : Nat) : Word := ws.getD i 0
  let (free, s) := s.fresh 1
  let c := s.core n
  let c := (frameRegs.zip ws).foldl (fun c p => c.setReg p.1 p.2) c
  let ms := w 18
  let ms := if bitsOf ms 11 2 = 1 ∨ bitsOf ms 11 2 = 2 then setBits ms 11 2 (3 * free) else ms
  let usr := bitsOf (w 17) 0 1 == 1
  s.putCore n { c with mstatus := ms, mepc := w 19, pc := setBits (w 17) 0 1 0, user := usr,
                       wmsp := if usr then BitVec.ofNat 32 (fa + frameBytes) else c.wmsp }

/-- IRET. (DEDUCED: log 42.) -/
def State.iret (s : State) (n : Fin 4) : State :=
  let c := s.core n
  if s.cpState n ≠ cpRunning then s
  else if !c.hstk || c.user || (c.depth == 0 && !c.emerg) then
    let (free, s) := s.fresh 1
    s.coreExc n ecIllegal (if free = 1 then 0x3000000B else 0)
  else
    let fa := if c.emerg then saveArea else (c.reg 2).toNat
    let (s, got) := s.asMachine n fun s => s.getWords (.cp n) 20 fa []
    match got with
    | .error a => s.accFault n ecLoadFault a
    | .ok ws =>
      if c.emerg then
        let s := s.unframe n fa ws
        s.putCore n { s.core n with emerg := false }
      else
        let s := (s.unframe n fa ws).irtComplete n
        s.putCore n { s.core n with depth := c.depth - 1 }

/-! ECC, halts and debug -/

/-- An ECC error of a memory access (R280), which a core receives as an access fault where it is double. (DEDUCED: log 60.) -/
def State.eccError (s : State) (where_ : EccSite) (by_ : Agent) (use : MemUse) (double : Bool) : State :=
  let trap (s : State) (n : Nat) : State :=
    let (v, s) := s.fresh 32
    s.when (s.cpState n == cpRunning) fun s =>
      s.coreExc n (match use with | .fetch => ecFetchFault | .load => ecLoadFault | .store => ecStoreFault) (BitVec.ofNat 32 v)
  match where_, double with
  | .tcm n, false => s.bump CPC_CPSTAT_ECCCOR n.val
  | .sram _, false => s.setFco { s.fco with eccCor := s.fco.eccCor + 1 }
  | .tcm n, true => trap (s.busErr.raiseFault (19 + 6 * n.val)) n.val
  | .sram p, true =>
    let s := s.busErr.raiseFault 8 p.val
    match by_ with
    | .cp n => trap s n.val
    | _ => s

/-- The debug module halts CPn (R257, R307): the nesting stack stays (R304). (DEDUCED: log 44.) -/
def State.dbgHalt (s : State) (n : Nat) : State :=
  if s.dbgOpen && s.cpState n == cpRunning then (s.setFld CPC_CPSTAT_STATE cpDebug n).tmrFreeze else s

/-- A pair that the debug module halted resumes. -/
def State.dbgResume (s : State) (n : Nat) : State :=
  if s.cpState n == cpDebug then s.setFld CPC_CPSTAT_STATE cpRunning n else s

/-- The message that an unlock signature covers (R306). (DEDUCED: log 44.) -/
def State.unlockMsg (s : State) : List Nat := beBytes 8 (s.wide SYS_UID) ++ beBytes 16 s.dbg.challenge

/-- A read of DMI custom k (R306): in PROD custom0 to custom3 give the challenge, most significant word first. (DEDUCED: log 44.) -/
def State.dmiCustom (s : State) (k : Nat) : Word :=
  if s.fld CPC_LCS_LCS = 1 ∧ k < 4 then BitVec.ofNat 32 (s.dbg.challenge / 2 ^ (32 * (3 - k))) else 0

/-- The write of custom15 (R306): r and s stand in custom0 to custom15 then; the verification, in PROD, and a fresh challenge. (DEDUCED: log 44.) -/
def State.dbgUnlock (s : State) (r sig : Nat) : State :=
  if s.fld CPC_LCS_LCS ≠ 1 then s
  else
    let ok := ecdsaOk s.img.pub.1 s.img.pub.2 r sig (sha256 s.unlockMsg)
    let s := { s with dbg := { s.dbg with custom := (r, sig) } }.newChallenge
    if ok then
      let s := (s.setFld CPC_LCS_UNLOCKED 1).raiseFault 10
      s.emit (.record (s.mkRec 0x0A 0 7 noOrigin ([1, 0] ++ leBytes 2 (s.fld CPC_DBGCFG_CTX) ++ [0, 0, 0, 0])))
    else s

/-- The boundary-scan instructions that a lifecycle state admits (R305). (DEDUCED: log 44.) -/
def scanOk (lcs : Nat) : ScanInstr → Bool
  | .idcode => true
  | .bypass => true
  | .samplePreload => lcs != 2
  | .extest => lcs == 0 || lcs == 3

/-- A boundary-scan instruction (R305): one that is not admitted selects BYPASS; EXTEST drives pads past every Husk. (DEDUCED: log 44.) -/
def State.scanLoad (s : State) (ins : ScanInstr) (drive : List (Nat × Bool)) : State :=
  let i := if scanOk (s.fld CPC_LCS_LCS) ins then ins else .bypass
  { s with dbg := { s.dbg with scan := i, drive := if i = .extest then drive else [] } }

end Sys2Proof.Machine
end

