-- ==== Sys2Proof/Machine/Processors.lean ====
section
/-! DEFINITION. The commands of the control processors, the interrupt router and the debug port (chapter 10). -/

namespace Sys2Proof.Machine

/-- CP_RESTART (R285, R286). -/
def execCpRestart (by_ : Agent) (n : Fin 4) (s : State) : Host.Outcome State Fault Refusal :=
  done (s.guard by_ (CPC_CPCTL.addr n) true 1 fun s => s.cpCtl n 1)

/-- CP_HALT (R285, R286). -/
def execCpHalt (by_ : Agent) (n : Fin 4) (s : State) : Host.Outcome State Fault Refusal :=
  done (s.guard by_ (CPC_CPCTL.addr n) true 2 fun s => s.cpCtl n 2)

/-- LOCKSTEP_MISMATCH (R288). -/
def execLockstepMismatch (n : Fin 4) (s : State) : Host.Outcome State Fault Refusal :=
  whenAwake s <| done (if s.cpState n = cpRunning then (s.cpStop n cpLockstep).raiseFault (16 + 6 * n.val) else s)

/-- ECC_ERROR (R280). -/
def execEccError (where_ : EccSite) (access : EccAccess) (s : State) : Host.Outcome State Fault Refusal :=
  whenAwake s <| done (s.eccError where_ access.by_ access.use access.double)

/-- INTERRUPT_ENTRY (R290, R293, R297). (DESIGN CHOICE: log 43.) -/
def execInterruptEntry (n : Fin 4) (s : State) : Host.Outcome State Fault Refusal := whenAwake s <| done (s.intEntry n)

/-- IRET (R292, R294). (DESIGN CHOICE: log 43.) -/
def execIret (n : Fin 4) (s : State) : Host.Outcome State Fault Refusal := whenAwake s <| done (s.iret n)

/-- DOUBLE_TRAP (R295). (DESIGN CHOICE: log 43.) -/
def execDoubleTrap (n : Fin 4) (s : State) : Host.Outcome State Fault Refusal :=
  whenAwake s <| done (if s.cpState n = cpRunning ∧ (s.core n).emerg then s.doubleTrap n else s)

/-- IRT_CLAIM (R297, R300). -/
def execIrtClaim (by_ : Agent) (n : Fin 4) (s : State) : Host.Outcome State Fault Refusal :=
  done (s.guard by_ (IRT_CPCLAIM.addr n) false 0 fun s => s.claimRead n)

/-- IRT_EOI (R301). -/
def execIrtEoi (by_ : Agent) (n : Fin 4) (v : Word) (s : State) : Host.Outcome State Fault Refusal :=
  done (s.guard by_ (IRT_CPEOI.addr n) true v fun s => s.irtEoi n v)

/-- IRT_SWSET (R298). -/
def execIrtSwset (by_ : Agent) (k : Fin 2) (v : Word) (s : State) : Host.Outcome State Fault Refusal :=
  done (s.guard by_ (IRT_SWSET.addr k) true v fun s => s.swSet k v)

/-- IRT_SWCLR (R298). -/
def execIrtSwclr (by_ : Agent) (k : Fin 2) (v : Word) (s : State) : Host.Outcome State Fault Refusal :=
  done (s.guard by_ (IRT_SWCLR.addr k) true v fun s => s.swClear k v)

/-- IRT_CLRP (R298): a write of IRT_SRCsss that gives back its fields with CLRP. -/
def execIrtClrp (by_ : Agent) (src : Fin 576) (s : State) : Host.Outcome State Fault Refusal :=
  done (s.guard by_ (IRT_SRC.addr src) true (2 ^ 29) fun s => s.irtClear src)

/-- DEBUG_HALT (R257, R307). -/
def execDebugHalt (n : Fin 4) (s : State) : Host.Outcome State Fault Refusal := whenAwake s <| done (s.dbgHalt n)

/-- DEBUG_RESUME (R257). -/
def execDebugResume (n : Fin 4) (s : State) : Host.Outcome State Fault Refusal := whenAwake s <| done (s.dbgResume n)

/-- DEBUG_UNLOCK (R306). -/
def execDebugUnlock (r : BitVec 256) (sig : BitVec 256) (s : State) : Host.Outcome State Fault Refusal :=
  whenAwake s <| done (s.dbgUnlock r.toNat sig.toNat)

/-- BOUNDARY_SCAN_INSTRUCTION (R305). -/
def execBoundaryScanInstruction (ins : ScanInstr) (drive : List (Nat × Bool)) (s : State) : Host.Outcome State Fault Refusal :=
  whenAwake s <| .next (s.scanLoad ins drive)

end Sys2Proof.Machine
end

