-- ==== Sys2Proof/Machine/Psq.lean ====
section
/-! DEFINITION. The commands of the pin sequencers and their instructions (chapter 9). An instruction's command runs it when PC names it
and its tick has come. -/

namespace Sys2Proof.Machine

/-- PSQ_START (R262). -/
def execPsqStart (by_ : Agent) (q : Fin 16) (s : State) : Host.Outcome State Fault Refusal :=
  done (s.guard by_ (PSQ_CTRL.addr q) true 1 fun s => s.pqCtl q 1)

/-- PSQ_HALT (R263). -/
def execPsqHalt (by_ : Agent) (q : Fin 16) (s : State) : Host.Outcome State Fault Refusal :=
  done (s.guard by_ (PSQ_CTRL.addr q) true 2 fun s => s.pqCtl q 2)

/-- PSQ_CLRQ (R276). -/
def execPsqClrq (by_ : Agent) (q : Fin 16) (s : State) : Host.Outcome State Fault Refusal :=
  done (s.guard by_ (PSQ_CTRL.addr q) true 4 fun s => s.pqCtl q 4)

/-- TXQ_WRITE (R276). -/
def execTxqWrite (by_ : Agent) (q : Fin 16) (v : Word) (s : State) : Host.Outcome State Fault Refusal :=
  done (s.guard by_ (PSQ_TXQ.addr q) true v fun s => s.txWrite q v)

/-- RXQ_READ (R276). -/
def execRxqRead (by_ : Agent) (q : Fin 16) (s : State) : Host.Outcome State Fault Refusal :=
  done (s.guard by_ (PSQ_RXQ.addr q) false 0 fun s => s.rxRead q)

/-- The level at the pin of a line, of the last sample of a filter that accepts in the current TCLK (R71, R267): a channel's pad is seen as on = 1 under
ACTHI, unless its sensed level departs from the commanded one. (DEDUCED: log 41.) -/
def State.lineSees (s : State) (q k : Nat) (level : Bool) : Bool :=
  let c := s.fld PSQ_LINE_PIN q k
  s.fld PSQ_LINE_KIND q k != 1 || (s.pd c).held.isSome || (s.pd c).cont ||
    level == ((s.padLevelAt c (s.now - 2) || s.pullUp c) == s.flag PAD_CFG_ACTHI c)

/-- LINE_EDGE (R267): a line's input changes in TCLK stamp and is accepted FILT + 2 TCLK later. -/
def execLineEdge (q : Fin 16) (k : Fin 4) (level : Bool) (stamp : BitVec 64) (s : State) : Host.Outcome State Fault Refusal :=
  whenAwake s <|
  if s.fld PSQ_LINE_KIND q k ≠ 0 ∧ stamp.toNat + s.fld PSQ_LINE_FILT q k + 2 = s.now ∧
      level ≠ (s.fld PSQ_STAT_LVLIN q / 2 ^ k.val % 2 == 1) ∧ s.lineSees q k level = true then
    done (s.pqLineEdge q k level stamp.toNat)
  else done s

/-- PSQ_WAIT_DONE (R265): the condition of the waiting instruction holds. -/
def execPsqWaitDone (q : Fin 16) (s : State) : Host.Outcome State Fault Refusal := whenAwake s <| done (s.pqTry q)

/-- PSQ_WAIT_TIMEOUT (R265). -/
def execPsqWaitTimeout (q : Fin 16) (s : State) : Host.Outcome State Fault Refusal := whenAwake s <| done (s.pqTimeout q)

/-- NOP (R270). -/
def execPsqNop (q : Fin 16) (s : State) : Host.Outcome State Fault Refusal :=
  whenAwake s <|
  done (s.pqRun q (pqIs 0x00) fun s _ => s.pqStep q)

/-- BR (R272): PC = ADDR if COND holds. -/
def execPsqBr (q : Fin 16) (s : State) : Host.Outcome State Fault Refusal :=
  whenAwake s <|
  done (s.pqRun q (pqIs 0x01) fun s w => s.pqGo q 1 (if s.pqCond q (bitsOf w 13 4) then bitsOf w 0 6 else s.pcNext q))

/-- LOOP (R270): WR - 1, and PC = ADDR unless that is 0. -/
def execPsqLoop (q : Fin 16) (s : State) : Host.Outcome State Fault Refusal :=
  whenAwake s <|
  done (s.pqRun q (pqIs 0x02) fun s w =>
    let r := bitsOf w 15 2
    let v := (s.pqReg q r + 2 ^ 32 - 1) % 2 ^ 32
    (s.setPqReg q r v).pqGo q 1 (if v ≠ 0 then bitsOf w 0 6 else s.pcNext q))

/-- BRL (R270): PC = ADDR if the line input is LVL. -/
def execPsqBrl (q : Fin 16) (s : State) : Host.Outcome State Fault Refusal :=
  whenAwake s <|
  done (s.pqRun q (pqIs 0x03) fun s w => s.pqGo q 1 (if s.lineIn q (bitsOf w 15 2) = (bitsOf w 14 1 == 1) then bitsOf w 0 6 else s.pcNext q))

/-- DRV (R270): lines of MASK take VAL, at once or, with CO, in the first TCLK of the next instruction. -/
def execPsqDrv (q : Fin 16) (s : State) : Host.Outcome State Fault Refusal :=
  whenAwake s <|
  done (s.pqRun q (pqIs 0x04) fun s w =>
    if bitsOf w 16 1 = 1 then
      let x := s.sq q
      let keep (k : Nat) : Nat := if bitsOf w (4 + k) 1 = 1 then bitsOf w k 1 else x.coVal / 2 ^ k % 2
      let val := (List.range 4).foldl (fun v k => v + keep k * 2 ^ k) 0
      (s.setSq q { x with coMask := x.coMask ||| bitsOf w 4 4, coVal := val }).pqGo q 0 (s.pcNext q)
    else (s.linesOut q (bitsOf w 4 4) (bitsOf w 0 4)).pqStep q)

/-- PINW (R270): waits for a level or a change of a line input. -/
def execPsqPinw (q : Fin 16) (s : State) : Host.Outcome State Fault Refusal :=
  whenAwake s <|
  done (s.pqRun q (pqIs 0x05) fun s w => (s.pqWait q (s.pqTmo q (bitsOf w 11 2))).pqTry q)

/-- AWAIT (R272): waits for a take of the task input. -/
def execPsqAwait (q : Fin 16) (s : State) : Host.Outcome State Fault Refusal :=
  whenAwake s <|
  done (s.pqRun q (pqIs 0x06) fun s w => (s.pqWait q (s.pqTmo q (bitsOf w 13 2))).pqTry q)

/-- MEASURE (R273). -/
def execPsqMeasure (q : Fin 16) (s : State) : Host.Outcome State Fault Refusal :=
  whenAwake s <|
  done (s.pqRun q (pqIs 0x07) fun s w => (s.pqMeasureBegin q w).pqTry q)

/-- CPY (R270). -/
def execPsqCpy (q : Fin 16) (s : State) : Host.Outcome State Fault Refusal :=
  whenAwake s <|
  done (s.pqRun q (pqIs 0x08) fun s w => (s.setPqReg q (bitsOf w 14 3) (s.pqReg q (bitsOf w 11 3))).pqStep q)

/-- LDI (R270). -/
def execPsqLdi (q : Fin 16) (s : State) : Host.Outcome State Fault Refusal :=
  whenAwake s <|
  done (s.pqRun q (pqIs 0x09) fun s w => (s.setPqReg q (bitsOf w 15 2) (bitsOf w 0 15)).pqStep q)

/-- ADD (R271). -/
def execPsqAdd (q : Fin 16) (s : State) : Host.Outcome State Fault Refusal :=
  whenAwake s <|
  done (s.pqRun q (pqAluIs 0) fun s w => s.pqAlu q w)

/-- SUB (R271). -/
def execPsqSub (q : Fin 16) (s : State) : Host.Outcome State Fault Refusal :=
  whenAwake s <|
  done (s.pqRun q (pqAluIs 1) fun s w => s.pqAlu q w)

/-- AND (R271). -/
def execPsqAnd (q : Fin 16) (s : State) : Host.Outcome State Fault Refusal :=
  whenAwake s <|
  done (s.pqRun q (pqAluIs 2) fun s w => s.pqAlu q w)

/-- OR (R271). -/
def execPsqOr (q : Fin 16) (s : State) : Host.Outcome State Fault Refusal :=
  whenAwake s <|
  done (s.pqRun q (pqAluIs 3) fun s w => s.pqAlu q w)

/-- XOR (R271). -/
def execPsqXor (q : Fin 16) (s : State) : Host.Outcome State Fault Refusal :=
  whenAwake s <|
  done (s.pqRun q (pqAluIs 4) fun s w => s.pqAlu q w)

/-- SHL (R271). -/
def execPsqShl (q : Fin 16) (s : State) : Host.Outcome State Fault Refusal :=
  whenAwake s <|
  done (s.pqRun q (pqAluIs 5) fun s w => s.pqAlu q w)

/-- SHR (R271). -/
def execPsqShr (q : Fin 16) (s : State) : Host.Outcome State Fault Refusal :=
  whenAwake s <|
  done (s.pqRun q (pqAluIs 6) fun s w => s.pqAlu q w)

/-- CMP (R271). -/
def execPsqCmp (q : Fin 16) (s : State) : Host.Outcome State Fault Refusal :=
  whenAwake s <|
  done (s.pqRun q (pqAluIs 7) fun s w => s.pqAlu q w)

/-- DIV (R270): eight cycles. -/
def execPsqDiv (q : Fin 16) (s : State) : Host.Outcome State Fault Refusal :=
  whenAwake s <|
  done (s.pqRun q (pqIs 0x0B) fun s w =>
    let r := bitsOf w 15 2
    let b := s.pqReg q (bitsOf w 12 3)
    let v := if b = 0 then 0xFFFFFFFF else s.pqReg q r / b
    ((s.setPqReg q r v).pqZN q v).pqGo q 8 (s.pcNext q))

/-- CRCSTEP (R274). -/
def execPsqCrcstep (q : Fin 16) (s : State) : Host.Outcome State Fault Refusal :=
  whenAwake s <|
  done (s.pqRun q (pqIs 0x0C) fun s w =>
    let r := bitsOf w 15 2
    let wd := if s.fld PSQ_CFG_CRCW q = 0 then 32 else s.fld PSQ_CFG_CRCW q
    let nb := if bitsOf w 0 5 = 0 then 32 else bitsOf w 0 5
    let v := crcBits wd (s.rd (PSQ_CRCPOLY.addr q)).toNat (s.pqReg q (bitsOf w 12 3)) nb (s.pqReg q r)
    (s.setPqReg q r v).pqStep q)

/-- SHO (R270): one bit of TXS goes to the line. -/
def execPsqSho (q : Fin 16) (s : State) : Host.Outcome State Fault Refusal :=
  whenAwake s <|
  done (s.pqRun q (pqIs 0x0D) fun s w =>
    let t := s.pqReg q 4
    let left := bitsOf w 14 1 == 1
    let b := if left then t / 2 ^ 31 else t % 2
    let s := s.lineOut q (bitsOf w 15 2) (b == 1)
    (s.setPqReg q 4 (if left then t * 2 % 2 ^ 32 else t / 2)).pqStep q)

/-- SHI (R270): one bit of the line enters RXS. -/
def execPsqShi (q : Fin 16) (s : State) : Host.Outcome State Fault Refusal :=
  whenAwake s <|
  done (s.pqRun q (pqIs 0x0E) fun s w =>
    let r := s.pqReg q 5
    let b := if s.lineIn q (bitsOf w 15 2) then 1 else 0
    (s.setPqReg q 5 (if bitsOf w 14 1 = 1 then r * 2 % 2 ^ 32 + b else r / 2 + b * 2 ^ 31)).pqStep q)

/-- TAKE (R275). -/
def execPsqTake (q : Fin 16) (s : State) : Host.Outcome State Fault Refusal :=
  whenAwake s <|
  done (s.pqRun q (pqIs 0x0F) fun s w =>
    let dst := bitsOf w 14 3
    if bitsOf w 13 1 = 1 then
      match s.txHead q with
      | some v => (s.pqTake q dst v).pqStep q
      | none =>
        let s := (s.setPqReg q dst (s.sq q).last).setPqFlag q pfE true
        ((s.bump PSQ_CNT0_STALE q).cause .psq PSQ_INTST_STALE q).pqStep q
    else (s.pqWait q 0).pqTry q)

/-- GIVE (R275). -/
def execPsqGive (q : Fin 16) (s : State) : Host.Outcome State Fault Refusal :=
  whenAwake s <|
  done (s.pqRun q (pqIs 0x10) fun s w =>
    let v := s.pqReg q (bitsOf w 14 3)
    if bitsOf w 13 1 = 1 then (if s.rxRoom q then s.pqGive q v else s.pqDrop q).pqStep q
    else if s.rxCap q = 0 then (s.pqDrop q).pqStep q
    else (s.pqWait q 0).pqTry q)

/-- DELAY (R270): 1 + N cycles. -/
def execPsqDelay (q : Fin 16) (s : State) : Host.Outcome State Fault Refusal :=
  whenAwake s <|
  done (s.pqRun q (pqIs 0x11) fun s w => s.pqGo q (1 + bitsOf w 0 17) (s.pcNext q))

/-- SIG (R270): a pulse of task source 432 + nn, the interrupt cause SIG. -/
def execPsqSig (q : Fin 16) (s : State) : Host.Outcome State Fault Refusal :=
  whenAwake s <|
  done (s.pqRun q (pqIs 0x12) fun s w =>
    let s := s.when (bitsOf w 0 1 == 1) fun s => s.emit (.pulse (432 + q.val) false)
    (s.when (bitsOf w 1 1 == 1) fun s => s.cause .psq PSQ_INTST_SIG q).pqStep q)

/-- STOP (R263). -/
def execPsqStop (q : Fin 16) (s : State) : Host.Outcome State Fault Refusal :=
  whenAwake s <|
  done (s.pqRun q (pqIs 0x13) fun s _ => s.pqHalt q)

end Sys2Proof.Machine
end

