-- ==== Sys2Proof/Machine/Registers.lean ====
section
/-! DEFINITION. The bus accesses that have no row of their own: writes, reads, and the halves of 64-bit registers (R11, R28, R29, R432). The PCIe host makes
its accesses at offsets of BAR0. -/

namespace Sys2Proof.Machine

/-- A read by any initiator. (DEDUCED: log 15.) -/
def State.busRead (s : State) (by_ : Agent) (a : Nat) (size : Size) : State :=
  match by_ with
  | .pciHost => s.barRead a size
  | _ => s.devRead by_ a size

/-- A write by any initiator. (DEDUCED: log 15, 20.) -/
def State.busWrite (s : State) (by_ : Agent) (a : Nat) (size : Size) (v : Nat) : State :=
  match by_ with
  | .pciHost => s.barWrite a size v
  | _ => s.devWrite by_ a size v

/-- REGISTER_WRITE (R432). -/
def execRegisterWrite (by_ : Agent) (addr : Nat) (size : Size) (v : BitVec 64) (s : State) : Host.Outcome State Fault Refusal :=
  done (s.busWrite by_ addr size v.toNat)

/-- READ_CLEAR (R11). -/
def execReadClear (by_ : Agent) (addr : Nat) (size : Size) (s : State) : Host.Outcome State Fault Refusal :=
  done (s.busRead by_ addr size)

/-- LATCHED_READ_LOW (R28). -/
def execLatchedReadLow (by_ : Agent) (addr : Nat) (s : State) : Host.Outcome State Fault Refusal := done (s.busRead by_ addr .b32)

/-- SPLIT_WRITE_LOW (R29). -/
def execSplitWriteLow (by_ : Agent) (addr : Nat) (v : Word) (s : State) : Host.Outcome State Fault Refusal :=
  done (s.busWrite by_ addr .b32 v.toNat)

/-- SPLIT_WRITE_HIGH (R29). -/
def execSplitWriteHigh (by_ : Agent) (addr : Nat) (v : Word) (s : State) : Host.Outcome State Fault Refusal :=
  done (s.busWrite by_ addr .b32 v.toNat)

end Sys2Proof.Machine
end

