-- ==== Sys2Proof/Machine/Dispatch.lean ====
section
/-! DEFINITION. Dispatch: one arm per command of the block. -/

namespace Sys2Proof.Machine

/-- The effect of a command on everything but the queue. -/
def exec (i : Instr) (s : State) : Host.Outcome State Fault Refusal :=
  match i with
  | .registerWrite by_ addr size v => Sys2Proof.Machine.execRegisterWrite by_ addr size v s
  | .readClear by_ addr size => Sys2Proof.Machine.execReadClear by_ addr size s
  | .latchedReadLow by_ addr => Sys2Proof.Machine.execLatchedReadLow by_ addr s
  | .splitWriteLow by_ addr v => Sys2Proof.Machine.execSplitWriteLow by_ addr v s
  | .splitWriteHigh by_ addr v => Sys2Proof.Machine.execSplitWriteHigh by_ addr v s
  | .fnmodeWrite by_ v => Sys2Proof.Machine.execFnmodeWrite by_ v s
  | .fnModeSwitch fn inst => Sys2Proof.Machine.execFnModeSwitch fn inst s
  | .decisionTimeout fn inst => Sys2Proof.Machine.execDecisionTimeout fn inst s
  | .bootLoad errPri errFb => Sys2Proof.Machine.execBootLoad errPri errFb s
  | .recoveryGo by_ v => Sys2Proof.Machine.execRecoveryGo by_ v s
  | .deltaGo by_ v => Sys2Proof.Machine.execDeltaGo by_ v s
  | .deltaSwitch => Sys2Proof.Machine.execDeltaSwitch s
  | .deltaWaitExpiry => Sys2Proof.Machine.execDeltaWaitExpiry s
  | .toothEdge n edge peak => Sys2Proof.Machine.execToothEdge n edge peak s
  | .trailingEdge n edge => Sys2Proof.Machine.execTrailingEdge n edge s
  | .camEdge n k rising stamp held => Sys2Proof.Machine.execCamEdge n k rising stamp held s
  | .stopTimeout n => Sys2Proof.Machine.execStopTimeout n s
  | .resync by_ n => Sys2Proof.Machine.execResync by_ n s
  | .rconf by_ n => Sys2Proof.Machine.execRconf by_ n s
  | .rrefuse by_ n => Sys2Proof.Machine.execRrefuse by_ n s
  | .syncAssert by_ n v => Sys2Proof.Machine.execSyncAssert by_ n v s
  | .trecRead by_ n => Sys2Proof.Machine.execTrecRead by_ n s
  | .camposRead by_ n k => Sys2Proof.Machine.execCamposRead by_ n k s
  | .stopRecordPresent => Sys2Proof.Machine.execStopRecordPresent s
  | .mkPosWrite by_ m v => Sys2Proof.Machine.execMkPosWrite by_ m v s
  | .markFire m => Sys2Proof.Machine.execMarkFire m s
  | .holdBegin n => Sys2Proof.Machine.execHoldBegin n s
  | .toothCommit by_ n => Sys2Proof.Machine.execToothCommit by_ n s
  | .clrcor by_ n => Sys2Proof.Machine.execClrcor by_ n s
  | .corWrite by_ n j v => Sys2Proof.Machine.execCorWrite by_ n j v s
  | .stageWord by_ c k v => Sys2Proof.Machine.execStageWord by_ c k v s
  | .eventCommit by_ c v => Sys2Proof.Machine.execEventCommit by_ c v s
  | .eventInsert c => Sys2Proof.Machine.execEventInsert c s
  | .edgeExecute c => Sys2Proof.Machine.execEdgeExecute c s
  | .minExpiry c => Sys2Proof.Machine.execMinExpiry c s
  | .maxcutExpiry c => Sys2Proof.Machine.execMaxcutExpiry c s
  | .lossEndByTime c => Sys2Proof.Machine.execLossEndByTime c s
  | .chFlush by_ c endact => Sys2Proof.Machine.execChFlush by_ c endact s
  | .flushDone c => Sys2Proof.Machine.execFlushDone c s
  | .chCut by_ c => Sys2Proof.Machine.execChCut by_ c s
  | .chUncut by_ c => Sys2Proof.Machine.execChUncut by_ c s
  | .pwmReload c => Sys2Proof.Machine.execPwmReload c s
  | .pwmOffEdge c => Sys2Proof.Machine.execPwmOffEdge c s
  | .pwmShadowWrite by_ c duty v => Sys2Proof.Machine.execPwmShadowWrite by_ c duty v s
  | .pwmLockWrite by_ c v => Sys2Proof.Machine.execPwmLockWrite by_ c v s
  | .injdlyWrite by_ c v => Sys2Proof.Machine.execInjdlyWrite by_ c v s
  | .reportRead by_ c => Sys2Proof.Machine.execReportRead by_ c s
  | .huskForce by_ c v => Sys2Proof.Machine.execHuskForce by_ c v s
  | .onmaxExpiry c => Sys2Proof.Machine.execOnmaxExpiry c s
  | .revonExpiry c => Sys2Proof.Machine.execRevonExpiry c s
  | .huskWindowTouch c => Sys2Proof.Machine.execHuskWindowTouch c s
  | .revaccClear n => Sys2Proof.Machine.execRevaccClear n s
  | .cycleWrap n => Sys2Proof.Machine.execCycleWrap n s
  | .iSenseSample samples => Sys2Proof.Machine.execISenseSample samples s
  | .hskLastRead by_ c => Sys2Proof.Machine.execHskLastRead by_ c s
  | .readbackMismatch c high => Sys2Proof.Machine.execReadbackMismatch c high s
  | .mismatchAct c => Sys2Proof.Machine.execMismatchAct c s
  | .overcurrent fd => Sys2Proof.Machine.execOvercurrent fd s
  | .driverThermal fd => Sys2Proof.Machine.execDriverThermal fd s
  | .openOn fd => Sys2Proof.Machine.execOpenOn fd s
  | .padTest by_ c => Sys2Proof.Machine.execPadTest by_ c s
  | .padTestDone c fail => Sys2Proof.Machine.execPadTestDone c fail s
  | .adcStart by_ a => Sys2Proof.Machine.execAdcStart by_ a s
  | .adcStop by_ a => Sys2Proof.Machine.execAdcStop by_ a s
  | .adcClrq by_ a => Sys2Proof.Machine.execAdcClrq by_ a s
  | .triggerTake a => Sys2Proof.Machine.execTriggerTake a s
  | .conversionStart a => Sys2Proof.Machine.execConversionStart a s
  | .conversionEnd a raw => Sys2Proof.Machine.execConversionEnd a raw s
  | .urgentRequest by_ a v => Sys2Proof.Machine.execUrgentRequest by_ a v s
  | .shadowCycleDue a => Sys2Proof.Machine.execShadowCycleDue a s
  | .shadowStart a => Sys2Proof.Machine.execShadowStart a s
  | .calOffsetCommit by_ a => Sys2Proof.Machine.execCalOffsetCommit by_ a s
  | .adcGainWrite by_ j v => Sys2Proof.Machine.execAdcGainWrite by_ j v s
  | .adcResultRead by_ a => Sys2Proof.Machine.execAdcResultRead by_ a s
  | .tdacWrite by_ v => Sys2Proof.Machine.execTdacWrite by_ v s
  | .knockSample k x clip awStamp => Sys2Proof.Machine.execKnockSample k x clip awStamp s
  | .knockOpen k => Sys2Proof.Machine.execKnockOpen k s
  | .knockResultPost k => Sys2Proof.Machine.execKnockResultPost k s
  | .knkResRead by_ k => Sys2Proof.Machine.execKnkResRead by_ k s
  | .quadCount e a b stamp => Sys2Proof.Machine.execQuadCount e a b stamp s
  | .indexEdge e z stamp => Sys2Proof.Machine.execIndexEdge e z stamp s
  | .stillTimeout e => Sys2Proof.Machine.execStillTimeout e s
  | .encPosWrite by_ e v => Sys2Proof.Machine.execEncPosWrite by_ e v s
  | .ntShadowWrite by_ r high v => Sys2Proof.Machine.execNtShadowWrite by_ r high v s
  | .ntArm by_ => Sys2Proof.Machine.execNtArm by_ s
  | .ntApply => Sys2Proof.Machine.execNtApply s
  | .tmrStart by_ t => Sys2Proof.Machine.execTmrStart by_ t s
  | .tmrStop by_ t => Sys2Proof.Machine.execTmrStop by_ t s
  | .tmrCntWrite by_ t v => Sys2Proof.Machine.execTmrCntWrite by_ t v s
  | .tmrShadowWrite by_ t cmp v => Sys2Proof.Machine.execTmrShadowWrite by_ t cmp v s
  | .timerTick t => Sys2Proof.Machine.execTimerTick t s
  | .timerTake t => Sys2Proof.Machine.execTimerTake t s
  | .captureEdge t edge => Sys2Proof.Machine.execCaptureEdge t edge s
  | .capRead by_ t => Sys2Proof.Machine.execCapRead by_ t s
  | .psqStart by_ q => Sys2Proof.Machine.execPsqStart by_ q s
  | .psqHalt by_ q => Sys2Proof.Machine.execPsqHalt by_ q s
  | .psqClrq by_ q => Sys2Proof.Machine.execPsqClrq by_ q s
  | .txqWrite by_ q v => Sys2Proof.Machine.execTxqWrite by_ q v s
  | .rxqRead by_ q => Sys2Proof.Machine.execRxqRead by_ q s
  | .lineEdge q k level stamp => Sys2Proof.Machine.execLineEdge q k level stamp s
  | .psqNop q => Sys2Proof.Machine.execPsqNop q s
  | .psqBr q => Sys2Proof.Machine.execPsqBr q s
  | .psqLoop q => Sys2Proof.Machine.execPsqLoop q s
  | .psqBrl q => Sys2Proof.Machine.execPsqBrl q s
  | .psqDrv q => Sys2Proof.Machine.execPsqDrv q s
  | .psqPinw q => Sys2Proof.Machine.execPsqPinw q s
  | .psqAwait q => Sys2Proof.Machine.execPsqAwait q s
  | .psqMeasure q => Sys2Proof.Machine.execPsqMeasure q s
  | .psqCpy q => Sys2Proof.Machine.execPsqCpy q s
  | .psqLdi q => Sys2Proof.Machine.execPsqLdi q s
  | .psqAdd q => Sys2Proof.Machine.execPsqAdd q s
  | .psqSub q => Sys2Proof.Machine.execPsqSub q s
  | .psqAnd q => Sys2Proof.Machine.execPsqAnd q s
  | .psqOr q => Sys2Proof.Machine.execPsqOr q s
  | .psqXor q => Sys2Proof.Machine.execPsqXor q s
  | .psqShl q => Sys2Proof.Machine.execPsqShl q s
  | .psqShr q => Sys2Proof.Machine.execPsqShr q s
  | .psqCmp q => Sys2Proof.Machine.execPsqCmp q s
  | .psqDiv q => Sys2Proof.Machine.execPsqDiv q s
  | .psqCrcstep q => Sys2Proof.Machine.execPsqCrcstep q s
  | .psqSho q => Sys2Proof.Machine.execPsqSho q s
  | .psqShi q => Sys2Proof.Machine.execPsqShi q s
  | .psqTake q => Sys2Proof.Machine.execPsqTake q s
  | .psqGive q => Sys2Proof.Machine.execPsqGive q s
  | .psqDelay q => Sys2Proof.Machine.execPsqDelay q s
  | .psqSig q => Sys2Proof.Machine.execPsqSig q s
  | .psqStop q => Sys2Proof.Machine.execPsqStop q s
  | .psqWaitDone q => Sys2Proof.Machine.execPsqWaitDone q s
  | .psqWaitTimeout q => Sys2Proof.Machine.execPsqWaitTimeout q s
  | .cpRestart by_ n => Sys2Proof.Machine.execCpRestart by_ n s
  | .cpHalt by_ n => Sys2Proof.Machine.execCpHalt by_ n s
  | .lockstepMismatch n => Sys2Proof.Machine.execLockstepMismatch n s
  | .eccError where_ access => Sys2Proof.Machine.execEccError where_ access s
  | .interruptEntry n => Sys2Proof.Machine.execInterruptEntry n s
  | .iret n => Sys2Proof.Machine.execIret n s
  | .doubleTrap n => Sys2Proof.Machine.execDoubleTrap n s
  | .irtClaim by_ n => Sys2Proof.Machine.execIrtClaim by_ n s
  | .irtEoi by_ n v => Sys2Proof.Machine.execIrtEoi by_ n v s
  | .irtSwset by_ k v => Sys2Proof.Machine.execIrtSwset by_ k v s
  | .irtSwclr by_ k v => Sys2Proof.Machine.execIrtSwclr by_ k v s
  | .irtClrp by_ src => Sys2Proof.Machine.execIrtClrp by_ src s
  | .debugHalt n => Sys2Proof.Machine.execDebugHalt n s
  | .debugResume n => Sys2Proof.Machine.execDebugResume n s
  | .debugUnlock r sig => Sys2Proof.Machine.execDebugUnlock r sig s
  | .dtpSubmit p h chan evs => Sys2Proof.Machine.execDtpSubmit p h chan evs s
  | .dtpCut p h mask => Sys2Proof.Machine.execDtpCut p h mask s
  | .dtpUncut p h mask => Sys2Proof.Machine.execDtpUncut p h mask s
  | .dtpFlush p h chan ctl => Sys2Proof.Machine.execDtpFlush p h chan ctl s
  | .dtpRead p h addr count => Sys2Proof.Machine.execDtpRead p h addr count s
  | .dtpWrite p h addr ws => Sys2Proof.Machine.execDtpWrite p h addr ws s
  | .dtpSubscribe p h kind period mask => Sys2Proof.Machine.execDtpSubscribe p h kind period mask s
  | .dtpEcho p h => Sys2Proof.Machine.execDtpEcho p h s
  | .operationExecute x => Sys2Proof.Machine.execOperationExecute x s
  | .doorbell x len => Sys2Proof.Machine.execDoorbell x len s
  | .publishSend x kind => Sys2Proof.Machine.execPublishSend x kind s
  | .hostQueueFrame port frame => Sys2Proof.Machine.execHostQueueFrame port frame s
  | .canBusOff n => Sys2Proof.Machine.execCanBusOff n s
  | .xspCmdGo by_ v faddr => Sys2Proof.Machine.execXspCmdGo by_ v faddr s
  | .xspCmdDone ok => Sys2Proof.Machine.execXspCmdDone ok s
  | .recordWrite j => Sys2Proof.Machine.execRecordWrite j s
  | .recordTimeout j => Sys2Proof.Machine.execRecordTimeout j s
  | .yunaeAck j fseq => Sys2Proof.Machine.execYunaeAck j fseq s
  | .retransmitTimeout j => Sys2Proof.Machine.execRetransmitTimeout j s
  | .probeSend j => Sys2Proof.Machine.execProbeSend j s
  | .relcWrite by_ j v => Sys2Proof.Machine.execRelcWrite by_ j v s
  | .streamEnable by_ j => Sys2Proof.Machine.execStreamEnable by_ j s
  | .streamDisable by_ j => Sys2Proof.Machine.execStreamDisable by_ j s
  | .streamDrained j => Sys2Proof.Machine.execStreamDrained j s
  | .jrecCommit by_ v => Sys2Proof.Machine.execJrecCommit by_ v s
  | .cooldownEnd c => Sys2Proof.Machine.execCooldownEnd c s
  | .retryDecision by_ v => Sys2Proof.Machine.execRetryDecision by_ v s
  | .tpermExpiry c => Sys2Proof.Machine.execTpermExpiry c s
  | .forgiveness c => Sys2Proof.Machine.execForgiveness c s
  | .retryCountReset c => Sys2Proof.Machine.execRetryCountReset c s
  | .retireClear by_ v => Sys2Proof.Machine.execRetireClear by_ v s
  | .safeRelease by_ v => Sys2Proof.Machine.execSafeRelease by_ v s
  | .sevWrite by_ src v => Sys2Proof.Machine.execSevWrite by_ src v s
  | .kick by_ v => Sys2Proof.Machine.execKick by_ v s
  | .keepaliveTimeout => Sys2Proof.Machine.execKeepaliveTimeout s
  | .aliveToggle => Sys2Proof.Machine.execAliveToggle s
  | .safeNChange level => Sys2Proof.Machine.execSafeNChange level s
  | .pllLoss which => Sys2Proof.Machine.execPllLoss which s
  | .railUndervoltage rail => Sys2Proof.Machine.execRailUndervoltage rail s
  | .railResetLoss rail => Sys2Proof.Machine.execRailResetLoss rail s
  | .dieTempAlarm crit temp => Sys2Proof.Machine.execDieTempAlarm crit temp s
  | .vbatLow => Sys2Proof.Machine.execVbatLow s
  | .acornPowerOn => Sys2Proof.Machine.execAcornPowerOn s
  | .mainPowerOn => Sys2Proof.Machine.execMainPowerOn s
  | .resetN => Sys2Proof.Machine.execResetN s
  | .systemReset by_ v => Sys2Proof.Machine.execSystemReset by_ v s
  | .debugReset => Sys2Proof.Machine.execDebugReset s
  | .sleepRequest by_ v => Sys2Proof.Machine.execSleepRequest by_ v s
  | .sleepEntry => Sys2Proof.Machine.execSleepEntry s
  | .wakePin k => Sys2Proof.Machine.execWakePin k s
  | .wakeRelease n => Sys2Proof.Machine.execWakeRelease n s
  | .rolloutPulse width => Sys2Proof.Machine.execRolloutPulse width s
  | .rolloutEnd quiet => Sys2Proof.Machine.execRolloutEnd quiet s
  | .droprec by_ => Sys2Proof.Machine.execDroprec by_ s
  | .ratioWindow count => Sys2Proof.Machine.execRatioWindow count s
  | .crystalStop => Sys2Proof.Machine.execCrystalStop s
  | .acnPassStart => Sys2Proof.Machine.execAcnPassStart s
  | .acnEnd => Sys2Proof.Machine.execAcnEnd s
  | .acnSample code => Sys2Proof.Machine.execAcnSample code s
  | .acnFilt => Sys2Proof.Machine.execAcnFilt s
  | .acnCmp => Sys2Proof.Machine.execAcnCmp s
  | .acnPin level => Sys2Proof.Machine.execAcnPin level s
  | .acnCount => Sys2Proof.Machine.execAcnCount s
  | .acnJmp => Sys2Proof.Machine.execAcnJmp s
  | .acnWake => Sys2Proof.Machine.execAcnWake s
  | .acnRec => Sys2Proof.Machine.execAcnRec s
  | .acnPwr => Sys2Proof.Machine.execAcnPwr s
  | .acnDelay => Sys2Proof.Machine.execAcnDelay s
  | .acnLogRead by_ => Sys2Proof.Machine.execAcnLogRead by_ s
  | .fcoLogRead by_ => Sys2Proof.Machine.execFcoLogRead by_ s
  | .calGo by_ v => Sys2Proof.Machine.execCalGo by_ v s
  | .calWriteDone ok => Sys2Proof.Machine.execCalWriteDone ok s
  | .levelSourceEnds src => Sys2Proof.Machine.execLevelSourceEnds src s
  | .continuingFaultEnds c => Sys2Proof.Machine.execContinuingFaultEnds c s
  | .driverThermalRelease fd => Sys2Proof.Machine.execDriverThermalRelease fd s
  | .tokenRefill => Sys2Proof.Machine.execTokenRefill s
  | .linkStateChange link up code => Sys2Proof.Machine.execLinkStateChange link up code s
  | .vserThresholdChange above => Sys2Proof.Machine.execVserThresholdChange above s
  | .dtpDroppedMessage p msg => Sys2Proof.Machine.execDtpDroppedMessage p msg s
  | .canFrameReceive n id payload => Sys2Proof.Machine.execCanFrameReceive n id payload s
  | .gptpServoUpdate port nb no nr na => Sys2Proof.Machine.execGptpServoUpdate port nb no nr na s
  | .rolloutCamEdge => Sys2Proof.Machine.execRolloutCamEdge s
  | .recordAgeMinute => Sys2Proof.Machine.execRecordAgeMinute s
  | .acornVbatDip => Sys2Proof.Machine.execAcornVbatDip s
  | .boundaryScanInstruction ins drive => Sys2Proof.Machine.execBoundaryScanInstruction ins drive s

end Sys2Proof.Machine
end

