-- ==== Sys2Proof/Machine/Tick.lean ====
section
/-! DEFINITION. The passing of time. -/

namespace Sys2Proof.Machine

/-- The tracker inputs that wait are evaluated (R81). -/
def State.trkAll (s : State) : State := (s.each (List.range 6) fun s n => s.trkWaiting n).settle

/-- What a new TCLK does by itself: the tracker inputs that have waited for it are evaluated (R81), writes of the marks take effect (R100), pad tests take
their steps (R201), results enter the queues of the converters and gains change (R206, R220), knock windows are aborted (R230), the timers take what
was written to them and their freeze (R253, R257), and a stopped ALIVE goes low (R370). (DESIGN CHOICE: log 1.) -/
def State.tclk (s : State) : State := s.trkAll.mkTake.testAll.adcTick.knkAll.tmrAll.aliveLow.settle

/-- One TCLK passes (R8): the inputs that still wait in it come first (R81), then the scheduler's compares (R147). The angle words are functions of TB; everything that falls due at a time is a command
of its own. TB stands still while the main domain sleeps or has no power (R246, R376). (DESIGN CHOICE: log 1.) -/
def State.tick (s : State) : State :=
  if s.pwr = .run then
    let s := s.trkAll.tmrEnd.settle.compareAll
    ({ s with tb := s.tb + 1 }).newBase.tclk
  else s

end Sys2Proof.Machine
end

