-- ==== Sys2Proof/WellFormed.lean ====
section
/-! DEFINITION. What a command of the opcode table can be: the operands that no address, count, frame or pad of the manual can take are
not well formed. A register number is a number of its range by its type. -/

namespace Sys2Proof

/-- Bytes of an access (R27). -/
def Size.bytes : Size → Nat
  | .b8 => 1
  | .b16 => 2
  | .b32 => 4
  | .b64 => 8

/-- Bus addresses have 32 bits (R26). -/
def addrOk (a : Nat) : Bool := decide (a < 2 ^ 32)

/-- The data of an access fits its size (R27). -/
def valueOk (z : Size) (v : BitVec 64) : Bool := decide (v.toNat < 2 ^ (8 * z.bytes))

/-- FCAUSE of a failed pad test names a cause (R201). -/
def causeOk : Option (Fin 7) → Bool
  | none => true
  | some k => k != 0

/-- The counts of events and of words in a message body have one byte (R316). -/
def countOk (n : Nat) : Bool := decide (n < 256)

/-- A message lies in the page's message buffer (R330). -/
def pageOk (n : Nat) : Bool := decide (n ≤ 0x800)

/-- The octets of one frame or datagram. -/
def octetsOk (n : Nat) : Bool := decide (n < 2 ^ 16)

/-- CAN identifiers have at most 29 bits, and CAN XL frames at most 2 048 octets (R331). -/
def canIdOk (id : Word) : Bool := decide (id.toNat < 2 ^ 29)
def canLenOk (n : Nat) : Bool := decide (n ≤ 2048)

/-- The release of a wake comes at an SCLK edge after E0 (R386). -/
def wakeOk (n : Nat) : Bool := decide (1 ≤ n)

/-- EXTEST drives pads, each once; the other instructions drive none (R305). (DEDUCED: log 44.) -/
def scanOk (i : ScanInstr) (d : List (Nat × Bool)) : Bool :=
  (d.map (·.1)).all (fun p => decide (p < 128)) && decide (d.map (·.1)).Nodup && (i == .extest || d.isEmpty)

/-- A command is one that can arrive. -/
def Instr.wf : Instr → Bool
  | .registerWrite _ addr size v => addrOk addr && valueOk size v
  | .readClear _ addr _ => addrOk addr
  | .latchedReadLow _ addr => addrOk addr
  | .splitWriteLow _ addr _ => addrOk addr
  | .splitWriteHigh _ addr _ => addrOk addr
  | .fnmodeWrite _ _ => true
  | .fnModeSwitch _ _ => true
  | .decisionTimeout _ _ => true
  | .bootLoad _ _ => true
  | .recoveryGo _ _ => true
  | .deltaGo _ _ => true
  | .deltaSwitch => true
  | .deltaWaitExpiry => true
  | .toothEdge _ _ _ => true
  | .trailingEdge _ _ => true
  | .camEdge _ _ _ _ _ => true
  | .stopTimeout _ => true
  | .resync _ _ => true
  | .rconf _ _ => true
  | .rrefuse _ _ => true
  | .syncAssert _ _ _ => true
  | .trecRead _ _ => true
  | .camposRead _ _ _ => true
  | .stopRecordPresent => true
  | .mkPosWrite _ _ _ => true
  | .markFire _ => true
  | .holdBegin _ => true
  | .toothCommit _ _ => true
  | .clrcor _ _ => true
  | .corWrite _ _ _ _ => true
  | .stageWord _ _ _ _ => true
  | .eventCommit _ _ _ => true
  | .eventInsert _ => true
  | .edgeExecute _ => true
  | .minExpiry _ => true
  | .maxcutExpiry _ => true
  | .lossEndByTime _ => true
  | .chFlush _ _ _ => true
  | .flushDone _ => true
  | .chCut _ _ => true
  | .chUncut _ _ => true
  | .pwmReload _ => true
  | .pwmOffEdge _ => true
  | .pwmShadowWrite _ _ _ _ => true
  | .pwmLockWrite _ _ _ => true
  | .injdlyWrite _ _ _ => true
  | .reportRead _ _ => true
  | .huskForce _ _ _ => true
  | .onmaxExpiry _ => true
  | .revonExpiry _ => true
  | .huskWindowTouch _ => true
  | .revaccClear _ => true
  | .cycleWrap _ => true
  | .iSenseSample _ => true
  | .hskLastRead _ _ => true
  | .readbackMismatch _ _ => true
  | .mismatchAct _ => true
  | .overcurrent _ => true
  | .driverThermal _ => true
  | .openOn _ => true
  | .padTest _ _ => true
  | .padTestDone _ fail => causeOk fail
  | .adcStart _ _ => true
  | .adcStop _ _ => true
  | .adcClrq _ _ => true
  | .triggerTake _ => true
  | .conversionStart _ => true
  | .conversionEnd _ _ => true
  | .urgentRequest _ _ _ => true
  | .shadowCycleDue _ => true
  | .shadowStart _ => true
  | .calOffsetCommit _ _ => true
  | .adcGainWrite _ _ _ => true
  | .adcResultRead _ _ => true
  | .tdacWrite _ _ => true
  | .knockSample _ _ _ _ => true
  | .knockOpen _ => true
  | .knockResultPost _ => true
  | .knkResRead _ _ => true
  | .quadCount _ _ _ _ => true
  | .indexEdge _ _ _ => true
  | .stillTimeout _ => true
  | .encPosWrite _ _ _ => true
  | .ntShadowWrite _ _ _ _ => true
  | .ntArm _ => true
  | .ntApply => true
  | .tmrStart _ _ => true
  | .tmrStop _ _ => true
  | .tmrCntWrite _ _ _ => true
  | .tmrShadowWrite _ _ _ _ => true
  | .timerTick _ => true
  | .timerTake _ => true
  | .captureEdge _ _ => true
  | .capRead _ _ => true
  | .psqStart _ _ => true
  | .psqHalt _ _ => true
  | .psqClrq _ _ => true
  | .txqWrite _ _ _ => true
  | .rxqRead _ _ => true
  | .lineEdge _ _ _ _ => true
  | .psqNop _ => true
  | .psqBr _ => true
  | .psqLoop _ => true
  | .psqBrl _ => true
  | .psqDrv _ => true
  | .psqPinw _ => true
  | .psqAwait _ => true
  | .psqMeasure _ => true
  | .psqCpy _ => true
  | .psqLdi _ => true
  | .psqAdd _ => true
  | .psqSub _ => true
  | .psqAnd _ => true
  | .psqOr _ => true
  | .psqXor _ => true
  | .psqShl _ => true
  | .psqShr _ => true
  | .psqCmp _ => true
  | .psqDiv _ => true
  | .psqCrcstep _ => true
  | .psqSho _ => true
  | .psqShi _ => true
  | .psqTake _ => true
  | .psqGive _ => true
  | .psqDelay _ => true
  | .psqSig _ => true
  | .psqStop _ => true
  | .psqWaitDone _ => true
  | .psqWaitTimeout _ => true
  | .cpRestart _ _ => true
  | .cpHalt _ _ => true
  | .lockstepMismatch _ => true
  | .eccError _ _ => true
  | .interruptEntry _ => true
  | .iret _ => true
  | .doubleTrap _ => true
  | .irtClaim _ _ => true
  | .irtEoi _ _ _ => true
  | .irtSwset _ _ _ => true
  | .irtSwclr _ _ _ => true
  | .irtClrp _ _ => true
  | .debugHalt _ => true
  | .debugResume _ => true
  | .debugUnlock _ _ => true
  | .dtpSubmit _ _ _ evs => countOk evs.length
  | .dtpCut _ _ _ => true
  | .dtpUncut _ _ _ => true
  | .dtpFlush _ _ _ _ => true
  | .dtpRead _ _ _ _ => true
  | .dtpWrite _ _ _ ws => countOk ws.length
  | .dtpSubscribe _ _ _ _ _ => true
  | .dtpEcho _ _ => true
  | .operationExecute _ => true
  | .doorbell _ len => pageOk len
  | .publishSend _ _ => true
  | .hostQueueFrame _ frame => octetsOk frame.length
  | .canBusOff _ => true
  | .xspCmdGo _ _ _ => true
  | .xspCmdDone _ => true
  | .recordWrite _ => true
  | .recordTimeout _ => true
  | .yunaeAck _ _ => true
  | .retransmitTimeout _ => true
  | .probeSend _ => true
  | .relcWrite _ _ _ => true
  | .streamEnable _ _ => true
  | .streamDisable _ _ => true
  | .streamDrained _ => true
  | .jrecCommit _ _ => true
  | .cooldownEnd _ => true
  | .retryDecision _ _ => true
  | .tpermExpiry _ => true
  | .forgiveness _ => true
  | .retryCountReset _ => true
  | .retireClear _ _ => true
  | .safeRelease _ _ => true
  | .sevWrite _ _ _ => true
  | .kick _ _ => true
  | .keepaliveTimeout => true
  | .aliveToggle => true
  | .safeNChange _ => true
  | .pllLoss _ => true
  | .railUndervoltage _ => true
  | .railResetLoss _ => true
  | .dieTempAlarm _ _ => true
  | .vbatLow => true
  | .acornPowerOn => true
  | .mainPowerOn => true
  | .resetN => true
  | .systemReset _ _ => true
  | .debugReset => true
  | .sleepRequest _ _ => true
  | .sleepEntry => true
  | .wakePin _ => true
  | .wakeRelease n => wakeOk n
  | .rolloutPulse _ => true
  | .rolloutEnd _ => true
  | .droprec _ => true
  | .ratioWindow _ => true
  | .crystalStop => true
  | .acnPassStart => true
  | .acnEnd => true
  | .acnSample _ => true
  | .acnFilt => true
  | .acnCmp => true
  | .acnPin _ => true
  | .acnCount => true
  | .acnJmp => true
  | .acnWake => true
  | .acnRec => true
  | .acnPwr => true
  | .acnDelay => true
  | .acnLogRead _ => true
  | .fcoLogRead _ => true
  | .calGo _ _ => true
  | .calWriteDone _ => true
  | .levelSourceEnds _ => true
  | .continuingFaultEnds _ => true
  | .driverThermalRelease _ => true
  | .tokenRefill => true
  | .linkStateChange _ _ _ => true
  | .vserThresholdChange _ => true
  | .dtpDroppedMessage _ msg => octetsOk msg.length
  | .canFrameReceive _ id payload => canIdOk id && canLenOk payload.length
  | .gptpServoUpdate _ _ _ _ _ => true
  | .rolloutCamEdge => true
  | .recordAgeMinute => true
  | .acornVbatDip => true
  | .boundaryScanInstruction ins drive => scanOk ins drive

end Sys2Proof
end

