-- ==== Sys2Proof/Safety.lean ====
section
/-! DEFINITION. The terms in which statements speak of a run: memories in canonical form, when the block takes a command, when an access is
admitted, and what a command leaves unchanged. -/

namespace Sys2Proof.Machine

/-- A memory is in canonical form: addresses strictly rising, and no byte listed that reads as an unlisted one does. -/
def Memory.wf (m : Table Byte) : Bool := twf 0 m

/-- The memories and the register file are in canonical form, and nothing emitted waits to be handed over. Every step keeps it. -/
abbrev State.Settled (s : State) : Prop :=
  s.due = [] ∧ twf 0 s.regs = true ∧ Memory.wf s.sram = true ∧ Memory.wf s.tcm = true ∧ Memory.wf s.flash = true

/-- The main domain runs (R376, R382), between two commands. -/
abbrev State.Ready (s : State) : Prop := s.pwr = .run ∧ s.due = []

/-- A register access is carried out: the main domain runs, the debug module is open where it makes the access, the PCIe endpoint is out of
reset where it does, the PMP of the core admits it (R282), the address is aligned (R27), and the access check passes (R21, R432). -/
abbrev State.Admits (s : State) (by_ : Agent) (a : Nat) (write : Bool) (v : Word) : Prop :=
  s.pwr = .run ∧ (by_ = .dbg → s.dbgOpen = true) ∧ (by_ = .pciHost → s.flag SYS_PWRSTAT_VSER = true)
    ∧ s.pmpPass by_ a 4 write = true ∧ a % 4 = 0 ∧ s.regAccess by_ a write v = true

/-- A pin sequencer is about to run an instruction word (R264, R265, R270): it is RUNNING, its tick has come and PC names the word. -/
abbrev State.PqRuns (s : State) (q : Nat) (w : Word) : Prop :=
  s.Ready ∧ s.fld PSQ_STAT_STATE q = pqRunning ∧ s.tickAt q (s.sq q).tick ≤ s.now ∧ s.pqWord q = w

/-- The components of a state beside the register file. -/
inductive Part where
  | tb | base | sram | tcm | flash | bus | rdLatch | wrLatch | cores | nest | angle | trk | strm | jrnReq | jrnHandle | fco | cls | husk | pad
  | chan | task | adc | gainAt | gchg | gainNext | knk | enc | nt | tmr | psq | gpin | mkLast | mkPrev | angPast | pwr | slp | roll | acn | img | gw | links | cal | dbg
  | calForce | calUse | ask | switched | due | sent | free | pending
  deriving DecidableEq, Repr

/-- A component is the same in two states. -/
def State.same (s t : State) : Part → Prop
  | .tb => t.tb = s.tb
  | .base => t.base = s.base
  | .sram => t.sram = s.sram
  | .tcm => t.tcm = s.tcm
  | .flash => t.flash = s.flash
  | .bus => t.bus = s.bus
  | .rdLatch => t.rdLatch = s.rdLatch
  | .wrLatch => t.wrLatch = s.wrLatch
  | .cores => t.cores = s.cores
  | .nest => t.nest = s.nest
  | .angle => t.angle = s.angle
  | .trk => t.trk = s.trk
  | .strm => t.strm = s.strm
  | .jrnReq => t.jrnReq = s.jrnReq
  | .jrnHandle => t.jrnHandle = s.jrnHandle
  | .fco => t.fco = s.fco
  | .cls => t.cls = s.cls
  | .husk => t.husk = s.husk
  | .pad => t.pad = s.pad
  | .chan => t.chan = s.chan
  | .task => t.task = s.task
  | .adc => t.adc = s.adc
  | .gainAt => t.gainAt = s.gainAt
  | .gchg => t.gchg = s.gchg
  | .gainNext => t.gainNext = s.gainNext
  | .knk => t.knk = s.knk
  | .enc => t.enc = s.enc
  | .nt => t.nt = s.nt
  | .tmr => t.tmr = s.tmr
  | .psq => t.psq = s.psq
  | .gpin => t.gpin = s.gpin
  | .mkLast => t.mkLast = s.mkLast
  | .mkPrev => t.mkPrev = s.mkPrev
  | .angPast => t.angPast = s.angPast
  | .pwr => t.pwr = s.pwr
  | .slp => t.slp = s.slp
  | .roll => t.roll = s.roll
  | .acn => t.acn = s.acn
  | .img => t.img = s.img
  | .gw => t.gw = s.gw
  | .links => t.links = s.links
  | .cal => t.cal = s.cal
  | .dbg => t.dbg = s.dbg
  | .calForce => t.calForce = s.calForce
  | .calUse => t.calUse = s.calUse
  | .ask => t.ask = s.ask
  | .switched => t.switched = s.switched
  | .due => t.due = s.due
  | .sent => t.sent = s.sent
  | .free => t.free = s.free
  | .pending => t.pending = s.pending

/-- Nothing but the named components has changed, the register file and the model's own record of it at the start of the TCLK (`base`) apart. -/
def State.OnlyParts (s t : State) (ps : List Part) : Prop := ∀ p, p ≠ .base → p ∉ ps → s.same t p

/-- Nothing but the named components and the registers at the named addresses has changed, the model's own record of the register file at the start of the TCLK
(`base`) apart. -/
def State.Only (s t : State) (ps : List Part) (as : List Nat) : Prop :=
  s.OnlyParts t ps ∧ ∀ a, a ∉ as → t.rd a = s.rd a

/-- The pending words of the interrupt router, which an interrupt cause of a block may set. -/
abbrev irtPend : List Nat := (List.range 18).map (IRT_PEND.addr ·)

/-! Pin sequencers (chapter 9) -/

/-- The level a sequencer gives to its line k. -/
def State.levelOut (s : State) (q k : Nat) : Bool := s.fld PSQ_STAT_LVLOUT q / 2 ^ k % 2 == 1

/-- The lines to which `f` gives a level take it where they are outputs, the others stay (R266, R267, R269): a general pin's driver input takes it in the next TCLK,
open-drain releasing for 1, and the intent of a channel that the line feeds follows a change of it. -/
def State.LinesTake (s t : State) (q : Nat) (f : Nat → Option Bool) : Prop :=
  ∀ k < 4,
    let kind := s.fld PSQ_LINE_KIND q k
    let dir := s.fld PSQ_LINE_DIR q k
    let c := s.fld PSQ_LINE_PIN q k
    (kind = 0 ∨ dir = 0 ∨ f k = none → t.levelOut q k = s.levelOut q k)
    ∧ (kind ≠ 0 → dir ≠ 0 → ∀ b, f k = some b → t.levelOut q k = b
      ∧ (kind ≠ 1 → (∀ j < 4, j ≠ k → s.fld PSQ_LINE_PIN q j ≠ c) → tget {} t.gpin c = ⟨s.gpLevel c, if dir = 2 ∧ b = true then none else some b, s.now + 1⟩)
      ∧ (kind = 1 → s.lineFeeds q k c = true → b ≠ s.levelOut q k → t.flag HSK_STAT_INTENT c = b))

/-- What a co-issued DRV has left for a line. -/
def State.coLine (s : State) (q k : Nat) : Option Bool :=
  if (s.sq q).coMask / 2 ^ k % 2 = 1 then some ((s.sq q).coVal / 2 ^ k % 2 == 1) else none

/-- What an executed instruction of a pin sequencer leaves (R270, R271): the lines take its own changes `f`, and those of the co-issued DRVs before it elsewhere;
of its registers only those of the codes `dst` change and of its flags only those of `fl`; nothing outside the sequencer, its pins and their Husks changes but the parts `ps`,
and where no line is named no register but its own and those at `as`. -/
def State.PqLeaves (s t : State) (q : Nat) (f : Nat → Option Bool) (dst fl : List Nat) (ps : List Part) (as : List Nat) : Prop :=
  s.LinesTake t q (fun k => (f k).or (s.coLine q k)) ∧ (t.sq q).coMask = 0
    ∧ (∀ j < 6, j ∉ dst → t.pqReg q j = s.pqReg q j) ∧ (∀ i < 5, i ∉ fl → t.pqFlag q i = s.pqFlag q i)
    ∧ (∀ p, p ≠ q → t.sq p = s.sq p) ∧ s.OnlyParts t ([.psq, .gpin, .husk, .pad, .due] ++ ps)
    ∧ ((∀ k < 4, (f k).or (s.coLine q k) = none) →
        s.Only t ([.psq] ++ ps) ((List.range 4).map (PSQ_W.addr q ·) ++ [PSQ_TXS.addr q, PSQ_RXS.addr q, PSQ_STAT.addr q] ++ as))

/-- The sequencer goes on at an address after a number of cycles (R265). -/
def State.PqAt (s t : State) (q cycles pc : Nat) : Prop :=
  (t.sq q).tick = (s.sq q).tick + cycles ∧ (t.sq q).r = (s.sq q).r ∧ t.fld PSQ_STAT_PC q = pc ∧ t.fld PSQ_STAT_STATE q = pqRunning ∧ (t.sq q).wait = (s.sq q).wait

/-- A waiting instruction has completed (R265): the divider restarts, and the next instruction executes in the TCLK after. -/
def State.PqDone (s t : State) (q : Nat) : Prop :=
  (t.sq q).r = s.now + 1 ∧ (t.sq q).tick = 0 ∧ (t.sq q).wait = none ∧ t.fld PSQ_STAT_STATE q = pqRunning
    ∧ t.fld PSQ_STAT_PC q = (s.fld PSQ_STAT_PC q + 1) % 48

/-- A waiting instruction waits, from the tick of its start (R265). -/
def State.PqHeld (s t : State) (q : Nat) (p : PWait) : Prop :=
  (t.sq q).wait = some p ∧ t.fld PSQ_STAT_STATE q = pqWaiting ∧ t.fld PSQ_STAT_PC q = s.fld PSQ_STAT_PC q ∧ (t.sq q).tick = (s.sq q).tick
    ∧ (t.sq q).r = (s.sq q).r ∧ (t.sq q).txq = (s.sq q).txq ∧ (t.sq q).rxq = (s.sq q).rxq

/-- A pin sequencer has halted (R263, R268): its output lines are idle, its task input is empty, and its queues, registers, flags and edges stay. -/
def State.PqHalts (s t : State) (q : Nat) (ps : List Part) : Prop :=
  t.fld PSQ_STAT_STATE q = pqHalted ∧ t.flag PSQ_INTST_HALT q = true ∧ t.taskOf (tiPsq q) = [] ∧ t.fld PSQ_TSTAT_PEND q = 0
    ∧ t.sq q = { s.sq q with wait := none, coMask := 0, coVal := 0 } ∧ (∀ j < 6, t.pqReg q j = s.pqReg q j) ∧ (∀ i < 5, t.pqFlag q i = s.pqFlag q i)
    ∧ s.LinesTake t q (fun k => some (s.fld PSQ_LINE_KIND q k == 2 && s.flag PSQ_LINE_IDLE q k))
    ∧ (∀ p, p ≠ q → t.sq p = s.sq p) ∧ s.OnlyParts t ([.psq, .gpin, .husk, .pad, .due, .task] ++ ps)

/-! Control processors (chapter 10) -/

/-- A trap of a core in the standard way (R290): the old pc, the cause, the old privilege and MIE are saved, and the core goes on in machine mode with interrupts off at mtvec. -/
def Core.Trapped (c d : Core) (cause : Nat) : Prop :=
  d.mepc = setBits c.pc 0 1 0 ∧ d.mcause = BitVec.ofNat 32 cause ∧ d.user = false ∧ bitsOf d.mstatus 3 1 = 0
    ∧ bitsOf d.mstatus 7 1 = bitsOf c.mstatus 3 1 ∧ bitsOf d.mstatus 11 2 = (if c.user then 0 else 3) ∧ d.x = c.x ∧ d.f = c.f ∧ d.hstk = c.hstk ∧ d.depth = c.depth
    ∧ d.emerg = c.emerg
    ∧ d.pc = setBits c.mtvec 0 2 0 + (if 2 ^ 31 ≤ cause ∧ bitsOf c.mtvec 0 2 = 1 then BitVec.ofNat 32 (4 * (cause % 2 ^ 31)) else 0)

/-- CPn stops in a state (R304): its nested sources are pending again, its nesting stack is empty, its core stays. -/
def State.CpStops (s t : State) (n st : Nat) : Prop :=
  t.cpState n = st ∧ t.nestOf n = [] ∧ t.core n = s.core n ∧ ∀ p ∈ s.nestOf n, p.1 < 576 → t.irtPend p.1 = true ∧ t.irtAct p.1 = false

/-- A synchronous exception of CPn (R295): a trap, or in an emergency the halt of a double trap with its fault. -/
def State.Excepts (s t : State) (n cause : Nat) : Prop :=
  ((s.core n).emerg = false → (s.core n).Trapped (t.core n) cause ∧ t.cpState n = s.cpState n ∧ t.nestOf n = s.nestOf n)
    ∧ ((s.core n).emerg = true → s.CpStops t n cpDouble ∧ .fault ⟨17 + 6 * n, 0⟩ ∈ t.due)

/-- The word that a machine-mode load of CPn reads from memory at an address; none where its PMP or the memory map refuses it (R281, R282). -/
def State.cpWord (s : State) (n : Fin 4) (a : Nat) : Option Word :=
  if (s.core n).pmpOk false a 4 aRead then (s.memAt (.cp n) a .b32 false).map fun m => BitVec.ofNat 32 (s.memGet m a 4) else none

/-- A machine-mode store of CPn to a word of memory is admitted (R281, R282). -/
def State.cpStores (s : State) (n : Fin 4) (a : Nat) : Bool := (s.core n).pmpOk false a 4 aWrite && (s.memAt (.cp n) a .b32 true).isSome

/-- The active parts of the interrupt router's sources. -/
abbrev irtActs : List Nat := (List.range 18).map (IRT_ACT.addr ·)

/-! The gateway (chapter 11) -/

/-- What the checks of a message ask beyond its tag and its SEQ: that its type is offered on the path (R326), its body is well formed (R316), its sender holds the capability
and the grant for it (R316, R317, R326), and its event tokens, in 1/256 (R313). -/
structure Checks where
  offered : Prop
  form : Prop
  cap : Prop
  grant : Prop
  tokens : Nat

/-- A command of the ordinary path with its type, its body and what its checks ask (R316, R326); `x` is the sender's context and `pci` says whether it came by PCIe. -/
inductive Request (s : State) (x : Nat) (p : Path) (h : DtpHeader) : Instr → Nat → List Nat → Checks → Prop where
  | submit (chan : BitVec 16) (evs : List EventWords) : Request s x p h (.dtpSubmit p h chan evs) 1 (bodySubmit chan.toNat evs)
      ⟨True, 1 ≤ evs.length ∧ evs.length ≤ 8, s.cap x capSubmit = true, chan.toNat < 128 ∧ s.grantCh x chan.toNat = true, 256 * evs.length⟩
  | uncut (mask : BitVec 128) : Request s x p h (.dtpUncut p h mask) 3 (bodyMask mask.toNat) ⟨True, True, s.cap x capCut = true, True, 0⟩
  | flush (chan : BitVec 16) (ctl : Byte) : Request s x p h (.dtpFlush p h chan ctl) 4 (bodyFlush chan.toNat ctl.toNat)
      ⟨True, True, s.cap x capSubmit = true, chan.toNat < 128 ∧ s.grantCh x chan.toNat = true, 0⟩
  | read (addr : Word) (count : Byte) : Request s x p h (.dtpRead p h addr count) 5 (bodyRead addr.toNat count.toNat)
      ⟨True, 1 ≤ count.toNat ∧ count.toNat ≤ 8, True, True, 0⟩
  | write (addr : Word) (ws : List Word) : Request s x p h (.dtpWrite p h addr ws) 6 (bodyWrite addr.toNat ws)
      ⟨True, 1 ≤ ws.length ∧ ws.length ≤ 64, True, True, 0⟩
  | subscribe (kind : Byte) (period : BitVec 16) (mask : BitVec 128) : Request s x p h (.dtpSubscribe p h kind period mask) 7 (bodySubscribe kind.toNat period.toNat mask.toNat)
      ⟨p = .pcie → 2 ≤ kind.toNat, kind.toNat < 2 ∨ (kind.toNat = 2 ∧ mask.toNat < 256),
        s.cap x (match kind.toNat with | 0 => capObsMeas | 1 => capObsAngle | _ => capCfgMode) = true,
        (kind.toNat = 0 → ∀ j < 128, mask.getLsbD j = true → j < 64 ∧ s.grantAdc x j = true)
          ∧ (kind.toNat = 1 → ∀ n < 128, mask.getLsbD n = true → n < 6 ∧ ∃ c < 128, s.flag CH_CFG_EN c = true ∧ s.chTrk c = n ∧ s.grantCh x c = true), 0⟩
  | echo : Request s x p h (.dtpEcho p h) 8 [] ⟨True, True, s.anyCap x = true, True, 0⟩

/-- A device message of a type goes out from context x on the path of a request that came by `p` (R314, R315, R328, R330), where the sender's context uses that path alone: with the next SEQ, to the peer's address, or
into the next entry of the completion ring of its page. -/
def State.GoesOut (s z : State) (x : Nat) (p : Path) (key ty token : Nat) (body : List Nat) : Prop :=
  let seq := (s.fld CTX_TXSEQ x + 1) % 2 ^ 32
  let m := dtpBytes key ty x seq token body
  match p with
  | .eth q ip udp => udp ≠ 0 → s.flag GW_CFG_TXMODE = false → s.pathPcie x = false → z.fld CTX_TXSEQ x = seq ∧ z.sent = .udp q.val ip.toNat udp.toNat m :: s.sent
  | .pcie => s.pathUdp x = false → z.fld CTX_TXSEQ x = seq ∧ (z.gx x).page.getLast? = some (m ++ List.replicate (128 - m.length) 0)
      ∧ (z.gx x).pageN = ((s.gx x).pageN + 1) % 2 ^ 32 ∧ z.sent = if s.flag CTX_CAP_MSIX x then .msix (s.fld CTX_CAP_VEC x) :: s.sent else s.sent

/-- The body of a COMPLETION (R316). -/
abbrev State.Completion (s : State) (status flags idx : Nat) (items : List Nat) : List Nat :=
  [status, flags, items.length, idx] ++ beBytes 8 (s.ntOf s.now) ++ items.flatMap (beBytes 4)

/-! The fault collector (chapter 13) -/

/-- A channel retries (R199, R362): its pad returns to NORMAL, one under test when its test is over, its retries count, and the retry is recorded. -/
def State.Retries (s x : State) (c : Nat) : Prop :=
  (s.fld PAD_STAT_STATE c ≠ padTest → x.fld PAD_STAT_STATE c = padNormal) ∧ (s.fld PAD_STAT_STATE c = padTest → x.fld PAD_STAT_STATE c = padTest ∧ (x.pd c).testFrom = padNormal)
    ∧ x.fld PAD_STAT_CAUSE c = 0 ∧ x.fld FCO_BKT_CSTATE c = csIdle ∧ x.fld FCO_BKT_RC c = min 15 (s.fld FCO_BKT_RC c + 1) ∧ x.fld FCO_BKT_B c = s.fld FCO_BKT_B c
    ∧ (x.clsOf c).retryAt = s.now ∧ ∃ r : Rec, .record r ∈ x.due ∧ r.ty = 0x05 ∧ r.src = 256 + c ∧ r.body.getD 2 0 = 1

/-- A channel retires (R157, R200, R363, R371): its pad is RETIRED, its queue is discarded, its pin turns off three TCLK later, and the retirement is counted, announced and recorded. -/
def State.Retires (s x : State) (c src : Nat) : Prop :=
  x.retired c = true ∧ x.fld FCO_BKT_CSTATE c = csRetired ∧ x.bankBit FCO_RREQ c = false ∧ x.askOf fnRetry c = none ∧ (x.ch c).queue = []
    ∧ x.fld CH_EPOCH c = (s.fld CH_EPOCH c + 1) % 256 ∧ x.fld PAD_STAT_CAUSE c = 0 ∧ (s.flag PAD_TEST_START c = false → x.fld PAD_STAT_STATE c = padRetired)
    ∧ x.flag FCO_INTST_RETIRE = true ∧ x.fld FCO_CNT_RETIRES = min (2 ^ FCO_CNT_RETIRES.len - 1) (s.fld FCO_CNT_RETIRES + 1)
    ∧ (s.flag HSK_STAT_OUT c = true → (s.pd c).pulse = false → s.fallsBy c ((s.now + 3) * 32) = false → x.flag HSK_STAT_OUT c = false)
    ∧ ∃ r : Rec, .record r ∈ x.due ∧ r.ty = 0x05 ∧ r.src = src ∧ r.body.getD 2 0 = 2

/-- A channel begins a cool-down of CD (R362). -/
def State.Cools (s x : State) (c : Nat) : Prop :=
  x.fld FCO_BKT_CSTATE c = csCool ∧ (x.clsOf c).coolEnd = s.now + s.fld FCO_CLS0_CD * 10 * 400 ∧ x.bankBit FCO_RREQ c = false ∧ x.askOf fnRetry c = none

/-- What the end of a hold or of a cool-down that nothing holds does to a channel (R362): a retry in hardware mode, and a decision request in host-assisted mode, whose timeout starts if no earlier one is unanswered. -/
def State.Released (s x : State) (c : Nat) : Prop :=
  (s.hostMode fnRetry c = false → s.Retries x c)
    ∧ (s.hostMode fnRetry c = true → x.fld FCO_BKT_CSTATE c = csWaitdec ∧ x.bankBit FCO_RREQ c = true ∧ x.flag FCO_INTST_RREQ = true ∧ x.due = [.ask fnRetry c]
      ∧ x.fld PAD_STAT_STATE c = s.fld PAD_STAT_STATE c
      ∧ x.askOf fnRetry c = match s.askOf fnRetry c with | some d => some d | none => some (s.now + s.fld SYS_FNTMO_TMO fnRetry * 400))

end Sys2Proof.Machine
end

