-- ==== Sys2Proof/Certificates/Slice0/Obligations.lean ====
section
/-! DEFINITION. The statements for the provers: what the rules R<n> of spec/ say that the commands do, in the terms of Safety.lean. -/

open Sys2Proof Sys2Proof.Machine

/-! The queue and time -/

/-- A step with a command in front of the queue is that command's meaning on the state with the queue's rest (the model's queue,
notes/assumptions/1). -/
def Obligations.StepRunsFront : Prop :=
  ∀ (s : State) (c : Instr) (rest : List Instr), s.pending = c :: rest → step s = exec c { s with pending := rest }

/-- With no command waiting, a step is one TCLK: TB counts up by one while the main domain runs (R8), and stands while it sleeps or has no
power (R246). That an empty queue is a TCLK is the model's choice (DESIGN CHOICE, notes/assumptions/1). No command counts TB but a wake, and none sets it but a power-on (R8, R246, R379): after every other command TB is what it was. -/
def Obligations.TimePasses : Prop :=
  (∀ s : State, s.pending = [] → ∃ t, step s = .next t ∧ t.pending = [] ∧
    (s.pwr = .run → t.tb = s.tb + 1) ∧ (s.pwr ≠ .run → t = s))
  ∧ (∀ (c : Instr) (s t : State), exec c s = .next t →
    (∀ n, c ≠ .wakeRelease n) → c ≠ .acornPowerOn → c ≠ .mainPowerOn → (∀ r, c ≠ .railResetLoss r) → t.tb = s.tb)

/-- Every command answers a next state, leaves the rest of the queue in its order and takes back nothing that the part has sent. -/
def Obligations.CommandsComplete : Prop :=
  ∀ (c : Instr) (s : State), ∃ t, exec c s = .next t ∧ t.pending = s.pending ∧ s.sent <:+ t.sent ∧ s.free ≤ t.free

/-- Every step keeps the memories and the register file in canonical form and hands over all that it emits. -/
def Obligations.StepKeepsSettled : Prop := ∀ s t : State, s.Settled → step s = .next t → t.Settled

/-- What reset leaves (R8, R30, R37, R56, R379): TB 0, the loader IDLE, the identification of the part, an Acorn power-on as the cause, no output on,
every pad in its reset state, no command waiting. That TB is 0 at an Acorn power-on is the table's; the image has not loaded yet. The state after reset is settled. -/
def Obligations.ResetState : Prop :=
  (let s := State.reset
  s.tb = 0 ∧ s.imgState = isIdle ∧ s.fld SYS_ID_PART = 0x0128 ∧ s.fld SYS_RSTCAUSE = 1 ∧ s.pending = []
    ∧ (∀ c : Fin 128, s.flag HSK_STAT_OUT c = false ∧ s.fld PAD_STAT_STATE c = padReset)
    ∧ (∀ n : Fin 6, s.trkState n = stStopped ∧ s.aw n = 0))
  ∧ (State.reset.Settled)

/-! Registers (chapter 1) -/

/-- The families whose write has an effect of its own, which the statements of their commands give. -/
abbrev ownWrites : List Fam :=
  [.SYS_RSTCTL, .SYS_SLPCTL, .SYS_FNMODE, .SYS_INTST, .IMG_DCTL, .IMG_LOADCTL, .FCO_SAFECLR, .FCO_SRC, .FCO_KICK, .FCO_RDEC, .FCO_RCLR, .FCO_PEND, .IRT_SRC,
   .IRT_SWSET, .IRT_SWCLR, .IRT_CPEOI, .CPC_CPCTL, .TB_NTCFG, .TMR_CTRL, .TMR_CNT, .TMR_TOP, .TMR_CMP, .TMR_CFG, .TMR_TRIG, .TMRG_CFG, .TRK_CMD,
   .TRK_SYNCASSERT, .TRK_PCMD, .TRK_COR, .MK_POS, .MK_FIRED, .ENC_POS, .CH_EVT, .CH_CMD, .CH_PWMPER, .CH_PWMDUTY, .CH_PWMLOCK, .CH_INJDLY, .HSK_FORCE,
   .PAD_TEST, .TDAC_CTRL, .ADC_IN, .ADC_SEQ0, .ADC_SEQ1, .ADC_TSEL, .ADC_CFG, .PSQ_TSEL, .ADC_CTRL, .ADC_URG, .ADC_CALDEC, .PSQ_CTRL, .PSQ_TXQ,
   .CAL_CTL, .CAL_WCRC, .CAL_WBUF, .ACN_CTL, .JRN_HDEC, .JRN_HBUF, .ETH_SAK, .JS_CTRL, .XSP_CMD]

/-- A plain write goes by the access code of each field (R11): bit j takes the written value where an RW field holds it that the hardware has not changed in this TCLK, is
cleared where a W1C field holds it, 1 is written and it stood before this TCLK, and stands otherwise. `base` is the word at the start of the TCLK and `old` the word now. -/
def Obligations.AccessCodes : Prop :=
  ∀ (h : RegHit) (base old v w : Word) (j : Nat), j < 32 → h.half = 0 →
    let holds (f : RegField) (i : Nat) : Bool := decide (f.lo ≤ i) && decide (i < f.lo + f.len)
    let kept (f : RegField) : Bool := (List.range 32).all fun i => !holds f i || old.getLsbD i == base.getLsbD i
    let rw := h.row.fields.any fun f => f.acc == .rw && holds f j && kept f
    let w1c := h.row.fields.any fun f => f.acc == .w1c && holds f j
    (h.written base old v w).getLsbD j =
      if rw then v.getLsbD j else if w1c && v.getLsbD j && base.getLsbD j then false else w.getLsbD j

/-- REGISTER_WRITE of a register without a row of its own: the word that its access codes give, and nothing else, but that an enable or a status register of interrupts may let a source fire (R11, R298, R432). A write of a register
without a writable field, or of a reserved offset, changes nothing and ends without error (R12, R13, R432). A core's access that the firewall does not pass ends in a bus error, writes nothing, counts in FWREF, raises CPn_FIREWALL, and reaches a running core out of
an emergency as a store access fault at its pc (R26, R283); that of a context through the gateway ends in a bus error, and so does one of 8 or 16 bits (R21, R27). The PCIe host writes nothing through BAR0 in LOADED outside a live page. -/
def Obligations.RegisterWrite : Prop :=
  (∀ (s : State) (by_ : Agent) (a : Nat) (v : Word) (h : RegHit), s.due = [] → by_ ≠ .pciHost → s.Admits by_ a true v → lookupReg a = some h →
    h.row.fam ∉ ownWrites → h.row.wide = false → h.row.readOnly = false →
    ∃ t, exec (.registerWrite by_ a .b32 (v.setWidth 64)) s = .next t ∧ t.bus = ⟨false, 0⟩ ∧ t.rd a = h.written (s.baseRd a) (s.rd a) v (s.rd a)
      ∧ t.baseRd a = h.written (s.baseRd a) (s.rd a) v (s.baseRd a) ∧ s.Only t [.bus] (a :: (List.range 18).map (IRT_PEND.addr ·))
      ∧ (intBlkOf h.row.fam = none → s.Only t [.bus] [a]))
  ∧ (∀ (s : State) (by_ : Agent) (a : Nat) (v : Word), s.due = [] → by_ ≠ .pciHost → s.Admits by_ a true v →
    (∀ h, lookupReg a = some h → h.row.readOnly = true) →
    exec (.registerWrite by_ a .b32 (v.setWidth 64)) s = .next s.busOk)
  ∧ (∀ (s : State) (n : Fin 4) (a : Nat) (v : Word), s.pwr = .run → inBlock a = true → a % 4 = 0 → s.pmpPass (.cp n) a 4 true = true →
    s.regAccess (.cp n) a true v = false →
    ∃ x : State, exec (.registerWrite (.cp n) a .b32 (v.setWidth 64)) s = .next x.settle ∧ x.bus = ⟨true, 0⟩
      ∧ (s.cpState n ≠ cpRunning → x.due = s.due ++ [.fault ⟨20 + 6 * n.val, 0⟩] ∧ s.Only x [.bus, .due] [CPC_CPSTAT.addr n]
          ∧ x.fld CPC_CPSTAT_FWREF n = min 255 (s.fld CPC_CPSTAT_FWREF n + 1))
      ∧ (s.cpState n = cpRunning → (s.core n).emerg = false → x.due = s.due ++ [.fault ⟨20 + 6 * n.val, 0⟩]
          ∧ (x.core n).mcause = 7 ∧ (x.core n).mepc = setBits (s.core n).pc 0 1 0 ∧ (x.core n).pc = setBits (s.core n).mtvec 0 2 0
          ∧ (x.core n).user = false ∧ s.Only x [.bus, .due, .cores, .free] [CPC_CPSTAT.addr n]))
  ∧ (∀ (s : State) (x : Fin 512) (a : Nat) (v : Word), s.pwr = .run → s.due = [] → inBlock a = true → a % 4 = 0 →
    s.regAccess (.gw x) a true v = false → exec (.registerWrite (.gw x) a .b32 (v.setWidth 64)) s = .next s.busErr)
  ∧ (∀ (s : State) (x : Fin 512) (a : Nat) (size : Size) (v : BitVec 64), s.pwr = .run → s.due = [] → 0x40000000 ≤ a → size = .b8 ∨ size = .b16 →
    exec (.registerWrite (.gw x) a size v) s = .next s.busErr)
  ∧ ∀ (s : State) (off : Nat) (size : Size) (v : BitVec 64), s.Ready → s.imgState = isLoaded → s.pageLive (off / 0x4000) = false →
    exec (.registerWrite .pciHost off size v) s = .next s.busOk

/-- READ_CLEAR (R11): a read of a register with RC fields answers in each what stood in it before this TCLK, clears it but for what the hardware has counted in this TCLK, and touches
nothing else; a read of SCH_POOL sets LOW to FREE, and one of CTXsss_STAT ends the holds of its faults. LATCHED_READ_LOW (R28): a read of the low half of a 64-bit register that keeps its value in the register file
answers the half and latches the other for its initiator; one of TB_COUNT does so with TB. SPLIT_WRITE_LOW and SPLIT_WRITE_HIGH (R29): the low half of a shadow of the network time or of
JSn_RELC waits in the initiator's latch; the high half applies both, with the current low half where none is held. -/
def Obligations.LatchedAccesses : Prop :=
  (∀ (s : State) (by_ : Agent) (a : Nat) (h : RegHit), s.due = [] → by_ ≠ .pciHost → s.Admits by_ a false 0 → lookupReg a = some h →
    (∃ f ∈ h.row.fields, f.acc = .rc) →
    (h.row.fam ≠ .SCH_POOL → ∃ t, exec (.readClear by_ a .b32) s = .next t ∧ t.bus.err = false
      ∧ (∀ f ∈ h.row.fields, f.acc = .rc →
          bitsOf (t.bus.data.setWidth 32) f.lo f.len = bitsOf (s.baseRd a) f.lo f.len
          ∧ (s.baseRd a = s.rd a → bitsOf (t.rd a) f.lo f.len = 0)
          ∧ (h.row.fam ≠ .PAD_ISENSE → h.row.fam ≠ .GW_URGSTAT → bitsOf (s.baseRd a) f.lo f.len < bitsOf (s.rd a) f.lo f.len →
              bitsOf (t.rd a) f.lo f.len = bitsOf (s.rd a) f.lo f.len - bitsOf (s.baseRd a) f.lo f.len))
      ∧ (∀ f ∈ h.row.fields, f.acc ≠ .rc → bitsOf (t.rd a) f.lo f.len = bitsOf (s.rd a) f.lo f.len)
      ∧ s.Only t [.bus, .gw] [a] ∧ (h.row.fam ≠ .CTX_STAT → t.gw = s.gw))
    ∧ (h.row.fam = .SCH_POOL → ∃ t, exec (.readClear by_ a .b32) s = .next t ∧ t.bus.err = false
      ∧ bitsOf (t.bus.data.setWidth 32) SCH_POOL_LOW.lo SCH_POOL_LOW.len = s.fld SCH_POOL_LOW ∧ t.fld SCH_POOL_LOW = s.fld SCH_POOL_FREE
      ∧ t.fld SCH_POOL_FREE = s.fld SCH_POOL_FREE ∧ s.Only t [.bus] [a])
    ∧ (h.row.fam = .CTX_STAT → ∃ t, exec (.readClear by_ a .b32) s = .next t
      ∧ t.gx h.n = { s.gx h.n with authHeld := false, repHeld := false, refHeld := false } ∧ ∀ x, x ≠ h.n → t.gx x = s.gx x))
  ∧ (∀ (s : State) (by_ : Agent) (a : Nat) (h : RegHit), s.due = [] → by_ ≠ .pciHost → s.Admits by_ a false 0 → lookupReg a = some h →
    h.row.wide = true → h.half = 0 → h.row.fam ∉ [.TB_COUNT, .TB_NOW, .TRK_TREC] →
    let seen (half : Nat) (w : Word) : Word := w &&& BitVec.ofNat 32 ({ h with half := half }.maskOf fun f => f.acc != Sys2Proof.Machine.Acc.wo)
    ∃ t, exec (.latchedReadLow by_ a) s = .next t ∧ t.bus = ⟨false, (seen 0 (s.rd a)).setWidth 64⟩
      ∧ tget none t.rdLatch (latchKey by_ (a + 4)) = some (seen 1 (s.rd (a + 4)))
      ∧ (∀ k, k ≠ latchKey by_ (a + 4) → tget none t.rdLatch k = tget none s.rdLatch k) ∧ s.Only t [.bus, .rdLatch] [])
  ∧ (∀ (s : State) (by_ : Agent), s.due = [] → by_ ≠ .pciHost → s.Admits by_ TB_COUNT.addr false 0 →
    ∃ t, exec (.latchedReadLow by_ TB_COUNT.addr) s = .next t ∧ t.bus = ⟨false, s.tb.setWidth 32 |>.setWidth 64⟩
      ∧ tget none t.rdLatch (latchKey by_ (TB_COUNT.addr + 4)) = some ((s.tb >>> 32).setWidth 32)
      ∧ (∀ k, k ≠ latchKey by_ (TB_COUNT.addr + 4) → tget none t.rdLatch k = tget none s.rdLatch k)
      ∧ s.Only t [.bus, .rdLatch] [])
  ∧ (∀ (s : State) (by_ : Agent) (r : NtReg) (v : Word), s.due = [] → by_ ≠ .pciHost → s.flag TB_NTCFG_ARM = false → s.fld TB_NTCFG_SRC = 0 →
    let a := (ntFld r).addr
    (s.Admits by_ a true v →
      ∃ t, exec (.splitWriteLow by_ a v) s = .next t ∧ tget none t.wrLatch (latchKey by_ a) = some v ∧ s.Only t [.bus, .wrLatch] [])
    ∧ (s.Admits by_ (a + 4) true v →
      ∃ t, exec (.splitWriteHigh by_ (a + 4) v) s = .next t
        ∧ t.nt = s.nt.set r (((tget none s.wrLatch (latchKey by_ a)).getD (BitVec.ofNat 32 (s.nt.get r))).toNat + v.toNat * 2 ^ 32)
        ∧ tget none t.wrLatch (latchKey by_ a) = none ∧ s.Only t [.bus, .wrLatch, .nt] []))
  ∧ ∀ (s : State) (by_ : Agent) (j : Fin 16) (v : Word), s.due = [] → by_ ≠ .pciHost →
    let a := JS_RELC.addr j
    let x := ((tget none s.wrLatch (latchKey by_ a)).getD (s.rd a)).toNat + v.toNat * 2 ^ 32
    (s.Admits by_ a true v →
      ∃ t, exec (.splitWriteLow by_ a v) s = .next t ∧ tget none t.wrLatch (latchKey by_ a) = some v ∧ s.Only t [.bus, .wrLatch] [])
    ∧ (s.Admits by_ (a + 4) true v → x % 32 = 0 → s.wide JS_RELC j ≤ x → x ≤ s.wide JS_HEADC j →
      ∃ t, exec (.splitWriteHigh by_ (a + 4) v) s = .next t ∧ t.wide JS_RELC j = x ∧ tget none t.wrLatch (latchKey by_ a) = none
        ∧ s.Only t [.bus, .wrLatch] [a, a + 4])
    ∧ (s.Admits by_ (a + 4) true v → ¬(x % 32 = 0 ∧ s.wide JS_RELC j ≤ x ∧ x ≤ s.wide JS_HEADC j) →
      ∃ t, exec (.splitWriteHigh by_ (a + 4) v) s = .next t ∧ t.wide JS_RELC j = s.wide JS_RELC j
        ∧ t.fld JS_CNT1_RELERR j = min (2 ^ JS_CNT1_RELERR.len - 1) (s.fld JS_CNT1_RELERR j + 1) ∧ s.Only t [.bus, .wrLatch] [JS_CNT1.addr j])

/-- A store of a core to the system SRAM writes its bytes least significant first and no other byte, and a load reads them back (R10, R27, R281). -/
def Obligations.SramAccess : Prop :=
  ∀ (s : State) (n : Fin 4) (a : Nat) (v : BitVec 64), s.Ready → s.pmpPass (.cp n) a 4 true = true → a < 0x40000000 →
    s.memAt (.cp n) a .b32 true = some .sram →
    ∃ t, exec (.registerWrite (.cp n) a .b32 v) s = .next t ∧ t.bus = ⟨false, 0⟩
      ∧ (∀ i, i < 4 → tget 0 t.sram (a + i) = (v >>> (8 * i)).setWidth 8)
      ∧ (∀ b, (∀ i, i < 4 → b ≠ a + i) → tget 0 t.sram b = tget 0 s.sram b)
      ∧ s.Only t [.bus, .sram] []
      ∧ (t.pmpPass (.cp n) a 4 false = true → t.memAt (.cp n) a .b32 false = some .sram →
          ∃ u, exec (.readClear (.cp n) a .b32) t = .next u ∧ u.bus = ⟨false, v.setWidth 32 |>.setWidth 64⟩ ∧ t.Only u [.bus] [])

/-! Dual-mode functions (chapter 1) -/

/-- FNMODE_WRITE (R34): a context without CFG_MODE is refused with a bus error and MODE stands; otherwise every bit of MODE that FNLOCK does not lock takes the written value, and the locked bits
stand. FN_MODE_SWITCH (R35): FN_JREC at a record boundary with no request outstanding, and an idle channel of FN_RETRY, switch; when the last instance has switched, INFORCE takes the mode and PEND clears. A
converter of FN_CALTRK switches between conversions and loads its offsets. A function whose switch point does not stand, or is an event of its own, changes nothing. DECISION_TIMEOUT (R32): the
request of an instance falls away with its fault, and the function's fallback applies; before the deadline, and with no request, nothing happens. -/
def Obligations.FunctionModes : Prop :=
  (∀ (s : State) (by_ : Agent) (v : Word), s.Admits by_ SYS_FNMODE.addr true v →
    ∃ x : State, exec (.fnmodeWrite by_ v) s = .next x.settle ∧
      ∀ i, i < 8 → x.fld SYS_FNMODE_MODE / 2 ^ i % 2 =
        if s.fld SYS_FNLOCK_LOCK / 2 ^ i % 2 = 1 then s.fld SYS_FNMODE_MODE / 2 ^ i % 2 else v.toNat / 2 ^ i % 2)
  ∧ (∀ (s : State) (by_ : Agent) (x : Nat) (v : Word), s.Ready → by_ ≠ .dbg ∨ s.dbgOpen = true → s.ctxOf by_ = some x →
    s.cap x capCfgMode = false → ∃ y : State, exec (.fnmodeWrite by_ v) s = .next y.settle ∧ y.bus.err = true
      ∧ y.rd SYS_FNMODE.addr = s.rd SYS_FNMODE.addr)
  ∧ (∀ (s : State) (fn : Fin 8) (k : Fin 128), s.Ready → s.fnAtPoint fn k = false → exec (.fnModeSwitch fn k) s = .next s)
  ∧ (∀ s : State, s.Ready → s.fnPending fnJrec = true → s.jrnReq = none →
    ∃ t, exec (.fnModeSwitch 6 0) s = .next t ∧ t.fnPending fnJrec = false
      ∧ t.fld SYS_FNSTAT_INFORCE / 2 ^ 6 % 2 = s.fld SYS_FNMODE_MODE / 2 ^ 6 % 2 ∧ s.Only t [.switched] [SYS_FNSTAT.addr])
  ∧ (∀ (s : State) (k : Fin 128), s.Ready → s.fnPending fnRetry = true → s.fld FCO_BKT_CSTATE k ∉ [csCool, csHold, csWaitdec] →
    let last := ∀ j : Fin 128, j ≠ k → tget false s.switched (fnRetry * 128 + j) = true
    ∃ t, exec (.fnModeSwitch 4 k) s = .next t ∧ s.Only t [.switched] [SYS_FNSTAT.addr]
      ∧ (¬last → tget false t.switched (fnRetry * 128 + k) = true ∧ t.fnPending fnRetry = true)
      ∧ (last → t.fnPending fnRetry = false ∧ t.fld SYS_FNSTAT_INFORCE / 2 ^ 4 % 2 = s.fld SYS_FNMODE_MODE / 2 ^ 4 % 2))
  ∧ (∀ (s : State) (a : Fin 4), s.Ready → s.fnPending fnCaltrk = true → (s.ad a).conv = none → a.val ∈ s.fnInstances fnCaltrk →
    tget false s.switched (fnCaltrk * 128 + a) = false →
    ∃ t, exec (.fnModeSwitch 5 ⟨a.val, by omega⟩) s = .next t ∧ (∀ g, g < 5 → t.sfld ADC_OFS a g = s.calOfs a g)
      ∧ s.Only t [.switched] (SYS_FNSTAT.addr :: (List.range 5).map (ADC_OFS.addr a ·)))
  ∧ (∀ (s : State) (k : Fin 128), s.Ready → ∀ fn : Fin 8,
    (s.askOf fn k = none → exec (.decisionTimeout fn k) s = .next s)
    ∧ ∀ d, s.askOf fn k = some d →
      (s.now < d → exec (.decisionTimeout fn k) s = .next s)
      ∧ (d ≤ s.now → ∃ x : State, exec (.decisionTimeout fn k) s = .next x.settle ∧ x.due.head? = some (.fault ⟨144 + fn.val, k.val⟩)
        ∧ x.askOf fn k = none
        ∧ (fn.val = fnSync → x.flag TRK_DECSTAT_REQ k = false ∧ s.Only x [.due, .ask] [TRK_DECSTAT.addr k])
        ∧ (fn.val = fnTooth → x.flag TRK_PDEC_REQ k = false ∧ x.flag TRK_PSTAT_TOOTHSTALE k = true ∧ (x.tr k).corNext = some []
            ∧ s.Only x [.due, .ask, .trk] [TRK_PDEC.addr k, TRK_PSTAT.addr k])
        ∧ (fn.val = fnKnock → s.Only x [.due, .ask] [])
        ∧ (fn.val = fnInjdly → x.flag CH_INJDEC_REQ k = false ∧ x.flag CH_STAT_INJSTALE k = true ∧ s.Only x [.due, .ask] [CH_INJDEC.addr k, CH_STAT.addr k])
        ∧ (fn.val = fnRetry → x.bankBit FCO_RREQ k = false ∧ (x.fld FCO_BKT_CSTATE k = csCool ∨ x.retired k = true))
        ∧ (fn.val = fnCaltrk → k.val < 4 → x.flag ADC_CALDEC_REQ k = false ∧ (x.ad k).stale = true ∧ ∀ g, g < 5 → x.sfld ADC_OFS k g = s.calOfs k g)
        ∧ (fn.val = fnJrec → ∀ r, s.jrnReq = some r → x.jrnReq = none ∧ x.fld JRN_HDEC_REQ = 0
            ∧ ∀ q l, (s.str r.stream).fifo = q :: l → (x.str r.stream).fifo = { q with r := { q.r with body := [], nobody := true } } :: l)
        ∧ (fn.val = fnRestart → s.trkState k = stRevSync ∨ s.trkState k = stCycleSync → x.flag TRK_STATE_HELD k = false
            ∧ s.Only x [.due, .ask] [TRK_STATE.addr k])))

/-! The image (chapter 2) -/

/-- BOOT_LOAD (R37, R53, R57): the primary slot, then the fallback; a box that passes is in force and the device LOADED from its slot; with neither the device is FAILED, its pair 0 running
the recovery loop, with both causes shown and the Acorn fields that an image writes 0. Out of IDLE the command has no effect. RECOVERY_GO (R58): in FAILED, a write of 1 to GO checks the staging buffer as a full image; one that passes is in force, and otherwise the device stays
FAILED and shows the cause. Any other write has no effect. -/
def Obligations.FullLoads : Prop :=
  let inForce (x : State) (b : Nat → Nat) (slot : Nat) : Prop :=
    x.imgState = isLoaded ∧ x.fld IMG_STATUS_SLOT = slot ∧ x.fld IMG_VERSION_IMGVER = boxVer b % 2 ^ IMG_VERSION_IMGVER.len ∧ x.fld IMG_DSEQ = 0
      ∧ x.fld IMG_KEY_USED = boxKeyidx b % 2 ^ IMG_KEY_USED.len ∧ x.img.sects = boxContents b ∧ x.img.delta = none
  let acnImg : List Nat := [ACN_CFG.addr, ACN_TRK.addr, ACN_ROLL.addr, ACN_WAKECFG.addr] ++ (List.range 64).map (ACN_PROG.addr ·)
  (∀ (s : State) (ep ef : Bool), s.Ready →
    let pri (i : Nat) : Nat := s.flashAt i
    let fb (i : Nat) : Nat := s.flashAt (0x800000 + i)
    let p := (s.setFld IMG_STATUS_STATE isLoading).fullCheck pri ep
    let y := (((s.setFld IMG_STATUS_STATE isLoading).setFld IMG_CAUSE_PRI p.cause).showErr p).acnClear
    let f := y.fullCheck fb ef
    (s.imgState ≠ isIdle → exec (.bootLoad ep ef) s = .next s)
    ∧ (s.imgState = isIdle → p.cause = icOk → ∃ x : State, exec (.bootLoad ep ef) s = .next x.settle ∧ inForce x pri 0)
    ∧ (s.imgState = isIdle → p.cause ≠ icOk → f.cause = icOk → ∃ x : State, exec (.bootLoad ep ef) s = .next x.settle ∧ inForce x fb 1
        ∧ x.fld IMG_CAUSE_PRI = p.cause % 256)
    ∧ (s.imgState = isIdle → p.cause ≠ icOk → f.cause ≠ icOk → ∃ t, exec (.bootLoad ep ef) s = .next t
        ∧ t.imgState = isFailed ∧ t.fld IMG_CAUSE_PRI = p.cause % 256 ∧ t.fld IMG_CAUSE_FB = f.cause % 256
        ∧ t.core 0 = Core.zero ∧ t.fld CPC_CPSTAT_STATE 0 = cpRunning ∧ t.flag ACN_CFG_PEN = false ∧ t.fld ACN_WAKECFG_WEN = 0
        ∧ s.Only t [.cores] ([IMG_STATUS.addr, IMG_CAUSE.addr, IMG_ERRREC.addr, CPC_CPSTAT.addr 0] ++ acnImg)))
  ∧ (∀ (s : State) (by_ : Agent) (v : Word), s.due = [] → s.Admits by_ IMG_LOADCTL.addr true v →
    let b (i : Nat) : Nat := s.stageAt i
    let r := s.fullCheck b false
    (bitsOf v 0 1 = 0 ∨ s.imgState ≠ isFailed → exec (.recoveryGo by_ v) s = .next s.busOk)
    ∧ (bitsOf v 0 1 = 1 → s.imgState = isFailed → r.cause = icOk → ∃ x : State, exec (.recoveryGo by_ v) s = .next x.settle ∧ inForce x b 2)
    ∧ (bitsOf v 0 1 = 1 → s.imgState = isFailed → r.cause ≠ icOk → ∃ t, exec (.recoveryGo by_ v) s = .next t ∧ t.imgState = isFailed
        ∧ t.fld IMG_CAUSE_STG = r.cause % 256 ∧ s.Only t [.bus] ([IMG_CAUSE.addr, IMG_ERRREC.addr] ++ acnImg)))

/-- DELTA_GO, DELTA_SWITCH and DELTA_WAIT_EXPIRY (R59, R60, R62, R63): a delta that passes its checks waits, BUSY, up to WAIT ms for the safe states; at the switch
its sections replace those in force, DSEQ is the delta's and the result is OK; one that fails a check raises IMG_DELTA_REFUSED with its cause; one whose time runs out ends
NOT_SAFE with nothing switched. A GO while BUSY, a switch without the safe states and an expiry before its time have no effect; a GO in FAILED ends with the result STATE. -/
def Obligations.DeltaCommands : Prop :=
  (∀ (s : State) (by_ : Agent) (v : Word), s.due = [] → s.Admits by_ IMG_DCTL.addr true v →
    let w := s.busOk.setFld IMG_DCTL_WAIT (bitsOf v 16 10)
    let b (i : Nat) : Nat := w.stageAt i
    let r := w.deltaCheck b
    (bitsOf v 0 1 = 0 ∨ s.flag IMG_DSTAT_BUSY = true → exec (.deltaGo by_ v) s = .next w)
    ∧ (bitsOf v 0 1 = 1 → s.flag IMG_DSTAT_BUSY = false → s.imgState = isFailed → ∃ t, exec (.deltaGo by_ v) s = .next t
        ∧ t.fld IMG_DSTAT_RESULT = icState ∧ t.flag IMG_DSTAT_BUSY = false ∧ s.Only t [.bus, .img] [IMG_DCTL.addr, IMG_DSTAT.addr])
    ∧ (bitsOf v 0 1 = 1 → s.flag IMG_DSTAT_BUSY = false → s.imgState = isLoaded → r.cause ≠ icOk → ∃ x : State, exec (.deltaGo by_ v) s = .next x.settle
        ∧ x.fld IMG_DSTAT_RESULT = r.cause % 2 ^ IMG_DSTAT_RESULT.len ∧ x.flag IMG_DSTAT_BUSY = false ∧ x.due = [.fault ⟨9, r.cause % 65536⟩] ∧ x.img.sects = s.img.sects
        ∧ s.Only x [.bus, .img, .due] [IMG_DCTL.addr, IMG_DSTAT.addr, IMG_ERRREC.addr])
    ∧ (bitsOf v 0 1 = 1 → s.flag IMG_DSTAT_BUSY = false → s.imgState = isLoaded → r.cause = icOk → ∃ t, exec (.deltaGo by_ v) s = .next t
        ∧ t.img.delta = some ⟨boxDseq b, boxVer b, boxContents b, s.now + bitsOf v 16 10 * 400000⟩
        ∧ t.flag IMG_DSTAT_BUSY = true ∧ s.Only t [.bus, .img] [IMG_DCTL.addr, IMG_DSTAT.addr]))
  ∧ (∀ s : State, s.Ready →
      (s.img.delta = none → exec .deltaSwitch s = .next s ∧ exec .deltaWaitExpiry s = .next s)
      ∧ ∀ d : Delta, s.img.delta = some d →
        (d.sects.all s.sectSafe = false ∨ d.until_ < s.now → exec .deltaSwitch s = .next s)
        ∧ (d.sects.all s.sectSafe = true → s.now ≤ d.until_ → d.dseq < 2 ^ 32 → ∃ x : State, exec .deltaSwitch s = .next x.settle
            ∧ x.fld IMG_DSEQ = d.dseq ∧ x.flag IMG_DSTAT_BUSY = false ∧ x.fld IMG_DSTAT_RESULT = icOk ∧ x.img.delta = none
            ∧ ∀ y ∈ d.sects, y ∈ x.img.sects)
        ∧ (s.now < d.until_ ∨ (s.now = d.until_ ∧ d.sects.all s.sectSafe = true) → exec .deltaWaitExpiry s = .next s)
        ∧ (d.until_ < s.now ∨ (s.now = d.until_ ∧ d.sects.all s.sectSafe = false) → ∃ t, exec .deltaWaitExpiry s = .next t
            ∧ t.img = { s.img with delta := none }
            ∧ t.flag IMG_DSTAT_BUSY = false ∧ t.fld IMG_DSTAT_RESULT = icNotSafe ∧ s.Only t [.img] [IMG_DCTL.addr, IMG_DSTAT.addr]))

/-! Trackers (chapter 3) -/

/-- TOOTH_EDGE, TRAILING_EDGE, CAM_EDGE and STOP_TIMEOUT (R69, R71, R72, R74, R75, R81, R82, R85-R92). An edge of the active polarity that outlasts the filter, and in VR mode was armed, is
evaluated FILT + 3 TCLK after its stamp: blanked, it counts in NOISE; otherwise it takes the stamp and leaves the tracker in the state and on the entry that the transition table gives its gap test and its
verification. A trailing edge gives its tooth the direction of its width, a cam edge shows its angle and its stamp and resolves or verifies the phase of the cycle, and a stop time-out takes the tracker to STOPPED with the rate 0. An input that finds
the transition of this TCLK made, or one that R81 takes first, waits; one whose condition does not hold changes nothing. -/
def Obligations.TrackerInputs : Prop :=
  ∀ (s : State) (n : Fin 6) (stamp : BitVec 64) (held : BitVec 10), s.Ready → s.flag TRK_CFG_EN n = true →
    let st := s.trkState n
    let e := s.tidx n
    let prev (i : Nat) := s.entPrev n i % 2 ^ TRK_STATE_TIDX.len
    let nxt := s.entNext n e % 2 ^ TRK_STATE_TIDX.len
    let may : List Part := [.angle, .angPast, .trk, .knk, .husk, .pad, .chan, .mkLast, .ask, .switched, .due, .free]
    let others (x : State) : Prop := s.OnlyParts x may ∧ ∀ m, m < 6 → m ≠ n.val → x.trkState m = s.trkState m ∧ x.tr m = s.tr m ∧ x.ang m = s.ang m
    let waits (c : Instr) (i : TrkIn) : Prop := s.trkBusy n = true ∨ s.outranked n i.rank = true →
      exec c s = .next (s.setTr n { s.tr n with wait := (s.tr n).wait ++ [i] })
    let now_ (r : Nat) : Prop := s.trkBusy n = false ∧ s.outranked n r = false
    let judged (c : Instr) (at_ : Nat) (back : Bool) : Prop :=
      let t := if (s.tr n).haveLast then some (min 0xFFFFFFFF (at_ - s.wide TRK_EDGETB n)) else none
      let tp := if (s.tr n).haveLast && back != s.flag TRK_STATE_DIR n then none else (s.tr n).tp
      let gap := !back && s.gapTest n t tp
      let found := (s.verify n e (if back then s.entNext n e else s.entPrev n e) t tp).1
      let passes := found = .ok true ∨ found = .ok false ∨ found = .tol
      let last := s.nTooth n + 2 ≤ (s.tr n).restEdges + 1
      (s.blanked n at_ back = true → ∃ x : State, exec c s = .next x.settle ∧ x.fld TRK_CNT_NOISE n = min (2 ^ TRK_CNT_NOISE.len - 1) (s.fld TRK_CNT_NOISE n + 1)
        ∧ x.trkState n = st ∧ x.tidx n = e ∧ x.wide TRK_EDGETB n = s.wide TRK_EDGETB n ∧ x.angle = s.angle ∧ others x)
      ∧ (s.blanked n at_ back = false → ∃ x : State, exec c s = .next x.settle ∧ others x
        ∧ x.wide TRK_EDGETB n = at_ ∧ (∀ p, t = some p → x.fld TRK_PERIOD n = p)
        ∧ (st = stStopped → x.trkState n = if s.flag ACN_REC2_VALID && s.roll.trk == n && s.flag TRK_CFG_RESTORE_EN n then stStopped else stSeeking)
        ∧ (st = stLost → x.trkState n = if s.flag TRK_CTRL_LOSTLATCH n then stLost else stSeeking)
        ∧ (st = stSeeking → x.trkState n = (if gap && !s.hostMode fnSync n then stGapFound else stSeeking)
            ∧ (gap = true → s.hostMode fnSync n = false → x.tidx n = 0) ∧ (gap = true → s.hostMode fnSync n = true → x.flag TRK_DECSTAT_REQ n = true))
        ∧ (st = stGapFound → back = true → x.trkState n = stSeeking)
        ∧ (st = stRevSync ∨ st = stCycleSync ∨ st = stRestored → back = true → x.trkState n = stReverse ∧ x.tidx n = prev e)
        ∧ (st = stReverse → back = true → x.tidx n = prev e ∧ x.trkState n = if passes then stReverse else stLost)
        ∧ (st = stReverse → back = false → x.tidx n = nxt
            ∧ x.trkState n = (if ¬passes then stLost else if found ≠ .tol ∧ s.fld TRK_LOSS_FWDN n ≤ (s.tr n).fwd + 1 then s.fld TRK_STATE_PREV n else stReverse))
        ∧ (st = stRestored → back = false → x.tidx n = nxt ∧ x.trkState n = (
            if t = none then (if last then stLost else stRestored) else if found = .ok true then s.restoredTo n else if passes ∧ ¬last then stRestored else stLost))
        ∧ (st = stGapFound → back = false → x.tidx n = (if found = .unexpected then 0 else nxt) ∧ x.trkState n = (
            if found = .ok true then (if s.nRev n = 1 then stCycleSync else stRevSync) else if passes ∨ found = .unexpected then stGapFound else stSeeking))
        ∧ (st = stRevSync ∨ st = stCycleSync → back = false → x.tidx n = nxt ∧ x.trkState n = (if passes then st else stLost)
            ∧ (found = .unexpected → x.fld TRK_STATE_CAUSE n = lcUnexpected) ∧ (found = .missing → x.fld TRK_STATE_CAUSE n = lcMissing)
            ∧ (found = .tolLoss → x.fld TRK_STATE_CAUSE n = lcTooth)))
    (∀ (rising : Bool) (peak : BitVec 12),
      let c := Instr.toothEdge n ⟨rising, stamp, held⟩ peak
      let filt := s.fld TRK_INFLT_FILT n
      let accepted := rising = s.flag TRK_CFG_EDGE n ∧ filt ≤ held.toNat ∧ s.vrThr n ≤ peak.toNat ∧ stamp.toNat + filt + 3 = s.now
      let defers := s.fld TRK_CFG_DIRSRC n = 1 ∧ st = stReverse
      (¬accepted → exec c s = .next s)
      ∧ (accepted → waits c (.tooth stamp.toNat peak.toNat))
      ∧ (accepted → now_ 4 → defers → ∃ t, exec c s = .next t ∧ (t.tr n).deferred = some stamp.toNat ∧ s.Only t [.trk] [TRK_VR.addr n])
      ∧ (accepted → now_ 4 → ¬defers → judged c stamp.toNat (s.fld TRK_CFG_DIRSRC n == 2 && s.encBack n)))
    ∧ (let c := Instr.trailingEdge n ⟨stamp, held⟩
      let filt := s.fld TRK_INFLT_FILT n
      let accepted := s.fld TRK_CFG_DIRSRC n = 1 ∧ filt ≤ held.toNat ∧ stamp.toNat + filt + 2 = s.now
      let wide (p : Nat) : Bool := decide (s.fld TRK_INFLT_PWTHR n * 200 ≤ stamp.toNat - p)
      (¬accepted → exec c s = .next s)
      ∧ (accepted → waits c (.trail stamp.toNat))
      ∧ (accepted → now_ 3 → ∀ p, (s.tr n).deferred = some p → judged c p (wide p))
      ∧ (accepted → now_ 3 → (s.tr n).deferred = none →
          (∀ p, (s.tr n).pulse = some p → wide p = false → exec c s = .next (s.setTr n { s.tr n with pulse := none }))
          ∧ ((s.tr n).pulse = none → exec c s = .next s)
          ∧ ∀ p, (s.tr n).pulse = some p → wide p = true → ∃ x : State, exec c s = .next x.settle ∧ others x ∧ (x.tr n).pulse = none ∧ x.flag TRK_STATE_DIR n = true
            ∧ (st = stRevSync ∨ st = stCycleSync ∨ st = stRestored → x.trkState n = stReverse ∧ x.tidx n = prev (prev e))
            ∧ (st = stGapFound → x.trkState n = stSeeking) ∧ (st ∉ [stRevSync, stCycleSync, stRestored, stGapFound] → x.trkState n = st)))
    ∧ (∀ (k : Fin 4) (rising : Bool),
      let c := Instr.camEdge n k rising stamp held
      let filt := s.fld TRK_CAMFLT_CFILT n
      let aw := s.awThen n stamp.toNat
      let accepted := s.camBound n k = true ∧ filt ≤ held.toNat ∧ stamp.toNat + filt + 3 = s.now ∧ s.camNamed n k rising ≠ []
      let m := s.camMatch n k rising (posOf aw % revAu)
      let rev := posOf aw / revAu
      let offs := m.foldl (fun o e => o ||| 2 ^ ((s.camPosOf n e / revAu + s.nRev n - rev % s.nRev n) % s.nRev n)) 0
      let cand := if (s.tr n).cand &&& offs = 0 then offs else (s.tr n).cand &&& offs
      let nres := if (s.tr n).cand &&& offs = 0 then 1 else (s.tr n).nres + 1
      let resolved := ((List.range (s.nRev n)).filter fun j => cand / 2 ^ j % 2 == 1).length = 1 ∧ s.fld TRK_LOSS_CAMRES n ≤ nres
      let agrees := ∃ e ∈ m, s.camPosOf n e / revAu = rev
      (¬accepted → exec c s = .next s)
      ∧ (accepted → waits c (.cam k rising stamp.toNat aw))
      ∧ (accepted → now_ 5 → ∃ x : State, exec c s = .next x.settle ∧ others x
        ∧ x.fld TRK_CAMPOS n k = aw ∧ x.fld TRK_CAMTB n k = stamp.toNat % 2 ^ 32
        ∧ (st ≠ stRevSync → st ≠ stCycleSync → x.due = [] ∧ s.Only x [] [TRK_CAMPOS.addr n k, TRK_CAMTB.addr n k])
        ∧ (st = stRevSync → m = [] → x.trkState n = stRevSync ∧ x.fld TRK_CNT_CAMERR n = min (2 ^ TRK_CNT_CAMERR.len - 1) (s.fld TRK_CNT_CAMERR n + 1)
            ∧ (x.tr n).cand = 2 ^ s.nRev n - 1 ∧ (x.tr n).nres = 0)
        ∧ (st = stRevSync → m ≠ [] → ¬resolved → x.trkState n = stRevSync ∧ (x.tr n).cand = cand ∧ (x.tr n).nres = nres ∧ x.flag TRK_STATE_CAMLOST n = false)
        ∧ (st = stRevSync → m ≠ [] → resolved → x.trkState n = stCycleSync ∧ x.rateNow n = s.rateNow n)
        ∧ (st = stCycleSync → agrees → x.trkState n = stCycleSync ∧ (x.tr n).miss = 0 ∧ x.flag TRK_STATE_CAMLOST n = false)
        ∧ (st = stCycleSync → ¬agrees → x.trkState n = (if s.fld TRK_LOSS_CAMMIS n ≤ (s.tr n).miss + 1 then stRevSync else stCycleSync)
            ∧ x.fld TRK_CNT_CAMERR n = min (2 ^ TRK_CNT_CAMERR.len - 1) (s.fld TRK_CNT_CAMERR n + 1))))
    ∧ (let c := Instr.stopTimeout n
      let since := max (s.wide TRK_EDGETB n) ((s.tr n).deferred.getD 0) + s.fld TRK_INFLT_FILT n + 2
      let due := st ≠ stStopped ∧ (st = stRestored → (s.tr n).haveLast = true) ∧ since + s.fld TRK_LOSS_STOPTMO n * 400000 ≤ s.now
      (¬due → exec c s = .next s)
      ∧ (due → waits c .stop)
      ∧ (due → now_ 2 → ∃ x : State, exec c s = .next x.settle ∧ others x ∧ x.trkState n = stStopped ∧ x.fld TRK_STATE_PREV n = st ∧ x.rateNow n = 0
          ∧ x.aw n = s.awPrev n ∧ (x.tr n).haveLast = false ∧ (x.tr n).tp = none))

/-- RESYNC, RCONF and RREFUSE (R81, R82, R94): RESYNC takes a tracker in GAP_FOUND, REV_SYNC, CYCLE_SYNC, RESTORED or REVERSE to LOST with cause
RESYNC and AW at the value of the TCLK before, a latched LOST to SEEKING, and changes nothing elsewhere; RCONF answers the outstanding restart request and RREFUSE refuses it, to LOST where it is in
force; both count late without one, on a tracker that is not enabled too. After the transition of a TCLK they wait. SYNC_ASSERT (R96): without a request it is late (result 2); out of SEEKING, with an edge no longer in the history, or
with an entry or a revolution out of range, the result names what fails; otherwise it is accepted, with TIDX that many edges on. The cycle that the tracker is given then is a free value (the model's choice, notes/assumptions/28). -/
def Obligations.TrackerCommands : Prop :=
  (∀ (s : State) (by_ : Agent) (n : Fin 6), s.due = [] →
    let st := s.trkState n
    let others (x : State) : Prop := s.OnlyParts x [.bus, .angle, .angPast, .trk, .knk, .husk, .pad, .chan, .ask, .switched, .due]
    let waits (v : Word) : State := s.busOk.setTr n { s.tr n with wait := (s.tr n).wait ++ [.cmd v] }
    let none_ : Prop := s.askOf fnRestart n = none
    let late (t : State) : Prop := t.fld SYS_FNSTAT_LATE = min (2 ^ SYS_FNSTAT_LATE.len - 1) (s.fld SYS_FNSTAT_LATE + 1) ∧ s.Only t [.bus] [SYS_FNSTAT.addr]
    (s.Admits by_ (TRK_CMD.addr n) true 1 →
      (s.trkBusy n = true → exec (.resync by_ n) s = .next (waits 1))
      ∧ (s.trkBusy n = false → st ∈ [stGapFound, stRevSync, stCycleSync, stRestored, stReverse] → ∃ x : State, exec (.resync by_ n) s = .next x.settle
          ∧ x.trkState n = stLost ∧ x.fld TRK_STATE_CAUSE n = lcResync ∧ x.fld TRK_STATE_PREV n = st ∧ x.aw n = s.awPrev n ∧ others x)
      ∧ (s.trkBusy n = false → st = stLost → s.flag TRK_CTRL_LOSTLATCH n = true → ∃ x : State, exec (.resync by_ n) s = .next x.settle ∧ x.trkState n = stSeeking ∧ others x)
      ∧ (s.trkBusy n = false → st = stStopped ∨ st = stSeeking ∨ (st = stLost ∧ s.flag TRK_CTRL_LOSTLATCH n = false) → exec (.resync by_ n) s = .next s.busOk))
    ∧ (s.Admits by_ (TRK_CMD.addr n) true 2 → s.outranked n 6 = false →
      (s.trkBusy n = true → exec (.rconf by_ n) s = .next (waits 2))
      ∧ (s.trkBusy n = false → none_ → ∃ t, exec (.rconf by_ n) s = .next t ∧ late t)
      ∧ (s.trkBusy n = false → ¬none_ → ∃ t, exec (.rconf by_ n) s = .next t ∧ t.flag TRK_STATE_HELD n = false ∧ t.askOf fnRestart n = none
          ∧ s.Only t [.bus, .ask] [TRK_STATE.addr n]))
    ∧ (s.Admits by_ (TRK_CMD.addr n) true 4 →
      let inForce := st = stRestored ∨ ((st = stRevSync ∨ st = stCycleSync) ∧ s.flag TRK_STATE_HELD n = true)
      (s.trkBusy n = true → exec (.rrefuse by_ n) s = .next (waits 4))
      ∧ (s.trkBusy n = false → none_ → ∃ t, exec (.rrefuse by_ n) s = .next t ∧ late t)
      ∧ (s.trkBusy n = false → ¬none_ → ¬inForce → exec (.rrefuse by_ n) s = .next s.busOk)
      ∧ (s.trkBusy n = false → ¬none_ → inForce → ∃ x : State, exec (.rrefuse by_ n) s = .next x.settle ∧ x.trkState n = stLost
          ∧ x.fld TRK_STATE_CAUSE n = lcRefused ∧ x.flag TRK_STATE_HELD n = false ∧ x.askOf fnRestart n = none ∧ others x)))
  ∧ (∀ (s : State) (by_ : Agent) (n : Fin 6) (v : Word), s.due = [] → s.Admits by_ (TRK_SYNCASSERT.addr n) true v →
    let since := ((s.tr n).edgeSeq + 65535 - bitsOf v 0 16) % 65536
    let idx := bitsOf v 16 9 + since
    let req := s.flag TRK_DECSTAT_REQ n
    let fails (r : Nat) (as : List Nat) : Prop := ∃ t, exec (.syncAssert by_ n v) s = .next t ∧ t.fld TRK_DECSTAT_RESULT n = r ∧ s.Only t [.bus] (TRK_DECSTAT.addr n :: as)
    (s.trkBusy n = true ∨ s.outranked n 6 = true → exec (.syncAssert by_ n v) s = .next (s.busOk.setTr n { s.tr n with wait := (s.tr n).wait ++ [.assert v] }))
    ∧ (s.trkBusy n = false → s.outranked n 6 = false →
      (req = false → fails 2 [SYS_FNSTAT.addr])
      ∧ (req = true → s.trkState n ≠ stSeeking → fails 3 [])
      ∧ (req = true → s.trkState n = stSeeking → (s.tr n).histN ≤ since → fails 4 [])
      ∧ (req = true → s.trkState n = stSeeking → since < (s.tr n).histN → s.nTooth n ≤ bitsOf v 16 9 ∨ s.nRev n ≤ bitsOf v 25 2 → fails 5 [])
      ∧ (req = true → s.trkState n = stSeeking → since < (s.tr n).histN → bitsOf v 16 9 < s.nTooth n → bitsOf v 25 2 < s.nRev n →
          ∃ x : State, exec (.syncAssert by_ n v) s = .next x.settle ∧ x.trkState n = (if bitsOf v 27 1 = 1 ∨ s.nRev n = 1 then stCycleSync else stRevSync)
            ∧ x.tidx n = idx % s.nTooth n % 2 ^ TRK_STATE_TIDX.len
            ∧ x.fld TRK_STATE_REVIDX n = (bitsOf v 25 2 + idx / s.nTooth n) % s.nRev n % 2 ^ TRK_STATE_REVIDX.len
            ∧ x.fld TRK_DECSTAT_RESULT n = 1 ∧ x.flag TRK_DECSTAT_REQ n = false ∧ x.askOf fnSync n = none ∧ x.free = s.free + 1
            ∧ s.OnlyParts x [.bus, .angle, .angPast, .trk, .knk, .husk, .pad, .chan, .mkLast, .ask, .switched, .due, .free])))

/-- TREC_READ and CAMPOS_READ (R28, R76, R95): a read of TREC takes the oldest tooth record off its queue and latches its high half for the reader, and answers 0
where the queue is empty; a read of CAMPOSk latches CAMTBk. REPORT_READ and HSK_LAST_READ (R28, R173, R188): the first word answers, and the others of its group are latched for the reader. -/
def Obligations.GroupReads : Prop :=
  (∀ (s : State) (by_ : Agent) (n : Fin 6), s.due = [] →
    (s.Admits by_ (TRK_TREC.addr n) false 0 →
      let w := match (s.tr n).trec with | [] => 0 | e :: _ => trecWord e
      ∃ t, exec (.trecRead by_ n) s = .next t ∧ t.bus = ⟨false, BitVec.ofNat 64 (w % 2 ^ 32)⟩
        ∧ (t.tr n).trec = (s.tr n).trec.tail ∧ t.fld TRK_TRECSTAT_LEVEL n = (s.tr n).trec.tail.length % 2 ^ TRK_TRECSTAT_LEVEL.len
        ∧ tget none t.rdLatch (latchKey by_ (TRK_TREC.addr n + 4)) = some (BitVec.ofNat 32 (w / 2 ^ 32))
        ∧ s.Only t [.bus, .rdLatch, .trk] [TRK_TRECSTAT.addr n])
    ∧ ∀ k : Fin 4, s.Admits by_ (TRK_CAMPOS.addr n k) false 0 →
      ∃ t, exec (.camposRead by_ n k) s = .next t ∧ t.bus = ⟨false, (s.rd (TRK_CAMPOS.addr n k)).setWidth 64⟩
        ∧ tget none t.rdLatch (latchKey by_ (TRK_CAMTB.addr n k)) = some (s.rd (TRK_CAMTB.addr n k))
        ∧ s.Only t [.bus, .rdLatch] [])
  ∧ (∀ (s : State) (by_ : Agent) (c : Fin 128), s.due = [] →
    (s.Admits by_ (CH_RPT0.addr c) false 0 → ∃ t, exec (.reportRead by_ c) s = .next t ∧ t.bus = ⟨false, (s.rd (CH_RPT0.addr c)).setWidth 64⟩
      ∧ (∀ a ∈ [CH_RPT1.addr c, CH_RPT2.addr c, CH_RPT3.addr c], tget none t.rdLatch (latchKey by_ a) = some (s.rd a)) ∧ s.Only t [.bus, .rdLatch] [])
    ∧ (s.Admits by_ (HSK_LAST.addr c) false 0 → ∃ t, exec (.hskLastRead by_ c) s = .next t ∧ t.bus = ⟨false, (s.rd (HSK_LAST.addr c)).setWidth 64⟩
      ∧ (∀ a ∈ [HSK_LASTAW.addr c, HSK_LASTTB.addr c], tget none t.rdLatch (latchKey by_ a) = some (s.rd a)) ∧ s.Only t [.bus, .rdLatch] []))

/-! Marks and the predictor (chapter 4) -/

/-- MK_POS_WRITE (R100, R101): a position at or above the span of the mark's tracker ends in a bus error and writes nothing; otherwise POS and EN take the
written bits, and the word before stays in force in this TCLK; at the next one L takes the angle word of a mark whose EN went from 0 to 1, and stands otherwise. MARK_FIRE, CYCLE_WRAP and HOLD_BEGIN (R5, R87, R99, R101, R108, R112, R181): a mark
that fires takes L, sets its bit of MK_FIRED and pulses its task source, and one of MK000-MK063 fires its interrupt source; a wrap of
the cycle clears the edge counts of the tracker's channels, and shows CAMLOST after two cycles without a match; a hold begins at its TCLK. A mark that does not fire, an angle word that does not wrap
and a rotation that does not reach the boundary change nothing. -/
def Obligations.MarksAndBoundaries : Prop :=
  (∀ (s : State) (by_ : Agent) (m : Fin 256) (v : Word), s.due = [] → s.Admits by_ (MK_POS.addr m) true v →
    let n := s.fld MK_CFG_TRK m
    (s.span n ≤ bitsOf v 0 22 → (∀ k, by_ ≠ .cp k) → exec (.mkPosWrite by_ m v) s = .next s.busErr)
    ∧ (s.span n ≤ bitsOf v 0 22 → ∃ x : State, exec (.mkPosWrite by_ m v) s = .next x.settle ∧ x.bus.err = true ∧ x.rd (MK_POS.addr m) = s.rd (MK_POS.addr m)
        ∧ x.mkLast = s.mkLast ∧ x.mkPrev = s.mkPrev)
    ∧ (bitsOf v 0 22 < s.span n → ∃ t, exec (.mkPosWrite by_ m v) s = .next t ∧ t.bus = ⟨false, 0⟩
        ∧ t.fld MK_POS_POS m = bitsOf v 0 22 ∧ t.fld MK_POS_EN m = bitsOf v 31 1 ∧ t.mkWord m = s.mkWord m
        ∧ (∀ k, k ≠ m.val → t.mkWord k = s.mkWord k) ∧ s.Only t [.bus, .mkPrev] [MK_POS.addr m]))
  ∧ (∀ (s : State) (m : Fin 256), s.mkTake.mkWord m = s.rd (MK_POS.addr m) ∧ tget 0 s.mkTake.mkLast m =
      if tget none s.mkPrev m ≠ none ∧ bitsOf (s.mkWord m) 31 1 = 0 ∧ s.flag MK_POS_EN m = true then s.aw (s.fld MK_CFG_TRK m) else tget 0 s.mkLast m)
  ∧ (∀ s : State, s.Ready →
    (∀ m : Fin 256, s.markFires m = false → exec (.markFire m) s = .next s)
    ∧ (∀ m : Fin 256, s.markFires m = true → ∃ x : State, exec (.markFire m) s = .next x.settle
        ∧ x.mkLast = tput 0 s.mkLast m (s.markAt m) ∧ x.bankBit MK_FIRED m = true
        ∧ x.due = [.pulse m (s.inCatchUp (s.fld MK_CFG_TRK m) (s.markAt m))]
        ∧ (m.val < 64 → x.bankBit IRT_PEND (96 + m) = true ∧ s.Only x [.mkLast, .due] [MK_FIRED.addr (m / 32), IRT_PEND.addr ((96 + m) / 32)])
        ∧ (64 ≤ m.val → s.Only x [.mkLast, .due] [MK_FIRED.addr (m / 32)]))
    ∧ (∀ n : Fin 6,
        let wraps := s.crosses n (awOf (cycOf (s.aw n)) 0)
        let lost := s.trkState n = stCycleSync ∧ s.fld TRK_TTAB_NCAM n ≠ 0 ∧ (2 * s.span n : Int) ≤ awDist (s.span n) (s.aw n) (s.tr n).matchAw
        (wraps = false → exec (.cycleWrap n) s = .next s)
        ∧ (wraps = true → ∃ t, exec (.cycleWrap n) s = .next t
          ∧ (∀ c < 128, s.chTrk c = n.val → t.fld HSK_STAT_EDGECNT c = 0 ∧ t.flag HSK_STAT_OUT c = s.flag HSK_STAT_OUT c)
          ∧ t.flag TRK_STATE_CAMLOST n = (decide lost || s.flag TRK_STATE_CAMLOST n) ∧ t.trkState n = s.trkState n
          ∧ s.Only t [] (TRK_STATE.addr n :: (s.huskChans n).map (HSK_STAT.addr ·))))
    ∧ (∀ n : Fin 6, s.holdStart n s.now = none → exec (.holdBegin n) s = .next s)
    ∧ (∀ (n : Fin 6) (h : Nat), s.holdStart n s.now = some h → ∃ t, exec (.holdBegin n) s = .next t
        ∧ (t.tr n).holdAt = some h ∧ t.flag TRK_PSTAT_HOLDING n = true ∧ s.Only t [.trk] [TRK_PSTAT.addr n]))

/-- TOOTH_COMMIT, CLRCOR and COR_WRITE (R116, R119, R120, R133): a commit without a request or in hardware mode is late; one whose corrections do not sum to 0 or leave the limit is
refused; an accepted one waits for the reference tooth. CLRCOR clears the corrections at the next reference tooth. A COR word goes to the shadow
table in host-assisted mode only, and entries at or above NTOOTH stay 0. That the sum is judged before the limit is the model's choice (notes/assumptions/61). -/
def Obligations.PredictorCommands : Prop :=
  ∀ (s : State) (by_ : Agent) (n : Fin 6), s.due = [] →
    let e (k : Nat) : Int := signedOf 16 (bitsOf (tget 0 (s.tr n).shadow (k / 2)) (16 * (k % 2)) 16)
    let l := (List.range (s.nTooth n)).map e
    let lim : Int := s.fld TRK_PLRN_CORLIM n
    (s.Admits by_ (TRK_PCMD.addr n) true 1 →
      let asked := s.flag TRK_PDEC_REQ n = true ∧ s.hostMode fnTooth n = true
      (¬asked → ∃ t, exec (.toothCommit by_ n) s = .next t ∧ t.fld TRK_PDEC_RESULT n = 2
          ∧ t.fld SYS_FNSTAT_LATE = min (2 ^ SYS_FNSTAT_LATE.len - 1) (s.fld SYS_FNSTAT_LATE + 1) ∧ s.Only t [.bus] [TRK_PDEC.addr n, SYS_FNSTAT.addr])
      ∧ (asked → l.foldl (· + ·) 0 ≠ 0 → ∃ t, exec (.toothCommit by_ n) s = .next t ∧ t.fld TRK_PDEC_RESULT n = 4 ∧ s.Only t [.bus] [TRK_PDEC.addr n])
      ∧ (asked → l.foldl (· + ·) 0 = 0 → (∃ x ∈ l, lim < x ∨ x < -lim) →
          ∃ t, exec (.toothCommit by_ n) s = .next t ∧ t.fld TRK_PDEC_RESULT n = 3 ∧ s.Only t [.bus] [TRK_PDEC.addr n])
      ∧ (asked → l.foldl (· + ·) 0 = 0 → (∀ x ∈ l, -lim ≤ x ∧ x ≤ lim) →
          ∃ t, exec (.toothCommit by_ n) s = .next t ∧ (t.tr n).corNext = some l ∧ t.flag TRK_PDEC_REQ n = false ∧ t.flag TRK_PSTAT_TOOTHSTALE n = false
            ∧ t.fld TRK_PDEC_RESULT n = 1 ∧ t.askOf fnTooth n = none ∧ s.Only t [.bus, .trk, .ask] [TRK_PDEC.addr n, TRK_PSTAT.addr n]))
    ∧ (s.Admits by_ (TRK_PCMD.addr n) true 2 → exec (.clrcor by_ n) s = .next (s.busOk.setTr n { s.tr n with corNext := some [] }))
    ∧ ∀ (j : Fin 256) (v : Word), s.Admits by_ (TRK_COR.addr n j) true v →
      (s.hostMode fnTooth n = false → exec (.corWrite by_ n j v) s = .next s.busOk)
      ∧ (s.hostMode fnTooth n = true → ∃ t, exec (.corWrite by_ n j v) s = .next t
          ∧ (∀ w, tget 0 (t.tr n).shadow j.val = w → bitsOf w 0 16 = (if 2 * j.val < s.nTooth n then bitsOf v 0 16 else 0)
              ∧ bitsOf w 16 16 = (if 2 * j.val + 1 < s.nTooth n then bitsOf v 16 16 else 0))
          ∧ (∀ i, i ≠ j.val → tget 0 (t.tr n).shadow i = tget 0 (s.tr n).shadow i) ∧ s.Only t [.bus, .trk] [])

/-! Events (chapter 5) -/

/-- STAGE_WORD, EVENT_COMMIT and EVENT_INSERT (R140, R141, R142, R143): staged words are the initiator's own; a commit appends the item that waits for its insertion, empties
the staging buffer and shows BUSY; an item is inserted in a TCLK after its commit, and not before. Without a failing check it takes a slot and its place in the queue; with one it is counted in REJECT and the queue
stands. Unless a later commit of the same initiator waits, ISTAT shows the status, the tag and the epoch, and BUSY no more. -/
def Obligations.EventStaging : Prop :=
  ∀ (s : State) (by_ : Agent) (c : Fin 128) (v : Word), s.due = [] →
    (∀ i : Fin 3, s.Admits by_ (CH_EVT.addr c i) true v → ∃ t, exec (.stageWord by_ c i v) s = .next t
      ∧ (∀ k, tget none (t.ch c).stage k = if k = initNo by_ * 4 + i.val then some v else tget none (s.ch c).stage k)
      ∧ t.ch c = { s.ch c with stage := (t.ch c).stage } ∧ (∀ d, d ≠ c.val → t.ch d = s.ch d) ∧ s.Only t [.bus, .chan] [])
    ∧ (s.Admits by_ (CH_EVT.addr c 3) true v → s.fnPending fnInjdly = false →
        let w (k : Nat) : Option Word := tget none (s.ch c).stage (initNo by_ * 4 + k)
        ∃ t, exec (.eventCommit by_ c v) s = .next t
          ∧ (t.ch c).inbox = (s.ch c).inbox ++ [⟨⟨(w 0).getD 0, (w 1).getD 0, (w 2).getD 0, v, (s.ctxOf by_).getD noOrigin, false, false, 0, false, 0⟩,
              (w 0).isSome && (w 1).isSome && (w 2).isSome, initNo by_, s.now, false⟩]
          ∧ (∀ k, k < 3 → tget none (t.ch c).stage (initNo by_ * 4 + k) = none)
          ∧ bitsOf (tget 0 (t.ch c).ist (initNo by_)) 31 1 = 1 ∧ (t.ch c).queue = (s.ch c).queue ∧ (∀ d, d ≠ c.val → t.ch d = s.ch d) ∧ s.Only t [.bus, .chan] [])
    ∧ (s.pwr = .run → (s.ch c).inbox = [] → exec (.eventInsert c) s = .next s)
    ∧ ∀ (it : Item) (rest : List Item), s.pwr = .run → (s.ch c).inbox = it :: rest →
      (s.now ≤ it.at_ → exec (.eventInsert c) s = .next s)
      ∧ (it.at_ < s.now →
        let y := s.setCh c { s.ch c with inbox := rest }
        let st := y.insertStatus c it
        let e := { it.ev with late := y.passedLead c it.ev.skind it.ev.w1.toNat, at_ := s.now }
        ∃ x : State, exec (.eventInsert c) s = .next x.settle ∧ (x.ch c).inbox = rest ∧ (x.ch c).active = (s.ch c).active
          ∧ (rest.all (fun k => k.by_ != it.by_) = true → tget 0 (x.ch c).ist it.by_ = istatWord false (s.fld CH_EPOCH c) it.ev.tag st)
          ∧ (rest.all (fun k => k.by_ != it.by_) = false → (x.ch c).ist = (s.ch c).ist)
          ∧ (s.flag CH_CFG_EN c = false → st = 6) ∧ (s.flag CH_CFG_EN c = true → it.complete = false → st = 1)
          ∧ (st = 0 → (x.ch c).queue = placeEv e (s.ch c).queue ∧ x.fld SCH_POOL_FREE = (s.fld SCH_POOL_FREE - 1) % 2 ^ SCH_POOL_FREE.len
              ∧ s.Only x [.chan, .due] [SCH_POOL.addr])
          ∧ (st ≠ 0 → (x.ch c).queue = (s.ch c).queue ∧ x.fld SCH_POOL_FREE = s.fld SCH_POOL_FREE
              ∧ x.fld CH_CNT0_REJECT c = min (2 ^ CH_CNT0_REJECT.len - 1) (s.fld CH_CNT0_REJECT c + 1)
              ∧ s.Only x [.chan, .due] ([CH_CNT0.addr c, SCH_CNT.addr, CH_INTST.addr c] ++ irtPend)))

/-- EDGE_EXECUTE (R145-R148, R160, R166): the edge of a channel whose compare was issued first executes in the TCLK of its pad time. A start leaves the queue and pulses its task source; a NOP and an OFF reach EXECUTED at
once, with the intent off for an OFF; any other becomes the active event and turns the intent on, the output too where the Husk finds no cause and no limit, and a PWM run takes the period and the duty of its unlocked shadows. A start that may not execute ends with its
outcome, and an end at its anchor is the active event's outcome. An edge whose TCLK has not come, an end of another kind, and a channel with nothing issued change nothing. A TABS start is issued 3 TCLK before its anchor, for the anchor's TCLK, on a channel that
holds nothing else. -/
def Obligations.EdgeExecute : Prop :=
  (∀ (s : State) (c : Fin 128), s.Ready →
    let rpt0 (e : Ev) (o fl : Nat) : Word := BitVec.ofNat 32 (e.tag * 2 ^ 24 + o * 2 ^ 16 + fl % 4096)
    let stale := if s.flag CH_STAT_INJSTALE c then fInjstale else 0
    let frame (x : State) : Prop := (∀ d, d ≠ c.val → x.ch d = s.ch d ∧ x.hsk d = s.hsk d ∧ x.pd d = s.pd d)
    let slot (x : State) : Prop := x.fld SCH_POOL_FREE = min 8192 (s.fld SCH_POOL_FREE + 1) % 2 ^ SCH_POOL_FREE.len
    ((s.ch c).issued = [] → exec (.edgeExecute c) s = .next s)
    ∧ ∀ (i : Issue) (rest : List Issue), (s.ch c).issued = i :: rest →
      (s.now < i.pad / 32 → exec (.edgeExecute c) s = .next s)
      ∧ (∀ w, i.edge = .fin w → w ≠ .anchor → exec (.edgeExecute c) s = .next s)
      ∧ (i.pad / 32 ≤ s.now →
        (∀ e o, i.edge = .drop e o → ∃ x : State, exec (.edgeExecute c) s = .next x.settle ∧ (x.ch c).issued = rest ∧ (x.ch c).queue = (s.ch c).queue.erase e
            ∧ (x.ch c).active = (s.ch c).active ∧ x.rd (CH_RPT0.addr c) = rpt0 e o 0 ∧ x.rd (CH_RPT1.addr c) = 0 ∧ slot x
            ∧ frame x ∧ s.OnlyParts x [.chan, .due])
        ∧ (∀ e, i.edge = .start e → e.op = opNop ∨ e.op = opOff → ∃ x : State, exec (.edgeExecute c) s = .next x.settle ∧ (x.ch c).issued = rest
            ∧ (x.ch c).queue = (s.ch c).queue.erase e ∧ (x.ch c).active = (s.ch c).active
            ∧ x.rd (CH_RPT0.addr c) = rpt0 e oExecuted (i.flags ||| stale) ∧ x.rd (CH_RPT1.addr c) = BitVec.ofNat 32 (i.pad / 32)
            ∧ x.rd (CH_RPT3.addr c) = BitVec.ofNat 32 (s.chAw c) ∧ slot x ∧ .pulse (256 + c) (i.flags &&& fCatchup != 0) ∈ x.due
            ∧ (e.op = opNop → x.flag HSK_STAT_INTENT c = s.flag HSK_STAT_INTENT c ∧ x.hsk c = s.hsk c)
            ∧ (e.op = opOff → s.schedIntent c = true → x.flag HSK_STAT_INTENT c = false ∧ ((s.pd c).pulse = false → x.flag HSK_STAT_OUT c = false
                ∧ (s.flag HSK_STAT_OUT c = true → (x.hsk c).offAt = some (padTime c i.pad))))
            ∧ frame x ∧ s.OnlyParts x [.chan, .husk, .pad, .due])
        ∧ (∀ e, i.edge = .start e → e.op ≠ opNop → e.op ≠ opOff → ∃ x : State, exec (.edgeExecute c) s = .next x.settle ∧ (x.ch c).issued = rest
            ∧ (x.ch c).queue = (s.ch c).queue.erase e ∧ .pulse (256 + c) (i.flags &&& fCatchup != 0) ∈ x.due
            ∧ (∃ a, (x.ch c).active = some a ∧ a.ev = e ∧ a.ts = i.pad / 32 ∧ a.tap = i.pad % 32 ∧ a.startAw = s.chAw c ∧ a.lossEnd = none)
            ∧ (e.op ≠ opPwm → x.flag CH_STAT_ACTIVE c = true ∧ (s.schedIntent c = true → x.flag HSK_STAT_INTENT c = true
                ∧ ((s.ch c).judged = none → s.forced c = 0 → s.flag HSK_STAT_OUT c = false → s.suppressor c (padTime c i.pad) = 0 →
                    x.flag HSK_STAT_OUT c = true ∧ (x.hsk c).riseAt = padTime c i.pad)))
            ∧ (e.op = opPwm → x.flag CH_STAT_PWM c = true ∧ ∃ p, (x.ch c).pwm = some p ∧ p.start = i.pad / 32
                ∧ (s.flag CH_PWMLOCK_LOCK c = false → (s.ch c).perAt = none → p.per = s.fld CH_PWMPER_PER c)
                ∧ (s.flag CH_PWMLOCK_LOCK c = false → (s.ch c).dutyAt = none → p.duty = s.fld CH_PWMDUTY_DUTY c))
            ∧ frame x ∧ s.OnlyParts x [.chan, .husk, .pad, .due])
        ∧ (∀ a, i.edge = .fin .anchor → (s.ch c).active = some a → s.flag CH_INJCFG_EN c = false → ∃ x : State, exec (.edgeExecute c) s = .next x.settle
            ∧ (x.ch c).active = none ∧ (x.ch c).queue = (s.ch c).queue ∧ slot x
            ∧ x.rd (CH_RPT0.addr c) = rpt0 a.ev oExecuted (a.flags ||| i.flags) ∧ x.rd (CH_RPT1.addr c) = BitVec.ofNat 32 a.ts
            ∧ x.rd (CH_RPT3.addr c) = BitVec.ofNat 32 a.startAw ∧ (s.schedIntent c = true → x.flag HSK_STAT_INTENT c = false)
            ∧ frame x ∧ s.OnlyParts x [.chan, .husk, .pad, .due])))
  ∧ ∀ (s : State) (c : Nat) (e : Ev), c < 128 → s.flag CH_CFG_EN c = true → s.chBound c = false → (s.ch c).active = none → (s.ch c).issued = [] →
      (s.ch c).queue = [e] → (s.ch c).edgeAt = none → e.skind = kTabs → e.nocor = true → e.op = opPulse → e.ekind = kTrel → 64 ≤ e.w2.toNat → e.max = 0 →
      e.late = false → e.delayed = false → e.behind = false →
      (tabsDiff e.w1.toNat s.now = 3 → ((s.compare c).ch c).issued = [⟨.start e, (s.now + 3) * 32, 0⟩])
      ∧ (3 < tabsDiff e.w1.toNat s.now → ((s.compare c).ch c).issued = [])

/-- MIN_EXPIRY, MAXCUT_EXPIRY and LOSS_END_BY_TIME (R149, R159, R160): an end that MIN has held back, one cut by MAX and one by time after a loss execute at the pad time for which they were
issued: the event has its outcome with the flags of its end, the channel no active event and the intent is off. Each takes its own kind of end only, and none before its time. The compare issues the end held back for MIN after the start edge, and the MAX end for MAX
after it, 3 TCLK before each. -/
def Obligations.TimedEnds : Prop :=
  (∀ (s : State) (c : Fin 128), s.Ready →
    let kind (w : EndWhy) : Instr := match w with | .min => .minExpiry c | .max => .maxcutExpiry c | .loss => .lossEndByTime c | .anchor => .edgeExecute c
    ((s.ch c).issued = [] → ∀ w, exec (kind w) s = .next s)
    ∧ ∀ (i : Issue) (rest : List Issue), (s.ch c).issued = i :: rest → ∀ w, w ≠ .anchor →
      (i.edge ≠ .fin w → exec (kind w) s = .next s)
      ∧ (s.now < i.pad / 32 → exec (kind w) s = .next s)
      ∧ (i.edge = .fin w → i.pad / 32 ≤ s.now → (s.ch c).active = none → exec (kind w) s = .next (s.setCh c { s.ch c with issued := rest }))
      ∧ ∀ a, i.edge = .fin w → i.pad / 32 ≤ s.now → (s.ch c).active = some a → s.flag CH_INJCFG_EN c = false → ∃ x : State, exec (kind w) s = .next x.settle
        ∧ (x.ch c).active = none ∧ (x.ch c).queue = (s.ch c).queue ∧ (x.ch c).edgeAt = some (i.pad / 32)
        ∧ x.fld SCH_POOL_FREE = min 8192 (s.fld SCH_POOL_FREE + 1) % 2 ^ SCH_POOL_FREE.len
        ∧ x.rd (CH_RPT0.addr c) = BitVec.ofNat 32 (a.ev.tag * 2 ^ 24 + oExecuted * 2 ^ 16 + (a.flags ||| i.flags) % 4096)
        ∧ x.rd (CH_RPT1.addr c) = BitVec.ofNat 32 a.ts ∧ x.rd (CH_RPT3.addr c) = BitVec.ofNat 32 a.startAw
        ∧ (s.schedIntent c = true → x.flag HSK_STAT_INTENT c = false ∧ ((s.pd c).pulse = false → x.flag HSK_STAT_OUT c = false
            ∧ (s.flag HSK_STAT_OUT c = true → (x.hsk c).offAt = some (padTime c i.pad))))
        ∧ (∀ d, d ≠ c.val → x.ch d = s.ch d ∧ x.hsk d = s.hsk d) ∧ s.OnlyParts x [.chan, .husk, .pad, .due])
  ∧ ∀ (s : State) (c : Nat) (a : Act), c < 128 → s.flag CH_CFG_EN c = true → (s.ch c).active = some a → (s.ch c).issued = [] → (s.ch c).queue = [] →
      a.ev.isOpen = false → a.lossEnd = none →
      let lo := a.ts + s.minTclk c a.ev
      let hi := a.ts + s.maxTclk c a.ev
      (s.standEnd c a = .past → (s.ch c).endFl = none → s.now + 3 = lo → a.ev.max = 0 →
        ((s.compare c).ch c).issued = [⟨.fin .min, lo * 32 + a.tap, if 2 ≤ a.ev.min * 2 ^ s.fld CH_DUNIT_K c then fMinext else 0⟩])
      ∧ (s.standEnd c a = .past → s.now + 3 < lo → a.ev.max = 0 → ((s.compare c).ch c).issued = [])
      ∧ (s.standEnd c a = .ahead → a.ev.max ≠ 0 → s.now + 3 = hi → ((s.compare c).ch c).issued = [⟨.fin .max, hi * 32 + a.tap, fMaxcut⟩])

/-- CH_FLUSH, FLUSH_DONE, CH_CUT and CH_UNCUT (R154, R156, R160): a flush while one runs has no effect; otherwise EPOCH counts and the queue is discarded: every slot returns. With ENDACT the active event ends with FLUSHEND, unless its own end has been issued for a pad time up to tap 0 of
the next TCLK. FLUSH clears when the discard is done. CUT sets the cut latch, counts EPOCH, discards the queue, turns the pin off two TCLK later and ends the active event with CUTEND; UNCUT clears the latch, and a pad test
that runs ends with NOT_OFF, unless the channel is retired (R201). -/
def Obligations.ChannelCommands : Prop :=
  ∀ (s : State) (by_ : Agent) (c : Fin 128), s.due = [] →
    let q := (s.ch c).queue
    let emptied (x : State) : Prop := (x.ch c).queue = [] ∧ x.fld CH_EPOCH c = (s.fld CH_EPOCH c + 1) % 256 ∧ x.flag CH_CMD_FLUSH c = true ∧ (x.ch c).flushing = true
      ∧ ∀ d, d ≠ c.val → x.ch d = s.ch d ∧ x.hsk d = s.hsk d
    let ended (x : State) (a : Act) (fl : Nat) : Prop := (x.ch c).active = none ∧ x.rd (CH_RPT1.addr c) = BitVec.ofNat 32 a.ts
      ∧ bitsOf (x.rd (CH_RPT0.addr c)) 16 8 = oExecuted ∧ bitsOf (x.rd (CH_RPT0.addr c)) 24 8 = a.ev.tag ∧ bitsOf (x.rd (CH_RPT0.addr c)) 0 12 &&& fl = fl
    (∀ b : Bool, s.Admits by_ (CH_CMD.addr c) true (if b then 3 else 1) → s.flag CH_CMD_FLUSH c = true → exec (.chFlush by_ c b) s = .next s.busOk)
    ∧ (s.Admits by_ (CH_CMD.addr c) true 1 → s.flag CH_CMD_FLUSH c = false → ∃ x : State, exec (.chFlush by_ c false) s = .next x.settle ∧ emptied x
        ∧ (x.ch c).active = (s.ch c).active ∧ (s.fld SCH_POOL_FREE + q.length ≤ 8192 → x.fld SCH_POOL_FREE = s.fld SCH_POOL_FREE + q.length)
        ∧ s.OnlyParts x [.bus, .chan, .due])
    ∧ (s.Admits by_ (CH_CMD.addr c) true 3 → s.flag CH_CMD_FLUSH c = false → ∃ x : State, exec (.chFlush by_ c true) s = .next x.settle ∧ emptied x
        ∧ (s.ownEnd c = true → (x.ch c).active = (s.ch c).active)
        ∧ (∀ a, (s.ch c).active = some a → s.ownEnd c = false → s.flag CH_INJCFG_EN c = false → ended x a fFlushend
            ∧ (s.schedIntent c = true → x.flag HSK_STAT_INTENT c = false)
            ∧ (s.fld SCH_POOL_FREE + q.length + 1 ≤ 8192 → x.fld SCH_POOL_FREE = s.fld SCH_POOL_FREE + q.length + 1)))
    ∧ (s.pwr = .run → ((s.ch c).flushing = false → exec (.flushDone c) s = .next s)
        ∧ ((s.ch c).flushing = true → ∃ t, exec (.flushDone c) s = .next t ∧ (t.ch c).flushing = false ∧ t.flag CH_CMD_FLUSH c = false
            ∧ s.Only t [.chan] [CH_CMD.addr c]))
    ∧ (s.Admits by_ (CH_CMD.addr c) true 4 → ∃ x : State, exec (.chCut by_ c) s = .next x.settle ∧ emptied x ∧ x.flag CH_STAT_CUTL c = true
        ∧ (s.flag HSK_STAT_OUT c = true → (s.pd c).pulse = false → s.fallsBy c ((s.now + 2) * 32) = false → x.flag HSK_STAT_OUT c = false
            ∧ (x.hsk c).offAt = some ((s.now + 2) * 32))
        ∧ (∀ a, (s.ch c).active = some a → s.ownEnd c = false → s.flag CH_INJCFG_EN c = false → ended x a fCutend))
    ∧ (s.Admits by_ (CH_CMD.addr c) true 8 → s.flag PAD_TEST_START c = false → ∃ t, exec (.chUncut by_ c) s = .next t
        ∧ t.flag CH_STAT_CUTL c = false ∧ s.Only t [.bus] [CH_STAT.addr c])
    ∧ (s.Admits by_ (CH_CMD.addr c) true 8 → s.flag PAD_TEST_START c = true → ∃ t, exec (.chUncut by_ c) s = .next t ∧ t.flag CH_STAT_CUTL c = false
        ∧ (s.retired c = true → s.Only t [.bus] [CH_STAT.addr c])
        ∧ (s.retired c = false → t.flag PAD_TEST_START c = false ∧ t.fld PAD_TEST_RESULT c = 3))

/-! PWM and the opening delay (chapter 5) -/

/-- PWM_RELOAD and PWM_OFF_EDGE (R162, R163, R165): the next period of a run begins PER TCLK after the last, with each shadow whose write completed before it unless LOCK stands, and with the value in force otherwise;
the intent is on from there unless DUTY is 0, and falls DUTY/32 TCLK after the reload edge, with tap DUTY modulo 32. Neither has an effect before its time or without a run. That the values of the image are in force before the first period is the model's choice
(notes/assumptions/63). -/
def Obligations.PwmEdges : Prop :=
  ∀ (s : State) (c : Fin 128), s.Ready →
    ((s.ch c).pwm = none → exec (.pwmReload c) s = .next s ∧ exec (.pwmOffEdge c) s = .next s)
    ∧ ∀ p : Pwm, (s.ch c).pwm = some p →
      let d := pwmExec p.per p.duty
      let r := p.start + p.per
      let u := p.start * 32 + d
      let passes (w : Option Nat) : Prop := s.flag CH_PWMLOCK_LOCK c = false ∧ ∀ t, w = some t → t < r
      let old := (s.ch c).force.getD (s.fld CH_PWMPER_PER c, s.fld CH_PWMDUTY_DUTY c)
      let off (x : State) (t : Nat) : Prop := x.flag HSK_STAT_INTENT c = false ∧ ((s.pd c).pulse = false → x.flag HSK_STAT_OUT c = false
        ∧ (s.flag HSK_STAT_OUT c = true → (x.hsk c).offAt = some (padTime c t)))
      (s.now < r → exec (.pwmReload c) s = .next s)
      ∧ (r ≤ s.now → ∃ (x : State) (q : Pwm), exec (.pwmReload c) s = .next x.settle ∧ (x.ch c).pwm = some q ∧ q.start = r ∧ q.offDone = (q.duty == 0)
          ∧ (passes (s.ch c).perAt → q.per = s.fld CH_PWMPER_PER c) ∧ (¬passes (s.ch c).perAt → q.per = old.1)
          ∧ (passes (s.ch c).dutyAt → q.duty = s.fld CH_PWMDUTY_DUTY c) ∧ (¬passes (s.ch c).dutyAt → q.duty = old.2)
          ∧ x.fld CH_PWMSTAT_DUTY c = q.duty % 2 ^ CH_PWMSTAT_DUTY.len ∧ x.flag CH_STAT_ACTIVE c = (q.duty != 0)
          ∧ (s.schedIntent c = true → q.duty = 0 → off x (r * 32)) ∧ (s.schedIntent c = true → q.duty ≠ 0 → x.flag HSK_STAT_INTENT c = true)
          ∧ (s.schedIntent c = false → x.rd (HSK_STAT.addr c) = s.rd (HSK_STAT.addr c))
          ∧ (.pulse (256 + c.val) false ∈ x.due ↔ s.flag CH_CFG_PWMSTB c = true)
          ∧ (∀ e, e ≠ c.val → x.ch e = s.ch e ∧ x.hsk e = s.hsk e) ∧ s.OnlyParts x [.chan, .husk, .pad, .due])
      ∧ (p.offDone = true ∨ 32 * p.per ≤ d ∨ s.now < u / 32 → exec (.pwmOffEdge c) s = .next s)
      ∧ (p.offDone = false → d < 32 * p.per → u / 32 ≤ s.now → ∃ t, exec (.pwmOffEdge c) s = .next t
          ∧ (t.ch c).pwm = some { p with offDone := true } ∧ t.flag CH_STAT_ACTIVE c = false ∧ (s.schedIntent c = true → off t u)
          ∧ (s.schedIntent c = false → t.rd (HSK_STAT.addr c) = s.rd (HSK_STAT.addr c))
          ∧ (∀ e, e ≠ c.val → t.ch e = s.ch e ∧ t.hsk e = s.hsk e) ∧ s.Only t [.chan, .husk, .pad] [CH_STAT.addr c, HSK_STAT.addr c])

/-- PWM_SHADOW_WRITE, PWM_LOCK_WRITE and INJDLY_WRITE (R164, R165, R171): a shadow takes the written value and the TCLK of its write, the other stands; clearing the lock counts as the
write of what was written under it; a correction is ignored in hardware mode, late without a request, refused beyond CORMAX, and takes effect
otherwise. -/
def Obligations.PwmRegisters : Prop :=
  ∀ (s : State) (by_ : Agent) (c : Fin 128) (v : Word), s.due = [] →
    (s.Admits by_ (CH_PWMDUTY.addr c) true v → ∃ t, exec (.pwmShadowWrite by_ c true v) s = .next t
      ∧ t.fld CH_PWMDUTY_DUTY c = v.toNat % 2 ^ CH_PWMDUTY_DUTY.len ∧ (t.ch c).dutyAt = some s.now ∧ (t.ch c).perAt = (s.ch c).perAt
      ∧ (t.ch c).pwm = (s.ch c).pwm ∧ s.Only t [.bus, .chan] [CH_PWMDUTY.addr c])
    ∧ (s.Admits by_ (CH_PWMPER.addr c) true v → ∃ t, exec (.pwmShadowWrite by_ c false v) s = .next t
      ∧ t.fld CH_PWMPER_PER c = v.toNat % 2 ^ CH_PWMPER_PER.len ∧ (t.ch c).perAt = some s.now ∧ (t.ch c).dutyAt = (s.ch c).dutyAt
      ∧ (t.ch c).pwm = (s.ch c).pwm ∧ s.Only t [.bus, .chan] [CH_PWMPER.addr c])
    ∧ (s.Admits by_ (CH_PWMLOCK.addr c) true v → ∃ t, exec (.pwmLockWrite by_ c v) s = .next t
      ∧ t.fld CH_PWMLOCK_LOCK c = bitsOf v 0 1
      ∧ (let cleared := s.flag CH_PWMLOCK_LOCK c = true ∧ bitsOf v 0 1 = 0
         (t.ch c).perAt = (if cleared ∧ (s.ch c).perAt ≠ none then some s.now else (s.ch c).perAt)
         ∧ (t.ch c).dutyAt = (if cleared ∧ (s.ch c).dutyAt ≠ none then some s.now else (s.ch c).dutyAt))
      ∧ s.Only t [.bus, .chan] [CH_PWMLOCK.addr c])
    ∧ (s.Admits by_ (CH_INJDLY.addr c) true v →
      let cor := signedOf 16 (bitsOf v 0 16)
      let lim : Int := s.fld CH_INJLIM_CORMAX c
      (s.hostMode fnInjdly c = false → exec (.injdlyWrite by_ c v) s = .next s.busOk)
      ∧ (s.hostMode fnInjdly c = true → s.flag CH_INJDEC_REQ c = false → ∃ t, exec (.injdlyWrite by_ c v) s = .next t ∧ t.fld CH_INJDEC_RESULT c = 2
          ∧ t.fld SYS_FNSTAT_LATE = min (2 ^ SYS_FNSTAT_LATE.len - 1) (s.fld SYS_FNSTAT_LATE + 1) ∧ s.Only t [.bus] [CH_INJDEC.addr c, SYS_FNSTAT.addr])
      ∧ (s.hostMode fnInjdly c = true → s.flag CH_INJDEC_REQ c = true → (lim < cor ∨ cor < -lim) → ∃ t, exec (.injdlyWrite by_ c v) s = .next t
          ∧ t.fld CH_INJDEC_RESULT c = 3 ∧ s.Only t [.bus] [CH_INJDEC.addr c])
      ∧ (s.hostMode fnInjdly c = true → s.flag CH_INJDEC_REQ c = true → -lim ≤ cor → cor ≤ lim → ∃ t, exec (.injdlyWrite by_ c v) s = .next t
          ∧ t.sfld CH_INJDLY_COR c = cor ∧ t.flag CH_INJDEC_REQ c = false ∧ t.fld CH_INJDEC_RESULT c = 1 ∧ t.flag CH_STAT_INJSTALE c = false
          ∧ t.askOf fnInjdly c = none ∧ s.Only t [.bus, .ask] [CH_INJDLY.addr c, CH_INJDEC.addr c, CH_STAT.addr c]))

/-! The Husk (chapter 6) -/

/-- ONMAX_EXPIRY, REVON_EXPIRY, HUSK_WINDOW_TOUCH and REVACC_CLEAR (R181, R182, R184, R185, R186, R187): a limit that is reached while the pin is on turns it off with its cause, unless the
intent falls by then; of several the first in the order of R184 does. The pin is then off at the pad time and blocked until the next rise, the LAST registers hold cause, tag and time, the on-times are
added up and the group's fault is raised. On a pin that is off, and with no limit reached, nothing happens. A crossing of a revolution clears the accumulators of the tracker's channels. -/
def Obligations.HuskLimits : Prop :=
  ∀ (s : State) (c : Fin 128), s.Ready →
    let cmds : List Instr := [.onmaxExpiry c, .revonExpiry c, .huskWindowTouch c]
    let cut (k t : Nat) : Prop := ∀ i ∈ cmds, (s.fallsBy c t = true → exec i s = .next s)
      ∧ (s.fallsBy c t = false → ∃ x : State, exec i s = .next x.settle
        ∧ x.flag HSK_STAT_OUT c = false ∧ x.flag HSK_STAT_BLOCKED c = true ∧ x.flag HSK_STAT_INTENT c = s.flag HSK_STAT_INTENT c
        ∧ x.rd (HSK_LAST.addr c) = BitVec.ofNat 32 (k * 65536 + (match (s.ch c).active with | some a => a.ev.tag | none => 0))
        ∧ x.rd (HSK_LASTTB.addr c) = BitVec.ofNat 32 (t / 32) ∧ (x.hsk c).offAt = some (padTime c t) ∧ (x.hsk c).revAcc = s.revOnTime c (padTime c t)
        ∧ (x.hsk c).dur = (s.hsk c).dur + (padTime c t - (s.hsk c).riseAt) ∧ .fault ⟨76 + c / 8, (c * 256 + k) % 65536⟩ ∈ x.due
        ∧ (∀ d, d ≠ c.val → x.hsk d = s.hsk d ∧ x.ch d = s.ch d) ∧ s.OnlyParts x [.husk, .pad, .chan, .due])
    let t := (s.hsk c).riseAt + s.hskUnits c HSK_ONMAX_LIM
    let onmax := s.fld HSK_ONMAX_LIM c ≠ 0 ∧ t / 32 ≤ s.now
    let revon := s.chBound c = true ∧ s.fld HSK_REVON_LIM c ≠ 0 ∧ s.hskUnits c HSK_REVON_LIM ≤ s.revOnTime c (s.now * 32)
    (s.flag HSK_STAT_OUT c = false → ∀ i ∈ cmds, exec i s = .next s)
    ∧ (s.flag HSK_STAT_OUT c = true →
      (onmax → cut cOnMax t)
      ∧ (¬onmax → revon → cut cRevOn (s.now * 32))
      ∧ (¬onmax → ¬revon → ∀ k l, s.touchedWins c = k :: l → cut cWindow (s.winPad c k))
      ∧ (¬onmax → ¬revon → s.touchedWins c = [] → c.val < 112 ∨ s.i2tOver c = false → ∀ i ∈ cmds, exec i s = .next s))
    ∧ (∀ n : Fin 6, s.crossesRev n = false → exec (.revaccClear n) s = .next s)
    ∧ (∀ n : Fin 6, s.crossesRev n = true → ∃ t, exec (.revaccClear n) s = .next t
        ∧ (∀ d, t.hsk d = if d < 128 ∧ s.chTrk d = n.val then { s.hsk d with revAcc := 0, revFrom := s.now * 32 } else s.hsk d) ∧ s.Only t [.husk] [])

/-- HUSK_FORCE and I_SENSE_SAMPLE (R174, R183, R193, R203): a force is ignored on a channel that a pin sequencer drives or that holds an event; otherwise the register takes bits
1 and 0, and the intent follows it, to the pad two TCLK later, under the Husk. A sample is taken in a TCLK in which TB is a whole multiple of 400: ISENSE with the gain trim, its peak and the energy accumulator of every driver, which trips above LVL where a limit is set and
turns the pin off. How a fraction of the trimmed current is rounded is a free value (the model's choice, notes/assumptions/63). -/
def Obligations.ForceAndSense : Prop :=
  (∀ (s : State) (by_ : Agent) (c : Fin 128) (v : Word), s.due = [] → s.Admits by_ (HSK_FORCE.addr c) true v →
    let on := bitsOf v 0 2 = 3
    let was := s.flag HSK_STAT_INTENT c
    let t := (s.now + 2) * 32
    (s.flag PAD_CFG_SRC c = true ∨ (s.ch c).queue ≠ [] ∨ (s.ch c).active ≠ none → exec (.huskForce by_ c v) s = .next s.busOk)
    ∧ (s.flag PAD_CFG_SRC c = false → (s.ch c).queue = [] → (s.ch c).active = none → ∃ x : State, exec (.huskForce by_ c v) s = .next x.settle
        ∧ x.rd (HSK_FORCE.addr c) = v &&& 3 ∧ (x.flag HSK_STAT_INTENT c = true ↔ on)
        ∧ ((on ↔ was = true) → s.Only x [.bus] [HSK_FORCE.addr c])
        ∧ (on → was = false → s.flag HSK_STAT_OUT c = false → s.forced c = 0 → s.suppressor c t = 0 → x.flag HSK_STAT_OUT c = true ∧ (x.hsk c).riseAt = t)
        ∧ (on → was = false → s.flag HSK_STAT_OUT c = false → s.forced c ≠ 0 → x.flag HSK_STAT_OUT c = false ∧ x.flag HSK_STAT_BLOCKED c = true
            ∧ bitsOf (x.rd (HSK_LAST.addr c)) 16 8 = s.forced c)
        ∧ (¬on → was = true → (s.pd c).pulse = false → x.flag HSK_STAT_OUT c = false ∧ (s.flag HSK_STAT_OUT c = true → (x.hsk c).offAt = some t))
        ∧ (∀ d, d ≠ c.val → x.hsk d = s.hsk d) ∧ s.OnlyParts x [.bus, .husk, .pad, .due]))
  ∧ ∀ (s : State) (i : Vector (BitVec 12) 16), s.Ready →
    (s.now % 400 ≠ 0 → exec (.iSenseSample i) s = .next s)
    ∧ (s.now % 400 = 0 → ∃ x : State, exec (.iSenseSample i) s = .next x.settle ∧ s.OnlyParts x [.husk, .pad, .chan, .due] ∧ ∀ d : Fin 16,
        let c := 112 + d.val
        let n := s.senseCurrent d (i.get d).toNat
        let e := min 0xFFFFFFFF (s.fld HSK_I2TACC c + n * n / 1024 - s.fld HSK_I2TCOOL_COOL c)
        let trips := s.fld HSK_I2TMAX_LVL c ≠ 0 ∧ s.fld HSK_I2TMAX_LVL c < e
        (s.calWord 6 (1 + d) = 0x8000 → n = (i.get d).toNat)
        ∧ x.fld PAD_ISENSE_I c = n ∧ x.fld PAD_ISENSE_PEAK c = max (s.fld PAD_ISENSE_PEAK c) n ∧ x.fld HSK_I2TACC c = e
        ∧ (x.flag HSK_STAT_TRIPPED c = true ↔ trips ∨ (s.flag HSK_STAT_TRIPPED c = true ∧ s.fld HSK_I2TREL_LVL c < e))
        ∧ (¬trips → x.flag HSK_STAT_OUT c = s.flag HSK_STAT_OUT c ∧ x.hsk c = s.hsk c)
        ∧ (trips → s.flag HSK_STAT_OUT c = true → s.fld HSK_ONMAX_LIM c = 0 → s.fld HSK_REVON_LIM c = 0 → s.fld HSK_CFG_WINEN c = 0 →
            s.fallsBy c ((s.now + 2) * 32) = false → x.flag HSK_STAT_OUT c = false ∧ (x.hsk c).offAt = some ((s.now + 2) * 32)
            ∧ bitsOf (x.rd (HSK_LAST.addr c)) 16 8 = cI2t))

/-! Pads (chapter 6) -/

/-- OVERCURRENT, OPEN_ON, DRIVER_THERMAL, READBACK_MISMATCH and MISMATCH_ACT (R192, R194, R196, R197, R198, R200): a driver that is judged and has been on long enough takes the cause; a junction
above its limit is one in every state but the reset state; a mismatch that has lasted its filter against the expected level acts at once on a driver, and on a logic pad is held for CWIN and acts at the end of its hold, with contention where the opposite mismatch of another pad of its group has matured within CWIN.
What the pad is not compared for changes nothing. A cause that matures sets its bit in DIAG and raises its source with channel and cause; one with an action puts the pad into FAULT with the cause, unless the channel is retired. -/
def Obligations.PadEvents : Prop :=
  ∀ s : State, s.Ready →
    let matures (i : Instr) (c cause : Nat) : Prop := ∃ x : State, exec i s = .next x.settle
      ∧ x.rd (PAD_DIAG.addr c) = s.rd (PAD_DIAG.addr c) ||| BitVec.ofNat 32 (2 ^ cause) ∧ .fault ⟨256 + c, (c * 256 + cause) % 65536⟩ ∈ x.due
      ∧ (causeActs c cause = true → s.retired c = false → x.fld PAD_STAT_STATE c = padFault ∧ .latch c ∈ x.due
          ∧ (s.fld PAD_STAT_STATE c = padNormal → x.fld PAD_STAT_CAUSE c = cause))
      ∧ (causeActs c cause = false ∨ s.retired c = true → x.rd (PAD_STAT.addr c) = s.rd (PAD_STAT.addr c))
      ∧ (∀ d, d ≠ c → x.pd d = s.pd d) ∧ s.OnlyParts x [.pad, .cls, .fco, .due]
    (∀ d : Fin 16,
      let c := 112 + d.val
      let long := s.onFor c (s.fld PAD_FDCFG_OCT c * 400) = true ∧ s.padJudged c = true
      let open_ := s.onFor c ((s.fld PAD_FDCFG_FDBLANK c + 100) * 400) = true ∧ s.fld PAD_ISENSE_I c < s.fld PAD_FDCFG_OLTHR c ∧ s.padJudged c = true
      (s.fld PAD_STAT_STATE c = padReset → exec (.driverThermal d) s = .next s)
      ∧ (s.fld PAD_STAT_STATE c ≠ padReset → matures (.driverThermal d) c pcThermal)
      ∧ (long → matures (.overcurrent d) c pcOvercurrent) ∧ (¬long → exec (.overcurrent d) s = .next s)
      ∧ (open_ → matures (.openOn d) c pcOpenOn) ∧ (¬open_ → exec (.openOn d) s = .next s))
    ∧ (∀ (c : Fin 128) (high : Bool),
      let i := Instr.readbackMismatch c high
      let kind := if high then pcHiLo else pcLoHi
      let st := s.fld PAD_STAT_STATE c
      let cwin := s.fld PADG_CFG_CWIN (c / 8)
      let opposite (b : Nat) : Prop := b < 128 ∧ b / 8 = c.val / 8 ∧ b ≠ c.val ∧ ∃ t, (s.pd b).matured = some (!high, t) ∧ s.now ≤ t + cwin
      let mature := s.rbOver c = true ∧ s.padLevel c = high
      (¬mature → exec i s = .next s)
      ∧ (mature → 112 ≤ c.val → (s.padJudged c = true → matures i c kind) ∧ (s.padJudged c = false → exec i s = .next s))
      ∧ (mature → c.val < 112 → st = padReset ∨ st = padTest ∨ (s.pd c).held ≠ none → exec i s = .next s)
      ∧ (mature → c.val < 112 → st = padNormal ∨ st = padFault ∨ st = padRetired → (s.pd c).held = none →
          ((∀ b, ¬opposite b) → exec i s = .next (s.setPd c { s.pd c with held := some ⟨high, s.now, false, s.now + cwin + 1⟩, matured := some (high, s.now) }))
          ∧ ∀ b, opposite b → ∃ t, exec i s = .next t ∧ (∃ h, (t.pd c).held = some h ∧ h.high = high ∧ h.at_ = s.now ∧ h.contention = true ∧ h.actAt ≤ s.now + cwin + 1)
            ∧ (∀ g, (s.pd b).held = some g → ∃ g', (t.pd b).held = some g' ∧ g'.contention = true ∧ g'.high = g.high ∧ g'.actAt ≤ g.actAt)
            ∧ s.Only t [.pad] []))
    ∧ (∀ c : Fin 128, (s.pd c).held = none → exec (.mismatchAct c) s = .next s)
    ∧ ∀ (c : Fin 128) (h : Held), (s.pd c).held = some h →
      (s.now < h.actAt → exec (.mismatchAct c) s = .next s)
      ∧ (h.actAt ≤ s.now → matures (.mismatchAct c) c (if h.contention then pcContention else if h.high then pcHiLo else pcLoHi))

/-- PAD_TEST and PAD_TEST_DONE (R198, R201, R364): a test of a channel that is cut or retired runs with the pad in TEST, and ends with NOT_OFF otherwise; a mismatch that is held goes on. When the time of its steps has passed it ends: PASS, or FAIL with the cause found, the pad back in its state before, or RETIRED.
A driver turns on 50 µs after the start, where the Husk finds no cause but CUT and RETIRED and no limit, and off 10 µs later; a pulse that did not run to its end fails the test. -/
def Obligations.PadTest : Prop :=
  (∀ (s : State) (by_ : Agent) (c : Fin 128), s.due = [] → s.Admits by_ (PAD_TEST.addr c) true 1 →
    (s.flag PAD_TEST_START c = true → exec (.padTest by_ c) s = .next s.busOk)
    ∧ (s.flag PAD_TEST_START c = false → s.flag CH_STAT_CUTL c = false → s.retired c = false → ∃ t, exec (.padTest by_ c) s = .next t
        ∧ t.fld PAD_TEST_RESULT c = 3 ∧ s.Only t [.bus] [PAD_TEST.addr c])
    ∧ (s.flag PAD_TEST_START c = false → s.flag CH_STAT_CUTL c = true ∨ s.retired c = true → ∃ t, exec (.padTest by_ c) s = .next t
        ∧ t.flag PAD_TEST_START c = true ∧ t.fld PAD_STAT_STATE c = padTest ∧ (t.pd c).testFrom = s.fld PAD_STAT_STATE c ∧ (t.pd c).testAt = s.now
        ∧ (t.pd c).held = (s.pd c).held ∧ (t.pd c).matured = (s.pd c).matured ∧ (∀ d, d ≠ c.val → t.pd d = s.pd d)
        ∧ s.Only t [.bus, .pad] [PAD_TEST.addr c, PAD_STAT.addr c]))
  ∧ ∀ (s : State) (c : Fin 128), s.Ready →
    let ran := s.flag PAD_TEST_START c = true ∧ (s.pd c).testAt + (if 112 ≤ c.val then 24000 else 3200) ≤ s.now
    let back (t : State) : Prop := t.flag PAD_TEST_START c = false ∧ (∀ d, d ≠ c.val → t.pd d = s.pd d) ∧ s.Only t [.pad] [PAD_TEST.addr c, PAD_STAT.addr c]
      ∧ t.fld PAD_STAT_STATE c = (if s.fld PAD_STAT_STATE c ≠ padTest then s.fld PAD_STAT_STATE c
          else if s.retired c then padRetired else (s.pd c).testFrom % 2 ^ PAD_STAT_STATE.len)
    (∀ fail, ¬ran → exec (.padTestDone c fail) s = .next s)
    ∧ (ran → c.val < 112 ∨ (s.pd c).pulseOk = true → ∃ t, exec (.padTestDone c none) s = .next t ∧ t.fld PAD_TEST_RESULT c = 1 ∧ t.fld PAD_TEST_FCAUSE c = 0
        ∧ ((t.pd c).passOk = true ↔ s.retired c = true ∧ (s.pd c).testOk = true) ∧ back t)
    ∧ (ran → 112 ≤ c.val → (s.pd c).pulseOk = false → ∃ t, exec (.padTestDone c none) s = .next t ∧ t.fld PAD_TEST_RESULT c = 2 ∧ t.fld PAD_TEST_FCAUSE c = pcLoHi
        ∧ (t.pd c).passOk = false ∧ back t)
    ∧ (ran → ∀ k : Fin 7, ∃ t, exec (.padTestDone c (some k)) s = .next t
        ∧ t.fld PAD_TEST_RESULT c = 2 ∧ t.fld PAD_TEST_FCAUSE c = k.val ∧ (t.pd c).passOk = false ∧ back t)
    ∧ (s.flag PAD_TEST_START c = true → 112 ≤ c.val → s.now = (s.pd c).testAt + 20000 → s.forcedBy c true = 0 → s.suppressor c (s.now * 32) = 0 →
        (s.testTick c).flag HSK_STAT_OUT c = true ∧ ((s.testTick c).hsk c).riseAt = s.now * 32 ∧ (s.testTick c).flag HSK_STAT_INTENT c = s.flag HSK_STAT_INTENT c)
    ∧ (s.flag PAD_TEST_START c = true → 112 ≤ c.val → s.now = (s.pd c).testAt + 24000 → (s.pd c).pulse = true →
        (s.testTick c).flag HSK_STAT_OUT c = false ∧ ((s.testTick c).pd c).pulseOk = s.flag HSK_STAT_OUT c)

/-! Converters, knock and calibration (chapters 7 and 15) -/

/-- ADC_START, ADC_STOP, ADC_CLRQ, TRIGGER_TAKE and ADC_RESULT_READ (R167, R168, R208, R209, R210, R222): START takes a stopped sequencer to entry 0 with its task input empty,
and STOP and CLRQ act as R208 says, each only in its state; a take releases a sequencer that waits; a read of RES0 takes the oldest result and
latches its other words, and answers 0 where the queue is empty. -/
def Obligations.AdcSequencer : Prop :=
  ∀ (s : State) (by_ : Agent) (a : Fin 4), s.due = [] →
    (s.Admits by_ (ADC_CTRL.addr a) true 1 →
      (s.fld ADC_CTRL_STATE a ≠ 0 → exec (.adcStart by_ a) s = .next s.busOk)
      ∧ (s.fld ADC_CTRL_STATE a = 0 → ∃ t, exec (.adcStart by_ a) s = .next t ∧ t.fld ADC_CTRL_STATE a = 1 ∧ t.fld ADC_CTRL_IDX a = 0
          ∧ t.taskOf (tiAdc a) = [] ∧ t.fld ADC_TSTAT_PEND a = 0 ∧ (t.ad a).left = s.fld ADC_SEQ0_REP a 0 + 1
          ∧ (s.flag ADC_SEQ0_WAIT a 0 = true → (t.ad a).ready = some (s.now + 1) ∧ (t.ad a).due = none)
          ∧ (s.flag ADC_SEQ0_WAIT a 0 = false → (t.ad a).due = some (s.now + 1) ∧ (t.ad a).ready = none)
          ∧ s.Only t [.bus, .task, .adc] [ADC_CTRL.addr a, ADC_TSTAT.addr a]))
    ∧ (s.Admits by_ (ADC_CTRL.addr a) true 2 →
      let idle := { s.ad a with due := none, ready := none, left := 0 }
      let stops (t : State) : Prop := t.fld ADC_CTRL_STATE a = 0 ∧ t.taskOf (tiAdc a) = [] ∧ t.fld ADC_TSTAT_PEND a = 0
      (s.fld ADC_CTRL_STATE a = 0 → exec (.adcStop by_ a) s = .next s.busOk)
      ∧ (s.fld ADC_CTRL_STATE a ≠ 0 → (s.ad a).conv ≠ none ∨ ((s.ad a).out = none ∧ (s.ad a).trace = []) → ∃ t, exec (.adcStop by_ a) s = .next t
          ∧ stops t ∧ t.ad a = idle ∧ s.Only t [.bus, .task, .adc] [ADC_CTRL.addr a, ADC_TSTAT.addr a])
      ∧ (s.fld ADC_CTRL_STATE a ≠ 0 → (s.ad a).conv = none → ∀ c code fl fin, (s.ad a).out = some (c, code, fl, fin) → ∃ t, exec (.adcStop by_ a) s = .next t
          ∧ stops t ∧ t.ad a = { idle with out := some (c, code, fl, true) } ∧ s.Only t [.bus, .task, .adc] [ADC_CTRL.addr a, ADC_TSTAT.addr a])
      ∧ (s.fld ADC_CTRL_STATE a ≠ 0 → (s.ad a).conv = none → (s.ad a).out = none → (s.ad a).trace ≠ [] → ∃ (x : State) (r : Rec),
          exec (.adcStop by_ a) s = .next x.settle ∧ stops x ∧ x.ad a = { idle with trace := [] } ∧ x.due = [.record r] ∧ r.ty = 0x02 ∧ r.src = (s.ad a).traceIn
          ∧ s.Only x [.bus, .task, .adc, .due] [ADC_CTRL.addr a, ADC_TSTAT.addr a]))
    ∧ (s.Admits by_ (ADC_CTRL.addr a) true 4 →
      (s.fld ADC_CTRL_STATE a ≠ 0 → exec (.adcClrq by_ a) s = .next s.busOk)
      ∧ (s.fld ADC_CTRL_STATE a = 0 → ∃ t, exec (.adcClrq by_ a) s = .next t ∧ t.ad a = { s.ad a with queue := [] }
          ∧ t.fld ADC_QSTAT_LEVEL a = 0 ∧ s.Only t [.bus, .adc] [ADC_QSTAT.addr a]))
    ∧ (s.pwr = .run →
      (s.taskOf (tiAdc a) = [] ∨ (s.ad a).ready = none → exec (.triggerTake a) s = .next s)
      ∧ ∀ r e l, (s.ad a).ready = some r → s.taskOf (tiAdc a) = e :: l →
        (s.now < r ∨ s.now ≤ e.at_ → exec (.triggerTake a) s = .next s)
        ∧ (r ≤ s.now → e.at_ < s.now → ∃ t, exec (.triggerTake a) s = .next t
            ∧ t.taskOf (tiAdc a) = (if s.flag ADC_CFG_TMODE a then [] else l)
            ∧ t.ad a = { s.ad a with ready := none, due := some (s.now + 1), tsrc := e.src, cu := e.cu,
                                     overlap := s.flag ADC_CFG_TMODE a && l != [] }
            ∧ s.Only t [.task, .adc] [ADC_TSTAT.addr a]))
    ∧ (s.Admits by_ (ADC_RES.addr a 0) false 0 →
      let w := (s.ad a).queue.headD [0, 0, 0, 0, 0]
      ∃ t, exec (.adcResultRead by_ a) s = .next t ∧ t.bus = ⟨false, BitVec.ofNat 64 (w.getD 0 0)⟩ ∧ (t.ad a).queue = (s.ad a).queue.tail
        ∧ (∀ i, i < 4 → tget none t.rdLatch (latchKey by_ (ADC_RES.addr a (i + 1))) = some (BitVec.ofNat 32 (w.getD (i + 1) 0)))
        ∧ s.Only t [.bus, .rdLatch, .adc] [ADC_QSTAT.addr a])

/-- ADC_GAIN_WRITE, CAL_OFFSET_COMMIT and TDAC_WRITE (R206, R207, R218, R225): a gain outside GMIN-GMAX is ignored, one written during a conversion of the input waits for its end, the gain in force is no change, another one is
a change from this TCLK; a commit without a request is late, one beyond the limit is refused, an accepted one takes the host's offsets; the
test DAC takes its target as it turns on, keeps it while it is on, and its input's gain changes as it turns on and off. -/
def Obligations.AdcRegisters : Prop :=
  ∀ (s : State) (by_ : Agent) (v : Word), s.due = [] →
    (∀ j : Fin 64, s.Admits by_ (ADC_IN.addr j) true v →
      let g := bitsOf v 0 3
      let inRange := s.fld ADC_IN_GMIN j ≤ g ∧ g ≤ s.fld ADC_IN_GMAX j
      (¬inRange → exec (.adcGainWrite by_ j v) s = .next s.busOk)
      ∧ (inRange → s.converting j = true → ∃ t, exec (.adcGainWrite by_ j v) s = .next t ∧ tget none t.gainNext j = some (g, s.now)
          ∧ t.fld ADC_IN_GAIN j = s.fld ADC_IN_GAIN j ∧ s.Only t [.bus, .gainNext] [])
      ∧ (inRange → s.converting j = false → s.fld ADC_IN_GAIN j = g → tget none s.gainNext j = none → exec (.adcGainWrite by_ j v) s = .next s.busOk)
      ∧ (inRange → s.converting j = false → s.fld ADC_IN_GAIN j ≠ g → ∃ t, exec (.adcGainWrite by_ j v) s = .next t
          ∧ t.fld ADC_IN_GAIN j = g ∧ tget none t.gainAt j.val = some s.now ∧ tget false t.gchg j.val = true ∧ tget none t.gainNext j = none
          ∧ s.Only t [.bus, .gainAt, .gchg, .gainNext] [ADC_IN.addr j, ADC_CNT.addr (s.fld ADC_IN_CONV j)]))
    ∧ (∀ a : Fin 4, s.Admits by_ (ADC_CALDEC.addr a) true 1 →
      let lim : Int := s.fld ADC_CALLIM_LIM a
      let ok := ∀ g < 5, s.sfld ADC_HOFS a g - s.calOfs a g ≤ lim ∧ -lim ≤ s.sfld ADC_HOFS a g - s.calOfs a g
      (s.flag ADC_CALDEC_REQ a = false → ∃ t, exec (.calOffsetCommit by_ a) s = .next t ∧ t.fld ADC_CALDEC_RESULT a = 2
          ∧ t.fld SYS_FNSTAT_LATE = min (2 ^ SYS_FNSTAT_LATE.len - 1) (s.fld SYS_FNSTAT_LATE + 1) ∧ s.Only t [.bus] [ADC_CALDEC.addr a, SYS_FNSTAT.addr])
      ∧ (s.flag ADC_CALDEC_REQ a = true → ¬ok → ∃ t, exec (.calOffsetCommit by_ a) s = .next t ∧ t.fld ADC_CALDEC_RESULT a = 3 ∧ s.Only t [.bus] [ADC_CALDEC.addr a])
      ∧ (s.flag ADC_CALDEC_REQ a = true → ok → ∃ t, exec (.calOffsetCommit by_ a) s = .next t
          ∧ (∀ g < 5, t.sfld ADC_OFS a g = s.sfld ADC_HOFS a g) ∧ t.flag ADC_CALDEC_REQ a = false ∧ t.fld ADC_CALDEC_RESULT a = 1
          ∧ t.ad a = { s.ad a with stale := false } ∧ t.askOf fnCaltrk a = none
          ∧ s.Only t [.bus, .adc, .ask] (ADC_CALDEC.addr a :: (List.range 5).map (ADC_OFS.addr a ·))))
    ∧ (s.Admits by_ TDAC_CTRL.addr true v →
      let on := bitsOf v 31 1 = 1
      let was := s.flag TDAC_CTRL_EN
      let old := s.fld TDAC_CTRL_TARGET
      ∃ t, exec (.tdacWrite by_ v) s = .next t ∧ t.fld TDAC_CTRL_CODE = bitsOf v 0 12
        ∧ (t.flag TDAC_CTRL_EN = true ↔ on) ∧ (t.flag TDAC_STAT_CONN = true ↔ on) ∧ t.fld TDAC_CTRL_TARGET = (if was then old else bitsOf v 16 6)
        ∧ (on → was = false → tget none t.gainAt (bitsOf v 16 6) = some s.now ∧ tget false t.gchg (bitsOf v 16 6) = true)
        ∧ (¬on → was = true → tget none t.gainAt old = some s.now ∧ tget false t.gchg old = true)
        ∧ ((on ↔ was = true) → s.Only t [.bus] [TDAC_CTRL.addr, TDAC_STAT.addr]) ∧ s.OnlyParts t [.bus, .gainAt, .gchg])

/-- CONVERSION_START, CONVERSION_END, URGENT_REQUEST, SHADOW_CYCLE_DUE and SHADOW_START (R205, R206, R209, R212, R214-R218, R220): a busy converter starts nothing; an urgent request
and then a due entry change the gain of their input where they name another one, and start once it has settled; a conversion ends 40 TCLK after its start with the corrected code, which enters the queue in the TCLK after; a shadow cycle sets up its six slots every
PER µs, and a slot starts when it is admitted. -/
def Obligations.AdcConversions : Prop :=
  ∀ (s : State) (a : Fin 4), s.Ready →
    ((s.ad a).conv ≠ none → exec (.conversionStart a) s = .next s)
    ∧ ((s.ad a).urg = none → (s.ad a).due = none → exec (.conversionStart a) s = .next s)
    ∧ (∀ j g w, (s.ad a).conv = none → (s.ad a).urg = some (j, g, w) → w < s.now → (∀ d, (s.ad a).due = some d → s.now < d ∨ (s.ad a).gainFor = some d) →
        (g = 7 ∨ g = s.fld ADC_IN_GAIN j ∧ g ≤ 4 → s.settled j = true → ∃ t c, exec (.conversionStart a) s = .next t ∧ (t.ad a).conv = some c ∧ c.kind = 1 ∧ c.src = j
          ∧ c.gain = s.fld ADC_IN_GAIN j ∧ c.start = s.now ∧ (t.ad a).urg = none ∧ (t.ad a).urgEnd = s.now + 40 ∧ (t.ad a).queue = (s.ad a).queue ∧ s.Only t [.adc, .gchg] [])
        ∧ (g ≤ 4 → g ≠ s.fld ADC_IN_GAIN j → s.converting j = false → j < 64 → ∃ t, exec (.conversionStart a) s = .next t ∧ (t.ad a).conv = none
          ∧ t.fld ADC_IN_GAIN j = g ∧ tget none t.gainAt j = some s.now ∧ tget false t.gchg j = true ∧ (t.ad a).urg = some (j, 7, w)))
    ∧ (∀ d, (s.ad a).conv = none → (s.ad a).urg = none → (s.ad a).due = some d →
        let i := s.fld ADC_CTRL_IDX a
        let j := s.fld ADC_SEQ0_SRC a i
        let g := s.fld ADC_SEQ0_GAIN a i
        let starts (gain : Nat) (as : List Nat) : Prop := ∃ t c, exec (.conversionStart a) s = .next t
            ∧ (t.ad a).conv = some c ∧ c.kind = 0 ∧ c.src = j ∧ c.gain = gain ∧ c.start = s.now ∧ c.entry = i
            ∧ c.tsrc = (s.ad a).tsrc ∧ (c.final = true ↔ (s.ad a).left = 1) ∧ (t.ad a).left = (s.ad a).left - 1
            ∧ (2 ≤ (s.ad a).left → (t.ad a).due = some (s.now + 40 + s.fld ADC_SEQ1_DELAY a i)) ∧ ((s.ad a).left ≤ 1 → (t.ad a).due = none)
            ∧ s.Only t [.adc, .gchg] as
        (s.now < d → exec (.conversionStart a) s = .next s)
        ∧ (d ≤ s.now → j < 64 → g = 7 ∨ g = s.fld ADC_IN_GAIN j ∧ g ≤ 4 → s.settled j = true → starts (s.fld ADC_IN_GAIN j) [ADC_CALSTAT.addr a])
        ∧ (d ≤ s.now → 64 ≤ j → starts g [ADC_CALSTAT.addr a])
        ∧ (d ≤ s.now → j < 64 → g ≤ 4 → g ≠ s.fld ADC_IN_GAIN j → (s.ad a).gainFor ≠ some d → s.converting j = false → ∃ t, exec (.conversionStart a) s = .next t
            ∧ (t.ad a).conv = none ∧ (t.ad a).gainFor = some d ∧ t.fld ADC_IN_GAIN j = g ∧ tget none t.gainAt j = some s.now ∧ tget false t.gchg j = true))
    ∧ (∀ raw, (s.ad a).conv = none → exec (.conversionEnd a raw) s = .next s)
    ∧ (∀ (c : Conv) (raw : BitVec 16), (s.ad a).conv = some c →
        let y := roundDivI (((raw.toNat : Int) - s.sfld ADC_OFS a c.gain) * (s.calGt a c.gain : Int)) 32768
        (s.now < c.start + 40 → exec (.conversionEnd a raw) s = .next s)
        ∧ (c.start + 40 ≤ s.now → s.fnPending fnCaltrk = false → ∃ x : State, exec (.conversionEnd a raw) s = .next x.settle ∧ (x.ad a).conv = none ∧ (x.ad a).queue = (s.ad a).queue
          ∧ (c.kind ≠ 2 → ∃ code fl fin, (x.ad a).out = some (c, code, fl, fin) ∧ (code : Int) = max 0 (min 65535 y)
              ∧ (fl / rOvr % 2 = 1 ↔ c.flags / rOvr % 2 = 1 ∨ y < 0 ∨ 65535 < y ∨ raw.toNat = 0 ∨ raw.toNat = 65535))
          ∧ (c.kind = 1 → x.flag ADC_URGSTAT_PENDING a = false ∧ x.rd (ADC_CTRL.addr a) = s.rd (ADC_CTRL.addr a))
          ∧ (c.kind = 0 → c.final = true → s.fld ADC_CTRL_STATE a ≠ 0 → (s.ad a).left = 0 → (s.ad a).due = none → (s.ad a).ready = none →
              let i := s.fld ADC_CTRL_IDX a
              let k := if s.flag ADC_SEQ0_LAST a i then 0 else (i + 1) % 2 ^ ADC_CTRL_IDX.len
              let u := c.start + 40 + s.fld ADC_SEQ1_DELAY a i
              x.fld ADC_CTRL_IDX a = k ∧ (x.ad a).left = s.fld ADC_SEQ0_REP a k + 1
                ∧ (if s.flag ADC_SEQ0_WAIT a k then (x.ad a).ready = some u ∧ (x.ad a).due = none else (x.ad a).due = some u ∧ (x.ad a).ready = none))
          ∧ (c.kind = 2 → x.fld ADC_CALSTAT_SLOTS a = min (2 ^ ADC_CALSTAT_SLOTS.len - 1) (s.fld ADC_CALSTAT_SLOTS a + 1))))
    ∧ (∀ c code fl, (s.ad a).out = some (c, code, fl, false) →
        let q := (s.ad a).queue
        let e := [code * 65536 + c.gain * 8192 + c.src * 16 + 1, c.tsrc * 2 ^ 23 + c.entry * 2 ^ 15 + (fl ||| (if (s.ad a).dropped then rDropped else 0)),
                  c.start % 2 ^ 32, c.start / 2 ^ 32, c.aw]
        let bus := s.fld ADC_CFG_READERS a % 2 = 1
        ((s.adcOut a).ad a).out = none
        ∧ (bus → 2048 ≤ q.length → ((s.adcOut a).ad a).queue = q ∧ (s.adcOut a).fld ADC_QSTAT_DROP a = min (2 ^ ADC_QSTAT_DROP.len - 1) (s.fld ADC_QSTAT_DROP a + 1))
        ∧ (bus → q.length < 2048 → ((s.adcOut a).ad a).queue = q ++ [e]) ∧ (¬bus → ((s.adcOut a).ad a).queue = q))
    ∧ (∀ (by_ : Agent) (v : Word), s.Admits by_ (ADC_URG.addr a) true v →
        let j := bitsOf v 0 6
        let free := s.flag ADC_URGSTAT_PENDING a = false ∧ s.fld ADC_IN_CONV j = a.val ∧ s.flag ADC_IN_EN j = true
        (¬free → ∃ t, exec (.urgentRequest by_ a v) s = .next t ∧ t.fld ADC_URGSTAT_REFUSED a = min (2 ^ ADC_URGSTAT_REFUSED.len - 1) (s.fld ADC_URGSTAT_REFUSED a + 1)
            ∧ t.flag ADC_URGSTAT_PENDING a = s.flag ADC_URGSTAT_PENDING a ∧ s.Only t [.bus] [ADC_URGSTAT.addr a])
        ∧ (free → ∃ t, exec (.urgentRequest by_ a v) s = .next t ∧ t.flag ADC_URGSTAT_PENDING a = true
            ∧ t.ad a = { s.ad a with urg := some (j, bitsOf v 8 3, s.now) } ∧ s.Only t [.bus, .adc] [ADC_URGSTAT.addr a]))
    ∧ (s.fld ADC_CALCFG_PER a = 0 ∨ s.now < (s.ad a).nextCycle → exec (.shadowCycleDue a) s = .next s)
    ∧ (s.fld ADC_CALCFG_PER a ≠ 0 → (s.ad a).nextCycle ≤ s.now →
        let y := { s.ad a with slots := if (s.ad a).slots = [] then [0, 1, 2, 3, 4, 5] else (s.ad a).slots, drift := false,
                               nextCycle := (s.ad a).nextCycle + s.fld ADC_CALCFG_PER a * 400 }
        (s.hostMode fnCaltrk a = false → ∃ t, exec (.shadowCycleDue a) s = .next t ∧ s.Only t [.adc] [] ∧ t.ad a = y)
        ∧ (s.hostMode fnCaltrk a = true → ∃ x : State, exec (.shadowCycleDue a) s = .next x.settle ∧ x.ad a = y ∧ x.flag ADC_CALDEC_REQ a = true
            ∧ x.due = [.ask fnCaltrk a] ∧ (x.askOf fnCaltrk a).isSome = true ∧ s.Only x [.adc, .ask, .due] (ADC_CALDEC.addr a :: ADC_INTST.addr a :: irtPend)))
    ∧ ((s.ad a).slots = [] → exec (.shadowStart a) s = .next s)
    ∧ ∀ g l, (s.ad a).slots = g :: l →
      (g = 5 → s.flag TDAC_CTRL_EN = true → ∃ t, exec (.shadowStart a) s = .next t ∧ t.ad a = { s.ad a with slots := l }
          ∧ t.fld TDAC_STAT_SKIP = min (2 ^ TDAC_STAT_SKIP.len - 1) (s.fld TDAC_STAT_SKIP + 1) ∧ s.Only t [.adc] [TDAC_STAT.addr])
      ∧ (g ≠ 5 ∨ s.flag TDAC_CTRL_EN = false →
        (s.shadowAdmit a = false → exec (.shadowStart a) s = .next s)
        ∧ (s.shadowAdmit a = true → ∃ t c, exec (.shadowStart a) s = .next t ∧ (t.ad a).conv = some c ∧ c.kind = 2 ∧ c.src = (if g = 5 then 65 else 64)
          ∧ c.gain = (if g = 5 then 0 else g) ∧ c.start = s.now ∧ (t.ad a).slots = l ∧ (t.ad a).calEnd = s.now + 40 ∧ s.Only t [.adc] []))

/-- KNOCK_SAMPLE, KNOCK_OPEN, KNOCK_RESULT_POST and KNK_RES_READ (R227, R228, R229, R230, R232, R233): a channel that is not enabled ignores samples and triggers, and a sample comes every 2 048 TCLK; one whose instant, 3 072 TCLK before, lies in a window counts in it, goes to the queue of a raw window and closes a window that is then full; a trigger opens a window
that counts in WCNT; the oldest window's result is posted once it has closed and its last sample has been processed; a read takes the oldest
word of the queue. In the TCLK after the loss of its tracker a window closes with ABORTED. -/
def Obligations.Knock : Prop :=
  ∀ (s : State) (k : Fin 4), s.Ready →
    let comes := s.flag KNK_CFG_EN k = true ∧ ∀ t, (s.kn k).sampleAt = some t → t < s.now ∧ (s.now - t) % 2048 = 0
    let maxlen := s.fld KNK_WLEN_MAXLEN k
    (∀ y clip aw, ¬comes → exec (.knockSample k y clip aw) s = .next s)
    ∧ (∀ y clip aw, comes → s.now < 3072 ∨ (∀ w ∈ (s.kn k).wins, w.includes maxlen (s.now - 3072) = false) →
        exec (.knockSample k y clip aw) s = .next (s.setKn k { s.kn k with sampleAt := some s.now }))
    ∧ (∀ y clip aw w l, comes → 3072 ≤ s.now → (s.kn k).wins = w :: l → w.includes maxlen (s.now - 3072) = true →
        ∃ (x : State) (u : Win), exec (.knockSample k y clip aw) s = .next x.settle ∧ (x.kn k).wins = u :: l ∧ (x.kn k).sampleAt = some s.now
          ∧ u.nsamp = w.nsamp + 1 ∧ u.tbo = w.tbo ∧ u.wcnt = w.wcnt ∧ (clip = true → u.flags / kOvr % 2 = 1)
          ∧ (w.raw = true → u.bands = w.bands ∧ ((s.kn k).queue.length < 1024 →
              (x.kn k).queue = (s.kn k).queue ++ [2 ^ 30 + w.wcnt % 16 * 2 ^ 26 + (if w.nsamp = 0 then 2 ^ 25 else 0) + (if clip then 2 ^ 24 else 0) + y.toNat]))
          ∧ (w.raw = false → (x.kn k).queue = (s.kn k).queue)
          ∧ (l = [] → w.close = none → maxlen ≤ w.nsamp + 1 → u.close = some (s.now, s.kAw k s.now) ∧ u.flags / kLenclose % 2 = 1 ∧ x.flag KNK_STAT_OPEN k = false)
          ∧ (w.close ≠ none ∨ w.nsamp + 1 < maxlen → u.close = w.close) ∧ x.due = [] ∧ s.OnlyParts x [.knk])
    ∧ (s.flag KNK_CFG_EN k = false ∨ (s.kn k).open? ≠ none ∨ (s.kn k).closedAt = some s.now ∨ s.taskOf (tiKnk k) = [] → exec (.knockOpen k) s = .next s)
    ∧ (∀ e l, s.flag KNK_CFG_EN k = true → (s.kn k).open? = none → (∀ c, (s.kn k).closedAt = some c → c < s.now) → s.taskOf (tiKnk k) = e :: l →
        s.fnPending fnKnock = false → ∃ t w, exec (.knockOpen k) s = .next t ∧ (t.kn k).wins = (s.kn k).wins ++ [w] ∧ w.tbo = s.now ∧ w.tsrc = e.src
          ∧ w.nsamp = 0 ∧ w.close = none ∧ w.wcnt = (s.fld KNK_STAT_WCNT k + 1) % 256 ∧ t.flag KNK_STAT_OPEN k = true
          ∧ w.raw = s.hostMode fnKnock k ∧ t.flag KNK_STAT_RAWMODE k = s.hostMode fnKnock k ∧ (w.flags / kLateopen % 2 = 1 ↔ e.at_ < s.now)
          ∧ t.fld KNK_STAT_WCNT k = w.wcnt ∧ t.taskOf (tiKnk k) = (if s.flag KNK_TSEL_OMODE k then [] else l)
          ∧ s.Only t [.task, .knk] [KNK_STAT.addr k, KNK_CNT.addr k, KNK_TSTAT.addr k])
    ∧ ((s.kn k).wins = [] → exec (.knockResultPost k) s = .next s)
    ∧ (∀ w l, (s.kn k).wins = w :: l → w.close = none → exec (.knockResultPost k) s = .next s)
    ∧ (∀ w l t aw, (s.kn k).wins = w :: l → w.close = some (t, aw) →
        let ripe := w.flags / kLenclose % 2 = 1 ∨ (∃ p, (s.kn k).sampleAt = some p ∧ t + 1024 ≤ p) ∨ t + 3072 ≤ s.now
        (¬ripe → exec (.knockResultPost k) s = .next s)
        ∧ (ripe → ∃ u, exec (.knockResultPost k) s = .next u ∧ (u.kn k).wins = l
          ∧ ((s.kn k).queue.length + (w.words t aw).length ≤ 1024 → (u.kn k).queue = (s.kn k).queue ++ w.words t aw)
          ∧ (1024 < (s.kn k).queue.length + (w.words t aw).length → (u.kn k).queue = (s.kn k).queue
              ∧ u.fld KNK_QSTAT_DROP k = min (2 ^ KNK_QSTAT_DROP.len - 1) (s.fld KNK_QSTAT_DROP k + 1))
          ∧ s.Only u [.knk] (KNK_QSTAT.addr k :: KNK_INTST.addr k :: irtPend)))
    ∧ (∀ by_ : Agent, s.Admits by_ (KNK_RES.addr k) false 0 →
        ((s.kn k).queue = [] → exec (.knkResRead by_ k) s = .next s.busOk)
        ∧ ∀ w l, (s.kn k).queue = w :: l → ∃ t, exec (.knkResRead by_ k) s = .next t ∧ t.bus = ⟨false, BitVec.ofNat 64 w⟩
          ∧ t.kn k = { s.kn k with queue := l } ∧ t.fld KNK_QSTAT_LEVEL k = l.length % 2 ^ KNK_QSTAT_LEVEL.len ∧ s.Only t [.bus, .knk] [KNK_QSTAT.addr k])
    ∧ (∀ w, (s.kn k).wins = [w] → w.close = none → (s.kn k).abortAt = some s.now → ∃ u, ((s.knkTick k).kn k).wins = [u]
        ∧ u.close = some (s.now, s.kAw k s.now) ∧ u.flags / kAborted % 2 = 1 ∧ (s.knkTick k).flag KNK_STAT_OPEN k = false)

/-- CAL_GO and CAL_WRITE_DONE (R404, R405, R406, R407): GO with its key starts the write of the buffer while none runs; at its end a wrong CRC, a word out of its range, a worn
group and a failed comparison each have a result of their own, the last with a fault, and a good write is stored and recorded. -/
def Obligations.CalibrationWrites : Prop :=
  (∀ (s : State) (by_ : Agent) (v : Word), s.due = [] → s.Admits by_ CAL_CTL.addr true v →
    (bitsOf v 16 16 ≠ 0xCA1F ∨ bitsOf v 0 1 = 0 ∨ s.flag CAL_STAT_BUSY = true → exec (.calGo by_ v) s = .next s.busOk)
    ∧ (bitsOf v 16 16 = 0xCA1F → bitsOf v 0 1 = 1 → s.flag CAL_STAT_BUSY = false → ∃ t, exec (.calGo by_ v) s = .next t
        ∧ t.flag CAL_STAT_BUSY = true
        ∧ t.cal.job = some (bitsOf v 4 3, (s.ctxOf by_).getD noOrigin, (List.range 126).map fun i => s.rd (CAL_WBUF.addr i))
        ∧ s.Only t [.bus, .cal] [CAL_STAT.addr, CAL_CTL.addr]))
  ∧ ∀ (s : State) (ok : Bool), s.Ready →
    (s.cal.job = none → exec (.calWriteDone ok) s = .next s)
    ∧ ∀ (k ctx : Nat) (ws : List Word), s.cal.job = some (k, ctx, ws) →
      let crcOk := crc32 (ws.flatMap fun w => leBytes 4 w.toNat) = (s.rd CAL_WCRC.addr).toNat
      let inRange := ((ws.zip (List.range 126)).all fun p => calWordOk k (p.2 + 1) p.1.toNat) = true
      let worn := 1000 ≤ (s.calAt k 0).toNat / 65536
      let ends (t : State) : Prop := t.flag CAL_STAT_BUSY = false ∧ t.flag CAL_CTL_GO = false ∧ t.cal.job = none
      (¬crcOk → ∃ t, exec (.calWriteDone ok) s = .next t ∧ ends t ∧ t.fld CAL_STAT_RESULT = calMismatch ∧ t.cal.store = s.cal.store)
      ∧ (crcOk → ¬inRange → ∃ t, exec (.calWriteDone ok) s = .next t ∧ ends t ∧ t.fld CAL_STAT_RESULT = calRangeErr ∧ t.cal.store = s.cal.store)
      ∧ (crcOk → inRange → worn → ∃ t, exec (.calWriteDone ok) s = .next t ∧ ends t ∧ t.fld CAL_STAT_RESULT = calWorn ∧ t.cal.store = s.cal.store)
      ∧ (crcOk → inRange → ¬worn → ok = false → ∃ x : State, exec (.calWriteDone ok) s = .next x.settle ∧ ends x ∧ x.fld CAL_STAT_RESULT = calVerify
          ∧ x.due = [.fault ⟨128 + k, k % 65536⟩])
      ∧ (crcOk → inRange → ¬worn → ok = true → ∃ (x : State) (r : Rec), exec (.calWriteDone ok) s = .next x.settle ∧ ends x
          ∧ x.fld CAL_STAT_RESULT = calDone ∧ x.due = [.record r] ∧ r.ty = 0x06 ∧ r.src = k ∧ r.origin = ctx
          ∧ (x.calAt k 0).toNat = (1 + ((s.calAt k 0).toNat / 65536 + 1) * 65536) % 2 ^ 32)

/-! Encoders, network time and timers (chapter 8) -/

/-- QUAD_COUNT, INDEX_EDGE, STILL_TIMEOUT and ENC_POS_WRITE (R84, R236, R237, R238, R239, R241, R242, R243): new levels of an enabled port are decoded in the TCLK FILT + 2 after their sample: a
count moves POS by one and gives the direction and the period, a double change is illegal and takes a tracker that has its direction from the port out of synchronisation; an index of the selected polarity that qualifies takes POS; without a count for PTMO ms the port
is still; software sets POS, and a count of the same TCLK is added. On a port that is not enabled none of them has an effect. A filtered pass-through output follows a level one TCLK after its acceptance. -/
def Obligations.Encoders : Prop :=
  ∀ (s : State) (e : Fin 4), s.Ready →
    (s.flag ENC_CFG_EN e = false → (∀ a b t, exec (.quadCount e a b t) s = .next s) ∧ (∀ z t, exec (.indexEdge e z t) s = .next s)
      ∧ exec (.stillTimeout e) s = .next s ∧ ∀ by_ v, s.Admits by_ (ENC_POS.addr e) true v → exec (.encPosWrite by_ e v) s = .next s.busOk)
    ∧ (s.flag ENC_CFG_EN e = true →
      let lv := s.fld ENC_STAT_LVL e
      let pos := s.rd (ENC_POS.addr e)
      let follow (x : State) : Prop := s.OnlyParts x [.enc, .trk, .angle, .angPast, .due, .knk, .husk, .pad, .chan, .ask, .switched]
      (∀ (a b : Bool) (t : BitVec 64),
        let q := quadOf (s.fld ENC_CFG_MODE e) (lv % 2 == 1) (lv / 2 % 2 == 1) a b
        let lv' := lv / 4 * 4 + (if b then 2 else 0) + (if a then 1 else 0)
        (t.toNat + s.fld ENC_CFG_FILT e + 2 ≠ s.now → exec (.quadCount e a b t) s = .next s)
        ∧ (t.toNat + s.fld ENC_CFG_FILT e + 2 = s.now →
          (q = .none → ∃ u, exec (.quadCount e a b t) s = .next u ∧ u.fld ENC_STAT_LVL e = lv' ∧ s.Only u [.enc] [ENC_STAT.addr e]
            ∧ (s.imgState = isLoaded → ∀ k < 2, (s.fld ENC_CFG_PTMODE e = 1 → u.ptOut e k = some (lv' / 2 ^ k % 2 == 1))
                ∧ (s.fld ENC_CFG_PTMODE e = 2 → (s.en e).lvlAt ≠ s.now → u.ptOut e k = some (lv / 2 ^ k % 2 == 1))))
          ∧ (q = .illegal → ∃ x : State, exec (.quadCount e a b t) s = .next x.settle ∧ x.fld ENC_STAT_LVL e = lv' ∧ x.rd (ENC_POS.addr e) = pos
            ∧ x.flag ENC_STAT_ILLEGAL e = true ∧ x.flag ENC_STAT_PERV e = false ∧ x.fld ENC_CNT_ILLEGAL e = min (2 ^ ENC_CNT_ILLEGAL.len - 1) (s.fld ENC_CNT_ILLEGAL e + 1)
            ∧ .fault ⟨64 + 2 * e, 0⟩ ∈ x.due ∧ follow x
            ∧ ∀ n < 6, s.flag TRK_CFG_EN n = true → s.flag TRK_CFG_ENCUSE n = true → s.fld TRK_CFG_ENCSEL n = e.val → s.fld TRK_CFG_DIRSRC n = 2 →
                s.trkState n = stRevSync ∨ s.trkState n = stCycleSync → s.trkBusy n = false → s.outranked n 3 = false →
                x.trkState n = stLost ∧ x.fld TRK_STATE_CAUSE n = lcDirsrc)
          ∧ (∀ back, q = .count back →
            let d := back != s.flag ENC_CFG_DIRINV e
            let chg := (s.en e).stamp.isSome && d != s.flag ENC_STAT_DIR e
            ∃ x : State, exec (.quadCount e a b t) s = .next x.settle ∧ x.fld ENC_STAT_LVL e = lv' ∧ x.rd (ENC_POS.addr e) = (if d then pos - 1 else pos + 1)
            ∧ x.flag ENC_STAT_DIR e = d ∧ x.flag ENC_STAT_STILL e = false ∧ (x.en e).stamp = some t.toNat ∧ (x.en e).at_ = s.now
            ∧ (chg = true → x.flag ENC_STAT_PERV e = false ∧ x.fld ENC_CNT_DIRCHG e = min (2 ^ ENC_CNT_DIRCHG.len - 1) (s.fld ENC_CNT_DIRCHG e + 1))
            ∧ (chg = false → ∀ u, (s.en e).stamp = some u → x.fld ENC_PERIOD e = min 0xFFFFFFFF (t.toNat - u) ∧ x.flag ENC_STAT_PERV e = (s.en e).clean)
            ∧ x.due = [] ∧ follow x ∧ (s.encTrks e = [] → s.Only x [.enc] ([ENC_POS.addr e, ENC_STAT.addr e, ENC_PERIOD.addr e, ENC_CNT.addr e, ENC_INTST.addr e] ++ irtPend)))))
      ∧ (∀ (z : Bool) (t : BitVec 64),
        let lv' := lv % 4 + (if z then 4 else 0)
        let qual := (lv / 4 = 1 ↔ z = false) ∧ s.flag ENC_IDXCFG_ZEN e = true ∧ z ≠ s.flag ENC_IDXCFG_ZEDGE e
          ∧ (s.flag ENC_IDXCFG_ZQEN e = true → s.fld ENC_IDXCFG_ZQAB e = lv % 2 * 2 + lv / 2 % 2)
        let cpr := s.fld ENC_IDXCFG_CPR e
        let n := (s.en e).trav.natAbs
        let bad := cpr ≠ 0 ∧ s.flag ENC_STAT_IDXSEEN e = true ∧ (s.en e).idxOk = true ∧ s.fld ENC_IDXCFG_IDXTOL e < max n cpr - min n cpr
        (t.toNat + s.fld ENC_CFG_FILT e + 2 ≠ s.now → exec (.indexEdge e z t) s = .next s)
        ∧ (t.toNat + s.fld ENC_CFG_FILT e + 2 = s.now →
          (¬qual → ∃ u, exec (.indexEdge e z t) s = .next u ∧ u.fld ENC_STAT_LVL e = lv' ∧ s.Only u [.enc] [ENC_STAT.addr e])
          ∧ (qual → ∃ x : State, exec (.indexEdge e z t) s = .next x.settle ∧ x.fld ENC_STAT_LVL e = lv' ∧ x.rd (ENC_IDXPOS.addr e) = pos
            ∧ x.rd (ENC_POS.addr e) = (if s.flag ENC_IDXCFG_IDXRST e then 0 else pos) ∧ x.flag ENC_STAT_IDXSEEN e = true ∧ x.flag ENC_STAT_SLEPT e = false
            ∧ x.fld ENC_CNT_INDEX e = min (2 ^ ENC_CNT_INDEX.len - 1) (s.fld ENC_CNT_INDEX e + 1) ∧ (x.en e).trav = 0
            ∧ (bad → x.due = [.fault ⟨65 + 2 * e, 0⟩] ∧ x.fld ENC_CNT_IDXERR e = min (2 ^ ENC_CNT_IDXERR.len - 1) (s.fld ENC_CNT_IDXERR e + 1))
            ∧ (¬bad → x.due = [] ∧ x.fld ENC_CNT_IDXERR e = s.fld ENC_CNT_IDXERR e)
            ∧ s.Only x [.enc, .trk, .due] ([ENC_POS.addr e, ENC_IDXPOS.addr e, ENC_STAT.addr e, ENC_CNT.addr e, ENC_INTST.addr e] ++ irtPend))))
      ∧ (let due := s.flag ENC_STAT_STILL e = false ∧ (s.en e).at_ + s.fld ENC_CFG_PTMO e * 400000 ≤ s.now
        (¬due → exec (.stillTimeout e) s = .next s)
        ∧ (due → ∃ t, exec (.stillTimeout e) s = .next t ∧ t.flag ENC_STAT_STILL e = true ∧ t.flag ENC_STAT_PERV e = false
            ∧ t.fld ENC_PERIOD e = 0xFFFFFFFF ∧ t.rd (ENC_POS.addr e) = pos ∧ s.OnlyParts t [.enc, .trk, .angle, .angPast]
            ∧ (s.encTrks e = [] → s.Only t [.enc] [ENC_STAT.addr e, ENC_PERIOD.addr e])))
      ∧ (∀ by_ v, s.Admits by_ (ENC_POS.addr e) true v → ∃ t, exec (.encPosWrite by_ e v) s = .next t
          ∧ t.rd (ENC_POS.addr e) = v + BitVec.ofInt 32 (if (s.en e).cnts.1 = s.now then (s.en e).cnts.2 else 0) ∧ t.bus = ⟨false, 0⟩
          ∧ s.OnlyParts t [.bus, .trk, .angle, .angPast] ∧ (s.encTrks e = [] → s.Only t [.bus] [ENC_POS.addr e])))

/-- NT_SHADOW_WRITE, NT_ARM, GPTP_SERVO_UPDATE and NT_APPLY (R29, R249, R250): shadows are written while SRC is 0 and none is armed, by halves; ARM arms them; the servo
of the port that SRC names writes and arms them; armed shadows pass once TB has reached APPLY, with APPLIED counting. -/
def Obligations.NetworkTime : Prop :=
  ∀ (s : State) (by_ : Agent) (r : NtReg) (v : Word), s.due = [] →
    let a := (ntFld r).addr
    (∀ high, s.Admits by_ (a + if high then 4 else 0) true v → s.flag TB_NTCFG_ARM = true ∨ s.fld TB_NTCFG_SRC ≠ 0 →
      exec (.ntShadowWrite by_ r high v) s = .next s.busOk)
    ∧ (s.flag TB_NTCFG_ARM = false → s.fld TB_NTCFG_SRC = 0 →
      (s.Admits by_ a true v → ∃ t, exec (.ntShadowWrite by_ r false v) s = .next t ∧ tget none t.wrLatch (latchKey by_ a) = some v
        ∧ s.Only t [.bus, .wrLatch] [])
      ∧ (s.Admits by_ (a + 4) true v → ∃ t, exec (.ntShadowWrite by_ r true v) s = .next t
          ∧ t.nt = s.nt.set r (((tget none s.wrLatch (latchKey by_ a)).getD (BitVec.ofNat 32 (s.nt.get r))).toNat + v.toNat * 2 ^ 32)
          ∧ tget none t.wrLatch (latchKey by_ a) = none ∧ s.Only t [.bus, .wrLatch, .nt] [])
      ∧ (s.Admits by_ TB_NTCFG.addr true 0x100 → ∃ t, exec (.ntArm by_) s = .next t ∧ t.flag TB_NTCFG_ARM = true
          ∧ t.nt = { s.nt with armAt := s.now } ∧ s.Only t [.bus, .nt] [TB_NTCFG.addr]))
    ∧ (s.pwr = .run →
      (∀ p nb no nr na, s.fld TB_NTCFG_SRC ≠ p.val + 1 ∨ s.flag TB_NTCFG_ARM = true → exec (.gptpServoUpdate p nb no nr na) s = .next s)
      ∧ (∀ p nb no nr na, s.fld TB_NTCFG_SRC = p.val + 1 → s.flag TB_NTCFG_ARM = false → ∃ t, exec (.gptpServoUpdate p nb no nr na) s = .next t
          ∧ t.flag TB_NTCFG_ARM = true ∧ t.nt = ⟨nb.toNat, no.toNat, nr.toNat, na.toNat, s.now⟩ ∧ s.Only t [.nt] [TB_NTCFG.addr])
      ∧ (s.flag TB_NTCFG_ARM = false ∨ s.now ≤ s.nt.armAt ∨ s.now < s.nt.apply → exec .ntApply s = .next s)
      ∧ (s.flag TB_NTCFG_ARM = true → s.nt.armAt < s.now → s.nt.apply ≤ s.now → ∃ t, exec .ntApply s = .next t
          ∧ t.wide TB_NTBASE = s.nt.base % 2 ^ 64 ∧ t.wide TB_NTOFS = s.nt.ofs % 2 ^ 64 ∧ t.wide TB_NTRATE = s.nt.rate % 2 ^ 64
          ∧ t.flag TB_NTCFG_ARM = false ∧ t.fld TB_NTSTAT_APPLIED = (s.fld TB_NTSTAT_APPLIED + 1) % 2 ^ TB_NTSTAT_APPLIED.len))

/-- TMR_START, TMR_STOP, TMR_CNT_WRITE and TMR_SHADOW_WRITE (R167, R251, R253): START runs an enabled timer with its prescaler from 0; STOP stops it and empties its task
input; CNT is written while the timer is stopped; with SHADOW a written TOP or CMP waits for the wrap, and passes in the next TCLK otherwise. -/
def Obligations.TimerRegisters : Prop :=
  ∀ (s : State) (by_ : Agent) (t : Fin 48) (v : Word), s.due = [] →
    (s.Admits by_ (TMR_CTRL.addr t) true 1 →
      (s.flag TMR_CFG_EN t = false → exec (.tmrStart by_ t) s = .next s.busOk)
      ∧ (s.flag TMR_CFG_EN t = true → ∃ u, exec (.tmrStart by_ t) s = .next u ∧ u.flag TMR_STAT_RUN t = true ∧ (u.tm t).edges = 0
          ∧ (u.tm t).pscAt = s.now ∧ u.rd (TMR_CNT.addr t) = s.rd (TMR_CNT.addr t) ∧ s.Only u [.bus, .tmr] [TMR_STAT.addr t]))
    ∧ (s.Admits by_ (TMR_CTRL.addr t) true 2 → ∃ u, exec (.tmrStop by_ t) s = .next u ∧ u.flag TMR_STAT_RUN t = false
        ∧ u.taskOf (tiTmr t) = [] ∧ u.fld TMR_STAT_PEND t = 0 ∧ s.Only u [.bus, .task] [TMR_STAT.addr t])
    ∧ (s.Admits by_ (TMR_CNT.addr t) true v →
        exec (.tmrCntWrite by_ t v) s = .next (if s.flag TMR_STAT_RUN t then s.busOk else s.busOk.wr (TMR_CNT.addr t) v))
    ∧ (s.Admits by_ (TMR_CMP.addr t) true v → ∃ u, exec (.tmrShadowWrite by_ t true v) s = .next u ∧ u.rd (TMR_CMP.addr t) = v
      ∧ (s.flag TMR_CFG_SHADOW t = true → u.tm t = { s.tm t with cmpAt := some s.now } ∧ u.flag TMR_STAT_PENDING t = true)
      ∧ (s.flag TMR_CFG_SHADOW t = false → u.tm t = { s.tm t with soon := ((s.tm t).soon.1, true) } ∧ (u.tmrSoon t).tm t = { u.tm t with
          top := if (s.tm t).soon.1 then s.rd (TMR_TOP.addr t) else (s.tm t).top, cmp := v, cmpNew := true, soon := (false, false) })
      ∧ s.Only u [.bus, .tmr] [TMR_CMP.addr t, TMR_STAT.addr t])
    ∧ (s.Admits by_ (TMR_TOP.addr t) true v → ∃ u, exec (.tmrShadowWrite by_ t false v) s = .next u ∧ u.rd (TMR_TOP.addr t) = v
      ∧ (s.flag TMR_CFG_SHADOW t = true → u.tm t = { s.tm t with topAt := some s.now } ∧ u.flag TMR_STAT_PENDING t = true)
      ∧ (s.flag TMR_CFG_SHADOW t = false → u.tm t = { s.tm t with soon := (true, (s.tm t).soon.2) } ∧ ((u.tmrSoon t).tm t).top = v)
      ∧ s.Only u [.bus, .tmr] [TMR_TOP.addr t, TMR_STAT.addr t])

/-- TIMER_TICK, TIMER_TAKE, CAPTURE_EDGE and CAP_READ (R251-R256): a tick that is due counts CNT up, and from TOP to 0 with the wrap's cause, a ONESHOT timer then stops; where CNT reaches CMP the compare pulses; a take starts,
resets or ticks the timer by its mode, once in a TCLK; a qualified edge copies CNT into CAP and the old CAP into CAPPREV, with the tick of its TCLK counted and before a reset that it makes; a read of CAP latches what belongs to
it. Nothing happens on a timer that does not run, without an entry of an earlier TCLK, to an edge of the other polarity, and to an edge that EPS skips but that it is counted. -/
def Obligations.TimerEvents : Prop :=
  ∀ (s : State) (t : Fin 48), s.Ready →
    let cnt := s.rd (TMR_CNT.addr t)
    let top := (s.tm t).top
    let cmp := (s.tm t).cmp
    let ticks := s.flag TMR_STAT_RUN t = true ∧ s.fld TMR_CFG_SLAVE t ≠ slClock ∧ s.tmrHeld t = false ∧ (s.tm t).pscAt + s.fld TMR_CFG_PSC t + 1 ≤ s.now
      ∧ s.resetComes t = false
    let may : List Part := [.tmr, .task, .due]
    let outl := match s.fld TMR_CFG_OUTACT t with | 1 => true | 2 => false | 3 => !s.flag TMR_STAT_OUTL t | _ => s.flag TMR_STAT_OUTL t
    (¬ticks → exec (.timerTick t) s = .next s)
    ∧ (ticks → cnt ≠ top → cnt + 1 ≠ cmp → ∃ u, exec (.timerTick t) s = .next u ∧ u.rd (TMR_CNT.addr t) = cnt + 1
        ∧ u.tm t = { s.tm t with pscAt := (s.tm t).pscAt + s.fld TMR_CFG_PSC t + 1, cmpNew := false } ∧ s.Only u [.tmr] [TMR_CNT.addr t])
    ∧ (ticks → cnt ≠ top → cnt + 1 = cmp → ∃ x : State, exec (.timerTick t) s = .next x.settle ∧ x.rd (TMR_CNT.addr t) = cmp
        ∧ x.flag TMR_INTST_CMP t = true ∧ x.flag TMR_STAT_OUTL t = outl ∧ x.flag TMR_STAT_RUN t = true ∧ x.due = [.pulse (384 + t) false] ∧ s.OnlyParts x may)
    ∧ (ticks → cnt = top → ∃ x : State, exec (.timerTick t) s = .next x.settle ∧ x.rd (TMR_CNT.addr t) = 0 ∧ x.flag TMR_INTST_WRAP t = true
        ∧ x.flag TMR_STAT_RUN t = (!s.flag TMR_CFG_ONESHOT t) ∧ (s.flag TMR_CFG_ONESHOT t = true → x.taskOf (tiTmr t) = [])
        ∧ (∀ u, (s.tm t).topAt = some u → u < s.now → (x.tm t).top = s.rd (TMR_TOP.addr t) ∧ (x.tm t).topAt = none)
        ∧ ((s.tm t).topAt = none → (x.tm t).top = top) ∧ s.OnlyParts x may)
    ∧ (let takes := s.flag TMR_CFG_EN t = true ∧ s.flag TMR_STAT_FROZEN t = false ∧ (s.tm t).takenAt ≠ some s.now
        ∧ ((s.fld TMR_CFG_SLAVE t = slStart ∧ s.flag TMR_STAT_RUN t = false)
          ∨ ((s.fld TMR_CFG_SLAVE t = slReset ∨ s.fld TMR_CFG_SLAVE t = slClock) ∧ s.flag TMR_STAT_RUN t = true))
      (s.taskOf (tiTmr t) = [] ∨ ¬takes → exec (.timerTake t) s = .next s)
      ∧ ∀ e l, s.taskOf (tiTmr t) = e :: l → takes →
        (s.now ≤ e.at_ → exec (.timerTake t) s = .next s)
        ∧ (e.at_ < s.now → ∃ x : State, exec (.timerTake t) s = .next x.settle ∧ (x.tm t).takenAt = some s.now ∧ s.OnlyParts x may
          ∧ (s.flag TMR_TRIG_TMODE t = false → s.flag TMR_CFG_ONESHOT t = false → x.taskOf (tiTmr t) = l)
          ∧ (s.flag TMR_TRIG_TMODE t = true → x.taskOf (tiTmr t) = [] ∧ (l ≠ [] → x.flag TMR_STAT_OVERLAP t = true))
          ∧ (s.fld TMR_CFG_SLAVE t = slStart → x.flag TMR_STAT_RUN t = true ∧ (x.tm t).pscAt = s.now ∧ x.rd (TMR_CNT.addr t) = cnt)
          ∧ (s.fld TMR_CFG_SLAVE t = slReset → x.rd (TMR_CNT.addr t) = 0 ∧ (x.tm t).pscAt = s.now)
          ∧ (s.fld TMR_CFG_SLAVE t = slClock → s.resetComes t = false → x.rd (TMR_CNT.addr t) = if cnt = top then 0 else cnt + 1)))
    ∧ (∀ (rising : Bool) (stamp : BitVec 64),
      let c := Instr.captureEdge t ⟨rising, stamp⟩
      let taken := s.capTaken t stamp.toNat rising = true ∧ s.flag TMR_CFG_EN t = true ∧ s.flag TMR_CAPCFG_CEN t = true ∧ s.tmrRuns t = true
      let resets := s.flag TMR_CAPCFG_CAPRST t = true ∧ s.flag TMR_STAT_FROZEN t = false
      (¬taken → exec c s = .next s)
      ∧ (taken → (s.tm t).edges < s.fld TMR_CAPCFG_EPS t → exec c s = .next (s.setTm t { s.tm t with edges := (s.tm t).edges + 1 }))
      ∧ (taken → s.fld TMR_CAPCFG_EPS t ≤ (s.tm t).edges → ∃ x : State, exec c s = .next x.settle ∧ x.rd (TMR_CAPPREV.addr t) = s.rd (TMR_CAP.addr t)
          ∧ x.fld TMR_CAPTB t = stamp.toNat % 2 ^ 32 ∧ x.flag TMR_INTST_CAP t = true ∧ (x.tm t).edges = 0 ∧ (x.tm t).unread = true
          ∧ ((s.tm t).unread = true → x.flag TMR_STAT_OVR t = true)
          ∧ (resets → (∀ r, (s.tm t).resetAt = some r → r.1 ≠ s.now) → x.rd (TMR_CAP.addr t) = cnt ∧ x.rd (TMR_CNT.addr t) = 0)
          ∧ (¬resets → s.fld TMR_CFG_SLAVE t ≠ slClock → (∀ r, (s.tm t).resetAt = some r → r.1 ≠ s.now) →
              x.rd (TMR_CAP.addr t) = (if ¬ticks then cnt else if cnt = top then 0 else cnt + 1) ∧ x.rd (TMR_CNT.addr t) = x.rd (TMR_CAP.addr t))
          ∧ s.OnlyParts x may))
    ∧ ∀ by_ : Agent, s.Admits by_ (TMR_CAP.addr t) false 0 → ∃ u, exec (.capRead by_ t) s = .next u ∧ u.bus = ⟨false, (s.rd (TMR_CAP.addr t)).setWidth 64⟩
      ∧ (∀ a ∈ [TMR_CAPTB.addr t, TMR_CAPPREV.addr t], tget none u.rdLatch (latchKey by_ a) = some (s.rd a)) ∧ u.tm t = { s.tm t with unread := false }
      ∧ s.Only u [.bus, .rdLatch, .tmr] []

/-! Pin sequencers (chapter 9) -/

/-- PSQ_START, PSQ_HALT, PSQ_CLRQ, TXQ_WRITE, RXQ_READ and LINE_EDGE (R262, R263, R264, R267, R268, R275, R276): START runs a halted sequencer from ENTRY with its registers and flags 0 and
its divider's tick 0 in the next TCLK; HALT halts a running one, with its lines idle and its task input empty; CLRQ empties both queues of a halted one; a transmit word that finds room is queued
with its time, and counted in TXOVF where there is none; a read takes the oldest receive word, and 0 with RXUNDER counted where there is none; a line takes its accepted level FILT + 2 TCLK after the edge, and the edge ends or starts what the
waiting instruction waits for. -/
def Obligations.PsqControl : Prop :=
  ∀ (s : State) (by_ : Agent) (q : Fin 16), s.due = [] →
    (s.Admits by_ (PSQ_CTRL.addr q) true 1 →
      (s.fld PSQ_STAT_STATE q ≠ pqHalted → exec (.psqStart by_ q) s = .next s.busOk)
      ∧ (s.fld PSQ_STAT_STATE q = pqHalted → ∃ t, exec (.psqStart by_ q) s = .next t ∧ t.fld PSQ_STAT_STATE q = pqRunning
          ∧ t.fld PSQ_STAT_PC q = s.fld PSQ_CFG_ENTRY q % 2 ^ PSQ_STAT_PC.len ∧ t.fld PSQ_STAT_FLAGS q = 0 ∧ (∀ k, k < 6 → t.pqReg q k = 0)
          ∧ (t.sq q).r = s.now + 1 ∧ (t.sq q).tick = 0 ∧ (t.sq q).wait = none ∧ (t.sq q).last = 0 ∧ (∀ k < 4, ∀ p, (t.pqEdges q k p).chain = none)
          ∧ (t.sq q).txq = (s.sq q).txq ∧ (t.sq q).rxq = (s.sq q).rxq ∧ (∀ k, t.levelOut q k = s.levelOut q k)
          ∧ s.Only t [.bus, .psq] ((List.range 4).map (PSQ_W.addr q ·) ++ [PSQ_TXS.addr q, PSQ_RXS.addr q, PSQ_STAT.addr q])))
    ∧ (s.Admits by_ (PSQ_CTRL.addr q) true 2 →
      (s.fld PSQ_STAT_STATE q = pqHalted → exec (.psqHalt by_ q) s = .next s.busOk)
      ∧ (s.fld PSQ_STAT_STATE q ≠ pqHalted → ∃ x : State, exec (.psqHalt by_ q) s = .next x.settle ∧ x.bus = ⟨false, 0⟩ ∧ s.PqHalts x q [.bus]))
    ∧ (s.Admits by_ (PSQ_CTRL.addr q) true 4 →
      (s.fld PSQ_STAT_STATE q ≠ pqHalted → exec (.psqClrq by_ q) s = .next s.busOk)
      ∧ (s.fld PSQ_STAT_STATE q = pqHalted → ∃ t, exec (.psqClrq by_ q) s = .next t ∧ t.sq q = { s.sq q with txq := [], rxq := [] }
          ∧ t.fld PSQ_QSTAT_TXLVL q = 0 ∧ t.fld PSQ_QSTAT_RXLVL q = 0 ∧ ((s.sq q).txq ≠ [] → t.flag PSQ_INTST_TXWM q = true)
          ∧ s.Only t [.bus, .psq] ([PSQ_QSTAT.addr q, PSQ_INTST.addr q] ++ irtPend)))
    ∧ (∀ v : Word, s.Admits by_ (PSQ_TXQ.addr q) true v →
      ((s.sq q).txq.length < min 16 (s.fld PSQ_CFG_QSPLIT q) → ∃ t, exec (.txqWrite by_ q v) s = .next t
        ∧ t.sq q = { s.sq q with txq := (s.sq q).txq ++ [(v.toNat, s.now)] } ∧ s.Only t [.bus, .psq] [PSQ_QSTAT.addr q])
      ∧ (min 16 (s.fld PSQ_CFG_QSPLIT q) ≤ (s.sq q).txq.length → ∃ t, exec (.txqWrite by_ q v) s = .next t
          ∧ t.fld PSQ_CNT0_TXOVF q = min (2 ^ PSQ_CNT0_TXOVF.len - 1) (s.fld PSQ_CNT0_TXOVF q + 1) ∧ t.flag PSQ_INTST_TXOVF q = true
          ∧ s.Only t [.bus] ([PSQ_CNT0.addr q, PSQ_INTST.addr q] ++ irtPend)))
    ∧ (s.Admits by_ (PSQ_RXQ.addr q) false 0 →
      ((s.sq q).rxq = [] → ∃ t, exec (.rxqRead by_ q) s = .next t ∧ t.bus = ⟨false, 0⟩
        ∧ t.fld PSQ_CNT0_RXUNDER q = min (2 ^ PSQ_CNT0_RXUNDER.len - 1) (s.fld PSQ_CNT0_RXUNDER q + 1) ∧ t.flag PSQ_INTST_RXUNDER q = true
        ∧ s.Only t [.bus] ([PSQ_CNT0.addr q, PSQ_INTST.addr q] ++ irtPend))
      ∧ ∀ w l, (s.sq q).rxq = w :: l → ∃ t, exec (.rxqRead by_ q) s = .next t ∧ t.bus = ⟨false, BitVec.ofNat 64 w⟩ ∧ (t.sq q).rxq = l
        ∧ (t.sq q).txq = (s.sq q).txq ∧ s.Only t [.bus, .psq] [PSQ_QSTAT.addr q])
    ∧ (s.pwr = .run → ∀ (k : Fin 4) (level : Bool) (stamp : BitVec 64),
      let accepted := s.fld PSQ_LINE_KIND q k ≠ 0 ∧ stamp.toNat + s.fld PSQ_LINE_FILT q k + 2 = s.now ∧ level ≠ s.lineIn q k ∧ s.lineSees q k level = true
      let w := s.pqWord q
      let pol := bitsOf w 14 1 == 1
      let mine := bitsOf w 15 2 = k.val
      let period := bitsOf w 13 1 = 1
      (¬accepted → exec (.lineEdge q k level stamp) s = .next s)
      ∧ (accepted → ∃ t, exec (.lineEdge q k level stamp) s = .next t ∧ t.lineIn q k = level ∧ (t.pqEdges q k level).count = (s.pqEdges q k level).count + 1
          ∧ (t.pqEdges q k level).stamps = stamp.toNat :: (s.pqEdges q k level).stamps.take 1 ∧ t.pqEdges q k (!level) = s.pqEdges q k (!level)
          ∧ ((s.sq q).wait = none → (t.sq q).wait = none)
          ∧ (∀ p, (s.sq q).wait = some p → p.finish = none → ∃ p', (t.sq q).wait = some p' ∧ p'.tick = p.tick ∧ p'.tmo = p.tmo
            ∧ (bitsOf w 19 5 = 0x05 → mine → period → p'.finish = (if level = pol then some (false, 0) else none))
            ∧ (bitsOf w 19 5 = 0x07 → mine → (p.start = none → p'.finish = none ∧ p'.start = (if level = pol then some stamp.toNat else none))
              ∧ (∀ b, p.start = some b → p'.finish = (if level = (if period then pol else !pol) then some (false, min 0xFFFFFFFD (stamp.toNat - b)) else none)))
            ∧ ((bitsOf w 19 5 ≠ 0x05 ∧ bitsOf w 19 5 ≠ 0x07) ∨ ¬mine → p' = p))
          ∧ s.Only t [.psq] [PSQ_STAT.addr q]))

/-- PSQ_WAIT_DONE and PSQ_WAIT_TIMEOUT (R265, R272, R273, R275, R276): the waiting PINW, AWAIT, MEASURE, TAKE or GIVE whose condition holds has its effect and completes, the divider restarting with the next TCLK; at
its timeout it ends with T set, the destination of an AWAIT or MEASURE all ones and the timeout counted; a sequencer that does not wait, and a wait with neither, stay as they are. No instruction runs on a sequencer that
is not RUNNING. That a TAKE or a GIVE leaves T as it is is the model's choice (notes/assumptions/41). -/
def Obligations.PsqWaits : Prop :=
  ∀ (s : State) (q : Fin 16), s.Ready →
    ((s.sq q).wait = none → exec (.psqWaitDone q) s = .next s ∧ exec (.psqWaitTimeout q) s = .next s)
    ∧ (s.fld PSQ_STAT_STATE q ≠ pqRunning → ∀ c : Instr, c ∈ [.psqNop q, .psqBr q, .psqLoop q, .psqBrl q, .psqDrv q, .psqPinw q, .psqAwait q, .psqMeasure q, .psqCpy q, .psqLdi q, .psqAdd q, .psqSub q, .psqAnd q, .psqOr q,
        .psqXor q, .psqShl q, .psqShr q, .psqCmp q, .psqDiv q, .psqCrcstep q, .psqSho q, .psqShi q, .psqTake q, .psqGive q, .psqDelay q, .psqSig q, .psqStop q] → exec c s = .next s)
    ∧ ∀ p : PWait, (s.sq q).wait = some p →
      let w := s.pqWord q
      let op := bitsOf w 19 5
      let dst := bitsOf w 14 3
      let ends (R : State → Prop) (ds fl : List Nat) (ps : List Part) (as : List Nat) : Prop := ∃ t, exec (.psqWaitDone q) s = .next t ∧ s.PqDone t q ∧ R t
        ∧ (∀ j < 6, j ∉ ds → t.pqReg q j = s.pqReg q j) ∧ (∀ i < 5, i ∉ fl → t.pqFlag q i = s.pqFlag q i) ∧ (∀ k, t.levelOut q k = s.levelOut q k)
        ∧ s.Only t ([.psq] ++ ps) ((List.range 4).map (PSQ_W.addr q ·) ++ [PSQ_TXS.addr q, PSQ_RXS.addr q, PSQ_STAT.addr q] ++ as)
      let stays := exec (.psqWaitDone q) s = .next s
      let level := bitsOf w 13 1 = 0 ∧ s.lineIn q (bitsOf w 15 2) = (bitsOf w 14 1 == 1)
      (op = 0x05 → (level ∨ p.finish.isSome = true → ends (fun t => t.pqFlag q pfT = false) [] [pfT] [] []) ∧ (¬level → p.finish = none → stays))
      ∧ (op = 0x06 → (s.taskOf (tiPsq q) = [] → stays) ∧ ∀ e l, s.taskOf (tiPsq q) = e :: l → (s.now ≤ e.at_ → stays)
          ∧ (e.at_ < s.now → ends (fun t => t.pqFlag q pfT = false
                ∧ t.pqReg q (bitsOf w 15 2) = (e.src + (if e.cu then 512 else 0) + (if s.flag PSQ_CFG_TMODE q = true ∧ l ≠ [] then 1024 else 0)) % 2 ^ 32
                ∧ t.taskOf (tiPsq q) = (if s.flag PSQ_CFG_TMODE q then [] else l)) [bitsOf w 15 2] [pfT] [.task] [PSQ_TSTAT.addr q]))
      ∧ (op = 0x07 → (p.finish = none → stays) ∧ ∀ o v, p.finish = some (o, v) →
          ends (fun t => t.pqFlag q pfT = o ∧ t.pqReg q (bitsOf w 10 2) = v % 2 ^ 32
            ∧ (o = true → t.fld PSQ_CNT1_OVERRUN q = min (2 ^ PSQ_CNT1_OVERRUN.len - 1) (s.fld PSQ_CNT1_OVERRUN q + 1)))
            [bitsOf w 10 2] [pfT] [] (if o then [PSQ_CNT1.addr q] else []))
      ∧ (op = 0x0F → ((s.sq q).txq = [] → stays) ∧ ∀ v t₀ l, (s.sq q).txq = (v, t₀) :: l → (s.now ≤ t₀ → stays)
          ∧ (t₀ < s.now → ends (fun t => t.pqFlag q pfE = false ∧ (dst < 6 → t.pqReg q dst = v % 2 ^ 32) ∧ (t.sq q).last = v ∧ (t.sq q).txq = l
              ∧ (l.length ≤ s.fld PSQ_QSTAT_TXWM q → t.flag PSQ_INTST_TXWM q = true)) [dst] [pfE] [] ([PSQ_QSTAT.addr q, PSQ_INTST.addr q] ++ irtPend)))
      ∧ (op = 0x10 →
          let freed := if (s.sq q).rxFreed.1 = s.now then (s.sq q).rxFreed.2 else 0
          let room := (s.sq q).rxq.length + freed < 16 - min 16 (s.fld PSQ_CFG_QSPLIT q)
          (¬room → stays) ∧ (room → ends (fun t => t.pqFlag q pfF = false ∧ (t.sq q).rxq = (s.sq q).rxq ++ [s.pqReg q dst]
              ∧ ((s.sq q).rxq.length + 1 = s.fld PSQ_QSTAT_RXWM q → t.flag PSQ_INTST_RXWM q = true)) [] [pfF] [] ([PSQ_QSTAT.addr q, PSQ_INTST.addr q] ++ irtPend)))
      ∧ (p.tmo = 0 ∨ s.now < s.tickAt q (p.tick + p.tmo) → exec (.psqWaitTimeout q) s = .next s)
      ∧ (p.tmo ≠ 0 → s.tickAt q (p.tick + p.tmo) ≤ s.now → ∃ t, exec (.psqWaitTimeout q) s = .next t ∧ t.pqFlag q pfT = true
          ∧ t.fld PSQ_STAT_STATE q = pqRunning ∧ (t.sq q).wait = none ∧ (t.sq q).tick = p.tick + p.tmo + 1 ∧ (t.sq q).r = (s.sq q).r
          ∧ t.fld PSQ_STAT_PC q = (s.fld PSQ_STAT_PC q + 1) % 48 ∧ t.flag PSQ_INTST_TIMEOUT q = true
          ∧ t.fld PSQ_CNT1_TIMEOUT q = min (2 ^ PSQ_CNT1_TIMEOUT.len - 1) (s.fld PSQ_CNT1_TIMEOUT q + 1)
          ∧ (op = 0x06 → t.pqReg q (bitsOf w 15 2) = 0xFFFFFFFF) ∧ (op = 0x07 → t.pqReg q (bitsOf w 10 2) = 0xFFFFFFFF)
          ∧ (op ≠ 0x06 → op ≠ 0x07 → ∀ j < 6, t.pqReg q j = s.pqReg q j) ∧ (∀ k, t.levelOut q k = s.levelOut q k)
          ∧ s.Only t [.psq] ((List.range 4).map (PSQ_W.addr q ·) ++ [PSQ_STAT.addr q, PSQ_CNT1.addr q, PSQ_INTST.addr q] ++ irtPend))

/-- The instructions of one cycle or a fixed number of them that no ALU function is (R263, R264, R270, R272, R274): NOP, BR, LOOP, BRL, DELAY, STOP, CPY, LDI, DIV, CRCSTEP, SHO, SHI. Each runs
when its tick has come, together with the line changes of the co-issued DRVs before it, writes its destination alone and goes on at its next PC after its cycles. -/
def Obligations.PsqInstructions : Prop :=
  ∀ (s : State) (q : Fin 16) (w : Word), s.PqRuns q w →
    let op := bitsOf w 19 5
    let r := bitsOf w 15 2
    let addr := bitsOf w 0 6
    let pc := (s.fld PSQ_STAT_PC q + 1) % 48
    let runs (c : Instr) (cycles pc : Nat) (f : Nat → Option Bool) (dst fl : List Nat) (R : State → Prop) : Prop :=
      ∃ x : State, exec c s = .next x.settle ∧ s.PqAt x q cycles pc ∧ R x ∧ s.PqLeaves x q f dst fl [] []
    let no (_ : Nat) : Option Bool := none
    let holds : Bool := match bitsOf w 13 4 with
      | 0 => true
      | 1 => s.pqFlag q pfZ | 2 => !s.pqFlag q pfZ | 3 => s.pqFlag q pfN | 4 => !s.pqFlag q pfN | 5 => s.pqFlag q pfT | 6 => !s.pqFlag q pfT
      | 7 => s.pqFlag q pfE | 8 => !s.pqFlag q pfE | 9 => s.pqFlag q pfF | 10 => !s.pqFlag q pfF
      | 11 => (s.sq q).txq.head?.any fun p => decide (p.2 < s.now)
      | 12 => s.rxRoom q
      | _ => false
    let left := (s.pqReg q r + (2 ^ 32 - 1)) % 2 ^ 32
    let by_ := s.pqReg q (bitsOf w 12 3)
    let quot := if by_ = 0 then 0xFFFFFFFF else s.pqReg q r / by_
    let wide := if s.fld PSQ_CFG_CRCW q = 0 then 32 else s.fld PSQ_CFG_CRCW q
    let bits := if bitsOf w 0 5 = 0 then 32 else bitsOf w 0 5
    let crc := (List.range bits).foldl (fun c i =>
      let fb := (by_ / 2 ^ (bits - 1 - i) + c / 2 ^ (wide - 1)) % 2
      if fb = 1 then (c * 2 % 2 ^ wide) ^^^ (s.rd (PSQ_CRCPOLY.addr q)).toNat else c * 2 % 2 ^ wide) (s.pqReg q r)
    let txs := s.rd (PSQ_TXS.addr q)
    let rxs := s.rd (PSQ_RXS.addr q)
    let top := bitsOf w 14 1 = 1
    let bit : Word := if s.lineIn q r then 1 else 0
    (op = 0x00 → runs (.psqNop q) 1 pc no [] [] fun _ => True)
    ∧ (op = 0x01 → runs (.psqBr q) 1 (if holds then addr else pc) no [] [] fun _ => True)
    ∧ (op = 0x02 → runs (.psqLoop q) 1 (if left = 0 then pc else addr) no [r] [] fun x => x.pqReg q r = left)
    ∧ (op = 0x03 → runs (.psqBrl q) 1 (if s.lineIn q r = (bitsOf w 14 1 == 1) then addr else pc) no [] [] fun _ => True)
    ∧ (op = 0x08 → runs (.psqCpy q) 1 pc no [bitsOf w 14 3] [] fun x => bitsOf w 14 3 < 6 → x.pqReg q (bitsOf w 14 3) = s.pqReg q (bitsOf w 11 3))
    ∧ (op = 0x09 → runs (.psqLdi q) 1 pc no [r] [] fun x => x.pqReg q r = bitsOf w 0 15)
    ∧ (op = 0x0B → runs (.psqDiv q) 8 pc no [r] [pfZ, pfN] fun x => x.pqReg q r = quot ∧ x.pqFlag q pfZ = (quot == 0) ∧ x.pqFlag q pfN = decide (2 ^ 31 ≤ quot))
    ∧ (op = 0x0C → runs (.psqCrcstep q) 1 pc no [r] [] fun x => x.pqReg q r = crc % 2 ^ 32)
    ∧ (op = 0x0D → runs (.psqSho q) 1 pc (fun k => if k = r then some (if top then txs.msb else txs.getLsbD 0) else none) [4] []
        fun x => x.rd (PSQ_TXS.addr q) = if top then txs <<< 1 else txs >>> 1)
    ∧ (op = 0x0E → runs (.psqShi q) 1 pc no [5] [] fun x => x.rd (PSQ_RXS.addr q) = if top then rxs <<< 1 ||| bit else rxs >>> 1 ||| bit <<< 31)
    ∧ (op = 0x11 → runs (.psqDelay q) (1 + bitsOf w 0 17) pc no [] [] fun _ => True)
    ∧ (op = 0x13 → ∃ x : State, exec (.psqStop q) s = .next x.settle ∧ s.PqHalts x q [])

/-- The ALU (R271): WD takes WD op B, Z and N are those of the result, and CMP leaves WD as it is; one cycle. -/
def Obligations.PsqAlu : Prop :=
  ∀ (s : State) (q : Fin 16) (w : Word), s.PqRuns q w → bitsOf w 19 5 = 0x0A →
    let d := bitsOf w 15 2
    let a := s.rd (PSQ_W.addr q d)
    let b : Word := BitVec.ofNat 32 (if bitsOf w 11 1 = 1 then bitsOf w 0 11 else s.pqReg q (bitsOf w 0 3))
    let gives (c : Instr) (r v : Word) : Prop := ∃ x : State, exec c s = .next x.settle ∧ x.rd (PSQ_W.addr q d) = v
      ∧ x.pqFlag q pfZ = (r == 0) ∧ x.pqFlag q pfN = r.msb ∧ s.PqAt x q 1 ((s.fld PSQ_STAT_PC q + 1) % 48)
      ∧ s.PqLeaves x q (fun _ => none) [d] [pfZ, pfN] [] []
    (bitsOf w 12 3 = 0 → gives (.psqAdd q) (a + b) (a + b)) ∧ (bitsOf w 12 3 = 1 → gives (.psqSub q) (a - b) (a - b))
    ∧ (bitsOf w 12 3 = 2 → gives (.psqAnd q) (a &&& b) (a &&& b)) ∧ (bitsOf w 12 3 = 3 → gives (.psqOr q) (a ||| b) (a ||| b))
    ∧ (bitsOf w 12 3 = 4 → gives (.psqXor q) (a ^^^ b) (a ^^^ b))
    ∧ (bitsOf w 12 3 = 5 → gives (.psqShl q) (a <<< (b.toNat % 32)) (a <<< (b.toNat % 32)))
    ∧ (bitsOf w 12 3 = 6 → gives (.psqShr q) (a >>> (b.toNat % 32)) (a >>> (b.toNat % 32)))
    ∧ (bitsOf w 12 3 = 7 → gives (.psqCmp q) (a - b) a)

/-- DRV, PINW, AWAIT, MEASURE, TAKE, GIVE and SIG (R265, R270, R272, R273, R275): a DRV drives its lines at once, or with CO keeps them for the instruction after it; a wait completes at once where its condition holds
and waits with its timeout otherwise, a chained MEASURE from the edge its last one ended with; a TAKE takes the oldest word of an earlier TCLK with E clear, or without one, if it may not wait, the last-taken word with E set; a GIVE appends its
word with F clear, or drops it with F set; SIG pulses the sequencer's task source and sets its cause. -/
def Obligations.PsqLines : Prop :=
  ∀ (s : State) (q : Fin 16) (w : Word), s.PqRuns q w →
    let op := bitsOf w 19 5
    let pc := (s.fld PSQ_STAT_PC q + 1) % 48
    let no (_ : Nat) : Option Bool := none
    let tmo (ts : Nat) : Nat := match ts with
      | 1 => (s.rd (PSQ_TMO.addr q 0)).toNat | 2 => (s.rd (PSQ_TMO.addr q 1)).toNat | 3 => (s.rd (PSQ_W.addr q 3)).toNat | _ => 0
    let from_ (ts : Nat) (b : Option Nat) : PWait := ⟨s.now, (s.sq q).tick, ts, b, none⟩
    let waits (c : Instr) (p : PWait) : Prop := ∃ x : State, exec c s = .next x.settle ∧ s.PqHeld x q p ∧ s.PqLeaves x q no [] [] [] []
    let ends (c : Instr) (dst fl : List Nat) (ps : List Part) (as : List Nat) (R : State → Prop) : Prop :=
      ∃ x : State, exec c s = .next x.settle ∧ s.PqDone x q ∧ R x ∧ s.PqLeaves x q no dst fl ps as
    let goes (c : Instr) (dst fl : List Nat) (as : List Nat) (R : State → Prop) : Prop :=
      ∃ x : State, exec c s = .next x.settle ∧ s.PqAt x q 1 pc ∧ R x ∧ s.PqLeaves x q no dst fl [] as
    let cnt := [PSQ_CNT0.addr q, PSQ_INTST.addr q] ++ irtPend
    let qst := [PSQ_QSTAT.addr q, PSQ_INTST.addr q] ++ irtPend
    let d := bitsOf w 14 3
    let blocks := bitsOf w 13 1 = 0
    (op = 0x04 → bitsOf w 16 1 = 0 → ∃ x : State, exec (.psqDrv q) s = .next x.settle ∧ s.PqAt x q 1 pc
        ∧ s.PqLeaves x q (fun k => if bitsOf w (4 + k) 1 = 1 then some (bitsOf w k 1 == 1) else none) [] [] [] [])
    ∧ (op = 0x04 → bitsOf w 16 1 = 1 → ∃ t, exec (.psqDrv q) s = .next t ∧ s.PqAt t q 0 pc
        ∧ (∀ k < 4, t.coLine q k = if bitsOf w (4 + k) 1 = 1 then some (bitsOf w k 1 == 1) else s.coLine q k)
        ∧ (∀ k, t.levelOut q k = s.levelOut q k) ∧ (∀ i < 5, t.pqFlag q i = s.pqFlag q i) ∧ s.Only t [.psq] [PSQ_STAT.addr q])
    ∧ (op = 0x05 →
        let met := blocks ∧ s.lineIn q (bitsOf w 15 2) = (bitsOf w 14 1 == 1)
        (met → ends (.psqPinw q) [] [pfT] [] [] fun x => x.pqFlag q pfT = false) ∧ (¬met → waits (.psqPinw q) (from_ (tmo (bitsOf w 11 2)) none)))
    ∧ (op = 0x06 →
        let rests := waits (.psqAwait q) (from_ (tmo (bitsOf w 13 2)) none)
        (s.taskOf (tiPsq q) = [] → rests) ∧ ∀ e l, s.taskOf (tiPsq q) = e :: l → (s.now ≤ e.at_ → rests)
          ∧ (e.at_ < s.now → ends (.psqAwait q) [bitsOf w 15 2] [pfT] [.task] [PSQ_TSTAT.addr q] fun x => x.pqFlag q pfT = false
              ∧ x.pqReg q (bitsOf w 15 2) = (e.src + (if e.cu then 512 else 0) + (if s.flag PSQ_CFG_TMODE q = true ∧ l ≠ [] then 1024 else 0)) % 2 ^ 32
              ∧ x.taskOf (tiPsq q) = if s.flag PSQ_CFG_TMODE q then [] else l))
    ∧ (op = 0x07 →
        let k := bitsOf w 15 2
        let pol := bitsOf w 14 1 == 1
        let wd := bitsOf w 10 2
        let e := s.pqEdges q k pol
        let t := tmo (bitsOf w 8 2)
        let chained := bitsOf w 13 1 = 1 ∧ bitsOf w 12 1 = 1
        (¬chained ∨ e.chain = none → waits (.psqMeasure q) (from_ t none))
        ∧ (chained → ∀ i b, e.chain = some (i, b) →
          (e.count - i = 0 → waits (.psqMeasure q) (from_ t (some b)))
          ∧ (∀ n < 2, e.count - i = n + 1 → ∀ v, e.stamps[n]? = some v → ends (.psqMeasure q) [wd] [pfT] [] [] fun x => x.pqFlag q pfT = false
              ∧ x.pqReg q wd = min 0xFFFFFFFD (v - b) ∧ (x.pqEdges q k pol).chain = some (i + 1, v))
          ∧ (3 ≤ e.count - i → ends (.psqMeasure q) [wd] [pfT] [] [PSQ_CNT1.addr q] fun x => x.pqFlag q pfT = true ∧ x.pqReg q wd = 0xFFFFFFFF
              ∧ x.fld PSQ_CNT1_OVERRUN q = min (2 ^ PSQ_CNT1_OVERRUN.len - 1) (s.fld PSQ_CNT1_OVERRUN q + 1))))
    ∧ (op = 0x0F →
        let taken (v : Nat) (l : List (Nat × Nat)) (x : State) : Prop := x.pqFlag q pfE = false ∧ (d < 6 → x.pqReg q d = v % 2 ^ 32) ∧ (x.sq q).last = v
          ∧ (x.sq q).txq = l ∧ (l.length ≤ s.fld PSQ_QSTAT_TXWM q → x.flag PSQ_INTST_TXWM q = true)
        let empty := (s.sq q).txq = [] ∨ ∃ v t l, (s.sq q).txq = (v, t) :: l ∧ s.now ≤ t
        (empty → blocks → waits (.psqTake q) (from_ 0 none))
        ∧ (empty → ¬blocks → goes (.psqTake q) [d] [pfE] cnt fun x => x.pqFlag q pfE = true ∧ (d < 6 → x.pqReg q d = (s.sq q).last % 2 ^ 32)
            ∧ x.fld PSQ_CNT0_STALE q = min (2 ^ PSQ_CNT0_STALE.len - 1) (s.fld PSQ_CNT0_STALE q + 1) ∧ x.flag PSQ_INTST_STALE q = true ∧ (x.sq q).txq = (s.sq q).txq)
        ∧ ∀ v t l, (s.sq q).txq = (v, t) :: l → t < s.now → (blocks → ends (.psqTake q) [d] [pfE] [] qst (taken v l)) ∧ (¬blocks → goes (.psqTake q) [d] [pfE] qst (taken v l)))
    ∧ (op = 0x10 →
        let cap := 16 - min 16 (s.fld PSQ_CFG_QSPLIT q)
        let room := (s.sq q).rxq.length + (if (s.sq q).rxFreed.1 = s.now then (s.sq q).rxFreed.2 else 0) < cap
        let given (x : State) : Prop := x.pqFlag q pfF = false ∧ (x.sq q).rxq = (s.sq q).rxq ++ [s.pqReg q d]
          ∧ ((s.sq q).rxq.length + 1 = s.fld PSQ_QSTAT_RXWM q → x.flag PSQ_INTST_RXWM q = true)
        (room → (blocks → ends (.psqGive q) [] [pfF] [] qst given) ∧ (¬blocks → goes (.psqGive q) [] [pfF] qst given))
        ∧ (¬room → blocks → cap ≠ 0 → waits (.psqGive q) (from_ 0 none))
        ∧ (¬room → ¬blocks ∨ cap = 0 → goes (.psqGive q) [] [pfF] cnt fun x => x.pqFlag q pfF = true ∧ (x.sq q).rxq = (s.sq q).rxq
            ∧ x.fld PSQ_CNT0_DROP q = min (2 ^ PSQ_CNT0_DROP.len - 1) (s.fld PSQ_CNT0_DROP q + 1) ∧ x.flag PSQ_INTST_DROP q = true))
    ∧ (op = 0x12 → ∃ x : State, exec (.psqSig q) s = .next x.settle ∧ s.PqAt x q 1 pc ∧ s.OnlyParts x [.psq, .gpin, .husk, .pad, .due]
        ∧ (.pulse (432 + q.val) false ∈ x.due ↔ bitsOf w 0 1 = 1) ∧ x.flag PSQ_INTST_SIG q = (s.flag PSQ_INTST_SIG q || bitsOf w 1 1 == 1)
        ∧ s.LinesTake x q (s.coLine q) ∧ ∀ i < 5, x.pqFlag q i = s.pqFlag q i)

/-! Processors, interrupts and debug (chapter 10) -/

/-- CP_RESTART, CP_HALT, LOCKSTEP_MISMATCH, ECC_ERROR and DOUBLE_TRAP (R280, R285, R286, R288, R295, R304): a restart below RSTMAX runs the pair from its boot address with
reset registers and counts; a halt stops a running pair; a mismatch and a trap in emergency stop it with their fault, and each of these empties the pair's nesting stack into pending sources. A corrected ECC error is counted; a double
one raises its fault and ends the access in a bus error, which the core that made it, if it runs, receives as the access fault of its use. None of the others acts in another state. -/
def Obligations.ProcessorStates : Prop :=
  ∀ (s : State) (n : Fin 4),
    let regs := [CPC_CPSTAT.addr n, IRT_CPRUN.addr n] ++ irtPend ++ irtActs
    (∀ by_, s.due = [] → s.Admits by_ (CPC_CPCTL.addr n) true 1 →
      (s.cpState n = cpReset ∨ s.fld CPC_CPSTAT_RESTARTS n = s.fld CPC_CPCFG_RSTMAX n → exec (.cpRestart by_ n) s = .next s.busOk)
      ∧ (s.cpState n ≠ cpReset → s.fld CPC_CPSTAT_RESTARTS n ≠ s.fld CPC_CPCFG_RSTMAX n → ∃ t, exec (.cpRestart by_ n) s = .next t
          ∧ t.cpState n = cpRunning ∧ t.core n = { Core.zero with pc := s.rd (CPC_CPBOOT.addr n), hstk := s.flag CPC_CPCFG_HSTK n }
          ∧ t.fld CPC_CPSTAT_RESTARTS n = (s.fld CPC_CPSTAT_RESTARTS n + 1) % 2 ^ CPC_CPSTAT_RESTARTS.len ∧ t.nestOf n = []
          ∧ (∀ p ∈ s.nestOf n, p.1 < 576 → t.irtPend p.1 = true ∧ t.irtAct p.1 = false) ∧ (∀ k, k ≠ n.val → t.core k = s.core k) ∧ s.Only t [.bus, .cores, .nest] regs))
    ∧ (∀ by_, s.due = [] → s.Admits by_ (CPC_CPCTL.addr n) true 2 →
      (s.cpState n ≠ cpRunning → exec (.cpHalt by_ n) s = .next s.busOk)
      ∧ (s.cpState n = cpRunning → ∃ t, exec (.cpHalt by_ n) s = .next t ∧ s.CpStops t n cpSw ∧ s.Only t [.bus, .nest] regs))
    ∧ (s.Ready →
      (s.cpState n ≠ cpRunning → exec (.lockstepMismatch n) s = .next s ∧ exec (.doubleTrap n) s = .next s)
      ∧ ((s.core n).emerg = false → exec (.doubleTrap n) s = .next s)
      ∧ (s.cpState n = cpRunning → ∃ x : State, exec (.lockstepMismatch n) s = .next x.settle ∧ s.CpStops x n cpLockstep
          ∧ x.due = [.fault ⟨16 + 6 * n.val, 0⟩] ∧ s.Only x [.nest, .due] regs)
      ∧ (s.cpState n = cpRunning → (s.core n).emerg = true → ∃ x : State, exec (.doubleTrap n) s = .next x.settle ∧ s.CpStops x n cpDouble
          ∧ x.due = [.fault ⟨17 + 6 * n.val, 0⟩] ∧ s.Only x [.nest, .due] regs)
      ∧ ∀ (by_ : Agent) (use : MemUse),
        let cause := match use with | .fetch => 1 | .load => 5 | .store => 7
        let double (site : EccSite) (src info : Nat) (core : Option Nat) : Prop := ∃ x : State, exec (.eccError site ⟨by_, use, true⟩) s = .next x.settle ∧ x.bus.err = true
          ∧ .fault ⟨src, info⟩ ∈ x.due ∧ (∀ k, core = some k → s.cpState k = cpRunning → s.Excepts x k cause)
          ∧ (∀ k, core ≠ some k ∨ s.cpState k ≠ cpRunning → x.core k = s.core k ∧ x.cpState k = s.cpState k ∧ x.nestOf k = s.nestOf k)
          ∧ s.OnlyParts x [.bus, .cores, .nest, .due, .free]
        (∃ t, exec (.eccError (.tcm n) ⟨by_, use, false⟩) s = .next t
          ∧ t.fld CPC_CPSTAT_ECCCOR n = min (2 ^ CPC_CPSTAT_ECCCOR.len - 1) (s.fld CPC_CPSTAT_ECCCOR n + 1) ∧ s.Only t [] [CPC_CPSTAT.addr n])
        ∧ double (.tcm n) (19 + 6 * n.val) 0 (some n.val)
        ∧ ∀ p, exec (.eccError (.sram p) ⟨by_, use, false⟩) s = .next (s.setFco { s.fco with eccCor := s.fco.eccCor + 1 })
          ∧ double (.sram p) 8 p.val (match by_ with | .cp k => some k.val | _ => none))

/-- INTERRUPT_ENTRY and IRET (R290, R291, R292, R293, R294, R297): a running pair that takes interrupts takes its candidate: in standard mode as an external interrupt through mtvec;
in stacking mode by a frame of 20 words below its stack pointer in memory, with the source claimed and the pc read from the vector table; and by emergency, through WEMVEC with the frame in the save area, where the stack pointer or a store of the frame is not admitted. An IRET loads the frame back and completes the
innermost source, or ends an emergency; a load of either that is refused is an access fault, and that of an IRET in an emergency the halt of a double trap; without a frame it is illegal, with an open mtval. A pair that does not run or does not take interrupts does neither. -/
def Obligations.InterruptEntry : Prop :=
  ∀ (s : State) (n : Fin 4), s.Ready →
    let c := s.core n
    let sp := (if c.user then c.wmsp else c.reg 2).toNat
    let frame (sp : Word) (i : Nat) : Word := match i with
      | 17 => setBits c.pc 0 1 (if c.user then 1 else 0) | 18 => c.mstatus | 19 => c.mepc
      | _ => if frameRegs.getD i 0 = 2 then sp else c.reg (frameRegs.getD i 0)
    (s.candidate n = none → exec (.interruptEntry n) s = .next s)
    ∧ (s.cpState n ≠ cpRunning → exec (.interruptEntry n) s = .next s ∧ exec (.iret n) s = .next s)
    ∧ (c.user = false → bitsOf c.mstatus 3 1 = 0 → exec (.interruptEntry n) s = .next s)
    ∧ (c.hstk = false → bitsOf c.mie 11 1 = 0 → exec (.interruptEntry n) s = .next s)
    ∧ (∀ k, s.candidate n = some k → s.cpState n = cpRunning → c.user = true ∨ bitsOf c.mstatus 3 1 = 1 →
      (c.hstk = false → bitsOf c.mie 11 1 = 1 → ∃ t, exec (.interruptEntry n) s = .next t ∧ c.Trapped (t.core n) 0x8000000B ∧ (t.core n).mtval = 0
          ∧ s.Only t [.cores] [CPC_CPSTAT.addr n])
      ∧ (c.hstk = true →
        let valid := sp % 16 = 0 ∧ c.wstklo.toNat + 80 ≤ sp ∧ sp ≤ c.wstkhi.toNat
        let fa := sp - 80
        let vec := c.wvtab.toNat + 4 * k
        let entered (x : State) : Prop := x.irtPend k = false ∧ x.irtAct k = true ∧ x.nestOf n = (k, s.fld IRT_SRC_PRI k) :: s.nestOf n
          ∧ (x.core n).depth = c.depth + 1 ∧ (x.core n).reg 2 = BitVec.ofNat 32 fa ∧ (x.core n).user = false
          ∧ (∀ i < 20, ∀ m, s.memAt (.cp n) (fa + 4 * i) .b32 true = some m → x.memGet m (fa + 4 * i) 4 = (frame (c.reg 2) i).toNat)
          ∧ s.OnlyParts x [.bus, .cores, .nest, .tcm, .sram, .free, .due]
        (¬valid ∨ (sp ≤ 0x40000000 ∧ ∃ i < 20, s.cpStores n (fa + 4 * i) = false) → ∃ x : State,
            exec (.interruptEntry n) s = .next x.settle ∧ (x.core n).pc = c.wemvec ∧ (x.core n).emerg = true ∧ (x.core n).user = false ∧ (x.core n).reg 2 = 0x100FFF00
            ∧ (∀ i < 20, x.memGet (.tcm n) (0x100FFF00 + 4 * i) 4 = (frame (BitVec.ofNat 32 sp) i).toNat) ∧ x.irtAct k = s.irtAct k ∧ x.nestOf n = s.nestOf n
            ∧ bitsOf (x.core n).mstatus 3 1 = 0 ∧ (x.core n).mepc = c.mepc ∧ (x.core n).mcause = c.mcause ∧ x.due = [.fault ⟨18 + 6 * n.val, 0⟩]
            ∧ s.Only x (if valid then [.bus, .cores, .tcm, .sram, .due] else [.cores, .tcm, .due]) [CPC_CPSTAT.addr n])
        ∧ (valid → (∀ i < 20, s.cpStores n (fa + 4 * i) = true) → vec < 0x40000000 →
          (∀ w, s.cpWord n vec = some w → vec + 4 ≤ fa ∨ fa + 80 ≤ vec → ∃ x : State, exec (.interruptEntry n) s = .next x.settle ∧ entered x ∧ (x.core n).pc = setBits w 0 1 0
            ∧ (x.core n).mcause = BitVec.ofNat 32 (2 ^ 31 + 16 + k) ∧ (x.core n).mepc = setBits c.pc 0 1 0 ∧ bitsOf (x.core n).mstatus 7 1 = bitsOf c.mstatus 3 1
            ∧ bitsOf (x.core n).mstatus 11 2 = (if c.user then 0 else 3))
          ∧ (s.cpWord n vec = none → ∃ x : State, exec (.interruptEntry n) s = .next x.settle ∧ entered x ∧ (x.core n).mcause = 5
            ∧ (x.core n).pc = setBits c.mtvec 0 2 0 ∧ (x.core n).mepc = setBits c.pc 0 1 0))))
    ∧ (s.cpState n = cpRunning →
      let none_ := c.hstk = false ∨ c.user = true ∨ (c.depth = 0 ∧ c.emerg = false)
      let fa := if c.emerg then 0x100FFF00 else (c.reg 2).toNat
      (none_ → ∃ x : State, exec (.iret n) s = .next x.settle ∧ s.Excepts x n 2 ∧ (c.emerg = false → (x.core n).mtval = 0 ∨ (x.core n).mtval = 0x3000000B)
          ∧ s.OnlyParts x [.cores, .nest, .due, .free])
      ∧ (¬none_ → fa + 80 ≤ 0x40000000 → (∃ i < 20, s.cpWord n (fa + 4 * i) = none) → ∃ x : State, exec (.iret n) s = .next x.settle ∧ s.Excepts x n 5
          ∧ s.OnlyParts x [.bus, .cores, .nest, .due, .free])
      ∧ (¬none_ → fa + 80 ≤ 0x40000000 → ∀ w : Nat → Word, (∀ i < 20, s.cpWord n (fa + 4 * i) = some (w i)) → ∃ x : State, exec (.iret n) s = .next x.settle
          ∧ (∀ i < 17, (x.core n).reg (frameRegs.getD i 0) = w i) ∧ (∀ j < 32, j ∉ frameRegs → (x.core n).reg j = c.reg j) ∧ (x.core n).pc = setBits (w 17) 0 1 0
          ∧ (x.core n).user = (bitsOf (w 17) 0 1 == 1) ∧ (x.core n).mepc = w 19 ∧ (x.core n).emerg = false
          ∧ (bitsOf (w 18) 11 2 = 0 ∨ bitsOf (w 18) 11 2 = 3 → (x.core n).mstatus = w 18)
          ∧ (bitsOf (w 18) 11 2 = 1 ∨ bitsOf (w 18) 11 2 = 2 → (x.core n).mstatus = setBits (w 18) 11 2 0 ∨ (x.core n).mstatus = setBits (w 18) 11 2 3)
          ∧ (x.core n).wmsp = (if bitsOf (w 17) 0 1 = 1 then BitVec.ofNat 32 (fa + 80) else c.wmsp)
          ∧ (c.emerg = true → (x.core n).depth = c.depth ∧ x.nestOf n = s.nestOf n)
          ∧ (c.emerg = false → (x.core n).depth = c.depth - 1 ∧ x.nestOf n = (s.nestOf n).tail
            ∧ ∀ k p l, s.nestOf n = (k, p) :: l → k < 576 → x.irtAct k = false ∧ x.irtPend k = (s.irtPend k || s.line k))
          ∧ s.OnlyParts x [.bus, .cores, .nest, .free]))

/-- IRT_CLAIM, IRT_EOI, IRT_SWSET, IRT_SWCLR and IRT_CLRP (R297, R298, R300, R301): a claim answers the candidate, which becomes active on the pair's nesting stack, and 0 without one; the EOI
of the innermost source completes it, and makes it pending again where its line is still 1, and any other sets EOIERR; a software source is set or cleared by its bit; CLRP clears the pending part. -/
def Obligations.InterruptRouter : Prop :=
  ∀ (s : State) (by_ : Agent) (n : Fin 4), s.due = [] →
    (s.Admits by_ (IRT_CPCLAIM.addr n) false 0 →
      (s.candidate n = none → exec (.irtClaim by_ n) s = .next s.busOk)
      ∧ ∀ k, s.candidate n = some k → ∃ t, exec (.irtClaim by_ n) s = .next t ∧ t.bus = ⟨false, BitVec.ofNat 64 (2 ^ 31 + k)⟩
        ∧ t.irtPend k = false ∧ t.irtAct k = true ∧ t.nestOf n = (k, s.fld IRT_SRC_PRI k) :: s.nestOf n
        ∧ s.Only t [.bus, .nest] [IRT_PEND.addr (k / 32), IRT_ACT.addr (k / 32), IRT_CPRUN.addr n])
    ∧ (∀ v : Word, s.Admits by_ (IRT_CPEOI.addr n) true v →
      let err := ∃ t, exec (.irtEoi by_ n v) s = .next t ∧ t.flag IRT_CPRUN_EOIERR n = true ∧ s.Only t [.bus] [IRT_CPRUN.addr n]
      (s.nestOf n = [] → err)
      ∧ ∀ k p l, s.nestOf n = (k, p) :: l →
        (bitsOf v 0 10 ≠ k → err)
        ∧ (bitsOf v 0 10 = k → k < 576 → ∃ t, exec (.irtEoi by_ n v) s = .next t ∧ t.irtAct k = false ∧ t.irtPend k = (s.irtPend k || s.line k)
            ∧ t.nestOf n = l ∧ s.Only t [.bus, .nest] [IRT_PEND.addr (k / 32), IRT_ACT.addr (k / 32), IRT_CPRUN.addr n]))
    ∧ (∀ (k : Fin 2) (v : Word), s.Admits by_ (IRT_SWSET.addr k) true v → ∃ t, exec (.irtSwset by_ k v) s = .next t
        ∧ (∀ j, j < 32 → t.irtPend (512 + 32 * k.val + j) = (s.irtPend (512 + 32 * k.val + j) || bitsOf v j 1 == 1))
        ∧ s.Only t [.bus] [IRT_PEND.addr (16 + k.val)])
    ∧ (∀ (k : Fin 2) (v : Word), s.Admits by_ (IRT_SWCLR.addr k) true v → ∃ t, exec (.irtSwclr by_ k v) s = .next t
        ∧ (∀ j, j < 32 → t.irtPend (512 + 32 * k.val + j) = (s.irtPend (512 + 32 * k.val + j) && !(bitsOf v j 1 == 1)))
        ∧ s.Only t [.bus] [IRT_PEND.addr (16 + k.val)])
    ∧ (∀ src : Fin 576, s.Admits by_ (IRT_SRC.addr src) true (2 ^ 29) → ∃ t, exec (.irtClrp by_ src) s = .next t ∧ t.irtPend src = false
        ∧ t.irtAct src = s.irtAct src ∧ s.Only t [.bus] [IRT_PEND.addr (src.val / 32)])

/-- DEBUG_HALT, DEBUG_RESUME, DEBUG_UNLOCK and BOUNDARY_SCAN_INSTRUCTION (R257, R304, R305, R306, R307): an open module halts a running pair, whose core and nesting stack stay, and freezes the timers of the groups that name it; it
resumes one that it halted, the timers going on with the next TCLK; an unlock is tried in PROD only, leaves r and s in the custom registers, takes a fresh challenge, and opens the module with its fault and record where the
signature verifies; an instruction that the lifecycle does not admit selects BYPASS, and EXTEST alone drives pins. -/
def Obligations.DebugPort : Prop :=
  ∀ s : State, s.Ready →
    (∀ n : Fin 4, s.dbgOpen = false ∨ s.cpState n ≠ cpRunning → exec (.debugHalt n) s = .next s)
    ∧ (∀ n : Fin 4, s.dbgOpen = true → s.cpState n = cpRunning → ∃ t, exec (.debugHalt n) s = .next t ∧ t.cpState n = cpDebug
        ∧ (∀ k < 48, t.flag TMR_STAT_FROZEN k = true ↔ ∃ m < 4, (m = n.val ∨ s.cpState m = cpDebug) ∧ s.fld TMRG_CFG_DBGFRZ (k / 8) / 2 ^ m % 2 = 1)
        ∧ s.Only t [.tmr] (CPC_CPSTAT.addr n :: (List.range 48).map (TMR_STAT.addr ·)))
    ∧ (∀ n : Fin 4, s.cpState n ≠ cpDebug → exec (.debugResume n) s = .next s)
    ∧ (∀ n : Fin 4, s.cpState n = cpDebug → ∃ t, exec (.debugResume n) s = .next t ∧ t.cpState n = cpRunning ∧ s.Only t [] [CPC_CPSTAT.addr n])
    ∧ (∀ r sig, s.fld CPC_LCS_LCS ≠ 1 → exec (.debugUnlock r sig) s = .next s)
    ∧ (∀ r sig, s.fld CPC_LCS_LCS = 1 →
        let msg := (beBytes 8 (s.wide SYS_UID) ++ beBytes 16 s.dbg.challenge)
        let ok := ecdsaOk s.img.pub.1 s.img.pub.2 r.toNat sig.toNat (sha256 msg)
        let fresh (x : State) : Prop := x.dbg = { s.dbg with custom := (r.toNat, sig.toNat), challenge := x.dbg.challenge } ∧ x.free = s.free + 1
        (ok = false → ∃ t, exec (.debugUnlock r sig) s = .next t ∧ fresh t ∧ s.Only t [.dbg, .free] [])
        ∧ (ok = true → ∃ (x : State) (b : Rec), exec (.debugUnlock r sig) s = .next x.settle ∧ fresh x ∧ x.flag CPC_LCS_UNLOCKED = true
            ∧ x.due = [.fault ⟨10, 0⟩, .record b] ∧ b.ty = 0x0A ∧ s.Only x [.dbg, .free, .due] [CPC_LCS.addr]))
    ∧ (∀ ins d,
        let admitted := match ins with | .idcode | .bypass => true | .samplePreload => s.fld CPC_LCS_LCS ≠ 2 | .extest => s.fld CPC_LCS_LCS = 0 ∨ s.fld CPC_LCS_LCS = 3
        (admitted → exec (.boundaryScanInstruction ins d) s = .next { s with dbg := { s.dbg with scan := ins, drive := if ins = .extest then d else [] } })
        ∧ (¬admitted → exec (.boundaryScanInstruction ins d) s = .next { s with dbg := { s.dbg with scan := .bypass, drive := [] } }))

/-! The tenant gateway (chapter 11) -/

/-- The messages of a tenant and what is no message (R313, R314, R316, R317, R318, R319, R320, R326): an authentic message with a SEQ of its own is queued where it passes every check of its type, at the cost of its tokens;
otherwise it is refused, at no cost, with the status of the first check that fails, counted, and announced once; one that repeats the TOKEN of an entry of the completion ring is answered with that entry. A wrong tag and a SEQ that was marked or lies below the window are dropped and counted, and so is what is no message and an unknown
context; a port that is down and a gateway that is off receive nothing. -/
def Obligations.GatewayMessages : Prop :=
  (∀ (s : State) (p : Path) (h : DtpHeader) (key : Nat) (c : Instr) (ty : Nat) (b : List Nat) (k : Checks), s.Ready → Request s h.ctx.toNat p h c ty b k →
    let x := h.ctx.toNat
    let token := h.token.toNat
    let seq := h.seq.toNat
    let g := s.gx x
    let port := match p with | .eth q _ _ => q.val | .pcie => 2
    let comes := s.flag GW_CFG_EN = true ∧ 4 ≤ x ∧ x < 512 ∧ s.flag CTX_CAP_EN x = true ∧
      match p with
      | .eth q _ _ => s.imgState = isLoaded ∧ s.flag ETH_CFG_EN q = true ∧ s.fld ETH_CFG_LINK q ≠ 0 ∧ s.pathUdp x = true
      | .pcie => s.imgState = isLoaded ∧ s.flag SYS_PWRSTAT_VSER = true ∧ s.pathPcie x = true ∧ g.heldAt ≠ some s.now
    let msg := [0xD7, 1, ty, 0] ++ beBytes 2 x ++ beBytes 2 b.length ++ beBytes 4 seq ++ beBytes 4 token ++ b
    let tagOk := (hmac256 (beBytes 32 key) msg).take 16 = beBytes 16 h.tag.toNat
    let H := s.fld CTX_SEQ x
    let marked := seq = 0 ∨ ∃ m ∈ g.marks, m.1 = seq
    let new := H ≠ 0xFFFFFFFF ∧ (H < seq ∨ (H < seq + 64 ∧ ¬marked))
    let others (z : State) : Prop := (∀ y, y ≠ x → z.gx y = s.gx y) ∧ s.OnlyParts z [.gw, .sent, .due]
    let refuses (status : Nat) : Prop := ∃ z : State, exec c s = .next z.settle ∧ (z.gx x).queue = g.queue ∧ (z.gx x).mtok = g.mtok ∧ (z.gx x).etok = g.etok ∧ (z.gx x).ring = g.ring
      ∧ z.fld CTX_SEQ x = max H seq ∧ z.fld CTX_STAT_REFUSED x = min (2 ^ CTX_STAT_REFUSED.len - 1) (s.fld CTX_STAT_REFUSED x + 1)
      ∧ (g.refHeld = false → z.due = [.fault ⟨137, x⟩] ∧ z.flag GW_INTST_REFUSE = true) ∧ (g.refHeld = true → z.due = [])
      ∧ s.GoesOut z x p key 0x81 token (s.Completion status 2 0 []) ∧ others z
    comes → g.key = some key → b.length ≤ 1024 →
      (¬tagOk → ∃ z : State, exec c s = .next z.settle ∧ (z.gx x).queue = g.queue ∧ z.fld CTX_SEQ x = H
        ∧ z.fld CTX_STAT_AUTHFAIL x = min (2 ^ CTX_STAT_AUTHFAIL.len - 1) (s.fld CTX_STAT_AUTHFAIL x + 1) ∧ (g.authHeld = false → z.due = [.fault ⟨136, x⟩])
        ∧ (g.authHeld = true → z.due = []) ∧ z.sent = s.sent ∧ others z)
      ∧ (tagOk → ¬new → ∃ t, exec c s = .next t ∧ (t.gx x).queue = g.queue ∧ t.fld CTX_SEQ x = H ∧ (t.gx x).mtok = g.mtok ∧ t.sent = s.sent ∧ others t
        ∧ ((∀ m ∈ g.marks, m.1 = seq → m.2 = port) → t.fld CTX_STAT_REPLAY x = min (2 ^ CTX_STAT_REPLAY.len - 1) (s.fld CTX_STAT_REPLAY x + 1))
        ∧ (∀ q, g.marks.find? (fun m => m.1 == seq) = some (seq, q) → q ≠ port → t.fld CTX_STAT_DUPPATH x = min (2 ^ CTX_STAT_DUPPATH.len - 1) (s.fld CTX_STAT_DUPPATH x + 1)))
      ∧ (tagOk → new →
        let form := k.offered ∧ token ≠ 0 ∧ k.form
        let paid := 256 ≤ g.mtok ∧ k.tokens ≤ g.etok
        (¬k.offered → refuses 0x02) ∧ (k.offered → token = 0 ∨ ¬k.form → refuses 0x01) ∧ (form → ¬k.cap → refuses 0x03) ∧ (form → k.cap → ¬k.grant → refuses 0x04)
        ∧ (form → k.cap → k.grant →
          (¬paid → refuses 0x05)
          ∧ (paid → (∃ o ∈ g.queue, o.token = token) → refuses 0x09)
          ∧ (paid → (∀ o ∈ g.queue, o.token ≠ token) →
            (∀ r, g.ring.find? (fun e => e.1 == token) = some r → ∃ z : State, exec c s = .next z.settle ∧ (z.gx x).queue = g.queue ∧ (z.gx x).ring = g.ring
              ∧ (z.gx x).mtok = g.mtok - 256 ∧ s.GoesOut z x p key r.2.1 token (r.2.2.set 1 (r.2.2.getD 1 0 ||| 1)) ∧ others z)
            ∧ ((∀ r ∈ g.ring, r.1 ≠ token) → (64 ≤ g.queue.length → refuses 0x06)
              ∧ (g.queue.length < 64 → ∃ t, exec c s = .next t ∧ (t.gx x).queue = g.queue ++ [⟨token, ty, b, port, false, []⟩]
                ∧ (t.gx x).mtok = g.mtok - 256 ∧ (t.gx x).etok = g.etok - k.tokens ∧ t.fld CTX_SEQ x = max H seq
                ∧ t.fld CTX_QSTAT_CMDLVL x = (g.queue.length + 1) % 2 ^ CTX_QSTAT_CMDLVL.len ∧ (∀ y, y ≠ x → t.gx y = s.gx y)
                ∧ s.Only t [.gw] [CTX_SEQ.addr x, CTX_QSTAT.addr x]))))))
  ∧ ∀ (s : State) (p : Path) (m : List Byte), s.Ready →
    let u (o n : Nat) : Nat := beNat (((m.map (·.toNat)).drop o).take n)
    let x := u 4 2
    let reach := s.imgState = isLoaded ∧ match p with
      | .eth q _ _ => s.flag ETH_CFG_EN q = true ∧ s.fld ETH_CFG_LINK q ≠ 0
      | .pcie => s.flag SYS_PWRSTAT_VSER = true ∧ 4 ≤ x ∧ x < 512 ∧ s.flag CTX_CAP_EN x = true ∧ s.pathPcie x = true ∧ (s.gx x).heldAt ≠ some s.now
    let c := Instr.dtpDroppedMessage p m
    let bad := m.length < 32 ∨ m.getD 0 0 ≠ 0xD7 ∨ m.getD 1 0 ≠ 1 ∨ u 6 2 % 4 ≠ 0 ∨ 1024 < u 6 2 ∨ m.length ≠ 32 + u 6 2
    let counts (f : Fld) : Prop := ∃ t, exec c s = .next t ∧ t.fld f = min (2 ^ f.len - 1) (s.fld f + 1)
      ∧ s.Only t (match p with | .eth _ _ _ => [] | .pcie => [.gw]) [GW_STAT.addr]
    (s.imgState ≠ isLoaded → exec c s = .next s)
    ∧ (∀ q ip udp, p = .eth q ip udp → ¬reach ∨ s.flag GW_CFG_EN = false → exec c s = .next s)
    ∧ (reach → s.flag GW_CFG_EN = true → (bad → counts GW_STAT_FORMAT)
      ∧ (¬bad → x < 4 ∨ 512 ≤ x ∨ s.flag CTX_CAP_EN x = false ∨ (s.gx x).key = none → counts GW_STAT_NOCTX)
      ∧ (¬bad → 4 ≤ x → x < 512 → s.flag CTX_CAP_EN x = true → (match p with | .eth _ _ _ => s.pathUdp x | .pcie => true) = true → (s.gx x).key ≠ none → 128 ≤ (m.getD 2 0).toNat → counts GW_STAT_FORMAT))

/-- DTP_CUT (R156, R184, R322): the urgent lane, past every queue and bucket, sets the cut latch of the granted channels of the mask, discards their queues and turns their pins off; it answers with the others, OK where there are none and NO_GRANT otherwise. Without the capability it is refused and nothing is cut. -/
def Obligations.UrgentLane : Prop :=
  ∀ (s : State) (p : Path) (h : DtpHeader) (mask : BitVec 128) (key : Nat), s.Ready →
    let x := h.ctx.toNat
    let b := bodyMask mask.toNat
    let g := s.gx x
    let seq := h.seq.toNat
    let comes := s.flag GW_CFG_EN = true ∧ 4 ≤ x ∧ x < 512 ∧ s.flag CTX_CAP_EN x = true ∧ s.imgState = isLoaded ∧
      match p with
      | .eth q _ _ => s.flag ETH_CFG_EN q = true ∧ s.fld ETH_CFG_LINK q ≠ 0 ∧ s.pathUdp x = true
      | .pcie => s.flag SYS_PWRSTAT_VSER = true ∧ s.pathPcie x = true ∧ g.heldAt ≠ some s.now
    let msg := [0xD7, 1, 2, 0] ++ beBytes 2 x ++ beBytes 2 16 ++ beBytes 4 seq ++ beBytes 4 h.token.toNat ++ b
    let new := s.fld CTX_SEQ x ≠ 0xFFFFFFFF ∧ (s.fld CTX_SEQ x < seq ∨ (s.fld CTX_SEQ x < seq + 64 ∧ seq ≠ 0 ∧ ∀ m ∈ g.marks, m.1 ≠ seq))
    comes → g.key = some key → (hmac256 (beBytes 32 key) msg).take 16 = beBytes 16 h.tag.toNat → new →
    (s.cap x capCut = false → ∃ z : State, exec (.dtpCut p h mask) s = .next z.settle ∧ z.chan = s.chan ∧ z.husk = s.husk ∧ (z.gx x).queue = g.queue ∧ (z.gx x).mtok = g.mtok
      ∧ z.fld CTX_STAT_REFUSED x = min (2 ^ CTX_STAT_REFUSED.len - 1) (s.fld CTX_STAT_REFUSED x + 1) ∧ s.GoesOut z x p key 0x81 h.token.toNat (s.Completion 0x03 6 0 []))
    ∧ (s.cap x capCut = true →
      let mine (c : Nat) : Prop := mask.getLsbD c = true ∧ s.grantCh x c = true
      let left := (List.range 4).map fun w => ((List.range 32).map fun j => if mask.getLsbD (32 * w + j) && !s.grantCh x (32 * w + j) then 2 ^ j else 0).sum
      let none_ := ∀ c < 128, mask.getLsbD c = true → s.grantCh x c = true
      let body (st : Nat) := s.Completion st 4 0 left
      ∃ z : State, exec (.dtpCut p h mask) s = .next z.settle ∧ (z.gx x).queue = g.queue ∧ (z.gx x).mtok = g.mtok ∧ (z.gx x).etok = g.etok
      ∧ (∀ c < 128, mine c → z.flag CH_STAT_CUTL c = true ∧ (z.ch c).queue = [] ∧ z.fld CH_EPOCH c = (s.fld CH_EPOCH c + 1) % 256
          ∧ (s.flag HSK_STAT_OUT c = true → (s.pd c).pulse = false → s.fallsBy c ((s.now + 2) * 32) = false → z.flag HSK_STAT_OUT c = false
            ∧ (z.hsk c).offAt = some ((s.now + 2) * 32)))
      ∧ (∀ c < 128, ¬mine c → z.ch c = s.ch c ∧ z.hsk c = s.hsk c ∧ z.flag CH_STAT_CUTL c = s.flag CH_STAT_CUTL c ∧ z.flag HSK_STAT_OUT c = s.flag HSK_STAT_OUT c)
      ∧ ((∃ c < 128, mine c) → z.fld GW_URGSTAT_CUTS = min (2 ^ GW_URGSTAT_CUTS.len - 1) (s.fld GW_URGSTAT_CUTS + 1))
      ∧ (none_ → (z.gx x).ring.getLast? = some (h.token.toNat, 0x81, body 0) ∧ s.GoesOut z x p key 0x81 h.token.toNat (body 0))
      ∧ (¬none_ → (z.gx x).ring.getLast? = some (h.token.toNat, 0x81, body 4) ∧ s.GoesOut z x p key 0x81 h.token.toNat (body 4)))

/-- OPERATION_EXECUTE, DOORBELL, PUBLISH_SEND and TOKEN_REFILL (R313, R319, R321, R325, R326, R330): the head of a queue is served by its type and leaves the queue with its completion in the ring and on its way: a READ and a WRITE make their accesses in ascending
address, the halves of a 64-bit register as one, up to the first bus error, a FLUSH writes CH_CMD, an UNCUT clears the cut latches of the granted channels, a SUBSCRIBE replaces the subscription of its kind; a SUBMIT hands its events to the channel and waits for their statuses. A doorbell hands the message buffer to the gateway, one in a TCLK. A publication sends what waits to the
peer of the last Ethernet port, and every bucket gains its rate up to its burst. -/
def Obligations.GatewayOperations : Prop :=
  (∀ (s : State) (x : Fin 512), s.Ready →
    ((s.gx x).queue = [] → exec (.operationExecute x) s = .next s)
    ∧ (∀ o rest, (s.gx x).queue = o :: rest →
      (o.run = true → exec (.operationExecute x) s = .next s)
      ∧ (o.run = false →
        let b := o.body
        let u (o n : Nat) : Nat := beNat ((b.drop o).take n)
        let n := b.getD 2 0
        let c := u 0 2
        let a := u 0 4
        let ends (y : State) (st i : Nat) (items : List Nat) : Prop := ∃ z : State, exec (.operationExecute x) s = .next z.settle
          ∧ (z.gx x).queue = rest ∧ (z.gx x).ring.getLast? = some (o.token, 0x81, y.Completion st 0 i items)
          ∧ (z.gx x).ring.length = min 64 ((y.gx x).ring.length + 1) ∧ z.fld CTX_QSTAT_CMDLVL x = rest.length % 2 ^ CTX_QSTAT_CMDLVL.len
          ∧ (∀ key, (y.gx x).key = some key → y.flag CTX_CAP_EN x = true → y.pathPcie x = false → y.pathUdp x = true → y.flag GW_CFG_TXMODE = false →
              ∀ pe, (y.gx x).peer.find? (·.1 == o.port) = some pe → z.sent = .udp o.port pe.2.1 pe.2.2
                (dtpBytes key 0x81 x ((y.fld CTX_TXSEQ x + 1) % 2 ^ 32) o.token (y.Completion st 0 i items)) :: y.sent)
          ∧ (∀ d, d ≠ x.val → z.gx d = y.gx d) ∧ y.Only z [.gw, .sent] [CTX_QSTAT.addr x, CTX_TXSEQ.addr x]
        (o.ty = dSubmit → ∃ t : State, exec (.operationExecute x) s = .next t.settle ∧ (t.gx x).queue = { o with run := true } :: rest
          ∧ (t.ch c).inbox = (s.ch c).inbox ++ (List.range n).map (fun i =>
              let w (k : Nat) : Word := BitVec.ofNat 32 (u (4 + 16 * i + 4 * k) 4)
              ⟨{ w0 := w 0, w1 := w 1, w2 := w 2, w3 := w 3, ctx := x, late := false, delayed := false, at_ := 0 }, true, 4, s.now, true⟩)
          ∧ (t.ch c).queue = (s.ch c).queue ∧ (∀ d, d ≠ c → t.ch d = s.ch d) ∧ (s.fnPending fnInjdly = false → s.Only t [.gw, .chan] []))
        ∧ (o.ty = dRead → ∀ σ : Nat → State, σ 0 = s → b.getD 4 0 ≤ 8 →
          let word (i : Nat) : Nat := (σ (i + 1)).bus.data.toNat % 2 ^ 32
          ((∀ i < b.getD 4 0, pairAt (a + 4 * i) = false ∨ i + 1 = b.getD 4 0) → (∀ i < b.getD 4 0, σ (i + 1) = (σ i).devRead (.gw x) (a + 4 * i) .b32) →
            ((∀ i < b.getD 4 0, (σ (i + 1)).bus.err = false) → ends (σ (b.getD 4 0)) sOk 0 ((List.range (b.getD 4 0)).map word))
            ∧ ∀ j < b.getD 4 0, (∀ i < j, (σ (i + 1)).bus.err = false) → (σ (j + 1)).bus.err = true → ends (σ (j + 1)) sBusError j ((List.range j).map word))
          ∧ (b.getD 4 0 = 2 → pairAt a = true →
            let y := s.devRead (.gw x) a .b64
            (y.bus.err = false → ends y sOk 0 [y.bus.data.toNat % 2 ^ 32, y.bus.data.toNat / 2 ^ 32]) ∧ (y.bus.err = true → ends y sBusError 0 [])))
        ∧ (o.ty = dWrite → ∀ σ : Nat → State, σ 0 = s →
          let m := b.getD 4 0
          let word (i : Nat) : Nat := u (8 + 4 * i) 4
          ((∀ i < m, pairAt (a + 4 * i) = false ∨ i + 1 = m) → (∀ i < m, σ (i + 1) = (σ i).devWrite (.gw x) (a + 4 * i) .b32 (word i)) →
            ((∀ i < m, (σ (i + 1)).bus.err = false) → ends (σ m) sOk 0 [])
            ∧ ∀ j < m, (∀ i < j, (σ (i + 1)).bus.err = false) → (σ (j + 1)).bus.err = true → ends (σ (j + 1)) sBusError j [])
          ∧ (m = 2 → pairAt a = true →
            let y := s.devWrite (.gw x) a .b64 (word 0 + word 1 * 2 ^ 32)
            (y.bus.err = false → ends y sOk 0 []) ∧ (y.bus.err = true → ends y sBusError 0 [])))
        ∧ (o.ty = dFlush →
          let y := s.devWrite (.gw x) (CH_CMD.addr c) .b32 (if b.getD 2 0 % 2 = 1 then 3 else 1)
          ends y (if y.bus.err then sBusError else sOk) 0 [])
        ∧ (o.ty = dUncut →
          let on (d : Nat) : Bool := u (4 * (d / 32)) 4 / 2 ^ (d % 32) % 2 == 1
          let left := (List.range 4).map fun w => ((List.range 32).map fun j => if on (32 * w + j) && !s.grantCh x (32 * w + j) then 2 ^ j else 0).sum
          ∃ y : State, (∀ d < 128, y.flag CH_STAT_CUTL d = (s.flag CH_STAT_CUTL d && !(on d && s.grantCh x d)))
            ∧ ((∀ d < 128, s.flag PAD_TEST_START d = false) → s.Only y [] ((List.range 128).map (CH_STAT.addr ·)))
            ∧ ((∀ d < 128, on d = true → s.grantCh x d = true) → ends y sOk 0 left) ∧ ((∃ d < 128, on d = true ∧ s.grantCh x d = false) → ends y sNoGrant 0 left))
        ∧ (o.ty = dSubscribe →
          let kind := b.getD 0 0
          let mask := (List.range 4).map fun w => u (4 + 4 * w) 4
          let bits := mask.getD 0 0 + mask.getD 1 0 * 2 ^ 32 + mask.getD 2 0 * 2 ^ 64 + mask.getD 3 0 * 2 ^ 96
          ∃ y : State, ends y sOk 0 [] ∧ s.Only y [.gw] [] ∧ (∀ d, d ≠ x.val → y.gx d = s.gx d)
            ∧ tget (0, 0) (y.gx x).sub kind = (if bits = 0 then (0, 0) else (u 2 2, bits)) ∧ (∀ k, k ≠ kind → tget (0, 0) (y.gx x).sub k = tget (0, 0) (s.gx x).sub k)
            ∧ (kind = 1 → (y.gx x).trkAt = s.now) ∧ (kind = 0 → bits = 0 → (y.gx x).pubQ = []))
        ∧ (o.ty = dEcho → ends s sOk 0 [])))
    ∧ (∀ len,
      let live := s.imgState = isLoaded ∧ s.flag SYS_PWRSTAT_VSER = true ∧ 4 ≤ x.val ∧ s.flag CTX_CAP_EN x = true ∧ s.pathPcie x = true
      (¬live → exec (.doorbell x len) s = .next s)
      ∧ (live → (s.gx x).heldAt = some s.now → exec (.doorbell x len) s = .next (s.bump CTX_STAT_REFUSED x))
      ∧ (∀ m : List Byte, m.length = min len 0x800 → (∀ i < m.length, (m.getD i 0).toNat = tget 0 (s.gx x).buf i) → beNat (((m.map (·.toNat)).drop 4).take 2) = x →
          exec (.doorbell x len) s = exec (.dtpDroppedMessage .pcie m) s)
      ∧ (∀ h c ty b k, Request s x .pcie h c ty b k → h.ctx.toNat = x → min len 0x800 = 32 + b.length →
          (∀ i < 32 + b.length, tget 0 (s.gx x).buf i = (tenantMsg h ty b).getD i 0) → exec (.doorbell x len) s = exec c s))
    ∧ (let g := s.gx x
      let due0 := 48 ≤ g.pubQ.length ∨ g.pubAt + subPeriod g 0 * 400 ≤ s.now
      let due1 := g.trkAt + max 100 (subPeriod g 1) * 400 ≤ s.now
      let ports := s.pathUdp x = true ∧ s.flag CTX_CAP_EN x = true ∧ s.flag GW_CFG_TXMODE = false
      let sends (t : State) (body : List Nat) : Prop := (∀ key pe, ports → g.key = some key → g.peer.find? (·.1 == g.port) = some pe →
            t.fld CTX_TXSEQ x = (s.fld CTX_TXSEQ x + 1) % 2 ^ 32
            ∧ t.sent = .udp g.port pe.2.1 pe.2.2 (dtpBytes key 0x84 x ((s.fld CTX_TXSEQ x + 1) % 2 ^ 32) 0 body) :: s.sent)
          ∧ (s.pathUdp x = false ∨ s.flag CTX_CAP_EN x = false ∨ g.key = none ∨ g.peer = [] → t.sent = s.sent ∧ t.fld CTX_TXSEQ x = s.fld CTX_TXSEQ x)
          ∧ (∀ d, d ≠ x.val → t.gx d = s.gx d) ∧ s.Only t [.gw, .sent] [CTX_TXSEQ.addr x]
      let trks := (List.range 6).filter fun n => subMask g 1 / 2 ^ n % 2 == 1
      (g.pubQ = [] ∨ ¬due0 → exec (.publishSend x 0) s = .next s)
      ∧ (g.pubQ ≠ [] → due0 → ∃ t, exec (.publishSend x 0) s = .next t ∧ (t.gx x).pubQ = g.pubQ.drop 48 ∧ (t.gx x).pubAt = s.now
          ∧ sends t ([0, min 48 g.pubQ.length, 0, 0] ++ (g.pubQ.take 48).flatMap fun ws => ws.flatMap (beBytes 4)))
      ∧ (subMask g 1 = 0 ∨ ¬due1 → exec (.publishSend x 1) s = .next s)
      ∧ (subMask g 1 ≠ 0 → due1 → ∃ t, exec (.publishSend x 1) s = .next t ∧ (t.gx x).trkAt = s.now
          ∧ sends t ([1, trks.length, 0, 0] ++ trks.flatMap fun n =>
              beBytes 4 (s.rd (TRK_STATE.addr n)).toNat ++ beBytes 4 (s.aw n) ++ beBytes 4 (s.rateNow n) ++ beBytes 4 (s.now % 2 ^ 32)))))
  ∧ ∀ s : State, s.Ready → ∃ t, exec .tokenRefill s = .next t ∧ s.Only t [.gw] []
    ∧ ∀ x, t.gx x = if 4 ≤ x ∧ x < 512 then
        { s.gx x with mtok := min (256 * s.fld CTX_MQUOTA_BURST x) ((s.gx x).mtok + s.fld CTX_MQUOTA_RATE x),
                      etok := min (256 * s.fld CTX_EQUOTA_BURST x) ((s.gx x).etok + s.fld CTX_EQUOTA_RATE x) }
      else s.gx x

/-! Links (chapters 11 and 14) -/

/-- HOST_QUEUE_FRAME, CAN_BUS_OFF, CAN_FRAME_RECEIVE, XSP_CMD_GO, XSP_CMD_DONE, LINK_STATE_CHANGE and VSER_THRESHOLD_CHANGE (R328, R331, R332, R333, R348, R376): a frame enters the host queue of
a live port, but not one too long or into a full queue, which are counted; a CAN controller in use raises its fault at bus-off and may accept a frame into its FIFO; a flash command runs from
GO to its end, but never in the running slot; a link shows its state, comes up only with VSER, and goes down with it. What the flash region of a command holds while it runs and after it is a free value (the model's choice, notes/assumptions/7). -/
def Obligations.Links : Prop :=
  (∀ s : State, s.Ready →
    (∀ (p : Fin 2) (f : List Byte),
      let q := tget [] s.links.hq p.val
      let up := s.imgState = isLoaded ∧ s.flag ETH_CFG_EN p = true ∧ s.fld ETH_CFG_LINK p ≠ 0
      (¬up → exec (.hostQueueFrame p f) s = .next s)
      ∧ (up → 2000 < f.length → exec (.hostQueueFrame p f) s = .next (s.bump ETH_CNT_OVERSIZE p))
      ∧ (up → f.length ≤ 2000 → 32 ≤ q.length → exec (.hostQueueFrame p f) s = .next (s.bump ETH_CNT_HQDROP p))
      ∧ (up → f.length ≤ 2000 → q.length < 32 → ∃ t, exec (.hostQueueFrame p f) s = .next t
          ∧ tget [] t.links.hq p.val = q ++ [f.map (·.toNat)] ∧ t.links = { s.links with hq := t.links.hq } ∧ s.Only t [.links] []))
    ∧ (∀ n : Fin 4,
      let used := s.imgState = isLoaded ∧ s.flag CAN_CFG_EN n = true
      (¬used → exec (.canBusOff n) s = .next s ∧ ∀ id d, exec (.canFrameReceive n id d) s = .next s)
      ∧ (used → exec (.canBusOff n) s = .next (s.raiseFault (92 + n.val)).settle)
      ∧ (used → ∀ (id : Word) (d : List Byte), 64 < d.length → s.flag CAN_CFG_XLEN n = false → exec (.canFrameReceive n id d) s = .next s)
      ∧ (used → ∀ (id : Word) (d : List Byte), d.length ≤ 64 ∨ s.flag CAN_CFG_XLEN n = true → ∃ t, exec (.canFrameReceive n id d) s = .next t
          ∧ (t.links = s.links ∨ ((tget [] s.links.can n.val).length < 64
              ∧ tget [] t.links.can n.val = tget [] s.links.can n.val ++ [(id.toNat, d.map (·.toNat), s.now)])) ∧ s.Only t [.links, .free] []))
    ∧ (s.links.xsp = none → ∀ ok, exec (.xspCmdDone ok) s = .next s)
    ∧ (∀ op f, s.links.xsp = some (op, f) → ∀ ok, ∃ t, exec (.xspCmdDone ok) s = .next t ∧ t.flag XSP_CMD_GO = false
        ∧ t.fld XSP_CMD_STATUS = (if ok then 1 else 2) ∧ t.links.xsp = none
        ∧ tget 0 t.links.flashVer (flashRegion f) = tget 0 s.links.flashVer (flashRegion f) + 1 ∧ s.Only t [.links] [XSP_CMD.addr])
    ∧ (∀ (p : Fin 2) (k : BitVec 3), exec (.linkStateChange (.eth p) false k) s = .next (s.setFld ETH_CFG_LINK 0 p)
        ∧ (s.flag SYS_PWRSTAT_VSER = true → 1 ≤ k.toNat → k.toNat ≤ 4 → exec (.linkStateChange (.eth p) true k) s = .next (s.setFld ETH_CFG_LINK k.toNat p))
        ∧ (s.flag SYS_PWRSTAT_VSER = false ∨ k.toNat = 0 ∨ 4 < k.toNat → exec (.linkStateChange (.eth p) true k) s = .next s))
    ∧ (s.flag SYS_PWRSTAT_VSER = false → ∀ k, exec (.linkStateChange .pci true k) s = .next s)
    ∧ (∀ k : BitVec 3, (∃ t, exec (.linkStateChange .pci false k) s = .next t ∧ t.links = { s.links with pciUp := false } ∧ s.Only t [.links, .free] [PCI_STAT.addr])
        ∧ (s.flag SYS_PWRSTAT_VSER = true → ∃ t, exec (.linkStateChange .pci true k) s = .next t ∧ t.links = { s.links with pciUp := true }
            ∧ t.fld PCI_STAT_SPEED = k.toNat % 2 ^ PCI_STAT_SPEED.len ∧ s.Only t [.links, .free] [PCI_STAT.addr]))
    ∧ (∀ n up k, exec (.linkStateChange (.can n) up k) s = .next s))
  ∧ (∀ (s : State) (by_ : Agent) (v : Word) (f : BitVec 28), s.due = [] → s.Admits by_ XSP_CMD.addr true v →
    let y := s.busOk.setFld XSP_CMD_OP (bitsOf v 0 8)
    (s.flag XSP_CMD_GO = true ∨ bitsOf v 8 1 = 0 → exec (.xspCmdGo by_ v f) s = .next y)
    ∧ (s.flag XSP_CMD_GO = false → bitsOf v 8 1 = 1 → s.fld IMG_STATUS_SLOT < 2 → flashRegion f.toNat = s.fld IMG_STATUS_SLOT →
        exec (.xspCmdGo by_ v f) s = .next (y.setFld XSP_CMD_STATUS 3))
    ∧ (s.flag XSP_CMD_GO = false → bitsOf v 8 1 = 1 → 2 ≤ s.fld IMG_STATUS_SLOT ∨ flashRegion f.toNat ≠ s.fld IMG_STATUS_SLOT → ∃ t,
        exec (.xspCmdGo by_ v f) s = .next t ∧ t.flag XSP_CMD_GO = true ∧ t.fld XSP_CMD_STATUS = 0 ∧ t.fld XSP_CMD_OP = bitsOf v 0 8
        ∧ t.links.xsp = some (bitsOf v 0 8, f.toNat) ∧ tget 0 t.links.flashVer (flashRegion f.toNat) = tget 0 s.links.flashVer (flashRegion f.toNat) + 1 ∧ s.Only t [.bus, .links] [XSP_CMD.addr]))
  ∧ ∀ s : State, s.due = [] → exec (.vserThresholdChange true) s = .next (s.setFlag SYS_PWRSTAT_VSER true)
    ∧ ∃ t, exec (.vserThresholdChange false) s = .next t ∧ t.flag SYS_PWRSTAT_VSER = false ∧ (∀ p : Fin 2, t.fld ETH_CFG_LINK p = 0)
      ∧ t.fld PCI_STAT_SPEED = 0 ∧ t.links = { s.links with pciUp := false }
      ∧ s.Only t [.links] [SYS_PWRSTAT.addr, ETH_CFG.addr 0, ETH_CFG.addr 1, PCI_STAT.addr]

/-! The combustion journal (chapter 12) -/

/-- RECORD_WRITE, RECORD_TIMEOUT and JREC_COMMIT (R32, R33, R335, R336, R337, R339, R342, R343, R344, R346, R347, R348, R350, R352): the head record of a stream that may write and has room is written to host memory, commit words it overwrites zeroed before it, its own
last, behind a PAD record where it would cross the ring's end, and HEADC and SEQ move on; over Yunae it goes in flight. Without a record, a live stream, room or the link nothing is written, and a record that the host may assemble asks for it first. A record that has waited STMO is lost, and one in flight that long is abandoned with all.
A host decision stores its handle and length, each unless the hardware has updated it in this TCLK (R11), and gives the waiting record its body, is late without a request, and is refused for a wrong handle or a length above 4 064. -/
def Obligations.JournalRecords : Prop :=
  (∀ (s : State) (j : Fin 16), s.Ready →
    let x := s.str j
    let live := s.jsState j = jsUp ∨ s.jsState j = jsDraining
    let yunae := s.flag JS_CFG_TRANSPORT j
    (x.fifo = [] → exec (.recordWrite j) s = .next s)
    ∧ (¬live → exec (.recordWrite j) s = .next s)
    ∧ (∀ q rest, x.fifo = q :: rest → live →
      let asks := s.hostMode fnJrec 0 = true ∧ q.r.ty = 2 ∧ q.r.nobody = false ∧ q.r.hostbody = false
      let size := 2 ^ s.fld JS_CFG_S j
      let len := 32 * (1 + (q.r.body.length + 31) / 32)
      let h := s.wide JS_HEADC j
      let pad := if size < h % size + len then size - h % size else 0
      let seq := s.wide JS_SEQ j
      let room := s.flag JS_CFG_POLICY j = true ∨ h + pad + len + (if q.r.ty = 1 then 8 else 192) ≤ s.wide JS_RELC j + size
      (asks → s.jrnReq ≠ none → exec (.recordWrite j) s = .next s)
      ∧ (asks → s.jrnReq = none → ∃ z : State, exec (.recordWrite j) s = .next z.settle ∧ z.jrnReq = some ⟨j, (s.jrnHandle + 1) % 256⟩
          ∧ z.fld JRN_HDEC_HANDLE = (s.jrnHandle + 1) % 256 ∧ z.flag JRN_HDEC_REQ = true ∧ z.fld JRN_HREQ_SRC = q.r.src % 2 ^ JRN_HREQ_SRC.len
          ∧ z.str j = x ∧ z.sent = s.sent ∧ z.wide JS_HEADC j = h)
      ∧ (¬asks → ¬room ∨ (yunae = false ∧ s.links.pciUp = false) → exec (.recordWrite j) s = .next s)
      ∧ (¬asks → room → yunae = true ∨ s.links.pciUp = true → ∃ z : State, exec (.recordWrite j) s = .next z.settle ∧ (z.str j).fifo = rest
          ∧ z.wide JS_HEADC j = (h + pad + len) % 2 ^ 64 ∧ z.wide JS_SEQ j = (if pad = 0 then (seq + 1) % 2 ^ 44 else ((seq + 1) % 2 ^ 44 + 1) % 2 ^ 44)
          ∧ (∀ i, i ≠ j.val → (z.str i).fifo = (s.str i).fifo ∧ z.wide JS_HEADC i = s.wide JS_HEADC i)
          ∧ (yunae = true → (z.str j).flight.map (fun f => (f.seq, f.commit.addr)) = x.flight.map (fun f => (f.seq, f.commit.addr))
              ++ (if pad = 0 then [(seq, s.wide JS_BASE j + h % size)] else [(seq, s.wide JS_BASE j + h % size), ((seq + 1) % 2 ^ 44, s.wide JS_BASE j)]))
          ∧ (yunae = false →
            let base := s.wide JRN_PCIBASE + s.wide JS_BASE j
            let commit (n units ty : Nat) : List Nat := leBytes 8 (n * 2 ^ 20 + units % 256 * 2 ^ 12 + ty % 16 * 2 ^ 8 + 0xA5)
            let next := (h + len) % size
            let flags := (if q.r.nobody then 1 else 0) + (if q.r.hostbody then 2 else 0) + (if q.r.cont then 4 else 0) + (if q.r.nosync then 8 else 0)
            let data := leBytes 8 q.r.tb ++ leBytes 4 q.r.aw ++ leBytes 2 q.r.src ++ [q.r.ty, flags] ++ leBytes 2 q.r.origin ++ [q.r.trk, 0] ++ leBytes 2 q.r.body.length ++ [0, 0]
              ++ q.r.body ++ List.replicate (len - 32 - q.r.body.length) 0 ++ (if next = 0 then [] else List.replicate 8 0)
            let old := if s.flag JS_CFG_POLICY j then x.starts.takeWhile fun c => decide (c + size < h + len + 8) else []
            (pad = 0 → q.r.ty ≠ 0 → seq < 2 ^ 44 → z.sent = .pcie (base + h % size) (commit seq (len / 32) q.r.ty) :: ((if next = 0 then [.pcie base (List.replicate 8 0)] else [])
              ++ ((List.range ((data.length + 255) / 256)).map fun i => Sent.pcie (base + h % size + 8 + 256 * i) ((data.drop (256 * i)).take 256)).reverse
              ++ (old.map fun c => Sent.pcie (base + c % size) (List.replicate 8 0)).reverse ++ s.sent))
            ∧ (pad ≠ 0 → seq + 1 < 2 ^ 44 → z.sent.head? = some (.pcie base (commit (seq + 1) (len / 32) q.r.ty)) ∧ .pcie (base + h % size) (commit seq (max 1 (pad / 32)) 0) ∈ z.sent))))
    ∧ (let stale (t : Nat) : Prop := t + s.fld JS_TMO_STMO j * 400 ≤ s.now
      let lost := (x.fifo.filter fun q => decide (q.at_ + s.fld JS_TMO_STMO j * 400 ≤ s.now)).length
      let g := x.gap.getD ⟨0, 0, 0, s.now, s.now, []⟩
      ((∃ f ∈ x.flight, stale f.at_) → ∃ z : State, exec (.recordTimeout j) s = .next z.settle ∧ (z.str j).fifo = [] ∧ (z.str j).flight = [] ∧ (z.str j).unacked = []
        ∧ z.jsState j = (if s.jsState j = jsUp then jsDown else s.jsState j) ∧ .fault ⟨112 + j.val, 0⟩ ∈ z.due ∧ z.flag JS_INTST_DOWN j = true
        ∧ (∃ g', (z.str j).gap = some g' ∧ g'.abCnt = g.abCnt + x.flight.length ∧ g'.lost = g.lost + x.fifo.length) ∧ z.sent = s.sent)
      ∧ ((∀ f ∈ x.flight, ¬stale f.at_) → (lost = 0 → exec (.recordTimeout j) s = .next s)
        ∧ (lost ≠ 0 → ∃ z : State, exec (.recordTimeout j) s = .next z.settle ∧ (z.str j).fifo = x.fifo.filter (fun q => decide (s.now < q.at_ + s.fld JS_TMO_STMO j * 400))
          ∧ (z.str j).flight = x.flight ∧ z.jsState j = s.jsState j ∧ (∃ g', (z.str j).gap = some g' ∧ g'.lost = g.lost + lost ∧ g'.abCnt = g.abCnt)
          ∧ (g.lost = 0 → .fault ⟨96 + j.val, 0⟩ ∈ z.due ∧ z.flag JS_INTST_LOSS j = true) ∧ z.sent = s.sent))))
  ∧ ∀ (s : State) (by_ : Agent) (v : Word), s.due = [] → s.Admits by_ JRN_HDEC.addr true v →
    let kept (f : Fld) (w : Nat) : Nat := if bitsOf (s.baseRd JRN_HDEC.addr) f.lo f.len = s.fld f then w else s.fld f
    let stored (t : State) : Prop := t.fld JRN_HDEC_HANDLE = kept JRN_HDEC_HANDLE (bitsOf v 16 8) ∧ t.fld JRN_HDEC_BLEN = kept JRN_HDEC_BLEN (bitsOf v 0 13)
    (bitsOf v 27 1 = 0 → ∃ t, exec (.jrecCommit by_ v) s = .next t ∧ stored t ∧ t.fld JRN_HDEC_RESULT = s.fld JRN_HDEC_RESULT ∧ s.Only t [.bus] [JRN_HDEC.addr])
    ∧ (bitsOf v 27 1 = 1 →
      (s.jrnReq = none → ∃ t, exec (.jrecCommit by_ v) s = .next t ∧ stored t ∧ t.fld JRN_HDEC_RESULT = 2
        ∧ t.fld SYS_FNSTAT_LATE = min (2 ^ SYS_FNSTAT_LATE.len - 1) (s.fld SYS_FNSTAT_LATE + 1) ∧ s.Only t [.bus] [JRN_HDEC.addr, SYS_FNSTAT.addr])
      ∧ ∀ r, s.jrnReq = some r →
        (bitsOf v 16 8 ≠ r.handle → ∃ t, exec (.jrecCommit by_ v) s = .next t ∧ stored t ∧ t.fld JRN_HDEC_RESULT = 4 ∧ s.Only t [.bus] [JRN_HDEC.addr])
        ∧ (bitsOf v 16 8 = r.handle → 4064 < bitsOf v 0 13 → ∃ t, exec (.jrecCommit by_ v) s = .next t ∧ stored t ∧ t.fld JRN_HDEC_RESULT = 3 ∧ s.Only t [.bus] [JRN_HDEC.addr])
        ∧ (bitsOf v 16 8 = r.handle → bitsOf v 0 13 ≤ 4064 → ∀ q rest, (s.str r.stream).fifo = q :: rest → ∃ t, exec (.jrecCommit by_ v) s = .next t ∧ stored t
            ∧ t.jrnReq = none ∧ t.fld JRN_HDEC_RESULT = 1 ∧ t.flag JRN_HDEC_REQ = false ∧ t.askOf fnJrec 0 = none
            ∧ (t.str r.stream).fifo = { q with r := { q.r with
                body := ((List.range 1024).flatMap fun i => leBytes 4 (s.rd (JRN_HBUF.addr i)).toNat).take (bitsOf v 0 13), hostbody := true } } :: rest
            ∧ (∀ k, k ≠ r.stream → t.str k = s.str k) ∧ s.Only t [.bus, .strm, .jrnReq, .ask] [JRN_HDEC.addr]))

/-- YUNAE_ACK, RETRANSMIT_TIMEOUT, PROBE_SEND, RELC_WRITE, STREAM_ENABLE, STREAM_DISABLE and STREAM_DRAINED (R345, R347, R349, R350, R353): an acknowledgement takes every frame up to its FSEQ away, and every flight whose commit it covers,
and that of the probe takes a stream that is DOWN up again; the frames are sent again after RTO, RETRY times, and then the stream abandons its flights and records and is DOWN. RELC takes a count of whole units up to HEADC, and any other
write is an error. A stream in OFF that is enabled starts empty, one that is disabled drains, and a draining one that is empty enters OFF. -/
def Obligations.Streams : Prop :=
  (∀ (s : State) (j : Fin 16), s.Ready →
    let x := s.str j
    let k := s.fld JS_CFG_YDST j
    let sent (t : State) (n : Nat) : Prop := t.sent.length = s.sent.length + n ∧ t.sent.drop n = s.sent
      ∧ ∀ o ∈ t.sent.take n, ∃ ip data, o = .udp (s.fld JRN_YDSTCFG_ETH k) ip (s.fld JRN_YDSTCFG_PORT k) data
    (∀ f : Word, s.jsState j = jsDown → x.probe = some f.toNat → ∃ t, exec (.yunaeAck j f) s = .next t ∧ t.jsState j = jsUp
      ∧ t.str j = { x with probe := none, late := [] } ∧ s.Only t [.strm] [JS_CNT1.addr j])
    ∧ (∀ f : Word, s.jsState j ≠ jsDown ∨ x.probe ≠ some f.toNat →
        let covers (n : Nat) : Bool := decide ((f.toNat + 2 ^ 32 - n % 2 ^ 32) % 2 ^ 32 < 2 ^ 31)
        let left := x.unacked.filter fun u => !covers u.1.fseq
        let flights := x.flight.filter fun l => match l.commitSent with | some n => !covers n | none => true
        ∃ t, exec (.yunaeAck j f) s = .next t ∧ (∃ new, (t.str j).unacked = left ++ new ∧ sent t new.length ∧ (s.fld JS_CFG_WIN j ≤ left.length → new = []))
          ∧ (t.str j).flight.map (·.seq) = flights.map (·.seq) ∧ (t.str j).fifo = x.fifo ∧ t.jsState j = s.jsState j
          ∧ (t.str j).resends = (if left.length < x.unacked.length then 0 else x.resends)
          ∧ t.fld JRN_CNT_LATECOMP = min (2 ^ JRN_CNT_LATECOMP.len - 1) (s.fld JRN_CNT_LATECOMP + (x.late.filter covers).length)
          ∧ (∀ i, i ≠ j.val → t.str i = s.str i) ∧ s.Only t [.strm, .sent, .free] [JRN_CNT.addr])
    ∧ (x.unacked = [] → exec (.retransmitTimeout j) s = .next s)
    ∧ (∀ u m l, x.unacked = (u, m) :: l →
      let due := m + s.fld JS_TMO_RTO j * 10 * 400
      let g := x.gap.getD ⟨0, 0, 0, s.now, s.now, []⟩
      (s.now < due → exec (.retransmitTimeout j) s = .next s)
      ∧ (due ≤ s.now → s.fld JS_TMO_RETRY j ≤ x.resends → ∃ z : State, exec (.retransmitTimeout j) s = .next z.settle ∧ (z.str j).fifo = [] ∧ (z.str j).flight = []
        ∧ (z.str j).unacked = [] ∧ z.jsState j = (if s.jsState j = jsUp then jsDown else s.jsState j) ∧ .fault ⟨112 + j.val, 0⟩ ∈ z.due ∧ z.flag JS_INTST_DOWN j = true
        ∧ (∃ g', (z.str j).gap = some g' ∧ g'.abCnt = g.abCnt + x.flight.length ∧ g'.lost = g.lost + x.fifo.length) ∧ z.sent = s.sent)
      ∧ (due ≤ s.now → x.resends < s.fld JS_TMO_RETRY j → ∃ t, exec (.retransmitTimeout j) s = .next t ∧ sent t x.unacked.length
          ∧ t.str j = { x with resends := x.resends + 1, unacked := x.unacked.map fun u => (u.1, s.now) }
          ∧ t.fld JS_CNT1_RETX j = min (2 ^ JS_CNT1_RETX.len - 1) (s.fld JS_CNT1_RETX j + 1) ∧ s.Only t [.strm, .sent, .free] [JS_CNT1.addr j]))
    ∧ (let due := s.jsState j = jsDown ∧ s.flag JS_CFG_TRANSPORT j = true ∧ x.probeAt + s.fld JS_TMO_STMO j * 400 ≤ s.now
      (¬due → exec (.probeSend j) s = .next s)
      ∧ (due → ∃ t, exec (.probeSend j) s = .next t ∧ t.str j = { x with probe := some x.fseq, probeAt := s.now, fseq := (x.fseq + 1) % 2 ^ 32 }
          ∧ sent t 1 ∧ s.Only t [.strm, .sent, .free] []))
    ∧ (s.jsState j = jsDraining → x.fifo = [] → x.flight = [] → ∃ t, exec (.streamDrained j) s = .next t ∧ t.jsState j = jsOff
        ∧ t.str j = { Strm.zero with fseq := x.fseq } ∧ s.Only t [.strm] [JS_CNT1.addr j])
    ∧ (s.jsState j ≠ jsDraining ∨ x.fifo ≠ [] ∨ x.flight ≠ [] → exec (.streamDrained j) s = .next s))
  ∧ ∀ (s : State) (by_ : Agent) (j : Fin 16), s.due = [] →
    (∀ v : BitVec 64, s.Admits by_ (JS_RELC.addr j) true (BitVec.ofNat 32 v.toNat) →
      let good := v.toNat % 32 = 0 ∧ s.wide JS_RELC j ≤ v.toNat ∧ v.toNat ≤ s.wide JS_HEADC j
      (good → ∃ t, exec (.relcWrite by_ j v) s = .next t ∧ t.wide JS_RELC j = v.toNat ∧ s.Only t [.bus] [JS_RELC.addr j, JS_RELC.addr j + 4])
      ∧ (¬good → ∃ t, exec (.relcWrite by_ j v) s = .next t ∧ t.fld JS_CNT1_RELERR j = min (2 ^ JS_CNT1_RELERR.len - 1) (s.fld JS_CNT1_RELERR j + 1)
          ∧ s.Only t [.bus] [JS_CNT1.addr j]))
    ∧ (s.Admits by_ (JS_CTRL.addr j) true 1 →
      (s.jsState j = jsOff → ∃ t, exec (.streamEnable by_ j) s = .next t ∧ t.jsState j = jsUp ∧ t.flag JS_CTRL_EN j = true ∧ t.wide JS_HEADC j = 0
        ∧ t.wide JS_RELC j = 0 ∧ t.wide JS_TAILC j = 0 ∧ t.wide JS_SEQ j = 1 ∧ t.str j = { Strm.zero with fseq := (s.str j).fseq }
        ∧ s.Only t [.bus, .strm] ([JS_CTRL.addr j, JS_CNT1.addr j] ++ [JS_HEADC, JS_RELC, JS_TAILC, JS_SEQ].flatMap fun f => [f.addr j, f.addr j + 4]))
      ∧ (s.jsState j ≠ jsOff → ∃ t, exec (.streamEnable by_ j) s = .next t ∧ t.flag JS_CTRL_EN j = true ∧ t.jsState j = s.jsState j ∧ s.Only t [.bus] [JS_CTRL.addr j]))
    ∧ (s.Admits by_ (JS_CTRL.addr j) true 0 → ∃ t, exec (.streamDisable by_ j) s = .next t ∧ t.flag JS_CTRL_EN j = false
        ∧ t.jsState j = (if s.jsState j = jsUp ∨ s.jsState j = jsDown then jsDraining else s.jsState j) ∧ s.Only t [.bus] [JS_CTRL.addr j, JS_CNT1.addr j])

/-! The fault collector and the classifier (chapter 13) -/

/-- COOLDOWN_END, TPERM_EXPIRY, FORGIVENESS and RETRY_COUNT_RESET (R157, R199, R362, R363): at the end of a cool-down a continuing fault or heat holds the channel; otherwise it
retries in hardware mode and asks for a decision in host-assisted mode. A continuing fault of T_PERM retires the channel. B falls by one FP after it last changed,
and the retries are forgotten when the pad has been NORMAL for FP since the last one. None of them has an effect before its time. -/
def Obligations.Classifier : Prop :=
  ∀ (s : State) (c : Fin 128), s.Ready →
    let b := s.clsOf c
    let fp := s.fld FCO_CLS0_FP * 400000
    (s.fld FCO_BKT_CSTATE c ≠ csCool ∨ s.now < b.coolEnd → exec (.cooldownEnd c) s = .next s)
    ∧ (s.fld FCO_BKT_CSTATE c = csCool → b.coolEnd ≤ s.now →
      ((s.pd c).cont = true ∨ b.hot = true → ∃ t, exec (.cooldownEnd c) s = .next t ∧ t.fld FCO_BKT_CSTATE c = csHold ∧ t.fld FCO_BKT_B c = s.fld FCO_BKT_B c
          ∧ t.fld FCO_BKT_RC c = s.fld FCO_BKT_RC c ∧ s.Only t [] [FCO_BKT.addr c])
      ∧ ((s.pd c).cont = false → b.hot = false → ∃ x : State, exec (.cooldownEnd c) s = .next x.settle ∧ s.Released x c
          ∧ (∀ d, d ≠ c.val → x.pd d = s.pd d ∧ x.clsOf d = s.clsOf d) ∧ s.OnlyParts x [.pad, .cls, .fco, .ask, .due, .free]))
    ∧ (b.contSince = none → exec (.tpermExpiry c) s = .next s)
    ∧ (∀ t, b.contSince = some t →
      (s.now < t + s.fld FCO_CLS1_TPERM * 400000 ∨ s.retired c = true → exec (.tpermExpiry c) s = .next s)
      ∧ (t + s.fld FCO_CLS1_TPERM * 400000 ≤ s.now → s.retired c = false → ∃ x : State, exec (.tpermExpiry c) s = .next x.settle ∧ s.Retires x c (256 + c)
          ∧ ∀ d, d ≠ c.val → x.pd d = s.pd d ∧ x.clsOf d = s.clsOf d ∧ x.ch d = s.ch d ∧ x.hsk d = s.hsk d))
    ∧ (s.fld FCO_BKT_B c = 0 ∨ s.now < b.changedAt + fp → exec (.forgiveness c) s = .next s)
    ∧ (s.fld FCO_BKT_B c ≠ 0 → b.changedAt + fp ≤ s.now → ∃ t, exec (.forgiveness c) s = .next t
        ∧ t.fld FCO_BKT_B c = s.fld FCO_BKT_B c - 1 ∧ t.clsOf c = { b with changedAt := s.now } ∧ s.Only t [.cls] [FCO_BKT.addr c])
    ∧ (s.fld PAD_STAT_STATE c ≠ padNormal ∨ s.now < b.retryAt + fp ∨ s.now < (s.pd c).normalAt + fp → exec (.retryCountReset c) s = .next s)
    ∧ (s.fld PAD_STAT_STATE c = padNormal → b.retryAt + fp ≤ s.now → (s.pd c).normalAt + fp ≤ s.now → ∃ t, exec (.retryCountReset c) s = .next t
        ∧ t.fld FCO_BKT_RC c = 0 ∧ t.fld FCO_BKT_B c = s.fld FCO_BKT_B c ∧ s.Only t [] [FCO_BKT.addr c])

/-- RETRY_DECISION, RETIRE_CLEAR, CONTINUING_FAULT_ENDS and DRIVER_THERMAL_RELEASE (R194, R199, R201, R362, R363, R364, R365): a decision on an outstanding request retries the channel or
fails it, which adds to its bucket and its retries and then cools or retires it; one without a request, or from its deadline or the end of T_PERM on, is late. RCLR clears the retirement of a channel whose test has passed: its bucket, retries and
cause go to 0, and a test that still runs ends with NOT_OFF unless the channel is cut. A continuing fault that ends takes its source's level away, and heat that ends frees the channel, which leaves HOLD when neither remains. -/
def Obligations.RetryDecisions : Prop :=
  (∀ (s : State) (by_ : Agent) (v : Word), s.due = [] →
    (s.Admits by_ FCO_RDEC.addr true v →
      let c := bitsOf v 0 7
      let open_ := s.bankBit FCO_RREQ c = true ∧ (∃ d, s.askOf fnRetry c = some d ∧ s.now < d)
        ∧ ∀ t, (s.clsOf c).contSince = some t → s.now < t + s.fld FCO_CLS1_TPERM * 400000
      let answered (x : State) : Prop := x.fld FCO_RDEC_RESULT = 1 ∧ x.fld FCO_RDEC_CH = c ∧ x.bankBit FCO_RREQ c = false ∧ x.askOf fnRetry c = none
        ∧ ∀ d, d ≠ c → x.pd d = s.pd d ∧ x.clsOf d = s.clsOf d
      (¬open_ → ∃ t, exec (.retryDecision by_ v) s = .next t ∧ t.fld FCO_RDEC_RESULT = 2 ∧ t.fld FCO_RDEC_CH = c
        ∧ t.fld SYS_FNSTAT_LATE = min (2 ^ SYS_FNSTAT_LATE.len - 1) (s.fld SYS_FNSTAT_LATE + 1)
        ∧ t.fld FCO_CNT_LATECOMP = min (2 ^ FCO_CNT_LATECOMP.len - 1) (s.fld FCO_CNT_LATECOMP + 1) ∧ s.Only t [.bus] [FCO_RDEC.addr, SYS_FNSTAT.addr, FCO_CNT.addr])
      ∧ (open_ → bitsOf v 31 1 = 1 → ∃ x : State, exec (.retryDecision by_ v) s = .next x.settle ∧ s.Retries x c ∧ answered x)
      ∧ (open_ → bitsOf v 31 1 = 0 →
        let b := min 15 (s.fld FCO_BKT_B c + 1)
        let rc := min 15 (s.fld FCO_BKT_RC c + 1)
        let spent := s.fld FCO_CLS1_RETIRE_AT ≤ b ∨ s.fld FCO_CLS1_RETRY_MAX ≤ rc
        ∃ x : State, exec (.retryDecision by_ v) s = .next x.settle ∧ x.fld FCO_BKT_B c = b ∧ x.fld FCO_BKT_RC c = rc ∧ answered x
          ∧ (∃ r : Rec, .record r ∈ x.due ∧ r.ty = 0x05 ∧ r.src = 256 + c ∧ r.body.getD 2 0 = 5)
          ∧ (¬spent → s.Cools x c) ∧ (spent → s.retired c = false → s.Retires x c (256 + c))))
    ∧ (s.Admits by_ FCO_RCLR.addr true v →
      let c := bitsOf v 0 7
      let refused (n : Nat) : Prop := ∃ t, exec (.retireClear by_ v) s = .next t ∧ t.fld FCO_RCLR_RESULT = n ∧ s.Only t [.bus] [FCO_RCLR.addr]
      (s.retired c = false → refused 2)
      ∧ (s.retired c = true → (s.pd c).passOk = false → refused 3)
      ∧ (s.retired c = true → (s.pd c).passOk = true → ∃ (x : State) (r : Rec), exec (.retireClear by_ v) s = .next x.settle ∧ x.retired c = false
          ∧ x.fld FCO_RCLR_RESULT = 1 ∧ x.fld FCO_BKT_CSTATE c = csIdle ∧ x.fld FCO_BKT_B c = 0 ∧ x.fld FCO_BKT_RC c = 0
          ∧ x.fld PAD_STAT_CAUSE c = 0 ∧ (s.flag PAD_TEST_START c = false → x.fld PAD_STAT_STATE c = padNormal)
          ∧ (s.flag PAD_TEST_START c = true → s.flag CH_STAT_CUTL c = false → x.flag PAD_TEST_START c = false ∧ x.fld PAD_TEST_RESULT c = 3
            ∧ (s.fld PAD_STAT_STATE c = padTest → x.fld PAD_STAT_STATE c = padNormal))
          ∧ (s.flag PAD_TEST_START c = true → s.flag CH_STAT_CUTL c = true → x.flag PAD_TEST_START c = true ∧ x.fld PAD_STAT_STATE c = s.fld PAD_STAT_STATE c)
          ∧ x.due = [.record r] ∧ r.ty = 0x05 ∧ r.src = 256 + c ∧ r.body.getD 2 0 = 3 ∧ ∀ d, d ≠ c → x.pd d = s.pd d ∧ x.clsOf d = s.clsOf d)))
  ∧ ∀ s : State, s.Ready →
    (∀ c : Fin 128,
      let hold := s.fld FCO_BKT_CSTATE c = csHold ∧ (s.clsOf c).hot = false
      let ended (x : State) : Prop := (x.pd c).cont = false ∧ x.bankBit FCO_ACT (256 + c) = false ∧ (x.clsOf c).contSince = none
        ∧ ∀ d, d ≠ c.val → x.pd d = s.pd d ∧ x.clsOf d = s.clsOf d
      (¬hold → ∃ t, exec (.continuingFaultEnds c) s = .next t ∧ ended t ∧ s.Only t [.pad, .cls] [FCO_ACT.addr ((256 + c.val) / 32)])
      ∧ (hold → ∃ x : State, exec (.continuingFaultEnds c) s = .next x.settle ∧ ended x ∧ s.Released x c))
    ∧ ∀ d : Fin 16,
      let c := 112 + d.val
      let hold := s.fld FCO_BKT_CSTATE c = csHold ∧ (s.pd c).cont = false
      (¬hold → exec (.driverThermalRelease d) s = .next (s.setCls c { s.clsOf c with hot := false }))
      ∧ (hold → ∃ x : State, exec (.driverThermalRelease d) s = .next x.settle ∧ (x.clsOf c).hot = false ∧ s.Released x c
          ∧ ∀ e, e ≠ c → x.pd e = s.pd e ∧ x.clsOf e = s.clsOf e)

/-- PLL_LOSS, RAIL_UNDERVOLTAGE, DIE_TEMP_ALARM and LEVEL_SOURCE_ENDS (R356, R357, R358, R359, R373, R378): a level source that becomes active raises once, with its data, and one that is active
already raises no more; the loss of PLL_T or REFCLK takes the asynchronous path; at its end the source is inactive and its rail shows good. A raise of severity 7 stops there; any other is pending and counted; severity 5 and below is logged with its reaction, data and count; severity 4 shows NORMAL and 3 and below URGENT; severity 0, and 1 of a source without groups, sets the global latch, and 1 the latches of the
source's groups; 2 acts as 3 on a source without a channel. -/
def Obligations.LevelSources : Prop :=
  ∀ s : State, s.Ready →
    let raises (i : Instr) (k data : Nat) : Prop := ∃ x : State, exec i s = .next x.settle ∧ x.bankBit FCO_ACT k = true ∧ x.due = [.fault ⟨k, data⟩]
      ∧ (k < 3 → x.fco = { s.fco with async := s.fco.async || k != 0 } ∧ s.Only x [.due, .fco] [FCO_ACT.addr 0])
      ∧ (3 ≤ k → k ≤ 5 → x.flag (railBit (k - 3)) = false ∧ s.Only x [.due] [FCO_ACT.addr 0, SYS_PWRSTAT.addr])
      ∧ (6 ≤ k → s.Only x [.due] [FCO_ACT.addr 0])
      ∧ let t := x.settle
        let sev := s.fld FCO_SRC_SEV k
        let act := if sev = 1 ∧ s.fld FCO_SRC_GMASK k = 0 then 0 else if sev = 2 then 3 else sev
        let n := tget 0 s.fco.counts k
        (sev = 7 → t.bankBit FCO_PEND k = s.bankBit FCO_PEND k ∧ tget 0 t.fco.counts k = n)
        ∧ (sev ≠ 7 → t.bankBit FCO_PEND k = true ∧ tget 0 t.fco.counts k = n + 1)
        ∧ (sev ≤ 5 → s.fco.log.length < 32 → n < 0xFFFFFFFF → ⟨0, act, sev, k, s.now % 2 ^ 32, data, n + 1⟩ ∈ t.fco.log)
        ∧ (sev = 4 → t.flag FCO_INTST_NORMAL = true) ∧ (sev ≤ 3 → t.flag FCO_INTST_URGENT = true)
        ∧ (act = 0 → t.flag FCO_GSAFE_ALL = true ∧ t.flag FCO_INTST_SAFE = true)
        ∧ (act = 1 → ∀ g < 16, s.fld FCO_SRC_GMASK k / 2 ^ g % 2 = 1 → t.fld FCO_GSAFE_GRP / 2 ^ g % 2 = 1)
    (∀ w : Fin 3, (s.bankBit FCO_ACT w.val = false → raises (.pllLoss w) w.val 0)
      ∧ (s.bankBit FCO_ACT w.val = true → ∃ t, exec (.pllLoss w) s = .next t ∧ t.fco = { s.fco with async := s.fco.async || w.val != 0 } ∧ s.Only t [.fco] []))
    ∧ (∀ r : Fin 3, (s.bankBit FCO_ACT (3 + r.val) = false → raises (.railUndervoltage r) (3 + r.val) 0)
      ∧ (s.bankBit FCO_ACT (3 + r.val) = true → ∃ t, exec (.railUndervoltage r) s = .next t ∧ t.flag (railBit r.val) = false ∧ s.Only t [] [SYS_PWRSTAT.addr]))
    ∧ (∀ (crit : Bool) (t : BitVec 16),
      let k := if crit then 7 else 6
      (s.bankBit FCO_ACT k = true → exec (.dieTempAlarm crit t) s = .next s) ∧ (s.bankBit FCO_ACT k = false → raises (.dieTempAlarm crit t) k t.toNat))
    ∧ ∀ k : Fin 8, ∃ t, exec (.levelSourceEnds k) s = .next t ∧ t.bankBit FCO_ACT k.val = false
      ∧ (∀ j, j < 512 → j ≠ k.val → t.bankBit FCO_ACT j = s.bankBit FCO_ACT j)
      ∧ (3 ≤ k.val → k.val ≤ 5 → t.flag (railBit (k.val - 3)) = true)
      ∧ t.fco = { s.fco with async := s.fco.async && (t.bankBit FCO_ACT 1 || t.bankBit FCO_ACT 2 || s.flag FCO_GSAFE_ALL) }
      ∧ s.Only t [.fco] [FCO_ACT.addr 0, SYS_PWRSTAT.addr]

/-- SAFE_RELEASE, SEV_WRITE and FCO_LOG_READ (R355, R357, R358, R361, R367, R370, R373): every latch named is released, unless a source that set it is active;
a release is recorded in the name of one of its sources, and ALIVE runs again where no latch is left. A severity is written where it stays at or below FLOOR on a source that is not reserved. A read of LOG0 removes the
head entry and latches its other words, and answers 0 of an empty log. -/
def Obligations.FaultRegisters : Prop :=
  ∀ (s : State) (by_ : Agent) (v : Word), s.due = [] →
    (s.Admits by_ FCO_SAFECLR.addr true v →
      let srcs (i : Nat) := tget [] s.fco.latchSrc i
      let active (k : Nat) : Prop := s.bankBit FCO_ACT k = true ∨ ((k < 256 ∨ 384 ≤ k) ∧ tget none s.fco.raisedAt k = some s.now)
      let releases (i : Nat) : Prop := bitsOf v i 1 = 1 ∧ s.latchSet i = true ∧ ∀ k ∈ srcs i, ¬active k
      ∃ x : State, exec (.safeRelease by_ v) s = .next x.settle
        ∧ (∀ i < 17, releases i → x.latchSet i = false ∧ (srcs i ≠ [] → ∃ r : Rec, .record r ∈ x.due ∧ r.ty = 0x05 ∧ r.src ∈ srcs i ∧ r.body.getD 2 0 = 4))
        ∧ (∀ i < 17, ¬releases i → x.latchSet i = s.latchSet i) ∧ ((∀ i < 17, ¬releases i) → x.due = [])
        ∧ (x.flag FCO_KASTAT_RUN = true ↔ s.imgState = isLoaded ∧ (s.flag FCO_KACFG_KAEN = false ∨ s.flag FCO_KASTAT_ARMED = true) ∧ ∀ i < 17, x.latchSet i = false)
        ∧ (s.flag FCO_KASTAT_RUN = false → x.flag FCO_KASTAT_RUN = true → x.flag FCO_STAT_ALIVE = false ∧ x.fco.toggleAt = s.now + s.fld FCO_KACFG_HALF * 400)
        ∧ s.OnlyParts x [.bus, .fco, .due, .free])
    ∧ (∀ k : Fin 512, s.Admits by_ (FCO_SRC.addr k) true v →
      let sev := bitsOf v 4 3
      let bad := srcReserved k = true ∨ s.fld FCO_SRC_FLOOR k < sev ∨ (k = 12 ∧ (sev < 3 ∨ 5 < sev))
      (bad → exec (.sevWrite by_ k v) s = .next s.busOk)
      ∧ (¬bad → ∃ t, exec (.sevWrite by_ k v) s = .next t ∧ t.fld FCO_SRC_SEV k = sev ∧ t.fld FCO_SRC_FLOOR k = s.fld FCO_SRC_FLOOR k
          ∧ t.fld FCO_SRC_GMASK k = s.fld FCO_SRC_GMASK k ∧ s.Only t [.bus] [FCO_SRC.addr k]))
    ∧ (s.Admits by_ (FCO_LOG.addr 0) false 0 →
      let log (k : Nat) := FCO_LOG.addr k
      (s.fco.log = [] → ∃ t, exec (.fcoLogRead by_) s = .next t ∧ t.bus = ⟨false, 0⟩
        ∧ (∀ k, 1 ≤ k → k < 4 → tget none t.rdLatch (latchKey by_ (log k)) = some 0) ∧ t.fco.log = [])
      ∧ ∀ e l, s.fco.log = e :: l → ∃ t, exec (.fcoLogRead by_) s = .next t
        ∧ t.bus = ⟨false, BitVec.ofNat 64 (2 ^ 31 + e.kind % 8 * 2 ^ 24 + e.react % 8 * 2 ^ 20 + e.sev % 8 * 2 ^ 16 + e.src % 512)⟩
        ∧ tget none t.rdLatch (latchKey by_ (log 1)) = some (BitVec.ofNat 32 e.tb) ∧ tget none t.rdLatch (latchKey by_ (log 2)) = some (BitVec.ofNat 32 e.data)
        ∧ tget none t.rdLatch (latchKey by_ (log 3)) = some (BitVec.ofNat 32 e.count) ∧ t.fco = { s.fco with log := l }
        ∧ s.Only t [.bus, .rdLatch, .fco] [log 0, log 1, log 2, log 3])

/-- KICK, KEEPALIVE_TIMEOUT, ALIVE_TOGGLE and SAFE_N_CHANGE (R176, R177, R185, R367, R369, R370): a kick with the right key in its window restarts the window, alternates the key and arms, and ALIVE runs where no latch is set; a wrong
key, an early kick and a window that closes without one are violations, each with its data, and take ARMED and ALIVE's run away; a right kick after a violation starts a window again but does not arm. ALIVE toggles every HALF µs while it runs. SAFE_N low makes every Husk
turn its pin off and raises FS012 once, and high ends it. -/
def Obligations.KeepAlive : Prop :=
  (∀ (s : State) (by_ : Agent) (v : Word), s.due = [] → s.Admits by_ FCO_KICK.addr true v →
    let right := bitsOf v 0 8 = s.fld FCO_KASTAT_NEXTKEY
    let opens := s.fco.kickAt + s.fld FCO_KAWIN_WOPEN * 400
    let closes := s.fco.kickAt + s.fld FCO_KAWIN_WCLOSE * 400
    let window := s.fco.anyTime = false ∨ s.fco.waitKick = false
    let late := window ∧ closes < s.now
    let clear := s.flag FCO_GSAFE_ALL = false ∧ s.fld FCO_GSAFE_GRP = 0
    let other (t : State) : Prop := t.fld FCO_KASTAT_NEXTKEY = if s.fld FCO_KASTAT_NEXTKEY = 0x5A then 0xA5 else 0x5A
    let violated (x : State) (kinds : List Nat) : Prop := x.due = kinds.map (fun k => .fault ⟨11, k⟩) ∧ x.flag FCO_KASTAT_ARMED = false ∧ x.flag FCO_KASTAT_RUN = false
      ∧ x.fld FCO_KASTAT_MISS = min (2 ^ FCO_KASTAT_MISS.len - 1) (s.fld FCO_KASTAT_MISS + kinds.length) ∧ x.flag FCO_INTST_KAMISS = true
      ∧ s.OnlyParts x [.bus, .fco, .due]
    let violates (kinds : List Nat) : Prop := ∃ x : State, exec (.kick by_ v) s = .next x.settle ∧ violated x kinds ∧ x.fco.anyTime = true ∧ x.fco.waitKick = true
      ∧ x.fld FCO_KASTAT_NEXTKEY = s.fld FCO_KASTAT_NEXTKEY
    let accepts (armed : Nat) : Prop := ∃ t, exec (.kick by_ v) s = .next t ∧ t.fco.kickAt = s.now ∧ t.fco.anyTime = false ∧ t.fld FCO_KASTAT_ARMED = armed ∧ other t
      ∧ (armed = 1 → clear → t.flag FCO_KASTAT_RUN = true ∧ (s.flag FCO_KASTAT_RUN = false → t.flag FCO_STAT_ALIVE = false
          ∧ t.fco.toggleAt = s.now + s.fld FCO_KACFG_HALF * 400))
      ∧ s.Only t [.bus, .fco] [FCO_KASTAT.addr, FCO_STAT.addr]
    (s.flag FCO_KACFG_KAEN = false ∨ s.imgState ≠ isLoaded → exec (.kick by_ v) s = .next s.busOk)
    ∧ (s.flag FCO_KACFG_KAEN = true → s.imgState = isLoaded →
      (¬late → ¬right → violates [2])
      ∧ (¬late → right → s.fco.anyTime = false → (opens ≤ s.now → accepts 1) ∧ (s.now < opens → violates [1]))
      ∧ (¬late → right → s.fco.anyTime = true → (s.fco.waitKick = false → accepts 1) ∧ (s.fco.waitKick = true → accepts (s.fld FCO_KASTAT_ARMED)))
      ∧ (late → ¬right → violates [3, 2])
      ∧ (late → right → ∃ x : State, exec (.kick by_ v) s = .next x.settle ∧ violated x [3] ∧ x.fco.kickAt = s.now ∧ x.fco.anyTime = false ∧ other x)))
  ∧ ∀ s : State, s.Ready →
    let open_ := s.flag FCO_KACFG_KAEN = true ∧ s.imgState = isLoaded ∧ (s.fco.anyTime = false ∨ s.fco.waitKick = false)
    (¬open_ ∨ s.now ≤ s.fco.kickAt + s.fld FCO_KAWIN_WCLOSE * 400 → exec .keepaliveTimeout s = .next s)
    ∧ (open_ → s.fco.kickAt + s.fld FCO_KAWIN_WCLOSE * 400 < s.now → ∃ x : State, exec .keepaliveTimeout s = .next x.settle ∧ x.due = [.fault ⟨11, 3⟩]
        ∧ x.flag FCO_KASTAT_ARMED = false ∧ x.flag FCO_KASTAT_RUN = false ∧ x.fld FCO_KASTAT_MISS = min (2 ^ FCO_KASTAT_MISS.len - 1) (s.fld FCO_KASTAT_MISS + 1)
        ∧ x.fco.anyTime = true ∧ x.fco.waitKick = true ∧ s.OnlyParts x [.fco, .due])
    ∧ (s.flag FCO_KASTAT_RUN = false ∨ s.now < s.fco.toggleAt → exec .aliveToggle s = .next s)
    ∧ (s.flag FCO_KASTAT_RUN = true → s.fco.toggleAt ≤ s.now → ∃ t, exec .aliveToggle s = .next t ∧ t.flag FCO_STAT_ALIVE = !s.flag FCO_STAT_ALIVE
        ∧ t.fco = { s.fco with toggleAt := s.fco.toggleAt + s.fld FCO_KACFG_HALF * 400 } ∧ s.Only t [.fco] [FCO_STAT.addr])
    ∧ (∃ t, exec (.safeNChange true) s = .next t ∧ t.flag FCO_STAT_SNACT = false ∧ t.bankBit FCO_ACT 12 = false ∧ s.Only t [] [FCO_STAT.addr, FCO_ACT.addr 0])
    ∧ (s.flag FCO_STAT_SNACT = true → exec (.safeNChange false) s = .next s)
    ∧ (s.flag FCO_STAT_SNACT = false → ∃ x : State, exec (.safeNChange false) s = .next x.settle ∧ x.flag FCO_STAT_SNACT = true ∧ x.bankBit FCO_ACT 12 = true
        ∧ .fault ⟨12, 0⟩ ∈ x.due ∧ s.OnlyParts x [.husk, .pad, .chan, .due] ∧ ∀ c < 128,
          (s.flag HSK_STAT_INTENT c = true → x.flag HSK_STAT_BLOCKED c = true) ∧ x.flag HSK_STAT_INTENT c = s.flag HSK_STAT_INTENT c
          ∧ (s.flag HSK_STAT_OUT c = true → s.fallsBy c ((s.now + 3) * 32) = true → x.flag HSK_STAT_OUT c = true)
          ∧ (s.flag HSK_STAT_OUT c = true → s.fallsBy c ((s.now + 3) * 32) = false → x.flag HSK_STAT_OUT c = false ∧ (x.hsk c).offAt = some ((s.now + 3) * 32)
            ∧ bitsOf (x.rd (HSK_LAST.addr c)) 16 8 = cSafe))

/-! Resets, sleep and the Acorn domain (chapter 14) -/

/-- RESET_N, SYSTEM_RESET, DEBUG_RESET, RAIL_RESET_LOSS, MAIN_POWER_ON, ACORN_POWER_ON and VBAT_LOW (R375, R376, R378, R379): a warm reset takes the main domain to its reset state with its
cause; TB, retirements and the Acorn domain stand. A power-on reset clears TB and the retirements, and the stop record is no longer
of a hand-over; at an Acorn power-on the Acorn domain is reset too. What the part holds in its flash stays. A reset that has no power, no key or no open module has no effect. -/
def Obligations.Resets : Prop :=
  ∀ s : State, s.due = [] →
    let common (t : State) (cause : Nat) : Prop := t.rd SYS_RSTCAUSE.addr = BitVec.ofNat 32 (2 ^ cause) ∧ t.imgState = isIdle ∧ t.chan = [] ∧ t.trk = []
      ∧ t.flash = s.flash ∧ t.cal.store = s.cal.store ∧ (∀ c : Fin 128, t.flag HSK_STAT_OUT c = false) ∧ (∀ n : Fin 6, t.trkState n = stStopped)
      ∧ State.reset.OnlyParts t [.tb, .flash, .links, .cal, .img, .pwr, .sent, .free, .pending, .dbg, .fco, .pad, .acn, .roll, .slp, .calUse, .calForce, .bus]
      ∧ (∀ a, a / 65536 ∉ [0x4000, 0x4001, 0x4004, 0x4005, 0x400E, 0x400F] → (∀ c : Fin 128, a ≠ PAD_STAT.addr c) → a ∉ irtPend → t.rd a = State.reset.rd a)
    let warm (c : Instr) (cause : Nat) : Prop := ∃ t, exec c s = .next t ∧ common t cause ∧ t.pwr = .run ∧ t.tb = s.tb ∧ t.acn = s.acn ∧ t.roll = s.roll
      ∧ (∀ k : Fin 128, t.retired k = s.retired k)
    let cold (t : State) : Prop := common t 1 ∧ t.tb = 0 ∧ t.acn = s.acn ∧ t.roll = { s.roll with handed := false } ∧ ∀ k : Fin 128, t.retired k = false
    (s.pwr = .run ∨ s.pwr = .retain → warm .resetN 3)
    ∧ (s.pwr = .held ∨ s.pwr = .off → exec .resetN s = .next s)
    ∧ (∀ by_ v, s.Admits by_ SYS_RSTCTL.addr true v →
      (bitsOf v 16 16 = 0x5EC0 → bitsOf v 0 1 = 1 → warm (.systemReset by_ v) 4)
      ∧ (bitsOf v 16 16 ≠ 0x5EC0 ∨ bitsOf v 0 1 = 0 → exec (.systemReset by_ v) s = .next s.busOk))
    ∧ (s.pwr = .run → s.dbgOpen = true → warm .debugReset 5)
    ∧ (s.dbgOpen = false → exec .debugReset s = .next s)
    ∧ (∀ r, s.pwr = .run ∨ s.pwr = .retain → ∃ t, exec (.railResetLoss r) s = .next t ∧ cold t ∧ t.pwr = .held ∧ t.flag (railBit r.val) = false)
    ∧ (∀ r, s.pwr = .held ∨ s.pwr = .off → exec (.railResetLoss r) s = .next s)
    ∧ (s.pwr = .held → ∃ t, exec .mainPowerOn s = .next t ∧ cold t ∧ t.pwr = .run ∧ ∀ k, k < 3 → t.flag (railBit k) = true)
    ∧ (s.pwr ≠ .held → exec .mainPowerOn s = .next s)
    ∧ (∃ t, exec .acornPowerOn s = .next t ∧ common t 0 ∧ t.tb = 0 ∧ t.roll = { } ∧ t.acn = { } ∧ ∀ k : Fin 128, t.retired k = false)
    ∧ (∃ t, exec .vbatLow s = .next t ∧ t.flag SYS_PWRSTAT_VBATLOW = true ∧ (s.pwr = .run → t.flag SYS_INTST_VBATLOW = true)
        ∧ s.Only t [] (SYS_PWRSTAT.addr :: SYS_INTST.addr :: (List.range 18).map (IRT_PEND.addr ·)))

/-- SLEEP_REQUEST, SLEEP_ENTRY, WAKE_PIN and WAKE_RELEASE (R246, R381, R382, R383, R384, R385, R386, R389, R391): a request that passes its checks is accepted, and one that fails shows why; the entry
keeps S and the ratio, turns the pins and the keep-alive off, hands the followed tracker over and takes the main domain down to the depth; an enabled pin is recognised once; the release of n SCLK edges sets TB to S + M and the
main domain runs, with its trackers STOPPED after RETAIN and from its reset state after OFF. None of them has an effect where its condition does not hold. -/
def Obligations.Sleep : Prop :=
  (∀ (s : State) (by_ : Agent) (v : Word), s.due = [] → s.Admits by_ SYS_SLPCTL.addr true v →
    let off := bitsOf v 8 1 == 1
    let asks := bitsOf v 0 1 = 1 ∧ s.slp.req = none
    let noPwr := off = true ∧ s.flag ACN_CFG_PWREN = false
    let busyCh := ∃ c < 128, (s.ch c).active ≠ none ∨ (∃ e ∈ (s.ch c).queue, bitsOf e.w0 15 1 = 0 ∨ off = true)
    let busyMeas := (∃ k < 4, s.fld ADC_CTRL_STATE k ≠ 0 ∨ ∃ w ∈ (s.kn k).wins, w.close = none) ∨ ∃ q < 16, s.fld PSQ_STAT_STATE q ≠ pqHalted
    let busyJrn := ∃ j < 16, (s.str j).fifo ≠ [] ∨ (s.str j).flight ≠ [] ∨ (s.str j).unacked ≠ [] ∨ (off = true ∧ s.jsState j ≠ jsOff)
    let busyImg := s.flag IMG_DSTAT_BUSY = true
    let refuses (n : Nat) : Prop := ∃ t, exec (.sleepRequest by_ v) s = .next t ∧ t.slp = s.slp ∧ t.fld SYS_SLPSTAT_RESULT = n ∧ t.flag SYS_INTST_SLPREF = true
      ∧ t.flag SYS_SLPCTL_DEPTH = off ∧ s.Only t [.bus] ([SYS_SLPCTL.addr, SYS_SLPSTAT.addr, SYS_INTST.addr] ++ irtPend)
    (¬asks → ∃ t, exec (.sleepRequest by_ v) s = .next t ∧ t.flag SYS_SLPCTL_DEPTH = off ∧ t.flag SYS_SLPCTL_REQ = s.flag SYS_SLPCTL_REQ ∧ s.Only t [.bus] [SYS_SLPCTL.addr])
    ∧ (asks → (noPwr → refuses 6) ∧ (¬noPwr → (busyCh → refuses 2) ∧ (¬busyCh → (busyMeas → refuses 3) ∧ (¬busyMeas → (busyJrn → refuses 4) ∧ (¬busyJrn → (busyImg → refuses 5)
      ∧ (¬busyImg → ∃ t, exec (.sleepRequest by_ v) s = .next t ∧ t.slp = { s.slp with req := some off }
        ∧ t.flag SYS_SLPCTL_REQ = true ∧ t.flag SYS_SLPCTL_DEPTH = off ∧ s.Only t [.bus, .slp] [SYS_SLPCTL.addr])))))))
  ∧ (∀ s : State, s.Ready →
    (s.slp.req = none → exec .sleepEntry s = .next s)
    ∧ ∀ off, s.slp.req = some off → ∃ x : State, exec .sleepEntry s = .next x.settle ∧ x.pwr = (if off then .off else .retain)
        ∧ x.slp = ⟨none, s.now, (s.rd ACN_RATIO.addr).toNat, false⟩ ∧ x.wide TB_SLPENT = s.now ∧ x.tb = s.tb
        ∧ x.fld SYS_SLPSTAT_RESULT = slEntered ∧ x.flag SYS_SLPSTAT_LASTOFF = off ∧ x.flag SYS_SLPCTL_REQ = false
        ∧ x.flag FCO_STAT_ALIVE = false ∧ x.flag FCO_KASTAT_ARMED = false
        ∧ (∀ c < 128, x.flag HSK_STAT_OUT c = false ∧ (s.flag HSK_STAT_OUT c = true → (x.hsk c).offAt = some (s.now * 32)) ∧ (x.ch c).issued = [])
        ∧ (s.flag ACN_TRK_EN = false → x.roll = s.roll ∧ x.rd ACN_REC2.addr = s.rd ACN_REC2.addr)
        ∧ (s.flag ACN_TRK_EN = true →
          let n := s.fld ACN_TRK_TRK
          let st := if s.trkState n = stReverse ∨ s.trkState n = stStopped then s.fld TRK_STATE_PREV n else s.trkState n
          x.fld ACN_STAT_ROLL = rollOut ∧ x.flag ACN_STAT_SPWR = true ∧ x.fld ACN_REC2_LEVEL = (if st = stCycleSync then 3 else if st = stRevSync then 2 else 0)
          ∧ x.fld ACN_REC2_TIDX = s.tidx n % 2 ^ ACN_REC2_TIDX.len ∧ x.roll.trk = n ∧ x.roll.nTooth = s.nTooth n ∧ x.rd ACN_REC1.addr = 0))
  ∧ ∀ s : State, s.due = [] →
    let asleep := s.pwr = .retain ∨ s.pwr = .off
    (∀ k : Fin 4, ¬asleep ∨ s.slp.wake = true ∨ s.fld ACN_WAKECFG_WEN / 2 ^ k.val % 2 = 0 → exec (.wakePin k) s = .next s)
    ∧ (∀ k : Fin 4, asleep → s.slp.wake = false → s.fld ACN_WAKECFG_WEN / 2 ^ k.val % 2 = 1 → ∃ t, exec (.wakePin k) s = .next t
        ∧ t.slp = { s.slp with wake := true } ∧ t.fld ACN_WAKESTAT_PIN = 2 ^ k.val ∧ t.flag ACN_WAKESTAT_PROG = false ∧ t.flag ACN_STAT_SPWR = true
        ∧ (s.fld ACN_STAT_ROLL = rollOut → t.fld ACN_STAT_ROLL = rollSealed ∧ t.flag ACN_REC2_ROLLING = true)
        ∧ s.Only t [.slp, .roll] [ACN_WAKESTAT.addr, ACN_STAT.addr, ACN_REC2.addr])
    ∧ (∀ n, ¬asleep ∨ s.slp.wake = false → exec (.wakeRelease n) s = .next s)
    ∧ ∀ n, asleep → s.slp.wake = true →
      let m := (n * s.slp.ratio + 2 ^ 15) / 2 ^ 16
      ∃ x : State, exec (.wakeRelease n) s = .next x.settle ∧ x.pwr = .run ∧ x.tb = BitVec.ofNat 64 (s.slp.s + m) ∧ x.slp.wake = false
        ∧ x.wide TB_SLEEP = m % 2 ^ 64 ∧ x.flag SYS_INTST_WAKE = true ∧ x.fld ACN_STAT_SPWR = s.fld ACN_CFG_SPAWAKE ∧ x.fco.anyTime = true ∧ x.fco.waitKick = false
        ∧ (s.pwr = .retain → (∀ k < 6, x.trkState k = stStopped ∨ (k = s.roll.trk ∧ x.trkState k = stRestored)) ∧ x.imgState = s.imgState ∧ x.sram = s.sram ∧ x.tcm = s.tcm
            ∧ (∀ e < 4, s.flag ENC_CFG_EN e = true → x.flag ENC_STAT_SLEPT e = true) ∧ (∀ p < 2, x.fld ETH_CFG_LINK p = 0) ∧ x.links.pciUp = false)
        ∧ (s.pwr = .off → x.wide TB_SLPENT = s.slp.s % 2 ^ 64 ∧ x.rd SYS_RSTCAUSE.addr = 4 ∧ x.imgState = isIdle
            ∧ ∀ k : Fin 128, x.retired k = s.retired k)

/-- ROLLOUT_PULSE, ROLLOUT_CAM_EDGE, ROLLOUT_END, RECORD_AGE_MINUTE, ACORN_VBAT_DIP, DROPREC, STOP_RECORD_PRESENT, RATIO_WINDOW and CRYSTAL_STOP (R388, R389, R392, R393, R394, R395): in roll-out a
forward pulse counts and moves on by one tooth, and a pulse of at least PWTHR counts backward; cam edges count; the end seals the record. A dip of VBAT and DROPREC invalidate it, and it ages by
minutes. VALID and WHY show the first failing condition. The record is presented once, to a stopped tracker that may be restored by a valid one, and used afterwards. A window gives the ratio. -/
def Obligations.StopRecord : Prop :=
  ∀ s : State, s.due = [] →
    let why (x : State) : Nat := if x.fld ACN_REC2_LEVEL < 2 then 1 else if x.roll.ended = false then 2 else if x.roll.dip = true then 3
      else if x.fld ACN_WAKECFG_MAXAGE ≠ 0 ∧ x.fld ACN_WAKECFG_MAXAGE < x.fld ACN_REC2_AGE then 4 else if x.roll.dropped = true then 5 else if x.roll.used = true then 6
      else if x.roll.handed = false then 7 else 0
    let shown (t : State) : Prop := t.fld ACN_REC2_WHY = why t ∧ (t.flag ACN_REC2_VALID = true ↔ why t = 0)
    (s.fld ACN_STAT_ROLL ≠ rollOut → (∀ w, exec (.rolloutPulse w) s = .next s) ∧ exec .rolloutCamEdge s = .next s ∧ ∀ q, exec (.rolloutEnd q) s = .next s)
    ∧ (s.fld ACN_STAT_ROLL = rollOut →
      let thr := s.fld TRK_INFLT_PWTHR s.roll.trk * 200
      let ti := s.fld ACN_REC2_TIDX
      let ri := s.fld ACN_REC2_REVIDX
      let tmod := 2 ^ ACN_REC2_TIDX.len
      let rmod := 2 ^ ACN_REC2_REVIDX.len
      (∀ w, w < thr → ti + 1 < s.roll.nTooth → ∃ t, exec (.rolloutPulse w) s = .next t ∧ t.fld ACN_REC2_TIDX = (ti + 1) % tmod
          ∧ t.flag ACN_REC2_DIR = false ∧ t.fld ACN_REC1_FWD = min 65535 (s.fld ACN_REC1_FWD + 1) ∧ t.fld ACN_REC2_REVIDX = s.fld ACN_REC2_REVIDX
          ∧ t.roll = s.roll ∧ s.Only t [] [ACN_REC1.addr, ACN_REC2.addr])
      ∧ (∀ w, thr ≤ w → 0 < ti → ∃ t, exec (.rolloutPulse w) s = .next t ∧ t.fld ACN_REC2_TIDX = ti - 1 ∧ t.flag ACN_REC2_DIR = true
          ∧ t.fld ACN_REC1_REV = min 255 (s.fld ACN_REC1_REV + 1) ∧ t.fld ACN_REC2_REVIDX = s.fld ACN_REC2_REVIDX
          ∧ t.roll = s.roll ∧ s.Only t [] [ACN_REC1.addr, ACN_REC2.addr])
      ∧ (∀ w, w < thr → s.roll.nTooth ≤ ti + 1 → ∃ t, exec (.rolloutPulse w) s = .next t ∧ t.fld ACN_REC2_TIDX = 0 ∧ t.flag ACN_REC2_DIR = false
          ∧ t.fld ACN_REC1_FWD = min 65535 (s.fld ACN_REC1_FWD + 1)
          ∧ (ri + 1 < s.roll.nRev → t.fld ACN_REC2_REVIDX = (ri + 1) % rmod ∧ t.roll = s.roll)
          ∧ (s.roll.nRev ≤ ri + 1 → t.fld ACN_REC2_REVIDX = 0 ∧ t.roll = { s.roll with cyc := (s.roll.cyc + 1) % 1024 }) ∧ s.Only t [.roll] [ACN_REC1.addr, ACN_REC2.addr])
      ∧ (∀ w, thr ≤ w → ti = 0 → ∃ t, exec (.rolloutPulse w) s = .next t ∧ t.fld ACN_REC2_TIDX = (s.roll.nTooth - 1) % tmod ∧ t.flag ACN_REC2_DIR = true
          ∧ t.fld ACN_REC1_REV = min 255 (s.fld ACN_REC1_REV + 1)
          ∧ (ri ≠ 0 → t.fld ACN_REC2_REVIDX = ri - 1 ∧ t.roll = s.roll)
          ∧ (ri = 0 → t.fld ACN_REC2_REVIDX = (s.roll.nRev - 1) % rmod ∧ t.roll = { s.roll with cyc := (s.roll.cyc + 1023) % 1024 }) ∧ s.Only t [.roll] [ACN_REC1.addr, ACN_REC2.addr])
      ∧ (∃ t, exec .rolloutCamEdge s = .next t ∧ t.fld ACN_REC1_CAMCNT = min (2 ^ ACN_REC1_CAMCNT.len - 1) (s.fld ACN_REC1_CAMCNT + 1) ∧ s.Only t [] [ACN_REC1.addr])
      ∧ ∀ q, ∃ t, exec (.rolloutEnd q) s = .next t ∧ t.roll = { s.roll with ended := q } ∧ t.fld ACN_STAT_ROLL = rollSealed ∧ t.flag ACN_STAT_SPWR = false
          ∧ t.flag ACN_REC2_ROLLING = false ∧ shown t ∧ s.Only t [.roll] [ACN_STAT.addr, ACN_REC2.addr])
    ∧ (s.fld ACN_STAT_ROLL ≠ rollSealed → exec .recordAgeMinute s = .next s)
    ∧ (s.fld ACN_STAT_ROLL = rollSealed → ∃ t, exec .recordAgeMinute s = .next t ∧ t.fld ACN_REC2_AGE = min 8191 (s.fld ACN_REC2_AGE + 1)
        ∧ shown t ∧ s.Only t [] [ACN_REC2.addr])
    ∧ (∃ t, exec .acornVbatDip s = .next t ∧ t.roll = { s.roll with dip := true } ∧ t.flag ACN_REC2_VALID = false ∧ shown t
        ∧ s.Only t [.roll] [ACN_REC2.addr])
    ∧ (∀ by_, s.Admits by_ ACN_CTL.addr true 1 → ∃ t, exec (.droprec by_) s = .next t ∧ t.roll = { s.roll with dropped := true } ∧ t.flag ACN_REC2_VALID = false ∧ shown t
        ∧ s.Only t [.bus, .roll] [ACN_REC2.addr])
    ∧ (s.pwr ≠ .run ∨ s.imgState ≠ isLoaded ∨ s.roll.used = true → exec .stopRecordPresent s = .next s)
    ∧ (s.pwr = .run → s.imgState = isLoaded → s.roll.used = false →
        let n := s.roll.trk
        let ti := s.fld ACN_REC2_TIDX
        let rev := s.roll.cyc * s.nRev n + s.fld ACN_REC2_REVIDX
        let used := why s = 0 ∧ s.flag TRK_CFG_RESTORE_EN n = true ∧ s.trkState n = stStopped
        let presented (t : State) : Prop := t.roll = { s.roll with used := true } ∧ t.flag ACN_REC2_VALID = false
          ∧ t.rd ACN_REC0.addr = BitVec.ofNat 32 (awOfAcc (s.span n) ((rev * revAu + s.startPitch n ti) * auFrac))
        (¬used → ∃ t, exec .stopRecordPresent s = .next t ∧ presented t ∧ s.Only t [.roll] [ACN_REC0.addr, ACN_REC2.addr])
        ∧ (used → ∃ x : State, exec .stopRecordPresent s = .next x.settle ∧ presented x ∧ x.trkState n = stRestored ∧ x.fld TRK_STATE_TIDX n = ti % 2 ^ TRK_STATE_TIDX.len
          ∧ (s.hostMode fnRestart 0 = true → x.flag TRK_STATE_HELD n = true ∧ (x.askOf fnRestart n).isSome = true)))
    ∧ (∀ k, exec (.ratioWindow k) s = .next (if s.pwr = .run then s.wr ACN_RATIO.addr (BitVec.ofNat 32 (k * 64)) else s))
    ∧ exec .crystalStop s = .next (s.setFld ACN_STAT_RCACT 1)

/-- The Acorn program (R396, R397): a pass starts at step 0 with C 0 where the program is enabled and may run, and is skipped while one runs; each operation acts when the step at hand is its own, and the
pass goes on, END ends it, and the 256th step ends it with LOOP. A read of LOG0 removes the head entry of the log and latches its second word, which the spec's SCLK count gives and the model leaves free. -/
def Obligations.AcornProgram : Prop :=
  ∀ s : State, s.due = [] →
    let asleep := s.pwr = .retain ∨ s.pwr = .off
    let may := s.flag ACN_CFG_PEN = true ∧ (asleep ∨ (s.pwr = .run ∧ s.flag ACN_CFG_RUNAWAKE = true))
    (¬may → exec .acnPassStart s = .next s)
    ∧ (may → s.acn.pass ≠ none → ∃ t, exec .acnPassStart s = .next t
        ∧ t.fld ACN_STAT_SKIPPED = min (2 ^ ACN_STAT_SKIPPED.len - 1) (s.fld ACN_STAT_SKIPPED + 1) ∧ s.Only t [] [ACN_STAT.addr])
    ∧ (may → s.acn.pass = none → ∃ t, exec .acnPassStart s = .next t ∧ t.acn = { s.acn with pass := some (0, 0), prog := s.acnProg, reload := false }
        ∧ t.flag ACN_STAT_C = false ∧ (s.acn.reload = true → ∀ k : Fin 6, t.fld ACN_Y k = 0)
        ∧ s.Only t [.acn] (ACN_STAT.addr :: if s.acn.reload then (List.range 6).map (ACN_Y.addr ·) ++ [ACN_CNT01.addr, ACN_CNT23.addr] else []))
    ∧ (∀ (code : BitVec 10) (level : Bool) (c : Instr) (op : Nat),
        (c, op) ∈ [(Instr.acnEnd, 0), (.acnSample code, 1), (.acnFilt, 2), (.acnCmp, 3), (.acnPin level, 4), (.acnCount, 5), (.acnJmp, 6), (.acnWake, 7), (.acnRec, 8), (.acnPwr, 9), (.acnDelay, 10)] →
        (∀ pc n, s.acn.pass = some (pc, n) → bitsOf (s.acn.prog.getD pc 0) 27 5 ≠ op) → exec c s = .next s)
    ∧ (∀ (pc n : Nat) (w : Word), s.acn.pass = some (pc, n) → s.acn.prog.getD pc 0 = w →
      let ch := acnCh w
      let imm := acnImm w
      let on (t : State) (pc : Nat) : Prop := t.acn.prog = s.acn.prog ∧ (n < 255 → t.acn.pass = some (pc % 64, n + 1)) ∧ (255 ≤ n → t.acn.pass = none ∧ t.flag ACN_STAT_LOOP = true)
      let end_ := if n < 255 then [] else [ACN_STAT.addr]
      let goes (c : Instr) (op : Nat) (p : State → Prop) : Prop := bitsOf w 27 5 = op → ∃ t, exec c s = .next t ∧ on t (pc + 1) ∧ p t
      let y := (s.rd (ACN_Y.addr ch)).toNat
      let v := tget 0 s.acn.v ch
      (bitsOf w 27 5 = 0 → exec .acnEnd s = .next (s.setAcn { s.acn with pass := none }))
      ∧ (∀ code : BitVec 10, goes (.acnSample code) 1 fun t => t.acnV ch = code.toNat ∧ (∀ k, k ≠ ch → t.acnV k = s.acnV k) ∧ s.Only t [.acn] end_)
      ∧ (ch < 6 → goes .acnFilt 2 fun t => t.fld ACN_Y ch = ((y : Int) + (256 * v - y) / (2 ^ (imm % 16) : Nat)).toNat % 2 ^ ACN_Y.len
          ∧ s.Only t [.acn] (ACN_Y.addr ch :: end_))
      ∧ goes .acnCmp 3 (fun t => t.flag ACN_STAT_C = (match acnSub w with | 0 => decide (imm ≤ y / 256) | 1 => decide (y / 256 < imm) | _ => decide (imm ≤ max v (y / 256) - min v (y / 256))) ∧ s.Only t [.acn] [ACN_STAT.addr])
      ∧ (∀ level, goes (.acnPin level) 4 fun t =>
          t.flag ACN_STAT_C = ((level != (s.fld ACN_WAKECFG_WPOL / 2 ^ (ch % 4) % 2 == 1)) == (imm % 2 == 1)) ∧ s.Only t [.acn] [ACN_STAT.addr])
      ∧ goes .acnCount 5 (fun t => t.acnCnt (ch % 4) = (if s.acnC then min 65535 (s.acnCnt (ch % 4) + 1) else 0)
          ∧ t.flag ACN_STAT_C = decide (imm ≤ t.acnCnt (ch % 4)) ∧ s.Only t [.acn] [ACN_STAT.addr, ACN_CNT01.addr, ACN_CNT23.addr])
      ∧ (bitsOf w 27 5 = 6 → ∃ t, exec .acnJmp s = .next t
          ∧ on t (if acnSub w = 0 ∨ (acnSub w = 1 ∧ s.acnC = true) ∨ (2 ≤ acnSub w ∧ s.acnC = false) then bitsOf w 16 6 else pc + 1) ∧ s.Only t [.acn] end_)
      ∧ (s.acnC = false → goes .acnWake 7 fun t => s.Only t [.acn] end_)
      ∧ (s.acnC = true → goes .acnWake 7 fun t => t.fld ACN_WAKESTAT_CODE = imm % 256
          ∧ (asleep → s.slp.wake = false → t.slp.wake = true ∧ t.flag ACN_WAKESTAT_PROG = true ∧ t.fld ACN_WAKESTAT_PIN = 0)
          ∧ (¬asleep ∨ s.slp.wake = true → s.Only t [.acn] (ACN_WAKESTAT.addr :: end_)))
      ∧ (s.acnC = false → goes .acnRec 8 fun t => s.Only t [.acn] end_)
      ∧ (s.acnC = true → 8 ≤ s.acn.log.length → goes .acnRec 8 fun t => t.flag ACN_STAT_LOGOVF = true ∧ s.Only t [.acn] [ACN_STAT.addr])
      ∧ (s.acnC = true → s.acn.log.length < 8 → goes .acnRec 8 fun t => ∃ clk,
          t.acn.log = s.acn.log ++ [(BitVec.ofNat 32 (2 ^ 31 + pc * 2 ^ 24 + ch * 2 ^ 16 + if ch < 4 then y / 256 else s.acnCnt (ch - 4)), clk)]
          ∧ (s.pwr = .run → t.flag SYS_INTST_ACNLOG = true))
      ∧ goes .acnPwr 9 (fun t => t.fld ACN_STAT_SPWR = (if s.fld ACN_STAT_ROLL = rollOut then s.fld ACN_STAT_SPWR else imm % 2) ∧ s.Only t [.acn] [ACN_STAT.addr])
      ∧ goes .acnDelay 10 (fun t => s.Only t [.acn] end_))
    ∧ ∀ by_, s.Admits by_ (ACN_LOG.addr 0) false 0 →
      (s.acn.log = [] → ∃ t, exec (.acnLogRead by_) s = .next t ∧ t.bus = ⟨false, 0⟩ ∧ t.acn.log = [] ∧ tget none t.rdLatch (latchKey by_ (ACN_LOG.addr 1)) = some 0)
      ∧ ∀ a b l, s.acn.log = (a, b) :: l → ∃ t, exec (.acnLogRead by_) s = .next t ∧ t.bus = ⟨false, a.setWidth 64⟩ ∧ t.acn = { s.acn with log := l }
        ∧ tget none t.rdLatch (latchKey by_ (ACN_LOG.addr 1)) = some b ∧ s.Only t [.bus, .rdLatch, .acn] [ACN_LOG.addr 0, ACN_LOG.addr 1]
end

