-- ==== Sys2Proof/Laws/Table.lean ====
section
/-! SUPPORT. Laws of sparse storage: what a table reads as after a write, and that a write keeps the canonical form. -/

namespace Sys2Proof.Machine

variable {α : Type}

theorem tget_tdel_same (d : α) (m : Table α) (a : Nat) : tget d (tdel a m) a = d := by
  induction m with
  | nil => rfl
  | cons p m ih =>
    obtain ⟨k, v⟩ := p
    by_cases h : k = a <;> simp [tdel, tget, h, ih]

theorem tget_tdel_ne (d : α) (m : Table α) {a b : Nat} (h : a ≠ b) : tget d (tdel a m) b = tget d m b := by
  induction m with
  | nil => rfl
  | cons p m ih =>
    obtain ⟨k, v⟩ := p
    by_cases hk : k = a
    · subst hk; simp [tdel, tget, h, ih]
    · simp [tdel, tget, hk, ih]

theorem tget_tins_same (d : α) (m : Table α) (a : Nat) (x : α) : tget d (tins a x m) a = x := by
  induction m with
  | nil => simp [tins, tget]
  | cons p m ih =>
    obtain ⟨k, v⟩ := p
    simp only [tins]
    split
    · simp [tget]
    · split
      · simp [tget]
      · next h => simp [tget, ih, Ne.symm h]

theorem tget_tins_ne (d : α) (m : Table α) {a b : Nat} (x : α) (h : a ≠ b) : tget d (tins a x m) b = tget d m b := by
  induction m with
  | nil => simp [tins, tget, h]
  | cons p m ih =>
    obtain ⟨k, v⟩ := p
    simp only [tins]
    split
    · simp [tget, h]
    · split
      · next hk => subst hk; simp [tget, h]
      · simp [tget, ih]

theorem tabove_tdel (b a : Nat) (m : Table α) (h : tabove b m = true) : tabove b (tdel a m) = true := by
  induction m with
  | nil => rfl
  | cons p m ih =>
    obtain ⟨k, v⟩ := p
    simp only [tabove, Bool.and_eq_true] at h
    by_cases hk : k = a <;> simp_all [tdel, tabove]

theorem tabove_tins (b a : Nat) (x : α) (m : Table α) (ha : b < a) (h : tabove b m = true) : tabove b (tins a x m) = true := by
  induction m with
  | nil => simp [tins, tabove, ha]
  | cons p m ih =>
    obtain ⟨k, v⟩ := p
    simp only [tabove, Bool.and_eq_true] at h
    simp only [tins]
    split
    · simp [tabove, ha, h]
    · split <;> simp_all [tabove]

theorem tabove_mono {b c : Nat} (hbc : b ≤ c) (m : Table α) (h : tabove c m = true) : tabove b m = true := by
  induction m with
  | nil => rfl
  | cons p m ih =>
    simp only [tabove, Bool.and_eq_true, decide_eq_true_eq] at h ⊢
    exact ⟨by omega, ih h.2⟩

variable [DecidableEq α]

@[simp] theorem tget_tput_same (d : α) (m : Table α) (a : Nat) (x : α) : tget d (tput d m a x) a = x := by
  by_cases h : x = d
  · simp [tput, h, tget_tdel_same]
  · simp [tput, h, tget_tins_same]

theorem tget_tput_ne (d : α) (m : Table α) {a b : Nat} (x : α) (h : a ≠ b) : tget d (tput d m a x) b = tget d m b := by
  by_cases hx : x = d
  · simp [tput, hx, tget_tdel_ne d m h]
  · simp [tput, hx, tget_tins_ne d m x h]

/-- What any key of a table reads as after a write. -/
theorem tget_tput (d : α) (m : Table α) (a b : Nat) (x : α) :
    tget d (tput d m a x) b = if a = b then x else tget d m b := by
  by_cases h : a = b
  · subst h; simp
  · simp [h, tget_tput_ne d m x h]

theorem twf_tdel (d : α) (m : Table α) (a : Nat) (h : twf d m = true) : twf d (tdel a m) = true := by
  induction m with
  | nil => rfl
  | cons p m ih =>
    obtain ⟨k, v⟩ := p
    simp only [twf, Bool.and_eq_true] at h
    by_cases hk : k = a
    · simp [tdel, hk, ih h.2]
    · simp only [tdel, hk, if_false, twf, Bool.and_eq_true]
      exact ⟨⟨tabove_tdel k a m h.1.1, h.1.2⟩, ih h.2⟩

theorem twf_tins (d : α) (m : Table α) (a : Nat) (x : α) (hx : x ≠ d) (h : twf d m = true) : twf d (tins a x m) = true := by
  induction m with
  | nil => simp [tins, twf, tabove, hx]
  | cons p m ih =>
    obtain ⟨k, v⟩ := p
    have h' := h
    simp only [twf, Bool.and_eq_true] at h
    simp only [tins]
    split
    · next hlt =>
      have habove : tabove a ((k, v) :: m) = true := by
        simp only [tabove, Bool.and_eq_true, decide_eq_true_eq]
        exact ⟨hlt, tabove_mono (Nat.le_of_lt hlt) m h.1.1⟩
      simp only [twf, Bool.and_eq_true] at h' ⊢
      exact ⟨⟨habove, by simp [hx]⟩, h'⟩
    · split
      · next he =>
        subst he
        simp only [twf, Bool.and_eq_true]
        exact ⟨⟨h.1.1, by simp [hx]⟩, h.2⟩
      · next hlt he =>
        simp only [twf, Bool.and_eq_true]
        exact ⟨⟨tabove_tins k a x m (by omega) h.1.1, h.1.2⟩, ih h.2⟩

/-- A write keeps the canonical form. -/
theorem twf_tput (d : α) (m : Table α) (a : Nat) (x : α) (h : twf d m = true) : twf d (tput d m a x) = true := by
  by_cases hx : x = d
  · simp only [tput, hx, if_true]; exact twf_tdel d m a h
  · simp only [tput, hx, if_false]; exact twf_tins d m a x hx h

end Sys2Proof.Machine
end

