-- ==== Sys2Proof/Laws/State.lean ====
section
/-! SUPPORT. What each named update of the state leaves as it was: one lemma per update and field, true by definition, and written (rfl)
so that simp cites it and the kernel need not unfold the update; then what the updated field reads as. -/

namespace Sys2Proof.Machine

variable (s : State)

@[simp] theorem State.wr_tb (a : Nat) (v : Word) : (s.wr a v).tb = s.tb := (rfl)
@[simp] theorem State.wr_base (a : Nat) (v : Word) : (s.wr a v).base = s.base := (rfl)
@[simp] theorem State.wr_sram (a : Nat) (v : Word) : (s.wr a v).sram = s.sram := (rfl)
@[simp] theorem State.wr_tcm (a : Nat) (v : Word) : (s.wr a v).tcm = s.tcm := (rfl)
@[simp] theorem State.wr_flash (a : Nat) (v : Word) : (s.wr a v).flash = s.flash := (rfl)
@[simp] theorem State.wr_bus (a : Nat) (v : Word) : (s.wr a v).bus = s.bus := (rfl)
@[simp] theorem State.wr_rdLatch (a : Nat) (v : Word) : (s.wr a v).rdLatch = s.rdLatch := (rfl)
@[simp] theorem State.wr_wrLatch (a : Nat) (v : Word) : (s.wr a v).wrLatch = s.wrLatch := (rfl)
@[simp] theorem State.wr_cores (a : Nat) (v : Word) : (s.wr a v).cores = s.cores := (rfl)
@[simp] theorem State.wr_nest (a : Nat) (v : Word) : (s.wr a v).nest = s.nest := (rfl)
@[simp] theorem State.wr_angle (a : Nat) (v : Word) : (s.wr a v).angle = s.angle := (rfl)
@[simp] theorem State.wr_trk (a : Nat) (v : Word) : (s.wr a v).trk = s.trk := (rfl)
@[simp] theorem State.wr_strm (a : Nat) (v : Word) : (s.wr a v).strm = s.strm := (rfl)
@[simp] theorem State.wr_jrnReq (a : Nat) (v : Word) : (s.wr a v).jrnReq = s.jrnReq := (rfl)
@[simp] theorem State.wr_jrnHandle (a : Nat) (v : Word) : (s.wr a v).jrnHandle = s.jrnHandle := (rfl)
@[simp] theorem State.wr_fco (a : Nat) (v : Word) : (s.wr a v).fco = s.fco := (rfl)
@[simp] theorem State.wr_cls (a : Nat) (v : Word) : (s.wr a v).cls = s.cls := (rfl)
@[simp] theorem State.wr_husk (a : Nat) (v : Word) : (s.wr a v).husk = s.husk := (rfl)
@[simp] theorem State.wr_pad (a : Nat) (v : Word) : (s.wr a v).pad = s.pad := (rfl)
@[simp] theorem State.wr_chan (a : Nat) (v : Word) : (s.wr a v).chan = s.chan := (rfl)
@[simp] theorem State.wr_task (a : Nat) (v : Word) : (s.wr a v).task = s.task := (rfl)
@[simp] theorem State.wr_adc (a : Nat) (v : Word) : (s.wr a v).adc = s.adc := (rfl)
@[simp] theorem State.wr_gainAt (a : Nat) (v : Word) : (s.wr a v).gainAt = s.gainAt := (rfl)
@[simp] theorem State.wr_gchg (a : Nat) (v : Word) : (s.wr a v).gchg = s.gchg := (rfl)
@[simp] theorem State.wr_gainNext (a : Nat) (v : Word) : (s.wr a v).gainNext = s.gainNext := (rfl)
@[simp] theorem State.wr_knk (a : Nat) (v : Word) : (s.wr a v).knk = s.knk := (rfl)
@[simp] theorem State.wr_enc (a : Nat) (v : Word) : (s.wr a v).enc = s.enc := (rfl)
@[simp] theorem State.wr_nt (a : Nat) (v : Word) : (s.wr a v).nt = s.nt := (rfl)
@[simp] theorem State.wr_tmr (a : Nat) (v : Word) : (s.wr a v).tmr = s.tmr := (rfl)
@[simp] theorem State.wr_psq (a : Nat) (v : Word) : (s.wr a v).psq = s.psq := (rfl)
@[simp] theorem State.wr_gpin (a : Nat) (v : Word) : (s.wr a v).gpin = s.gpin := (rfl)
@[simp] theorem State.wr_mkLast (a : Nat) (v : Word) : (s.wr a v).mkLast = s.mkLast := (rfl)
@[simp] theorem State.wr_mkPrev (a : Nat) (v : Word) : (s.wr a v).mkPrev = s.mkPrev := (rfl)
@[simp] theorem State.wr_angPast (a : Nat) (v : Word) : (s.wr a v).angPast = s.angPast := (rfl)
@[simp] theorem State.wr_pwr (a : Nat) (v : Word) : (s.wr a v).pwr = s.pwr := (rfl)
@[simp] theorem State.wr_slp (a : Nat) (v : Word) : (s.wr a v).slp = s.slp := (rfl)
@[simp] theorem State.wr_roll (a : Nat) (v : Word) : (s.wr a v).roll = s.roll := (rfl)
@[simp] theorem State.wr_acn (a : Nat) (v : Word) : (s.wr a v).acn = s.acn := (rfl)
@[simp] theorem State.wr_img (a : Nat) (v : Word) : (s.wr a v).img = s.img := (rfl)
@[simp] theorem State.wr_gw (a : Nat) (v : Word) : (s.wr a v).gw = s.gw := (rfl)
@[simp] theorem State.wr_links (a : Nat) (v : Word) : (s.wr a v).links = s.links := (rfl)
@[simp] theorem State.wr_cal (a : Nat) (v : Word) : (s.wr a v).cal = s.cal := (rfl)
@[simp] theorem State.wr_dbg (a : Nat) (v : Word) : (s.wr a v).dbg = s.dbg := (rfl)
@[simp] theorem State.wr_calForce (a : Nat) (v : Word) : (s.wr a v).calForce = s.calForce := (rfl)
@[simp] theorem State.wr_calUse (a : Nat) (v : Word) : (s.wr a v).calUse = s.calUse := (rfl)
@[simp] theorem State.wr_ask (a : Nat) (v : Word) : (s.wr a v).ask = s.ask := (rfl)
@[simp] theorem State.wr_switched (a : Nat) (v : Word) : (s.wr a v).switched = s.switched := (rfl)
@[simp] theorem State.wr_due (a : Nat) (v : Word) : (s.wr a v).due = s.due := (rfl)
@[simp] theorem State.wr_sent (a : Nat) (v : Word) : (s.wr a v).sent = s.sent := (rfl)
@[simp] theorem State.wr_free (a : Nat) (v : Word) : (s.wr a v).free = s.free := (rfl)
@[simp] theorem State.wr_pending (a : Nat) (v : Word) : (s.wr a v).pending = s.pending := (rfl)

@[simp] theorem State.setFld_tb (f : Fld) (v n k : Nat) : (s.setFld f v n k).tb = s.tb := (rfl)
@[simp] theorem State.setFld_base (f : Fld) (v n k : Nat) : (s.setFld f v n k).base = s.base := (rfl)
@[simp] theorem State.setFld_sram (f : Fld) (v n k : Nat) : (s.setFld f v n k).sram = s.sram := (rfl)
@[simp] theorem State.setFld_tcm (f : Fld) (v n k : Nat) : (s.setFld f v n k).tcm = s.tcm := (rfl)
@[simp] theorem State.setFld_flash (f : Fld) (v n k : Nat) : (s.setFld f v n k).flash = s.flash := (rfl)
@[simp] theorem State.setFld_bus (f : Fld) (v n k : Nat) : (s.setFld f v n k).bus = s.bus := (rfl)
@[simp] theorem State.setFld_rdLatch (f : Fld) (v n k : Nat) : (s.setFld f v n k).rdLatch = s.rdLatch := (rfl)
@[simp] theorem State.setFld_wrLatch (f : Fld) (v n k : Nat) : (s.setFld f v n k).wrLatch = s.wrLatch := (rfl)
@[simp] theorem State.setFld_cores (f : Fld) (v n k : Nat) : (s.setFld f v n k).cores = s.cores := (rfl)
@[simp] theorem State.setFld_nest (f : Fld) (v n k : Nat) : (s.setFld f v n k).nest = s.nest := (rfl)
@[simp] theorem State.setFld_angle (f : Fld) (v n k : Nat) : (s.setFld f v n k).angle = s.angle := (rfl)
@[simp] theorem State.setFld_trk (f : Fld) (v n k : Nat) : (s.setFld f v n k).trk = s.trk := (rfl)
@[simp] theorem State.setFld_strm (f : Fld) (v n k : Nat) : (s.setFld f v n k).strm = s.strm := (rfl)
@[simp] theorem State.setFld_jrnReq (f : Fld) (v n k : Nat) : (s.setFld f v n k).jrnReq = s.jrnReq := (rfl)
@[simp] theorem State.setFld_jrnHandle (f : Fld) (v n k : Nat) : (s.setFld f v n k).jrnHandle = s.jrnHandle := (rfl)
@[simp] theorem State.setFld_fco (f : Fld) (v n k : Nat) : (s.setFld f v n k).fco = s.fco := (rfl)
@[simp] theorem State.setFld_cls (f : Fld) (v n k : Nat) : (s.setFld f v n k).cls = s.cls := (rfl)
@[simp] theorem State.setFld_husk (f : Fld) (v n k : Nat) : (s.setFld f v n k).husk = s.husk := (rfl)
@[simp] theorem State.setFld_pad (f : Fld) (v n k : Nat) : (s.setFld f v n k).pad = s.pad := (rfl)
@[simp] theorem State.setFld_chan (f : Fld) (v n k : Nat) : (s.setFld f v n k).chan = s.chan := (rfl)
@[simp] theorem State.setFld_task (f : Fld) (v n k : Nat) : (s.setFld f v n k).task = s.task := (rfl)
@[simp] theorem State.setFld_adc (f : Fld) (v n k : Nat) : (s.setFld f v n k).adc = s.adc := (rfl)
@[simp] theorem State.setFld_gainAt (f : Fld) (v n k : Nat) : (s.setFld f v n k).gainAt = s.gainAt := (rfl)
@[simp] theorem State.setFld_gchg (f : Fld) (v n k : Nat) : (s.setFld f v n k).gchg = s.gchg := (rfl)
@[simp] theorem State.setFld_gainNext (f : Fld) (v n k : Nat) : (s.setFld f v n k).gainNext = s.gainNext := (rfl)
@[simp] theorem State.setFld_knk (f : Fld) (v n k : Nat) : (s.setFld f v n k).knk = s.knk := (rfl)
@[simp] theorem State.setFld_enc (f : Fld) (v n k : Nat) : (s.setFld f v n k).enc = s.enc := (rfl)
@[simp] theorem State.setFld_nt (f : Fld) (v n k : Nat) : (s.setFld f v n k).nt = s.nt := (rfl)
@[simp] theorem State.setFld_tmr (f : Fld) (v n k : Nat) : (s.setFld f v n k).tmr = s.tmr := (rfl)
@[simp] theorem State.setFld_psq (f : Fld) (v n k : Nat) : (s.setFld f v n k).psq = s.psq := (rfl)
@[simp] theorem State.setFld_gpin (f : Fld) (v n k : Nat) : (s.setFld f v n k).gpin = s.gpin := (rfl)
@[simp] theorem State.setFld_mkLast (f : Fld) (v n k : Nat) : (s.setFld f v n k).mkLast = s.mkLast := (rfl)
@[simp] theorem State.setFld_mkPrev (f : Fld) (v n k : Nat) : (s.setFld f v n k).mkPrev = s.mkPrev := (rfl)
@[simp] theorem State.setFld_angPast (f : Fld) (v n k : Nat) : (s.setFld f v n k).angPast = s.angPast := (rfl)
@[simp] theorem State.setFld_pwr (f : Fld) (v n k : Nat) : (s.setFld f v n k).pwr = s.pwr := (rfl)
@[simp] theorem State.setFld_slp (f : Fld) (v n k : Nat) : (s.setFld f v n k).slp = s.slp := (rfl)
@[simp] theorem State.setFld_roll (f : Fld) (v n k : Nat) : (s.setFld f v n k).roll = s.roll := (rfl)
@[simp] theorem State.setFld_acn (f : Fld) (v n k : Nat) : (s.setFld f v n k).acn = s.acn := (rfl)
@[simp] theorem State.setFld_img (f : Fld) (v n k : Nat) : (s.setFld f v n k).img = s.img := (rfl)
@[simp] theorem State.setFld_gw (f : Fld) (v n k : Nat) : (s.setFld f v n k).gw = s.gw := (rfl)
@[simp] theorem State.setFld_links (f : Fld) (v n k : Nat) : (s.setFld f v n k).links = s.links := (rfl)
@[simp] theorem State.setFld_cal (f : Fld) (v n k : Nat) : (s.setFld f v n k).cal = s.cal := (rfl)
@[simp] theorem State.setFld_dbg (f : Fld) (v n k : Nat) : (s.setFld f v n k).dbg = s.dbg := (rfl)
@[simp] theorem State.setFld_calForce (f : Fld) (v n k : Nat) : (s.setFld f v n k).calForce = s.calForce := (rfl)
@[simp] theorem State.setFld_calUse (f : Fld) (v n k : Nat) : (s.setFld f v n k).calUse = s.calUse := (rfl)
@[simp] theorem State.setFld_ask (f : Fld) (v n k : Nat) : (s.setFld f v n k).ask = s.ask := (rfl)
@[simp] theorem State.setFld_switched (f : Fld) (v n k : Nat) : (s.setFld f v n k).switched = s.switched := (rfl)
@[simp] theorem State.setFld_due (f : Fld) (v n k : Nat) : (s.setFld f v n k).due = s.due := (rfl)
@[simp] theorem State.setFld_sent (f : Fld) (v n k : Nat) : (s.setFld f v n k).sent = s.sent := (rfl)
@[simp] theorem State.setFld_free (f : Fld) (v n k : Nat) : (s.setFld f v n k).free = s.free := (rfl)
@[simp] theorem State.setFld_pending (f : Fld) (v n k : Nat) : (s.setFld f v n k).pending = s.pending := (rfl)

@[simp] theorem State.setFlag_tb (f : Fld) (b : Bool) (n k : Nat) : (s.setFlag f b n k).tb = s.tb := (rfl)
@[simp] theorem State.setFlag_base (f : Fld) (b : Bool) (n k : Nat) : (s.setFlag f b n k).base = s.base := (rfl)
@[simp] theorem State.setFlag_sram (f : Fld) (b : Bool) (n k : Nat) : (s.setFlag f b n k).sram = s.sram := (rfl)
@[simp] theorem State.setFlag_tcm (f : Fld) (b : Bool) (n k : Nat) : (s.setFlag f b n k).tcm = s.tcm := (rfl)
@[simp] theorem State.setFlag_flash (f : Fld) (b : Bool) (n k : Nat) : (s.setFlag f b n k).flash = s.flash := (rfl)
@[simp] theorem State.setFlag_bus (f : Fld) (b : Bool) (n k : Nat) : (s.setFlag f b n k).bus = s.bus := (rfl)
@[simp] theorem State.setFlag_rdLatch (f : Fld) (b : Bool) (n k : Nat) : (s.setFlag f b n k).rdLatch = s.rdLatch := (rfl)
@[simp] theorem State.setFlag_wrLatch (f : Fld) (b : Bool) (n k : Nat) : (s.setFlag f b n k).wrLatch = s.wrLatch := (rfl)
@[simp] theorem State.setFlag_cores (f : Fld) (b : Bool) (n k : Nat) : (s.setFlag f b n k).cores = s.cores := (rfl)
@[simp] theorem State.setFlag_nest (f : Fld) (b : Bool) (n k : Nat) : (s.setFlag f b n k).nest = s.nest := (rfl)
@[simp] theorem State.setFlag_angle (f : Fld) (b : Bool) (n k : Nat) : (s.setFlag f b n k).angle = s.angle := (rfl)
@[simp] theorem State.setFlag_trk (f : Fld) (b : Bool) (n k : Nat) : (s.setFlag f b n k).trk = s.trk := (rfl)
@[simp] theorem State.setFlag_strm (f : Fld) (b : Bool) (n k : Nat) : (s.setFlag f b n k).strm = s.strm := (rfl)
@[simp] theorem State.setFlag_jrnReq (f : Fld) (b : Bool) (n k : Nat) : (s.setFlag f b n k).jrnReq = s.jrnReq := (rfl)
@[simp] theorem State.setFlag_jrnHandle (f : Fld) (b : Bool) (n k : Nat) : (s.setFlag f b n k).jrnHandle = s.jrnHandle := (rfl)
@[simp] theorem State.setFlag_fco (f : Fld) (b : Bool) (n k : Nat) : (s.setFlag f b n k).fco = s.fco := (rfl)
@[simp] theorem State.setFlag_cls (f : Fld) (b : Bool) (n k : Nat) : (s.setFlag f b n k).cls = s.cls := (rfl)
@[simp] theorem State.setFlag_husk (f : Fld) (b : Bool) (n k : Nat) : (s.setFlag f b n k).husk = s.husk := (rfl)
@[simp] theorem State.setFlag_pad (f : Fld) (b : Bool) (n k : Nat) : (s.setFlag f b n k).pad = s.pad := (rfl)
@[simp] theorem State.setFlag_chan (f : Fld) (b : Bool) (n k : Nat) : (s.setFlag f b n k).chan = s.chan := (rfl)
@[simp] theorem State.setFlag_task (f : Fld) (b : Bool) (n k : Nat) : (s.setFlag f b n k).task = s.task := (rfl)
@[simp] theorem State.setFlag_adc (f : Fld) (b : Bool) (n k : Nat) : (s.setFlag f b n k).adc = s.adc := (rfl)
@[simp] theorem State.setFlag_gainAt (f : Fld) (b : Bool) (n k : Nat) : (s.setFlag f b n k).gainAt = s.gainAt := (rfl)
@[simp] theorem State.setFlag_gchg (f : Fld) (b : Bool) (n k : Nat) : (s.setFlag f b n k).gchg = s.gchg := (rfl)
@[simp] theorem State.setFlag_gainNext (f : Fld) (b : Bool) (n k : Nat) : (s.setFlag f b n k).gainNext = s.gainNext := (rfl)
@[simp] theorem State.setFlag_knk (f : Fld) (b : Bool) (n k : Nat) : (s.setFlag f b n k).knk = s.knk := (rfl)
@[simp] theorem State.setFlag_enc (f : Fld) (b : Bool) (n k : Nat) : (s.setFlag f b n k).enc = s.enc := (rfl)
@[simp] theorem State.setFlag_nt (f : Fld) (b : Bool) (n k : Nat) : (s.setFlag f b n k).nt = s.nt := (rfl)
@[simp] theorem State.setFlag_tmr (f : Fld) (b : Bool) (n k : Nat) : (s.setFlag f b n k).tmr = s.tmr := (rfl)
@[simp] theorem State.setFlag_psq (f : Fld) (b : Bool) (n k : Nat) : (s.setFlag f b n k).psq = s.psq := (rfl)
@[simp] theorem State.setFlag_gpin (f : Fld) (b : Bool) (n k : Nat) : (s.setFlag f b n k).gpin = s.gpin := (rfl)
@[simp] theorem State.setFlag_mkLast (f : Fld) (b : Bool) (n k : Nat) : (s.setFlag f b n k).mkLast = s.mkLast := (rfl)
@[simp] theorem State.setFlag_mkPrev (f : Fld) (b : Bool) (n k : Nat) : (s.setFlag f b n k).mkPrev = s.mkPrev := (rfl)
@[simp] theorem State.setFlag_angPast (f : Fld) (b : Bool) (n k : Nat) : (s.setFlag f b n k).angPast = s.angPast := (rfl)
@[simp] theorem State.setFlag_pwr (f : Fld) (b : Bool) (n k : Nat) : (s.setFlag f b n k).pwr = s.pwr := (rfl)
@[simp] theorem State.setFlag_slp (f : Fld) (b : Bool) (n k : Nat) : (s.setFlag f b n k).slp = s.slp := (rfl)
@[simp] theorem State.setFlag_roll (f : Fld) (b : Bool) (n k : Nat) : (s.setFlag f b n k).roll = s.roll := (rfl)
@[simp] theorem State.setFlag_acn (f : Fld) (b : Bool) (n k : Nat) : (s.setFlag f b n k).acn = s.acn := (rfl)
@[simp] theorem State.setFlag_img (f : Fld) (b : Bool) (n k : Nat) : (s.setFlag f b n k).img = s.img := (rfl)
@[simp] theorem State.setFlag_gw (f : Fld) (b : Bool) (n k : Nat) : (s.setFlag f b n k).gw = s.gw := (rfl)
@[simp] theorem State.setFlag_links (f : Fld) (b : Bool) (n k : Nat) : (s.setFlag f b n k).links = s.links := (rfl)
@[simp] theorem State.setFlag_cal (f : Fld) (b : Bool) (n k : Nat) : (s.setFlag f b n k).cal = s.cal := (rfl)
@[simp] theorem State.setFlag_dbg (f : Fld) (b : Bool) (n k : Nat) : (s.setFlag f b n k).dbg = s.dbg := (rfl)
@[simp] theorem State.setFlag_calForce (f : Fld) (b : Bool) (n k : Nat) : (s.setFlag f b n k).calForce = s.calForce := (rfl)
@[simp] theorem State.setFlag_calUse (f : Fld) (b : Bool) (n k : Nat) : (s.setFlag f b n k).calUse = s.calUse := (rfl)
@[simp] theorem State.setFlag_ask (f : Fld) (b : Bool) (n k : Nat) : (s.setFlag f b n k).ask = s.ask := (rfl)
@[simp] theorem State.setFlag_switched (f : Fld) (b : Bool) (n k : Nat) : (s.setFlag f b n k).switched = s.switched := (rfl)
@[simp] theorem State.setFlag_due (f : Fld) (b : Bool) (n k : Nat) : (s.setFlag f b n k).due = s.due := (rfl)
@[simp] theorem State.setFlag_sent (f : Fld) (b : Bool) (n k : Nat) : (s.setFlag f b n k).sent = s.sent := (rfl)
@[simp] theorem State.setFlag_free (f : Fld) (b : Bool) (n k : Nat) : (s.setFlag f b n k).free = s.free := (rfl)
@[simp] theorem State.setFlag_pending (f : Fld) (b : Bool) (n k : Nat) : (s.setFlag f b n k).pending = s.pending := (rfl)

@[simp] theorem State.setWide_tb (f : Fld) (v n k : Nat) : (s.setWide f v n k).tb = s.tb := (rfl)
@[simp] theorem State.setWide_base (f : Fld) (v n k : Nat) : (s.setWide f v n k).base = s.base := (rfl)
@[simp] theorem State.setWide_sram (f : Fld) (v n k : Nat) : (s.setWide f v n k).sram = s.sram := (rfl)
@[simp] theorem State.setWide_tcm (f : Fld) (v n k : Nat) : (s.setWide f v n k).tcm = s.tcm := (rfl)
@[simp] theorem State.setWide_flash (f : Fld) (v n k : Nat) : (s.setWide f v n k).flash = s.flash := (rfl)
@[simp] theorem State.setWide_bus (f : Fld) (v n k : Nat) : (s.setWide f v n k).bus = s.bus := (rfl)
@[simp] theorem State.setWide_rdLatch (f : Fld) (v n k : Nat) : (s.setWide f v n k).rdLatch = s.rdLatch := (rfl)
@[simp] theorem State.setWide_wrLatch (f : Fld) (v n k : Nat) : (s.setWide f v n k).wrLatch = s.wrLatch := (rfl)
@[simp] theorem State.setWide_cores (f : Fld) (v n k : Nat) : (s.setWide f v n k).cores = s.cores := (rfl)
@[simp] theorem State.setWide_nest (f : Fld) (v n k : Nat) : (s.setWide f v n k).nest = s.nest := (rfl)
@[simp] theorem State.setWide_angle (f : Fld) (v n k : Nat) : (s.setWide f v n k).angle = s.angle := (rfl)
@[simp] theorem State.setWide_trk (f : Fld) (v n k : Nat) : (s.setWide f v n k).trk = s.trk := (rfl)
@[simp] theorem State.setWide_strm (f : Fld) (v n k : Nat) : (s.setWide f v n k).strm = s.strm := (rfl)
@[simp] theorem State.setWide_jrnReq (f : Fld) (v n k : Nat) : (s.setWide f v n k).jrnReq = s.jrnReq := (rfl)
@[simp] theorem State.setWide_jrnHandle (f : Fld) (v n k : Nat) : (s.setWide f v n k).jrnHandle = s.jrnHandle := (rfl)
@[simp] theorem State.setWide_fco (f : Fld) (v n k : Nat) : (s.setWide f v n k).fco = s.fco := (rfl)
@[simp] theorem State.setWide_cls (f : Fld) (v n k : Nat) : (s.setWide f v n k).cls = s.cls := (rfl)
@[simp] theorem State.setWide_husk (f : Fld) (v n k : Nat) : (s.setWide f v n k).husk = s.husk := (rfl)
@[simp] theorem State.setWide_pad (f : Fld) (v n k : Nat) : (s.setWide f v n k).pad = s.pad := (rfl)
@[simp] theorem State.setWide_chan (f : Fld) (v n k : Nat) : (s.setWide f v n k).chan = s.chan := (rfl)
@[simp] theorem State.setWide_task (f : Fld) (v n k : Nat) : (s.setWide f v n k).task = s.task := (rfl)
@[simp] theorem State.setWide_adc (f : Fld) (v n k : Nat) : (s.setWide f v n k).adc = s.adc := (rfl)
@[simp] theorem State.setWide_gainAt (f : Fld) (v n k : Nat) : (s.setWide f v n k).gainAt = s.gainAt := (rfl)
@[simp] theorem State.setWide_gchg (f : Fld) (v n k : Nat) : (s.setWide f v n k).gchg = s.gchg := (rfl)
@[simp] theorem State.setWide_gainNext (f : Fld) (v n k : Nat) : (s.setWide f v n k).gainNext = s.gainNext := (rfl)
@[simp] theorem State.setWide_knk (f : Fld) (v n k : Nat) : (s.setWide f v n k).knk = s.knk := (rfl)
@[simp] theorem State.setWide_enc (f : Fld) (v n k : Nat) : (s.setWide f v n k).enc = s.enc := (rfl)
@[simp] theorem State.setWide_nt (f : Fld) (v n k : Nat) : (s.setWide f v n k).nt = s.nt := (rfl)
@[simp] theorem State.setWide_tmr (f : Fld) (v n k : Nat) : (s.setWide f v n k).tmr = s.tmr := (rfl)
@[simp] theorem State.setWide_psq (f : Fld) (v n k : Nat) : (s.setWide f v n k).psq = s.psq := (rfl)
@[simp] theorem State.setWide_gpin (f : Fld) (v n k : Nat) : (s.setWide f v n k).gpin = s.gpin := (rfl)
@[simp] theorem State.setWide_mkLast (f : Fld) (v n k : Nat) : (s.setWide f v n k).mkLast = s.mkLast := (rfl)
@[simp] theorem State.setWide_mkPrev (f : Fld) (v n k : Nat) : (s.setWide f v n k).mkPrev = s.mkPrev := (rfl)
@[simp] theorem State.setWide_angPast (f : Fld) (v n k : Nat) : (s.setWide f v n k).angPast = s.angPast := (rfl)
@[simp] theorem State.setWide_pwr (f : Fld) (v n k : Nat) : (s.setWide f v n k).pwr = s.pwr := (rfl)
@[simp] theorem State.setWide_slp (f : Fld) (v n k : Nat) : (s.setWide f v n k).slp = s.slp := (rfl)
@[simp] theorem State.setWide_roll (f : Fld) (v n k : Nat) : (s.setWide f v n k).roll = s.roll := (rfl)
@[simp] theorem State.setWide_acn (f : Fld) (v n k : Nat) : (s.setWide f v n k).acn = s.acn := (rfl)
@[simp] theorem State.setWide_img (f : Fld) (v n k : Nat) : (s.setWide f v n k).img = s.img := (rfl)
@[simp] theorem State.setWide_gw (f : Fld) (v n k : Nat) : (s.setWide f v n k).gw = s.gw := (rfl)
@[simp] theorem State.setWide_links (f : Fld) (v n k : Nat) : (s.setWide f v n k).links = s.links := (rfl)
@[simp] theorem State.setWide_cal (f : Fld) (v n k : Nat) : (s.setWide f v n k).cal = s.cal := (rfl)
@[simp] theorem State.setWide_dbg (f : Fld) (v n k : Nat) : (s.setWide f v n k).dbg = s.dbg := (rfl)
@[simp] theorem State.setWide_calForce (f : Fld) (v n k : Nat) : (s.setWide f v n k).calForce = s.calForce := (rfl)
@[simp] theorem State.setWide_calUse (f : Fld) (v n k : Nat) : (s.setWide f v n k).calUse = s.calUse := (rfl)
@[simp] theorem State.setWide_ask (f : Fld) (v n k : Nat) : (s.setWide f v n k).ask = s.ask := (rfl)
@[simp] theorem State.setWide_switched (f : Fld) (v n k : Nat) : (s.setWide f v n k).switched = s.switched := (rfl)
@[simp] theorem State.setWide_due (f : Fld) (v n k : Nat) : (s.setWide f v n k).due = s.due := (rfl)
@[simp] theorem State.setWide_sent (f : Fld) (v n k : Nat) : (s.setWide f v n k).sent = s.sent := (rfl)
@[simp] theorem State.setWide_free (f : Fld) (v n k : Nat) : (s.setWide f v n k).free = s.free := (rfl)
@[simp] theorem State.setWide_pending (f : Fld) (v n k : Nat) : (s.setWide f v n k).pending = s.pending := (rfl)

@[simp] theorem State.setBankBit_tb (f : Fld) (i : Nat) (b : Bool) : (s.setBankBit f i b).tb = s.tb := (rfl)
@[simp] theorem State.setBankBit_base (f : Fld) (i : Nat) (b : Bool) : (s.setBankBit f i b).base = s.base := (rfl)
@[simp] theorem State.setBankBit_sram (f : Fld) (i : Nat) (b : Bool) : (s.setBankBit f i b).sram = s.sram := (rfl)
@[simp] theorem State.setBankBit_tcm (f : Fld) (i : Nat) (b : Bool) : (s.setBankBit f i b).tcm = s.tcm := (rfl)
@[simp] theorem State.setBankBit_flash (f : Fld) (i : Nat) (b : Bool) : (s.setBankBit f i b).flash = s.flash := (rfl)
@[simp] theorem State.setBankBit_bus (f : Fld) (i : Nat) (b : Bool) : (s.setBankBit f i b).bus = s.bus := (rfl)
@[simp] theorem State.setBankBit_rdLatch (f : Fld) (i : Nat) (b : Bool) : (s.setBankBit f i b).rdLatch = s.rdLatch := (rfl)
@[simp] theorem State.setBankBit_wrLatch (f : Fld) (i : Nat) (b : Bool) : (s.setBankBit f i b).wrLatch = s.wrLatch := (rfl)
@[simp] theorem State.setBankBit_cores (f : Fld) (i : Nat) (b : Bool) : (s.setBankBit f i b).cores = s.cores := (rfl)
@[simp] theorem State.setBankBit_nest (f : Fld) (i : Nat) (b : Bool) : (s.setBankBit f i b).nest = s.nest := (rfl)
@[simp] theorem State.setBankBit_angle (f : Fld) (i : Nat) (b : Bool) : (s.setBankBit f i b).angle = s.angle := (rfl)
@[simp] theorem State.setBankBit_trk (f : Fld) (i : Nat) (b : Bool) : (s.setBankBit f i b).trk = s.trk := (rfl)
@[simp] theorem State.setBankBit_strm (f : Fld) (i : Nat) (b : Bool) : (s.setBankBit f i b).strm = s.strm := (rfl)
@[simp] theorem State.setBankBit_jrnReq (f : Fld) (i : Nat) (b : Bool) : (s.setBankBit f i b).jrnReq = s.jrnReq := (rfl)
@[simp] theorem State.setBankBit_jrnHandle (f : Fld) (i : Nat) (b : Bool) : (s.setBankBit f i b).jrnHandle = s.jrnHandle := (rfl)
@[simp] theorem State.setBankBit_fco (f : Fld) (i : Nat) (b : Bool) : (s.setBankBit f i b).fco = s.fco := (rfl)
@[simp] theorem State.setBankBit_cls (f : Fld) (i : Nat) (b : Bool) : (s.setBankBit f i b).cls = s.cls := (rfl)
@[simp] theorem State.setBankBit_husk (f : Fld) (i : Nat) (b : Bool) : (s.setBankBit f i b).husk = s.husk := (rfl)
@[simp] theorem State.setBankBit_pad (f : Fld) (i : Nat) (b : Bool) : (s.setBankBit f i b).pad = s.pad := (rfl)
@[simp] theorem State.setBankBit_chan (f : Fld) (i : Nat) (b : Bool) : (s.setBankBit f i b).chan = s.chan := (rfl)
@[simp] theorem State.setBankBit_task (f : Fld) (i : Nat) (b : Bool) : (s.setBankBit f i b).task = s.task := (rfl)
@[simp] theorem State.setBankBit_adc (f : Fld) (i : Nat) (b : Bool) : (s.setBankBit f i b).adc = s.adc := (rfl)
@[simp] theorem State.setBankBit_gainAt (f : Fld) (i : Nat) (b : Bool) : (s.setBankBit f i b).gainAt = s.gainAt := (rfl)
@[simp] theorem State.setBankBit_gchg (f : Fld) (i : Nat) (b : Bool) : (s.setBankBit f i b).gchg = s.gchg := (rfl)
@[simp] theorem State.setBankBit_gainNext (f : Fld) (i : Nat) (b : Bool) : (s.setBankBit f i b).gainNext = s.gainNext := (rfl)
@[simp] theorem State.setBankBit_knk (f : Fld) (i : Nat) (b : Bool) : (s.setBankBit f i b).knk = s.knk := (rfl)
@[simp] theorem State.setBankBit_enc (f : Fld) (i : Nat) (b : Bool) : (s.setBankBit f i b).enc = s.enc := (rfl)
@[simp] theorem State.setBankBit_nt (f : Fld) (i : Nat) (b : Bool) : (s.setBankBit f i b).nt = s.nt := (rfl)
@[simp] theorem State.setBankBit_tmr (f : Fld) (i : Nat) (b : Bool) : (s.setBankBit f i b).tmr = s.tmr := (rfl)
@[simp] theorem State.setBankBit_psq (f : Fld) (i : Nat) (b : Bool) : (s.setBankBit f i b).psq = s.psq := (rfl)
@[simp] theorem State.setBankBit_gpin (f : Fld) (i : Nat) (b : Bool) : (s.setBankBit f i b).gpin = s.gpin := (rfl)
@[simp] theorem State.setBankBit_mkLast (f : Fld) (i : Nat) (b : Bool) : (s.setBankBit f i b).mkLast = s.mkLast := (rfl)
@[simp] theorem State.setBankBit_mkPrev (f : Fld) (i : Nat) (b : Bool) : (s.setBankBit f i b).mkPrev = s.mkPrev := (rfl)
@[simp] theorem State.setBankBit_angPast (f : Fld) (i : Nat) (b : Bool) : (s.setBankBit f i b).angPast = s.angPast := (rfl)
@[simp] theorem State.setBankBit_pwr (f : Fld) (i : Nat) (b : Bool) : (s.setBankBit f i b).pwr = s.pwr := (rfl)
@[simp] theorem State.setBankBit_slp (f : Fld) (i : Nat) (b : Bool) : (s.setBankBit f i b).slp = s.slp := (rfl)
@[simp] theorem State.setBankBit_roll (f : Fld) (i : Nat) (b : Bool) : (s.setBankBit f i b).roll = s.roll := (rfl)
@[simp] theorem State.setBankBit_acn (f : Fld) (i : Nat) (b : Bool) : (s.setBankBit f i b).acn = s.acn := (rfl)
@[simp] theorem State.setBankBit_img (f : Fld) (i : Nat) (b : Bool) : (s.setBankBit f i b).img = s.img := (rfl)
@[simp] theorem State.setBankBit_gw (f : Fld) (i : Nat) (b : Bool) : (s.setBankBit f i b).gw = s.gw := (rfl)
@[simp] theorem State.setBankBit_links (f : Fld) (i : Nat) (b : Bool) : (s.setBankBit f i b).links = s.links := (rfl)
@[simp] theorem State.setBankBit_cal (f : Fld) (i : Nat) (b : Bool) : (s.setBankBit f i b).cal = s.cal := (rfl)
@[simp] theorem State.setBankBit_dbg (f : Fld) (i : Nat) (b : Bool) : (s.setBankBit f i b).dbg = s.dbg := (rfl)
@[simp] theorem State.setBankBit_calForce (f : Fld) (i : Nat) (b : Bool) : (s.setBankBit f i b).calForce = s.calForce := (rfl)
@[simp] theorem State.setBankBit_calUse (f : Fld) (i : Nat) (b : Bool) : (s.setBankBit f i b).calUse = s.calUse := (rfl)
@[simp] theorem State.setBankBit_ask (f : Fld) (i : Nat) (b : Bool) : (s.setBankBit f i b).ask = s.ask := (rfl)
@[simp] theorem State.setBankBit_switched (f : Fld) (i : Nat) (b : Bool) : (s.setBankBit f i b).switched = s.switched := (rfl)
@[simp] theorem State.setBankBit_due (f : Fld) (i : Nat) (b : Bool) : (s.setBankBit f i b).due = s.due := (rfl)
@[simp] theorem State.setBankBit_sent (f : Fld) (i : Nat) (b : Bool) : (s.setBankBit f i b).sent = s.sent := (rfl)
@[simp] theorem State.setBankBit_free (f : Fld) (i : Nat) (b : Bool) : (s.setBankBit f i b).free = s.free := (rfl)
@[simp] theorem State.setBankBit_pending (f : Fld) (i : Nat) (b : Bool) : (s.setBankBit f i b).pending = s.pending := (rfl)

@[simp] theorem State.bumpBy_tb (f : Fld) (d n k : Nat) : (s.bumpBy f d n k).tb = s.tb := (rfl)
@[simp] theorem State.bumpBy_base (f : Fld) (d n k : Nat) : (s.bumpBy f d n k).base = s.base := (rfl)
@[simp] theorem State.bumpBy_sram (f : Fld) (d n k : Nat) : (s.bumpBy f d n k).sram = s.sram := (rfl)
@[simp] theorem State.bumpBy_tcm (f : Fld) (d n k : Nat) : (s.bumpBy f d n k).tcm = s.tcm := (rfl)
@[simp] theorem State.bumpBy_flash (f : Fld) (d n k : Nat) : (s.bumpBy f d n k).flash = s.flash := (rfl)
@[simp] theorem State.bumpBy_bus (f : Fld) (d n k : Nat) : (s.bumpBy f d n k).bus = s.bus := (rfl)
@[simp] theorem State.bumpBy_rdLatch (f : Fld) (d n k : Nat) : (s.bumpBy f d n k).rdLatch = s.rdLatch := (rfl)
@[simp] theorem State.bumpBy_wrLatch (f : Fld) (d n k : Nat) : (s.bumpBy f d n k).wrLatch = s.wrLatch := (rfl)
@[simp] theorem State.bumpBy_cores (f : Fld) (d n k : Nat) : (s.bumpBy f d n k).cores = s.cores := (rfl)
@[simp] theorem State.bumpBy_nest (f : Fld) (d n k : Nat) : (s.bumpBy f d n k).nest = s.nest := (rfl)
@[simp] theorem State.bumpBy_angle (f : Fld) (d n k : Nat) : (s.bumpBy f d n k).angle = s.angle := (rfl)
@[simp] theorem State.bumpBy_trk (f : Fld) (d n k : Nat) : (s.bumpBy f d n k).trk = s.trk := (rfl)
@[simp] theorem State.bumpBy_strm (f : Fld) (d n k : Nat) : (s.bumpBy f d n k).strm = s.strm := (rfl)
@[simp] theorem State.bumpBy_jrnReq (f : Fld) (d n k : Nat) : (s.bumpBy f d n k).jrnReq = s.jrnReq := (rfl)
@[simp] theorem State.bumpBy_jrnHandle (f : Fld) (d n k : Nat) : (s.bumpBy f d n k).jrnHandle = s.jrnHandle := (rfl)
@[simp] theorem State.bumpBy_fco (f : Fld) (d n k : Nat) : (s.bumpBy f d n k).fco = s.fco := (rfl)
@[simp] theorem State.bumpBy_cls (f : Fld) (d n k : Nat) : (s.bumpBy f d n k).cls = s.cls := (rfl)
@[simp] theorem State.bumpBy_husk (f : Fld) (d n k : Nat) : (s.bumpBy f d n k).husk = s.husk := (rfl)
@[simp] theorem State.bumpBy_pad (f : Fld) (d n k : Nat) : (s.bumpBy f d n k).pad = s.pad := (rfl)
@[simp] theorem State.bumpBy_chan (f : Fld) (d n k : Nat) : (s.bumpBy f d n k).chan = s.chan := (rfl)
@[simp] theorem State.bumpBy_task (f : Fld) (d n k : Nat) : (s.bumpBy f d n k).task = s.task := (rfl)
@[simp] theorem State.bumpBy_adc (f : Fld) (d n k : Nat) : (s.bumpBy f d n k).adc = s.adc := (rfl)
@[simp] theorem State.bumpBy_gainAt (f : Fld) (d n k : Nat) : (s.bumpBy f d n k).gainAt = s.gainAt := (rfl)
@[simp] theorem State.bumpBy_gchg (f : Fld) (d n k : Nat) : (s.bumpBy f d n k).gchg = s.gchg := (rfl)
@[simp] theorem State.bumpBy_gainNext (f : Fld) (d n k : Nat) : (s.bumpBy f d n k).gainNext = s.gainNext := (rfl)
@[simp] theorem State.bumpBy_knk (f : Fld) (d n k : Nat) : (s.bumpBy f d n k).knk = s.knk := (rfl)
@[simp] theorem State.bumpBy_enc (f : Fld) (d n k : Nat) : (s.bumpBy f d n k).enc = s.enc := (rfl)
@[simp] theorem State.bumpBy_nt (f : Fld) (d n k : Nat) : (s.bumpBy f d n k).nt = s.nt := (rfl)
@[simp] theorem State.bumpBy_tmr (f : Fld) (d n k : Nat) : (s.bumpBy f d n k).tmr = s.tmr := (rfl)
@[simp] theorem State.bumpBy_psq (f : Fld) (d n k : Nat) : (s.bumpBy f d n k).psq = s.psq := (rfl)
@[simp] theorem State.bumpBy_gpin (f : Fld) (d n k : Nat) : (s.bumpBy f d n k).gpin = s.gpin := (rfl)
@[simp] theorem State.bumpBy_mkLast (f : Fld) (d n k : Nat) : (s.bumpBy f d n k).mkLast = s.mkLast := (rfl)
@[simp] theorem State.bumpBy_mkPrev (f : Fld) (d n k : Nat) : (s.bumpBy f d n k).mkPrev = s.mkPrev := (rfl)
@[simp] theorem State.bumpBy_angPast (f : Fld) (d n k : Nat) : (s.bumpBy f d n k).angPast = s.angPast := (rfl)
@[simp] theorem State.bumpBy_pwr (f : Fld) (d n k : Nat) : (s.bumpBy f d n k).pwr = s.pwr := (rfl)
@[simp] theorem State.bumpBy_slp (f : Fld) (d n k : Nat) : (s.bumpBy f d n k).slp = s.slp := (rfl)
@[simp] theorem State.bumpBy_roll (f : Fld) (d n k : Nat) : (s.bumpBy f d n k).roll = s.roll := (rfl)
@[simp] theorem State.bumpBy_acn (f : Fld) (d n k : Nat) : (s.bumpBy f d n k).acn = s.acn := (rfl)
@[simp] theorem State.bumpBy_img (f : Fld) (d n k : Nat) : (s.bumpBy f d n k).img = s.img := (rfl)
@[simp] theorem State.bumpBy_gw (f : Fld) (d n k : Nat) : (s.bumpBy f d n k).gw = s.gw := (rfl)
@[simp] theorem State.bumpBy_links (f : Fld) (d n k : Nat) : (s.bumpBy f d n k).links = s.links := (rfl)
@[simp] theorem State.bumpBy_cal (f : Fld) (d n k : Nat) : (s.bumpBy f d n k).cal = s.cal := (rfl)
@[simp] theorem State.bumpBy_dbg (f : Fld) (d n k : Nat) : (s.bumpBy f d n k).dbg = s.dbg := (rfl)
@[simp] theorem State.bumpBy_calForce (f : Fld) (d n k : Nat) : (s.bumpBy f d n k).calForce = s.calForce := (rfl)
@[simp] theorem State.bumpBy_calUse (f : Fld) (d n k : Nat) : (s.bumpBy f d n k).calUse = s.calUse := (rfl)
@[simp] theorem State.bumpBy_ask (f : Fld) (d n k : Nat) : (s.bumpBy f d n k).ask = s.ask := (rfl)
@[simp] theorem State.bumpBy_switched (f : Fld) (d n k : Nat) : (s.bumpBy f d n k).switched = s.switched := (rfl)
@[simp] theorem State.bumpBy_due (f : Fld) (d n k : Nat) : (s.bumpBy f d n k).due = s.due := (rfl)
@[simp] theorem State.bumpBy_sent (f : Fld) (d n k : Nat) : (s.bumpBy f d n k).sent = s.sent := (rfl)
@[simp] theorem State.bumpBy_free (f : Fld) (d n k : Nat) : (s.bumpBy f d n k).free = s.free := (rfl)
@[simp] theorem State.bumpBy_pending (f : Fld) (d n k : Nat) : (s.bumpBy f d n k).pending = s.pending := (rfl)

@[simp] theorem State.bump_tb (f : Fld) (n k : Nat) : (s.bump f n k).tb = s.tb := (rfl)
@[simp] theorem State.bump_base (f : Fld) (n k : Nat) : (s.bump f n k).base = s.base := (rfl)
@[simp] theorem State.bump_sram (f : Fld) (n k : Nat) : (s.bump f n k).sram = s.sram := (rfl)
@[simp] theorem State.bump_tcm (f : Fld) (n k : Nat) : (s.bump f n k).tcm = s.tcm := (rfl)
@[simp] theorem State.bump_flash (f : Fld) (n k : Nat) : (s.bump f n k).flash = s.flash := (rfl)
@[simp] theorem State.bump_bus (f : Fld) (n k : Nat) : (s.bump f n k).bus = s.bus := (rfl)
@[simp] theorem State.bump_rdLatch (f : Fld) (n k : Nat) : (s.bump f n k).rdLatch = s.rdLatch := (rfl)
@[simp] theorem State.bump_wrLatch (f : Fld) (n k : Nat) : (s.bump f n k).wrLatch = s.wrLatch := (rfl)
@[simp] theorem State.bump_cores (f : Fld) (n k : Nat) : (s.bump f n k).cores = s.cores := (rfl)
@[simp] theorem State.bump_nest (f : Fld) (n k : Nat) : (s.bump f n k).nest = s.nest := (rfl)
@[simp] theorem State.bump_angle (f : Fld) (n k : Nat) : (s.bump f n k).angle = s.angle := (rfl)
@[simp] theorem State.bump_trk (f : Fld) (n k : Nat) : (s.bump f n k).trk = s.trk := (rfl)
@[simp] theorem State.bump_strm (f : Fld) (n k : Nat) : (s.bump f n k).strm = s.strm := (rfl)
@[simp] theorem State.bump_jrnReq (f : Fld) (n k : Nat) : (s.bump f n k).jrnReq = s.jrnReq := (rfl)
@[simp] theorem State.bump_jrnHandle (f : Fld) (n k : Nat) : (s.bump f n k).jrnHandle = s.jrnHandle := (rfl)
@[simp] theorem State.bump_fco (f : Fld) (n k : Nat) : (s.bump f n k).fco = s.fco := (rfl)
@[simp] theorem State.bump_cls (f : Fld) (n k : Nat) : (s.bump f n k).cls = s.cls := (rfl)
@[simp] theorem State.bump_husk (f : Fld) (n k : Nat) : (s.bump f n k).husk = s.husk := (rfl)
@[simp] theorem State.bump_pad (f : Fld) (n k : Nat) : (s.bump f n k).pad = s.pad := (rfl)
@[simp] theorem State.bump_chan (f : Fld) (n k : Nat) : (s.bump f n k).chan = s.chan := (rfl)
@[simp] theorem State.bump_task (f : Fld) (n k : Nat) : (s.bump f n k).task = s.task := (rfl)
@[simp] theorem State.bump_adc (f : Fld) (n k : Nat) : (s.bump f n k).adc = s.adc := (rfl)
@[simp] theorem State.bump_gainAt (f : Fld) (n k : Nat) : (s.bump f n k).gainAt = s.gainAt := (rfl)
@[simp] theorem State.bump_gchg (f : Fld) (n k : Nat) : (s.bump f n k).gchg = s.gchg := (rfl)
@[simp] theorem State.bump_gainNext (f : Fld) (n k : Nat) : (s.bump f n k).gainNext = s.gainNext := (rfl)
@[simp] theorem State.bump_knk (f : Fld) (n k : Nat) : (s.bump f n k).knk = s.knk := (rfl)
@[simp] theorem State.bump_enc (f : Fld) (n k : Nat) : (s.bump f n k).enc = s.enc := (rfl)
@[simp] theorem State.bump_nt (f : Fld) (n k : Nat) : (s.bump f n k).nt = s.nt := (rfl)
@[simp] theorem State.bump_tmr (f : Fld) (n k : Nat) : (s.bump f n k).tmr = s.tmr := (rfl)
@[simp] theorem State.bump_psq (f : Fld) (n k : Nat) : (s.bump f n k).psq = s.psq := (rfl)
@[simp] theorem State.bump_gpin (f : Fld) (n k : Nat) : (s.bump f n k).gpin = s.gpin := (rfl)
@[simp] theorem State.bump_mkLast (f : Fld) (n k : Nat) : (s.bump f n k).mkLast = s.mkLast := (rfl)
@[simp] theorem State.bump_mkPrev (f : Fld) (n k : Nat) : (s.bump f n k).mkPrev = s.mkPrev := (rfl)
@[simp] theorem State.bump_angPast (f : Fld) (n k : Nat) : (s.bump f n k).angPast = s.angPast := (rfl)
@[simp] theorem State.bump_pwr (f : Fld) (n k : Nat) : (s.bump f n k).pwr = s.pwr := (rfl)
@[simp] theorem State.bump_slp (f : Fld) (n k : Nat) : (s.bump f n k).slp = s.slp := (rfl)
@[simp] theorem State.bump_roll (f : Fld) (n k : Nat) : (s.bump f n k).roll = s.roll := (rfl)
@[simp] theorem State.bump_acn (f : Fld) (n k : Nat) : (s.bump f n k).acn = s.acn := (rfl)
@[simp] theorem State.bump_img (f : Fld) (n k : Nat) : (s.bump f n k).img = s.img := (rfl)
@[simp] theorem State.bump_gw (f : Fld) (n k : Nat) : (s.bump f n k).gw = s.gw := (rfl)
@[simp] theorem State.bump_links (f : Fld) (n k : Nat) : (s.bump f n k).links = s.links := (rfl)
@[simp] theorem State.bump_cal (f : Fld) (n k : Nat) : (s.bump f n k).cal = s.cal := (rfl)
@[simp] theorem State.bump_dbg (f : Fld) (n k : Nat) : (s.bump f n k).dbg = s.dbg := (rfl)
@[simp] theorem State.bump_calForce (f : Fld) (n k : Nat) : (s.bump f n k).calForce = s.calForce := (rfl)
@[simp] theorem State.bump_calUse (f : Fld) (n k : Nat) : (s.bump f n k).calUse = s.calUse := (rfl)
@[simp] theorem State.bump_ask (f : Fld) (n k : Nat) : (s.bump f n k).ask = s.ask := (rfl)
@[simp] theorem State.bump_switched (f : Fld) (n k : Nat) : (s.bump f n k).switched = s.switched := (rfl)
@[simp] theorem State.bump_due (f : Fld) (n k : Nat) : (s.bump f n k).due = s.due := (rfl)
@[simp] theorem State.bump_sent (f : Fld) (n k : Nat) : (s.bump f n k).sent = s.sent := (rfl)
@[simp] theorem State.bump_free (f : Fld) (n k : Nat) : (s.bump f n k).free = s.free := (rfl)
@[simp] theorem State.bump_pending (f : Fld) (n k : Nat) : (s.bump f n k).pending = s.pending := (rfl)

@[simp] theorem State.busOk_tb (v : Nat) : (s.busOk v).tb = s.tb := (rfl)
@[simp] theorem State.busOk_regs (v : Nat) : (s.busOk v).regs = s.regs := (rfl)
@[simp] theorem State.busOk_base (v : Nat) : (s.busOk v).base = s.base := (rfl)
@[simp] theorem State.busOk_sram (v : Nat) : (s.busOk v).sram = s.sram := (rfl)
@[simp] theorem State.busOk_tcm (v : Nat) : (s.busOk v).tcm = s.tcm := (rfl)
@[simp] theorem State.busOk_flash (v : Nat) : (s.busOk v).flash = s.flash := (rfl)
@[simp] theorem State.busOk_rdLatch (v : Nat) : (s.busOk v).rdLatch = s.rdLatch := (rfl)
@[simp] theorem State.busOk_wrLatch (v : Nat) : (s.busOk v).wrLatch = s.wrLatch := (rfl)
@[simp] theorem State.busOk_cores (v : Nat) : (s.busOk v).cores = s.cores := (rfl)
@[simp] theorem State.busOk_nest (v : Nat) : (s.busOk v).nest = s.nest := (rfl)
@[simp] theorem State.busOk_angle (v : Nat) : (s.busOk v).angle = s.angle := (rfl)
@[simp] theorem State.busOk_trk (v : Nat) : (s.busOk v).trk = s.trk := (rfl)
@[simp] theorem State.busOk_strm (v : Nat) : (s.busOk v).strm = s.strm := (rfl)
@[simp] theorem State.busOk_jrnReq (v : Nat) : (s.busOk v).jrnReq = s.jrnReq := (rfl)
@[simp] theorem State.busOk_jrnHandle (v : Nat) : (s.busOk v).jrnHandle = s.jrnHandle := (rfl)
@[simp] theorem State.busOk_fco (v : Nat) : (s.busOk v).fco = s.fco := (rfl)
@[simp] theorem State.busOk_cls (v : Nat) : (s.busOk v).cls = s.cls := (rfl)
@[simp] theorem State.busOk_husk (v : Nat) : (s.busOk v).husk = s.husk := (rfl)
@[simp] theorem State.busOk_pad (v : Nat) : (s.busOk v).pad = s.pad := (rfl)
@[simp] theorem State.busOk_chan (v : Nat) : (s.busOk v).chan = s.chan := (rfl)
@[simp] theorem State.busOk_task (v : Nat) : (s.busOk v).task = s.task := (rfl)
@[simp] theorem State.busOk_adc (v : Nat) : (s.busOk v).adc = s.adc := (rfl)
@[simp] theorem State.busOk_gainAt (v : Nat) : (s.busOk v).gainAt = s.gainAt := (rfl)
@[simp] theorem State.busOk_gchg (v : Nat) : (s.busOk v).gchg = s.gchg := (rfl)
@[simp] theorem State.busOk_gainNext (v : Nat) : (s.busOk v).gainNext = s.gainNext := (rfl)
@[simp] theorem State.busOk_knk (v : Nat) : (s.busOk v).knk = s.knk := (rfl)
@[simp] theorem State.busOk_enc (v : Nat) : (s.busOk v).enc = s.enc := (rfl)
@[simp] theorem State.busOk_nt (v : Nat) : (s.busOk v).nt = s.nt := (rfl)
@[simp] theorem State.busOk_tmr (v : Nat) : (s.busOk v).tmr = s.tmr := (rfl)
@[simp] theorem State.busOk_psq (v : Nat) : (s.busOk v).psq = s.psq := (rfl)
@[simp] theorem State.busOk_gpin (v : Nat) : (s.busOk v).gpin = s.gpin := (rfl)
@[simp] theorem State.busOk_mkLast (v : Nat) : (s.busOk v).mkLast = s.mkLast := (rfl)
@[simp] theorem State.busOk_mkPrev (v : Nat) : (s.busOk v).mkPrev = s.mkPrev := (rfl)
@[simp] theorem State.busOk_angPast (v : Nat) : (s.busOk v).angPast = s.angPast := (rfl)
@[simp] theorem State.busOk_pwr (v : Nat) : (s.busOk v).pwr = s.pwr := (rfl)
@[simp] theorem State.busOk_slp (v : Nat) : (s.busOk v).slp = s.slp := (rfl)
@[simp] theorem State.busOk_roll (v : Nat) : (s.busOk v).roll = s.roll := (rfl)
@[simp] theorem State.busOk_acn (v : Nat) : (s.busOk v).acn = s.acn := (rfl)
@[simp] theorem State.busOk_img (v : Nat) : (s.busOk v).img = s.img := (rfl)
@[simp] theorem State.busOk_gw (v : Nat) : (s.busOk v).gw = s.gw := (rfl)
@[simp] theorem State.busOk_links (v : Nat) : (s.busOk v).links = s.links := (rfl)
@[simp] theorem State.busOk_cal (v : Nat) : (s.busOk v).cal = s.cal := (rfl)
@[simp] theorem State.busOk_dbg (v : Nat) : (s.busOk v).dbg = s.dbg := (rfl)
@[simp] theorem State.busOk_calForce (v : Nat) : (s.busOk v).calForce = s.calForce := (rfl)
@[simp] theorem State.busOk_calUse (v : Nat) : (s.busOk v).calUse = s.calUse := (rfl)
@[simp] theorem State.busOk_ask (v : Nat) : (s.busOk v).ask = s.ask := (rfl)
@[simp] theorem State.busOk_switched (v : Nat) : (s.busOk v).switched = s.switched := (rfl)
@[simp] theorem State.busOk_due (v : Nat) : (s.busOk v).due = s.due := (rfl)
@[simp] theorem State.busOk_sent (v : Nat) : (s.busOk v).sent = s.sent := (rfl)
@[simp] theorem State.busOk_free (v : Nat) : (s.busOk v).free = s.free := (rfl)
@[simp] theorem State.busOk_pending (v : Nat) : (s.busOk v).pending = s.pending := (rfl)

@[simp] theorem State.busErr_tb : (s.busErr).tb = s.tb := (rfl)
@[simp] theorem State.busErr_regs : (s.busErr).regs = s.regs := (rfl)
@[simp] theorem State.busErr_base : (s.busErr).base = s.base := (rfl)
@[simp] theorem State.busErr_sram : (s.busErr).sram = s.sram := (rfl)
@[simp] theorem State.busErr_tcm : (s.busErr).tcm = s.tcm := (rfl)
@[simp] theorem State.busErr_flash : (s.busErr).flash = s.flash := (rfl)
@[simp] theorem State.busErr_rdLatch : (s.busErr).rdLatch = s.rdLatch := (rfl)
@[simp] theorem State.busErr_wrLatch : (s.busErr).wrLatch = s.wrLatch := (rfl)
@[simp] theorem State.busErr_cores : (s.busErr).cores = s.cores := (rfl)
@[simp] theorem State.busErr_nest : (s.busErr).nest = s.nest := (rfl)
@[simp] theorem State.busErr_angle : (s.busErr).angle = s.angle := (rfl)
@[simp] theorem State.busErr_trk : (s.busErr).trk = s.trk := (rfl)
@[simp] theorem State.busErr_strm : (s.busErr).strm = s.strm := (rfl)
@[simp] theorem State.busErr_jrnReq : (s.busErr).jrnReq = s.jrnReq := (rfl)
@[simp] theorem State.busErr_jrnHandle : (s.busErr).jrnHandle = s.jrnHandle := (rfl)
@[simp] theorem State.busErr_fco : (s.busErr).fco = s.fco := (rfl)
@[simp] theorem State.busErr_cls : (s.busErr).cls = s.cls := (rfl)
@[simp] theorem State.busErr_husk : (s.busErr).husk = s.husk := (rfl)
@[simp] theorem State.busErr_pad : (s.busErr).pad = s.pad := (rfl)
@[simp] theorem State.busErr_chan : (s.busErr).chan = s.chan := (rfl)
@[simp] theorem State.busErr_task : (s.busErr).task = s.task := (rfl)
@[simp] theorem State.busErr_adc : (s.busErr).adc = s.adc := (rfl)
@[simp] theorem State.busErr_gainAt : (s.busErr).gainAt = s.gainAt := (rfl)
@[simp] theorem State.busErr_gchg : (s.busErr).gchg = s.gchg := (rfl)
@[simp] theorem State.busErr_gainNext : (s.busErr).gainNext = s.gainNext := (rfl)
@[simp] theorem State.busErr_knk : (s.busErr).knk = s.knk := (rfl)
@[simp] theorem State.busErr_enc : (s.busErr).enc = s.enc := (rfl)
@[simp] theorem State.busErr_nt : (s.busErr).nt = s.nt := (rfl)
@[simp] theorem State.busErr_tmr : (s.busErr).tmr = s.tmr := (rfl)
@[simp] theorem State.busErr_psq : (s.busErr).psq = s.psq := (rfl)
@[simp] theorem State.busErr_gpin : (s.busErr).gpin = s.gpin := (rfl)
@[simp] theorem State.busErr_mkLast : (s.busErr).mkLast = s.mkLast := (rfl)
@[simp] theorem State.busErr_mkPrev : (s.busErr).mkPrev = s.mkPrev := (rfl)
@[simp] theorem State.busErr_angPast : (s.busErr).angPast = s.angPast := (rfl)
@[simp] theorem State.busErr_pwr : (s.busErr).pwr = s.pwr := (rfl)
@[simp] theorem State.busErr_slp : (s.busErr).slp = s.slp := (rfl)
@[simp] theorem State.busErr_roll : (s.busErr).roll = s.roll := (rfl)
@[simp] theorem State.busErr_acn : (s.busErr).acn = s.acn := (rfl)
@[simp] theorem State.busErr_img : (s.busErr).img = s.img := (rfl)
@[simp] theorem State.busErr_gw : (s.busErr).gw = s.gw := (rfl)
@[simp] theorem State.busErr_links : (s.busErr).links = s.links := (rfl)
@[simp] theorem State.busErr_cal : (s.busErr).cal = s.cal := (rfl)
@[simp] theorem State.busErr_dbg : (s.busErr).dbg = s.dbg := (rfl)
@[simp] theorem State.busErr_calForce : (s.busErr).calForce = s.calForce := (rfl)
@[simp] theorem State.busErr_calUse : (s.busErr).calUse = s.calUse := (rfl)
@[simp] theorem State.busErr_ask : (s.busErr).ask = s.ask := (rfl)
@[simp] theorem State.busErr_switched : (s.busErr).switched = s.switched := (rfl)
@[simp] theorem State.busErr_due : (s.busErr).due = s.due := (rfl)
@[simp] theorem State.busErr_sent : (s.busErr).sent = s.sent := (rfl)
@[simp] theorem State.busErr_free : (s.busErr).free = s.free := (rfl)
@[simp] theorem State.busErr_pending : (s.busErr).pending = s.pending := (rfl)

@[simp] theorem State.emit_tb (e : Emit) : (s.emit e).tb = s.tb := (rfl)
@[simp] theorem State.emit_regs (e : Emit) : (s.emit e).regs = s.regs := (rfl)
@[simp] theorem State.emit_base (e : Emit) : (s.emit e).base = s.base := (rfl)
@[simp] theorem State.emit_sram (e : Emit) : (s.emit e).sram = s.sram := (rfl)
@[simp] theorem State.emit_tcm (e : Emit) : (s.emit e).tcm = s.tcm := (rfl)
@[simp] theorem State.emit_flash (e : Emit) : (s.emit e).flash = s.flash := (rfl)
@[simp] theorem State.emit_bus (e : Emit) : (s.emit e).bus = s.bus := (rfl)
@[simp] theorem State.emit_rdLatch (e : Emit) : (s.emit e).rdLatch = s.rdLatch := (rfl)
@[simp] theorem State.emit_wrLatch (e : Emit) : (s.emit e).wrLatch = s.wrLatch := (rfl)
@[simp] theorem State.emit_cores (e : Emit) : (s.emit e).cores = s.cores := (rfl)
@[simp] theorem State.emit_nest (e : Emit) : (s.emit e).nest = s.nest := (rfl)
@[simp] theorem State.emit_angle (e : Emit) : (s.emit e).angle = s.angle := (rfl)
@[simp] theorem State.emit_trk (e : Emit) : (s.emit e).trk = s.trk := (rfl)
@[simp] theorem State.emit_strm (e : Emit) : (s.emit e).strm = s.strm := (rfl)
@[simp] theorem State.emit_jrnReq (e : Emit) : (s.emit e).jrnReq = s.jrnReq := (rfl)
@[simp] theorem State.emit_jrnHandle (e : Emit) : (s.emit e).jrnHandle = s.jrnHandle := (rfl)
@[simp] theorem State.emit_fco (e : Emit) : (s.emit e).fco = s.fco := (rfl)
@[simp] theorem State.emit_cls (e : Emit) : (s.emit e).cls = s.cls := (rfl)
@[simp] theorem State.emit_husk (e : Emit) : (s.emit e).husk = s.husk := (rfl)
@[simp] theorem State.emit_pad (e : Emit) : (s.emit e).pad = s.pad := (rfl)
@[simp] theorem State.emit_chan (e : Emit) : (s.emit e).chan = s.chan := (rfl)
@[simp] theorem State.emit_task (e : Emit) : (s.emit e).task = s.task := (rfl)
@[simp] theorem State.emit_adc (e : Emit) : (s.emit e).adc = s.adc := (rfl)
@[simp] theorem State.emit_gainAt (e : Emit) : (s.emit e).gainAt = s.gainAt := (rfl)
@[simp] theorem State.emit_gchg (e : Emit) : (s.emit e).gchg = s.gchg := (rfl)
@[simp] theorem State.emit_gainNext (e : Emit) : (s.emit e).gainNext = s.gainNext := (rfl)
@[simp] theorem State.emit_knk (e : Emit) : (s.emit e).knk = s.knk := (rfl)
@[simp] theorem State.emit_enc (e : Emit) : (s.emit e).enc = s.enc := (rfl)
@[simp] theorem State.emit_nt (e : Emit) : (s.emit e).nt = s.nt := (rfl)
@[simp] theorem State.emit_tmr (e : Emit) : (s.emit e).tmr = s.tmr := (rfl)
@[simp] theorem State.emit_psq (e : Emit) : (s.emit e).psq = s.psq := (rfl)
@[simp] theorem State.emit_gpin (e : Emit) : (s.emit e).gpin = s.gpin := (rfl)
@[simp] theorem State.emit_mkLast (e : Emit) : (s.emit e).mkLast = s.mkLast := (rfl)
@[simp] theorem State.emit_mkPrev (e : Emit) : (s.emit e).mkPrev = s.mkPrev := (rfl)
@[simp] theorem State.emit_angPast (e : Emit) : (s.emit e).angPast = s.angPast := (rfl)
@[simp] theorem State.emit_pwr (e : Emit) : (s.emit e).pwr = s.pwr := (rfl)
@[simp] theorem State.emit_slp (e : Emit) : (s.emit e).slp = s.slp := (rfl)
@[simp] theorem State.emit_roll (e : Emit) : (s.emit e).roll = s.roll := (rfl)
@[simp] theorem State.emit_acn (e : Emit) : (s.emit e).acn = s.acn := (rfl)
@[simp] theorem State.emit_img (e : Emit) : (s.emit e).img = s.img := (rfl)
@[simp] theorem State.emit_gw (e : Emit) : (s.emit e).gw = s.gw := (rfl)
@[simp] theorem State.emit_links (e : Emit) : (s.emit e).links = s.links := (rfl)
@[simp] theorem State.emit_cal (e : Emit) : (s.emit e).cal = s.cal := (rfl)
@[simp] theorem State.emit_dbg (e : Emit) : (s.emit e).dbg = s.dbg := (rfl)
@[simp] theorem State.emit_calForce (e : Emit) : (s.emit e).calForce = s.calForce := (rfl)
@[simp] theorem State.emit_calUse (e : Emit) : (s.emit e).calUse = s.calUse := (rfl)
@[simp] theorem State.emit_ask (e : Emit) : (s.emit e).ask = s.ask := (rfl)
@[simp] theorem State.emit_switched (e : Emit) : (s.emit e).switched = s.switched := (rfl)
@[simp] theorem State.emit_sent (e : Emit) : (s.emit e).sent = s.sent := (rfl)
@[simp] theorem State.emit_free (e : Emit) : (s.emit e).free = s.free := (rfl)
@[simp] theorem State.emit_pending (e : Emit) : (s.emit e).pending = s.pending := (rfl)

@[simp] theorem State.raiseFault_tb (src data : Nat) : (s.raiseFault src data).tb = s.tb := (rfl)
@[simp] theorem State.raiseFault_regs (src data : Nat) : (s.raiseFault src data).regs = s.regs := (rfl)
@[simp] theorem State.raiseFault_base (src data : Nat) : (s.raiseFault src data).base = s.base := (rfl)
@[simp] theorem State.raiseFault_sram (src data : Nat) : (s.raiseFault src data).sram = s.sram := (rfl)
@[simp] theorem State.raiseFault_tcm (src data : Nat) : (s.raiseFault src data).tcm = s.tcm := (rfl)
@[simp] theorem State.raiseFault_flash (src data : Nat) : (s.raiseFault src data).flash = s.flash := (rfl)
@[simp] theorem State.raiseFault_bus (src data : Nat) : (s.raiseFault src data).bus = s.bus := (rfl)
@[simp] theorem State.raiseFault_rdLatch (src data : Nat) : (s.raiseFault src data).rdLatch = s.rdLatch := (rfl)
@[simp] theorem State.raiseFault_wrLatch (src data : Nat) : (s.raiseFault src data).wrLatch = s.wrLatch := (rfl)
@[simp] theorem State.raiseFault_cores (src data : Nat) : (s.raiseFault src data).cores = s.cores := (rfl)
@[simp] theorem State.raiseFault_nest (src data : Nat) : (s.raiseFault src data).nest = s.nest := (rfl)
@[simp] theorem State.raiseFault_angle (src data : Nat) : (s.raiseFault src data).angle = s.angle := (rfl)
@[simp] theorem State.raiseFault_trk (src data : Nat) : (s.raiseFault src data).trk = s.trk := (rfl)
@[simp] theorem State.raiseFault_strm (src data : Nat) : (s.raiseFault src data).strm = s.strm := (rfl)
@[simp] theorem State.raiseFault_jrnReq (src data : Nat) : (s.raiseFault src data).jrnReq = s.jrnReq := (rfl)
@[simp] theorem State.raiseFault_jrnHandle (src data : Nat) : (s.raiseFault src data).jrnHandle = s.jrnHandle := (rfl)
@[simp] theorem State.raiseFault_fco (src data : Nat) : (s.raiseFault src data).fco = s.fco := (rfl)
@[simp] theorem State.raiseFault_cls (src data : Nat) : (s.raiseFault src data).cls = s.cls := (rfl)
@[simp] theorem State.raiseFault_husk (src data : Nat) : (s.raiseFault src data).husk = s.husk := (rfl)
@[simp] theorem State.raiseFault_pad (src data : Nat) : (s.raiseFault src data).pad = s.pad := (rfl)
@[simp] theorem State.raiseFault_chan (src data : Nat) : (s.raiseFault src data).chan = s.chan := (rfl)
@[simp] theorem State.raiseFault_task (src data : Nat) : (s.raiseFault src data).task = s.task := (rfl)
@[simp] theorem State.raiseFault_adc (src data : Nat) : (s.raiseFault src data).adc = s.adc := (rfl)
@[simp] theorem State.raiseFault_gainAt (src data : Nat) : (s.raiseFault src data).gainAt = s.gainAt := (rfl)
@[simp] theorem State.raiseFault_gchg (src data : Nat) : (s.raiseFault src data).gchg = s.gchg := (rfl)
@[simp] theorem State.raiseFault_gainNext (src data : Nat) : (s.raiseFault src data).gainNext = s.gainNext := (rfl)
@[simp] theorem State.raiseFault_knk (src data : Nat) : (s.raiseFault src data).knk = s.knk := (rfl)
@[simp] theorem State.raiseFault_enc (src data : Nat) : (s.raiseFault src data).enc = s.enc := (rfl)
@[simp] theorem State.raiseFault_nt (src data : Nat) : (s.raiseFault src data).nt = s.nt := (rfl)
@[simp] theorem State.raiseFault_tmr (src data : Nat) : (s.raiseFault src data).tmr = s.tmr := (rfl)
@[simp] theorem State.raiseFault_psq (src data : Nat) : (s.raiseFault src data).psq = s.psq := (rfl)
@[simp] theorem State.raiseFault_gpin (src data : Nat) : (s.raiseFault src data).gpin = s.gpin := (rfl)
@[simp] theorem State.raiseFault_mkLast (src data : Nat) : (s.raiseFault src data).mkLast = s.mkLast := (rfl)
@[simp] theorem State.raiseFault_mkPrev (src data : Nat) : (s.raiseFault src data).mkPrev = s.mkPrev := (rfl)
@[simp] theorem State.raiseFault_angPast (src data : Nat) : (s.raiseFault src data).angPast = s.angPast := (rfl)
@[simp] theorem State.raiseFault_pwr (src data : Nat) : (s.raiseFault src data).pwr = s.pwr := (rfl)
@[simp] theorem State.raiseFault_slp (src data : Nat) : (s.raiseFault src data).slp = s.slp := (rfl)
@[simp] theorem State.raiseFault_roll (src data : Nat) : (s.raiseFault src data).roll = s.roll := (rfl)
@[simp] theorem State.raiseFault_acn (src data : Nat) : (s.raiseFault src data).acn = s.acn := (rfl)
@[simp] theorem State.raiseFault_img (src data : Nat) : (s.raiseFault src data).img = s.img := (rfl)
@[simp] theorem State.raiseFault_gw (src data : Nat) : (s.raiseFault src data).gw = s.gw := (rfl)
@[simp] theorem State.raiseFault_links (src data : Nat) : (s.raiseFault src data).links = s.links := (rfl)
@[simp] theorem State.raiseFault_cal (src data : Nat) : (s.raiseFault src data).cal = s.cal := (rfl)
@[simp] theorem State.raiseFault_dbg (src data : Nat) : (s.raiseFault src data).dbg = s.dbg := (rfl)
@[simp] theorem State.raiseFault_calForce (src data : Nat) : (s.raiseFault src data).calForce = s.calForce := (rfl)
@[simp] theorem State.raiseFault_calUse (src data : Nat) : (s.raiseFault src data).calUse = s.calUse := (rfl)
@[simp] theorem State.raiseFault_ask (src data : Nat) : (s.raiseFault src data).ask = s.ask := (rfl)
@[simp] theorem State.raiseFault_switched (src data : Nat) : (s.raiseFault src data).switched = s.switched := (rfl)
@[simp] theorem State.raiseFault_sent (src data : Nat) : (s.raiseFault src data).sent = s.sent := (rfl)
@[simp] theorem State.raiseFault_free (src data : Nat) : (s.raiseFault src data).free = s.free := (rfl)
@[simp] theorem State.raiseFault_pending (src data : Nat) : (s.raiseFault src data).pending = s.pending := (rfl)

@[simp] theorem State.setCore_tb (n : Nat) (x : Core) : (s.setCore n x).tb = s.tb := (rfl)
@[simp] theorem State.setCore_regs (n : Nat) (x : Core) : (s.setCore n x).regs = s.regs := (rfl)
@[simp] theorem State.setCore_base (n : Nat) (x : Core) : (s.setCore n x).base = s.base := (rfl)
@[simp] theorem State.setCore_sram (n : Nat) (x : Core) : (s.setCore n x).sram = s.sram := (rfl)
@[simp] theorem State.setCore_tcm (n : Nat) (x : Core) : (s.setCore n x).tcm = s.tcm := (rfl)
@[simp] theorem State.setCore_flash (n : Nat) (x : Core) : (s.setCore n x).flash = s.flash := (rfl)
@[simp] theorem State.setCore_bus (n : Nat) (x : Core) : (s.setCore n x).bus = s.bus := (rfl)
@[simp] theorem State.setCore_rdLatch (n : Nat) (x : Core) : (s.setCore n x).rdLatch = s.rdLatch := (rfl)
@[simp] theorem State.setCore_wrLatch (n : Nat) (x : Core) : (s.setCore n x).wrLatch = s.wrLatch := (rfl)
@[simp] theorem State.setCore_nest (n : Nat) (x : Core) : (s.setCore n x).nest = s.nest := (rfl)
@[simp] theorem State.setCore_angle (n : Nat) (x : Core) : (s.setCore n x).angle = s.angle := (rfl)
@[simp] theorem State.setCore_trk (n : Nat) (x : Core) : (s.setCore n x).trk = s.trk := (rfl)
@[simp] theorem State.setCore_strm (n : Nat) (x : Core) : (s.setCore n x).strm = s.strm := (rfl)
@[simp] theorem State.setCore_jrnReq (n : Nat) (x : Core) : (s.setCore n x).jrnReq = s.jrnReq := (rfl)
@[simp] theorem State.setCore_jrnHandle (n : Nat) (x : Core) : (s.setCore n x).jrnHandle = s.jrnHandle := (rfl)
@[simp] theorem State.setCore_fco (n : Nat) (x : Core) : (s.setCore n x).fco = s.fco := (rfl)
@[simp] theorem State.setCore_cls (n : Nat) (x : Core) : (s.setCore n x).cls = s.cls := (rfl)
@[simp] theorem State.setCore_husk (n : Nat) (x : Core) : (s.setCore n x).husk = s.husk := (rfl)
@[simp] theorem State.setCore_pad (n : Nat) (x : Core) : (s.setCore n x).pad = s.pad := (rfl)
@[simp] theorem State.setCore_chan (n : Nat) (x : Core) : (s.setCore n x).chan = s.chan := (rfl)
@[simp] theorem State.setCore_task (n : Nat) (x : Core) : (s.setCore n x).task = s.task := (rfl)
@[simp] theorem State.setCore_adc (n : Nat) (x : Core) : (s.setCore n x).adc = s.adc := (rfl)
@[simp] theorem State.setCore_gainAt (n : Nat) (x : Core) : (s.setCore n x).gainAt = s.gainAt := (rfl)
@[simp] theorem State.setCore_gchg (n : Nat) (x : Core) : (s.setCore n x).gchg = s.gchg := (rfl)
@[simp] theorem State.setCore_gainNext (n : Nat) (x : Core) : (s.setCore n x).gainNext = s.gainNext := (rfl)
@[simp] theorem State.setCore_knk (n : Nat) (x : Core) : (s.setCore n x).knk = s.knk := (rfl)
@[simp] theorem State.setCore_enc (n : Nat) (x : Core) : (s.setCore n x).enc = s.enc := (rfl)
@[simp] theorem State.setCore_nt (n : Nat) (x : Core) : (s.setCore n x).nt = s.nt := (rfl)
@[simp] theorem State.setCore_tmr (n : Nat) (x : Core) : (s.setCore n x).tmr = s.tmr := (rfl)
@[simp] theorem State.setCore_psq (n : Nat) (x : Core) : (s.setCore n x).psq = s.psq := (rfl)
@[simp] theorem State.setCore_gpin (n : Nat) (x : Core) : (s.setCore n x).gpin = s.gpin := (rfl)
@[simp] theorem State.setCore_mkLast (n : Nat) (x : Core) : (s.setCore n x).mkLast = s.mkLast := (rfl)
@[simp] theorem State.setCore_mkPrev (n : Nat) (x : Core) : (s.setCore n x).mkPrev = s.mkPrev := (rfl)
@[simp] theorem State.setCore_angPast (n : Nat) (x : Core) : (s.setCore n x).angPast = s.angPast := (rfl)
@[simp] theorem State.setCore_pwr (n : Nat) (x : Core) : (s.setCore n x).pwr = s.pwr := (rfl)
@[simp] theorem State.setCore_slp (n : Nat) (x : Core) : (s.setCore n x).slp = s.slp := (rfl)
@[simp] theorem State.setCore_roll (n : Nat) (x : Core) : (s.setCore n x).roll = s.roll := (rfl)
@[simp] theorem State.setCore_acn (n : Nat) (x : Core) : (s.setCore n x).acn = s.acn := (rfl)
@[simp] theorem State.setCore_img (n : Nat) (x : Core) : (s.setCore n x).img = s.img := (rfl)
@[simp] theorem State.setCore_gw (n : Nat) (x : Core) : (s.setCore n x).gw = s.gw := (rfl)
@[simp] theorem State.setCore_links (n : Nat) (x : Core) : (s.setCore n x).links = s.links := (rfl)
@[simp] theorem State.setCore_cal (n : Nat) (x : Core) : (s.setCore n x).cal = s.cal := (rfl)
@[simp] theorem State.setCore_dbg (n : Nat) (x : Core) : (s.setCore n x).dbg = s.dbg := (rfl)
@[simp] theorem State.setCore_calForce (n : Nat) (x : Core) : (s.setCore n x).calForce = s.calForce := (rfl)
@[simp] theorem State.setCore_calUse (n : Nat) (x : Core) : (s.setCore n x).calUse = s.calUse := (rfl)
@[simp] theorem State.setCore_ask (n : Nat) (x : Core) : (s.setCore n x).ask = s.ask := (rfl)
@[simp] theorem State.setCore_switched (n : Nat) (x : Core) : (s.setCore n x).switched = s.switched := (rfl)
@[simp] theorem State.setCore_due (n : Nat) (x : Core) : (s.setCore n x).due = s.due := (rfl)
@[simp] theorem State.setCore_sent (n : Nat) (x : Core) : (s.setCore n x).sent = s.sent := (rfl)
@[simp] theorem State.setCore_free (n : Nat) (x : Core) : (s.setCore n x).free = s.free := (rfl)
@[simp] theorem State.setCore_pending (n : Nat) (x : Core) : (s.setCore n x).pending = s.pending := (rfl)

@[simp] theorem State.setNest_tb (n : Nat) (x : List (Nat × Nat)) : (s.setNest n x).tb = s.tb := (rfl)
@[simp] theorem State.setNest_regs (n : Nat) (x : List (Nat × Nat)) : (s.setNest n x).regs = s.regs := (rfl)
@[simp] theorem State.setNest_base (n : Nat) (x : List (Nat × Nat)) : (s.setNest n x).base = s.base := (rfl)
@[simp] theorem State.setNest_sram (n : Nat) (x : List (Nat × Nat)) : (s.setNest n x).sram = s.sram := (rfl)
@[simp] theorem State.setNest_tcm (n : Nat) (x : List (Nat × Nat)) : (s.setNest n x).tcm = s.tcm := (rfl)
@[simp] theorem State.setNest_flash (n : Nat) (x : List (Nat × Nat)) : (s.setNest n x).flash = s.flash := (rfl)
@[simp] theorem State.setNest_bus (n : Nat) (x : List (Nat × Nat)) : (s.setNest n x).bus = s.bus := (rfl)
@[simp] theorem State.setNest_rdLatch (n : Nat) (x : List (Nat × Nat)) : (s.setNest n x).rdLatch = s.rdLatch := (rfl)
@[simp] theorem State.setNest_wrLatch (n : Nat) (x : List (Nat × Nat)) : (s.setNest n x).wrLatch = s.wrLatch := (rfl)
@[simp] theorem State.setNest_cores (n : Nat) (x : List (Nat × Nat)) : (s.setNest n x).cores = s.cores := (rfl)
@[simp] theorem State.setNest_angle (n : Nat) (x : List (Nat × Nat)) : (s.setNest n x).angle = s.angle := (rfl)
@[simp] theorem State.setNest_trk (n : Nat) (x : List (Nat × Nat)) : (s.setNest n x).trk = s.trk := (rfl)
@[simp] theorem State.setNest_strm (n : Nat) (x : List (Nat × Nat)) : (s.setNest n x).strm = s.strm := (rfl)
@[simp] theorem State.setNest_jrnReq (n : Nat) (x : List (Nat × Nat)) : (s.setNest n x).jrnReq = s.jrnReq := (rfl)
@[simp] theorem State.setNest_jrnHandle (n : Nat) (x : List (Nat × Nat)) : (s.setNest n x).jrnHandle = s.jrnHandle := (rfl)
@[simp] theorem State.setNest_fco (n : Nat) (x : List (Nat × Nat)) : (s.setNest n x).fco = s.fco := (rfl)
@[simp] theorem State.setNest_cls (n : Nat) (x : List (Nat × Nat)) : (s.setNest n x).cls = s.cls := (rfl)
@[simp] theorem State.setNest_husk (n : Nat) (x : List (Nat × Nat)) : (s.setNest n x).husk = s.husk := (rfl)
@[simp] theorem State.setNest_pad (n : Nat) (x : List (Nat × Nat)) : (s.setNest n x).pad = s.pad := (rfl)
@[simp] theorem State.setNest_chan (n : Nat) (x : List (Nat × Nat)) : (s.setNest n x).chan = s.chan := (rfl)
@[simp] theorem State.setNest_task (n : Nat) (x : List (Nat × Nat)) : (s.setNest n x).task = s.task := (rfl)
@[simp] theorem State.setNest_adc (n : Nat) (x : List (Nat × Nat)) : (s.setNest n x).adc = s.adc := (rfl)
@[simp] theorem State.setNest_gainAt (n : Nat) (x : List (Nat × Nat)) : (s.setNest n x).gainAt = s.gainAt := (rfl)
@[simp] theorem State.setNest_gchg (n : Nat) (x : List (Nat × Nat)) : (s.setNest n x).gchg = s.gchg := (rfl)
@[simp] theorem State.setNest_gainNext (n : Nat) (x : List (Nat × Nat)) : (s.setNest n x).gainNext = s.gainNext := (rfl)
@[simp] theorem State.setNest_knk (n : Nat) (x : List (Nat × Nat)) : (s.setNest n x).knk = s.knk := (rfl)
@[simp] theorem State.setNest_enc (n : Nat) (x : List (Nat × Nat)) : (s.setNest n x).enc = s.enc := (rfl)
@[simp] theorem State.setNest_nt (n : Nat) (x : List (Nat × Nat)) : (s.setNest n x).nt = s.nt := (rfl)
@[simp] theorem State.setNest_tmr (n : Nat) (x : List (Nat × Nat)) : (s.setNest n x).tmr = s.tmr := (rfl)
@[simp] theorem State.setNest_psq (n : Nat) (x : List (Nat × Nat)) : (s.setNest n x).psq = s.psq := (rfl)
@[simp] theorem State.setNest_gpin (n : Nat) (x : List (Nat × Nat)) : (s.setNest n x).gpin = s.gpin := (rfl)
@[simp] theorem State.setNest_mkLast (n : Nat) (x : List (Nat × Nat)) : (s.setNest n x).mkLast = s.mkLast := (rfl)
@[simp] theorem State.setNest_mkPrev (n : Nat) (x : List (Nat × Nat)) : (s.setNest n x).mkPrev = s.mkPrev := (rfl)
@[simp] theorem State.setNest_angPast (n : Nat) (x : List (Nat × Nat)) : (s.setNest n x).angPast = s.angPast := (rfl)
@[simp] theorem State.setNest_pwr (n : Nat) (x : List (Nat × Nat)) : (s.setNest n x).pwr = s.pwr := (rfl)
@[simp] theorem State.setNest_slp (n : Nat) (x : List (Nat × Nat)) : (s.setNest n x).slp = s.slp := (rfl)
@[simp] theorem State.setNest_roll (n : Nat) (x : List (Nat × Nat)) : (s.setNest n x).roll = s.roll := (rfl)
@[simp] theorem State.setNest_acn (n : Nat) (x : List (Nat × Nat)) : (s.setNest n x).acn = s.acn := (rfl)
@[simp] theorem State.setNest_img (n : Nat) (x : List (Nat × Nat)) : (s.setNest n x).img = s.img := (rfl)
@[simp] theorem State.setNest_gw (n : Nat) (x : List (Nat × Nat)) : (s.setNest n x).gw = s.gw := (rfl)
@[simp] theorem State.setNest_links (n : Nat) (x : List (Nat × Nat)) : (s.setNest n x).links = s.links := (rfl)
@[simp] theorem State.setNest_cal (n : Nat) (x : List (Nat × Nat)) : (s.setNest n x).cal = s.cal := (rfl)
@[simp] theorem State.setNest_dbg (n : Nat) (x : List (Nat × Nat)) : (s.setNest n x).dbg = s.dbg := (rfl)
@[simp] theorem State.setNest_calForce (n : Nat) (x : List (Nat × Nat)) : (s.setNest n x).calForce = s.calForce := (rfl)
@[simp] theorem State.setNest_calUse (n : Nat) (x : List (Nat × Nat)) : (s.setNest n x).calUse = s.calUse := (rfl)
@[simp] theorem State.setNest_ask (n : Nat) (x : List (Nat × Nat)) : (s.setNest n x).ask = s.ask := (rfl)
@[simp] theorem State.setNest_switched (n : Nat) (x : List (Nat × Nat)) : (s.setNest n x).switched = s.switched := (rfl)
@[simp] theorem State.setNest_due (n : Nat) (x : List (Nat × Nat)) : (s.setNest n x).due = s.due := (rfl)
@[simp] theorem State.setNest_sent (n : Nat) (x : List (Nat × Nat)) : (s.setNest n x).sent = s.sent := (rfl)
@[simp] theorem State.setNest_free (n : Nat) (x : List (Nat × Nat)) : (s.setNest n x).free = s.free := (rfl)
@[simp] theorem State.setNest_pending (n : Nat) (x : List (Nat × Nat)) : (s.setNest n x).pending = s.pending := (rfl)

@[simp] theorem State.setAng_tb (n : Nat) (x : Angle) : (s.setAng n x).tb = s.tb := (rfl)
@[simp] theorem State.setAng_regs (n : Nat) (x : Angle) : (s.setAng n x).regs = s.regs := (rfl)
@[simp] theorem State.setAng_base (n : Nat) (x : Angle) : (s.setAng n x).base = s.base := (rfl)
@[simp] theorem State.setAng_sram (n : Nat) (x : Angle) : (s.setAng n x).sram = s.sram := (rfl)
@[simp] theorem State.setAng_tcm (n : Nat) (x : Angle) : (s.setAng n x).tcm = s.tcm := (rfl)
@[simp] theorem State.setAng_flash (n : Nat) (x : Angle) : (s.setAng n x).flash = s.flash := (rfl)
@[simp] theorem State.setAng_bus (n : Nat) (x : Angle) : (s.setAng n x).bus = s.bus := (rfl)
@[simp] theorem State.setAng_rdLatch (n : Nat) (x : Angle) : (s.setAng n x).rdLatch = s.rdLatch := (rfl)
@[simp] theorem State.setAng_wrLatch (n : Nat) (x : Angle) : (s.setAng n x).wrLatch = s.wrLatch := (rfl)
@[simp] theorem State.setAng_cores (n : Nat) (x : Angle) : (s.setAng n x).cores = s.cores := (rfl)
@[simp] theorem State.setAng_nest (n : Nat) (x : Angle) : (s.setAng n x).nest = s.nest := (rfl)
@[simp] theorem State.setAng_trk (n : Nat) (x : Angle) : (s.setAng n x).trk = s.trk := (rfl)
@[simp] theorem State.setAng_strm (n : Nat) (x : Angle) : (s.setAng n x).strm = s.strm := (rfl)
@[simp] theorem State.setAng_jrnReq (n : Nat) (x : Angle) : (s.setAng n x).jrnReq = s.jrnReq := (rfl)
@[simp] theorem State.setAng_jrnHandle (n : Nat) (x : Angle) : (s.setAng n x).jrnHandle = s.jrnHandle := (rfl)
@[simp] theorem State.setAng_fco (n : Nat) (x : Angle) : (s.setAng n x).fco = s.fco := (rfl)
@[simp] theorem State.setAng_cls (n : Nat) (x : Angle) : (s.setAng n x).cls = s.cls := (rfl)
@[simp] theorem State.setAng_husk (n : Nat) (x : Angle) : (s.setAng n x).husk = s.husk := (rfl)
@[simp] theorem State.setAng_pad (n : Nat) (x : Angle) : (s.setAng n x).pad = s.pad := (rfl)
@[simp] theorem State.setAng_chan (n : Nat) (x : Angle) : (s.setAng n x).chan = s.chan := (rfl)
@[simp] theorem State.setAng_task (n : Nat) (x : Angle) : (s.setAng n x).task = s.task := (rfl)
@[simp] theorem State.setAng_adc (n : Nat) (x : Angle) : (s.setAng n x).adc = s.adc := (rfl)
@[simp] theorem State.setAng_gainAt (n : Nat) (x : Angle) : (s.setAng n x).gainAt = s.gainAt := (rfl)
@[simp] theorem State.setAng_gchg (n : Nat) (x : Angle) : (s.setAng n x).gchg = s.gchg := (rfl)
@[simp] theorem State.setAng_gainNext (n : Nat) (x : Angle) : (s.setAng n x).gainNext = s.gainNext := (rfl)
@[simp] theorem State.setAng_knk (n : Nat) (x : Angle) : (s.setAng n x).knk = s.knk := (rfl)
@[simp] theorem State.setAng_enc (n : Nat) (x : Angle) : (s.setAng n x).enc = s.enc := (rfl)
@[simp] theorem State.setAng_nt (n : Nat) (x : Angle) : (s.setAng n x).nt = s.nt := (rfl)
@[simp] theorem State.setAng_tmr (n : Nat) (x : Angle) : (s.setAng n x).tmr = s.tmr := (rfl)
@[simp] theorem State.setAng_psq (n : Nat) (x : Angle) : (s.setAng n x).psq = s.psq := (rfl)
@[simp] theorem State.setAng_gpin (n : Nat) (x : Angle) : (s.setAng n x).gpin = s.gpin := (rfl)
@[simp] theorem State.setAng_mkLast (n : Nat) (x : Angle) : (s.setAng n x).mkLast = s.mkLast := (rfl)
@[simp] theorem State.setAng_mkPrev (n : Nat) (x : Angle) : (s.setAng n x).mkPrev = s.mkPrev := (rfl)
@[simp] theorem State.setAng_pwr (n : Nat) (x : Angle) : (s.setAng n x).pwr = s.pwr := (rfl)
@[simp] theorem State.setAng_slp (n : Nat) (x : Angle) : (s.setAng n x).slp = s.slp := (rfl)
@[simp] theorem State.setAng_roll (n : Nat) (x : Angle) : (s.setAng n x).roll = s.roll := (rfl)
@[simp] theorem State.setAng_acn (n : Nat) (x : Angle) : (s.setAng n x).acn = s.acn := (rfl)
@[simp] theorem State.setAng_img (n : Nat) (x : Angle) : (s.setAng n x).img = s.img := (rfl)
@[simp] theorem State.setAng_gw (n : Nat) (x : Angle) : (s.setAng n x).gw = s.gw := (rfl)
@[simp] theorem State.setAng_links (n : Nat) (x : Angle) : (s.setAng n x).links = s.links := (rfl)
@[simp] theorem State.setAng_cal (n : Nat) (x : Angle) : (s.setAng n x).cal = s.cal := (rfl)
@[simp] theorem State.setAng_dbg (n : Nat) (x : Angle) : (s.setAng n x).dbg = s.dbg := (rfl)
@[simp] theorem State.setAng_calForce (n : Nat) (x : Angle) : (s.setAng n x).calForce = s.calForce := (rfl)
@[simp] theorem State.setAng_calUse (n : Nat) (x : Angle) : (s.setAng n x).calUse = s.calUse := (rfl)
@[simp] theorem State.setAng_ask (n : Nat) (x : Angle) : (s.setAng n x).ask = s.ask := (rfl)
@[simp] theorem State.setAng_switched (n : Nat) (x : Angle) : (s.setAng n x).switched = s.switched := (rfl)
@[simp] theorem State.setAng_due (n : Nat) (x : Angle) : (s.setAng n x).due = s.due := (rfl)
@[simp] theorem State.setAng_sent (n : Nat) (x : Angle) : (s.setAng n x).sent = s.sent := (rfl)
@[simp] theorem State.setAng_free (n : Nat) (x : Angle) : (s.setAng n x).free = s.free := (rfl)
@[simp] theorem State.setAng_pending (n : Nat) (x : Angle) : (s.setAng n x).pending = s.pending := (rfl)

@[simp] theorem State.setTr_tb (n : Nat) (x : Trk) : (s.setTr n x).tb = s.tb := (rfl)
@[simp] theorem State.setTr_regs (n : Nat) (x : Trk) : (s.setTr n x).regs = s.regs := (rfl)
@[simp] theorem State.setTr_base (n : Nat) (x : Trk) : (s.setTr n x).base = s.base := (rfl)
@[simp] theorem State.setTr_sram (n : Nat) (x : Trk) : (s.setTr n x).sram = s.sram := (rfl)
@[simp] theorem State.setTr_tcm (n : Nat) (x : Trk) : (s.setTr n x).tcm = s.tcm := (rfl)
@[simp] theorem State.setTr_flash (n : Nat) (x : Trk) : (s.setTr n x).flash = s.flash := (rfl)
@[simp] theorem State.setTr_bus (n : Nat) (x : Trk) : (s.setTr n x).bus = s.bus := (rfl)
@[simp] theorem State.setTr_rdLatch (n : Nat) (x : Trk) : (s.setTr n x).rdLatch = s.rdLatch := (rfl)
@[simp] theorem State.setTr_wrLatch (n : Nat) (x : Trk) : (s.setTr n x).wrLatch = s.wrLatch := (rfl)
@[simp] theorem State.setTr_cores (n : Nat) (x : Trk) : (s.setTr n x).cores = s.cores := (rfl)
@[simp] theorem State.setTr_nest (n : Nat) (x : Trk) : (s.setTr n x).nest = s.nest := (rfl)
@[simp] theorem State.setTr_angle (n : Nat) (x : Trk) : (s.setTr n x).angle = s.angle := (rfl)
@[simp] theorem State.setTr_strm (n : Nat) (x : Trk) : (s.setTr n x).strm = s.strm := (rfl)
@[simp] theorem State.setTr_jrnReq (n : Nat) (x : Trk) : (s.setTr n x).jrnReq = s.jrnReq := (rfl)
@[simp] theorem State.setTr_jrnHandle (n : Nat) (x : Trk) : (s.setTr n x).jrnHandle = s.jrnHandle := (rfl)
@[simp] theorem State.setTr_fco (n : Nat) (x : Trk) : (s.setTr n x).fco = s.fco := (rfl)
@[simp] theorem State.setTr_cls (n : Nat) (x : Trk) : (s.setTr n x).cls = s.cls := (rfl)
@[simp] theorem State.setTr_husk (n : Nat) (x : Trk) : (s.setTr n x).husk = s.husk := (rfl)
@[simp] theorem State.setTr_pad (n : Nat) (x : Trk) : (s.setTr n x).pad = s.pad := (rfl)
@[simp] theorem State.setTr_chan (n : Nat) (x : Trk) : (s.setTr n x).chan = s.chan := (rfl)
@[simp] theorem State.setTr_task (n : Nat) (x : Trk) : (s.setTr n x).task = s.task := (rfl)
@[simp] theorem State.setTr_adc (n : Nat) (x : Trk) : (s.setTr n x).adc = s.adc := (rfl)
@[simp] theorem State.setTr_gainAt (n : Nat) (x : Trk) : (s.setTr n x).gainAt = s.gainAt := (rfl)
@[simp] theorem State.setTr_gchg (n : Nat) (x : Trk) : (s.setTr n x).gchg = s.gchg := (rfl)
@[simp] theorem State.setTr_gainNext (n : Nat) (x : Trk) : (s.setTr n x).gainNext = s.gainNext := (rfl)
@[simp] theorem State.setTr_knk (n : Nat) (x : Trk) : (s.setTr n x).knk = s.knk := (rfl)
@[simp] theorem State.setTr_enc (n : Nat) (x : Trk) : (s.setTr n x).enc = s.enc := (rfl)
@[simp] theorem State.setTr_nt (n : Nat) (x : Trk) : (s.setTr n x).nt = s.nt := (rfl)
@[simp] theorem State.setTr_tmr (n : Nat) (x : Trk) : (s.setTr n x).tmr = s.tmr := (rfl)
@[simp] theorem State.setTr_psq (n : Nat) (x : Trk) : (s.setTr n x).psq = s.psq := (rfl)
@[simp] theorem State.setTr_gpin (n : Nat) (x : Trk) : (s.setTr n x).gpin = s.gpin := (rfl)
@[simp] theorem State.setTr_mkLast (n : Nat) (x : Trk) : (s.setTr n x).mkLast = s.mkLast := (rfl)
@[simp] theorem State.setTr_mkPrev (n : Nat) (x : Trk) : (s.setTr n x).mkPrev = s.mkPrev := (rfl)
@[simp] theorem State.setTr_angPast (n : Nat) (x : Trk) : (s.setTr n x).angPast = s.angPast := (rfl)
@[simp] theorem State.setTr_pwr (n : Nat) (x : Trk) : (s.setTr n x).pwr = s.pwr := (rfl)
@[simp] theorem State.setTr_slp (n : Nat) (x : Trk) : (s.setTr n x).slp = s.slp := (rfl)
@[simp] theorem State.setTr_roll (n : Nat) (x : Trk) : (s.setTr n x).roll = s.roll := (rfl)
@[simp] theorem State.setTr_acn (n : Nat) (x : Trk) : (s.setTr n x).acn = s.acn := (rfl)
@[simp] theorem State.setTr_img (n : Nat) (x : Trk) : (s.setTr n x).img = s.img := (rfl)
@[simp] theorem State.setTr_gw (n : Nat) (x : Trk) : (s.setTr n x).gw = s.gw := (rfl)
@[simp] theorem State.setTr_links (n : Nat) (x : Trk) : (s.setTr n x).links = s.links := (rfl)
@[simp] theorem State.setTr_cal (n : Nat) (x : Trk) : (s.setTr n x).cal = s.cal := (rfl)
@[simp] theorem State.setTr_dbg (n : Nat) (x : Trk) : (s.setTr n x).dbg = s.dbg := (rfl)
@[simp] theorem State.setTr_calForce (n : Nat) (x : Trk) : (s.setTr n x).calForce = s.calForce := (rfl)
@[simp] theorem State.setTr_calUse (n : Nat) (x : Trk) : (s.setTr n x).calUse = s.calUse := (rfl)
@[simp] theorem State.setTr_ask (n : Nat) (x : Trk) : (s.setTr n x).ask = s.ask := (rfl)
@[simp] theorem State.setTr_switched (n : Nat) (x : Trk) : (s.setTr n x).switched = s.switched := (rfl)
@[simp] theorem State.setTr_due (n : Nat) (x : Trk) : (s.setTr n x).due = s.due := (rfl)
@[simp] theorem State.setTr_sent (n : Nat) (x : Trk) : (s.setTr n x).sent = s.sent := (rfl)
@[simp] theorem State.setTr_free (n : Nat) (x : Trk) : (s.setTr n x).free = s.free := (rfl)
@[simp] theorem State.setTr_pending (n : Nat) (x : Trk) : (s.setTr n x).pending = s.pending := (rfl)

@[simp] theorem State.setStr_tb (n : Nat) (x : Strm) : (s.setStr n x).tb = s.tb := (rfl)
@[simp] theorem State.setStr_regs (n : Nat) (x : Strm) : (s.setStr n x).regs = s.regs := (rfl)
@[simp] theorem State.setStr_base (n : Nat) (x : Strm) : (s.setStr n x).base = s.base := (rfl)
@[simp] theorem State.setStr_sram (n : Nat) (x : Strm) : (s.setStr n x).sram = s.sram := (rfl)
@[simp] theorem State.setStr_tcm (n : Nat) (x : Strm) : (s.setStr n x).tcm = s.tcm := (rfl)
@[simp] theorem State.setStr_flash (n : Nat) (x : Strm) : (s.setStr n x).flash = s.flash := (rfl)
@[simp] theorem State.setStr_bus (n : Nat) (x : Strm) : (s.setStr n x).bus = s.bus := (rfl)
@[simp] theorem State.setStr_rdLatch (n : Nat) (x : Strm) : (s.setStr n x).rdLatch = s.rdLatch := (rfl)
@[simp] theorem State.setStr_wrLatch (n : Nat) (x : Strm) : (s.setStr n x).wrLatch = s.wrLatch := (rfl)
@[simp] theorem State.setStr_cores (n : Nat) (x : Strm) : (s.setStr n x).cores = s.cores := (rfl)
@[simp] theorem State.setStr_nest (n : Nat) (x : Strm) : (s.setStr n x).nest = s.nest := (rfl)
@[simp] theorem State.setStr_angle (n : Nat) (x : Strm) : (s.setStr n x).angle = s.angle := (rfl)
@[simp] theorem State.setStr_trk (n : Nat) (x : Strm) : (s.setStr n x).trk = s.trk := (rfl)
@[simp] theorem State.setStr_jrnReq (n : Nat) (x : Strm) : (s.setStr n x).jrnReq = s.jrnReq := (rfl)
@[simp] theorem State.setStr_jrnHandle (n : Nat) (x : Strm) : (s.setStr n x).jrnHandle = s.jrnHandle := (rfl)
@[simp] theorem State.setStr_fco (n : Nat) (x : Strm) : (s.setStr n x).fco = s.fco := (rfl)
@[simp] theorem State.setStr_cls (n : Nat) (x : Strm) : (s.setStr n x).cls = s.cls := (rfl)
@[simp] theorem State.setStr_husk (n : Nat) (x : Strm) : (s.setStr n x).husk = s.husk := (rfl)
@[simp] theorem State.setStr_pad (n : Nat) (x : Strm) : (s.setStr n x).pad = s.pad := (rfl)
@[simp] theorem State.setStr_chan (n : Nat) (x : Strm) : (s.setStr n x).chan = s.chan := (rfl)
@[simp] theorem State.setStr_task (n : Nat) (x : Strm) : (s.setStr n x).task = s.task := (rfl)
@[simp] theorem State.setStr_adc (n : Nat) (x : Strm) : (s.setStr n x).adc = s.adc := (rfl)
@[simp] theorem State.setStr_gainAt (n : Nat) (x : Strm) : (s.setStr n x).gainAt = s.gainAt := (rfl)
@[simp] theorem State.setStr_gchg (n : Nat) (x : Strm) : (s.setStr n x).gchg = s.gchg := (rfl)
@[simp] theorem State.setStr_gainNext (n : Nat) (x : Strm) : (s.setStr n x).gainNext = s.gainNext := (rfl)
@[simp] theorem State.setStr_knk (n : Nat) (x : Strm) : (s.setStr n x).knk = s.knk := (rfl)
@[simp] theorem State.setStr_enc (n : Nat) (x : Strm) : (s.setStr n x).enc = s.enc := (rfl)
@[simp] theorem State.setStr_nt (n : Nat) (x : Strm) : (s.setStr n x).nt = s.nt := (rfl)
@[simp] theorem State.setStr_tmr (n : Nat) (x : Strm) : (s.setStr n x).tmr = s.tmr := (rfl)
@[simp] theorem State.setStr_psq (n : Nat) (x : Strm) : (s.setStr n x).psq = s.psq := (rfl)
@[simp] theorem State.setStr_gpin (n : Nat) (x : Strm) : (s.setStr n x).gpin = s.gpin := (rfl)
@[simp] theorem State.setStr_mkLast (n : Nat) (x : Strm) : (s.setStr n x).mkLast = s.mkLast := (rfl)
@[simp] theorem State.setStr_mkPrev (n : Nat) (x : Strm) : (s.setStr n x).mkPrev = s.mkPrev := (rfl)
@[simp] theorem State.setStr_angPast (n : Nat) (x : Strm) : (s.setStr n x).angPast = s.angPast := (rfl)
@[simp] theorem State.setStr_pwr (n : Nat) (x : Strm) : (s.setStr n x).pwr = s.pwr := (rfl)
@[simp] theorem State.setStr_slp (n : Nat) (x : Strm) : (s.setStr n x).slp = s.slp := (rfl)
@[simp] theorem State.setStr_roll (n : Nat) (x : Strm) : (s.setStr n x).roll = s.roll := (rfl)
@[simp] theorem State.setStr_acn (n : Nat) (x : Strm) : (s.setStr n x).acn = s.acn := (rfl)
@[simp] theorem State.setStr_img (n : Nat) (x : Strm) : (s.setStr n x).img = s.img := (rfl)
@[simp] theorem State.setStr_gw (n : Nat) (x : Strm) : (s.setStr n x).gw = s.gw := (rfl)
@[simp] theorem State.setStr_links (n : Nat) (x : Strm) : (s.setStr n x).links = s.links := (rfl)
@[simp] theorem State.setStr_cal (n : Nat) (x : Strm) : (s.setStr n x).cal = s.cal := (rfl)
@[simp] theorem State.setStr_dbg (n : Nat) (x : Strm) : (s.setStr n x).dbg = s.dbg := (rfl)
@[simp] theorem State.setStr_calForce (n : Nat) (x : Strm) : (s.setStr n x).calForce = s.calForce := (rfl)
@[simp] theorem State.setStr_calUse (n : Nat) (x : Strm) : (s.setStr n x).calUse = s.calUse := (rfl)
@[simp] theorem State.setStr_ask (n : Nat) (x : Strm) : (s.setStr n x).ask = s.ask := (rfl)
@[simp] theorem State.setStr_switched (n : Nat) (x : Strm) : (s.setStr n x).switched = s.switched := (rfl)
@[simp] theorem State.setStr_due (n : Nat) (x : Strm) : (s.setStr n x).due = s.due := (rfl)
@[simp] theorem State.setStr_sent (n : Nat) (x : Strm) : (s.setStr n x).sent = s.sent := (rfl)
@[simp] theorem State.setStr_free (n : Nat) (x : Strm) : (s.setStr n x).free = s.free := (rfl)
@[simp] theorem State.setStr_pending (n : Nat) (x : Strm) : (s.setStr n x).pending = s.pending := (rfl)

@[simp] theorem State.setCls_tb (n : Nat) (x : Cls) : (s.setCls n x).tb = s.tb := (rfl)
@[simp] theorem State.setCls_regs (n : Nat) (x : Cls) : (s.setCls n x).regs = s.regs := (rfl)
@[simp] theorem State.setCls_base (n : Nat) (x : Cls) : (s.setCls n x).base = s.base := (rfl)
@[simp] theorem State.setCls_sram (n : Nat) (x : Cls) : (s.setCls n x).sram = s.sram := (rfl)
@[simp] theorem State.setCls_tcm (n : Nat) (x : Cls) : (s.setCls n x).tcm = s.tcm := (rfl)
@[simp] theorem State.setCls_flash (n : Nat) (x : Cls) : (s.setCls n x).flash = s.flash := (rfl)
@[simp] theorem State.setCls_bus (n : Nat) (x : Cls) : (s.setCls n x).bus = s.bus := (rfl)
@[simp] theorem State.setCls_rdLatch (n : Nat) (x : Cls) : (s.setCls n x).rdLatch = s.rdLatch := (rfl)
@[simp] theorem State.setCls_wrLatch (n : Nat) (x : Cls) : (s.setCls n x).wrLatch = s.wrLatch := (rfl)
@[simp] theorem State.setCls_cores (n : Nat) (x : Cls) : (s.setCls n x).cores = s.cores := (rfl)
@[simp] theorem State.setCls_nest (n : Nat) (x : Cls) : (s.setCls n x).nest = s.nest := (rfl)
@[simp] theorem State.setCls_angle (n : Nat) (x : Cls) : (s.setCls n x).angle = s.angle := (rfl)
@[simp] theorem State.setCls_trk (n : Nat) (x : Cls) : (s.setCls n x).trk = s.trk := (rfl)
@[simp] theorem State.setCls_strm (n : Nat) (x : Cls) : (s.setCls n x).strm = s.strm := (rfl)
@[simp] theorem State.setCls_jrnReq (n : Nat) (x : Cls) : (s.setCls n x).jrnReq = s.jrnReq := (rfl)
@[simp] theorem State.setCls_jrnHandle (n : Nat) (x : Cls) : (s.setCls n x).jrnHandle = s.jrnHandle := (rfl)
@[simp] theorem State.setCls_fco (n : Nat) (x : Cls) : (s.setCls n x).fco = s.fco := (rfl)
@[simp] theorem State.setCls_husk (n : Nat) (x : Cls) : (s.setCls n x).husk = s.husk := (rfl)
@[simp] theorem State.setCls_pad (n : Nat) (x : Cls) : (s.setCls n x).pad = s.pad := (rfl)
@[simp] theorem State.setCls_chan (n : Nat) (x : Cls) : (s.setCls n x).chan = s.chan := (rfl)
@[simp] theorem State.setCls_task (n : Nat) (x : Cls) : (s.setCls n x).task = s.task := (rfl)
@[simp] theorem State.setCls_adc (n : Nat) (x : Cls) : (s.setCls n x).adc = s.adc := (rfl)
@[simp] theorem State.setCls_gainAt (n : Nat) (x : Cls) : (s.setCls n x).gainAt = s.gainAt := (rfl)
@[simp] theorem State.setCls_gchg (n : Nat) (x : Cls) : (s.setCls n x).gchg = s.gchg := (rfl)
@[simp] theorem State.setCls_gainNext (n : Nat) (x : Cls) : (s.setCls n x).gainNext = s.gainNext := (rfl)
@[simp] theorem State.setCls_knk (n : Nat) (x : Cls) : (s.setCls n x).knk = s.knk := (rfl)
@[simp] theorem State.setCls_enc (n : Nat) (x : Cls) : (s.setCls n x).enc = s.enc := (rfl)
@[simp] theorem State.setCls_nt (n : Nat) (x : Cls) : (s.setCls n x).nt = s.nt := (rfl)
@[simp] theorem State.setCls_tmr (n : Nat) (x : Cls) : (s.setCls n x).tmr = s.tmr := (rfl)
@[simp] theorem State.setCls_psq (n : Nat) (x : Cls) : (s.setCls n x).psq = s.psq := (rfl)
@[simp] theorem State.setCls_gpin (n : Nat) (x : Cls) : (s.setCls n x).gpin = s.gpin := (rfl)
@[simp] theorem State.setCls_mkLast (n : Nat) (x : Cls) : (s.setCls n x).mkLast = s.mkLast := (rfl)
@[simp] theorem State.setCls_mkPrev (n : Nat) (x : Cls) : (s.setCls n x).mkPrev = s.mkPrev := (rfl)
@[simp] theorem State.setCls_angPast (n : Nat) (x : Cls) : (s.setCls n x).angPast = s.angPast := (rfl)
@[simp] theorem State.setCls_pwr (n : Nat) (x : Cls) : (s.setCls n x).pwr = s.pwr := (rfl)
@[simp] theorem State.setCls_slp (n : Nat) (x : Cls) : (s.setCls n x).slp = s.slp := (rfl)
@[simp] theorem State.setCls_roll (n : Nat) (x : Cls) : (s.setCls n x).roll = s.roll := (rfl)
@[simp] theorem State.setCls_acn (n : Nat) (x : Cls) : (s.setCls n x).acn = s.acn := (rfl)
@[simp] theorem State.setCls_img (n : Nat) (x : Cls) : (s.setCls n x).img = s.img := (rfl)
@[simp] theorem State.setCls_gw (n : Nat) (x : Cls) : (s.setCls n x).gw = s.gw := (rfl)
@[simp] theorem State.setCls_links (n : Nat) (x : Cls) : (s.setCls n x).links = s.links := (rfl)
@[simp] theorem State.setCls_cal (n : Nat) (x : Cls) : (s.setCls n x).cal = s.cal := (rfl)
@[simp] theorem State.setCls_dbg (n : Nat) (x : Cls) : (s.setCls n x).dbg = s.dbg := (rfl)
@[simp] theorem State.setCls_calForce (n : Nat) (x : Cls) : (s.setCls n x).calForce = s.calForce := (rfl)
@[simp] theorem State.setCls_calUse (n : Nat) (x : Cls) : (s.setCls n x).calUse = s.calUse := (rfl)
@[simp] theorem State.setCls_ask (n : Nat) (x : Cls) : (s.setCls n x).ask = s.ask := (rfl)
@[simp] theorem State.setCls_switched (n : Nat) (x : Cls) : (s.setCls n x).switched = s.switched := (rfl)
@[simp] theorem State.setCls_due (n : Nat) (x : Cls) : (s.setCls n x).due = s.due := (rfl)
@[simp] theorem State.setCls_sent (n : Nat) (x : Cls) : (s.setCls n x).sent = s.sent := (rfl)
@[simp] theorem State.setCls_free (n : Nat) (x : Cls) : (s.setCls n x).free = s.free := (rfl)
@[simp] theorem State.setCls_pending (n : Nat) (x : Cls) : (s.setCls n x).pending = s.pending := (rfl)

@[simp] theorem State.setHsk_tb (n : Nat) (x : Husk) : (s.setHsk n x).tb = s.tb := (rfl)
@[simp] theorem State.setHsk_regs (n : Nat) (x : Husk) : (s.setHsk n x).regs = s.regs := (rfl)
@[simp] theorem State.setHsk_base (n : Nat) (x : Husk) : (s.setHsk n x).base = s.base := (rfl)
@[simp] theorem State.setHsk_sram (n : Nat) (x : Husk) : (s.setHsk n x).sram = s.sram := (rfl)
@[simp] theorem State.setHsk_tcm (n : Nat) (x : Husk) : (s.setHsk n x).tcm = s.tcm := (rfl)
@[simp] theorem State.setHsk_flash (n : Nat) (x : Husk) : (s.setHsk n x).flash = s.flash := (rfl)
@[simp] theorem State.setHsk_bus (n : Nat) (x : Husk) : (s.setHsk n x).bus = s.bus := (rfl)
@[simp] theorem State.setHsk_rdLatch (n : Nat) (x : Husk) : (s.setHsk n x).rdLatch = s.rdLatch := (rfl)
@[simp] theorem State.setHsk_wrLatch (n : Nat) (x : Husk) : (s.setHsk n x).wrLatch = s.wrLatch := (rfl)
@[simp] theorem State.setHsk_cores (n : Nat) (x : Husk) : (s.setHsk n x).cores = s.cores := (rfl)
@[simp] theorem State.setHsk_nest (n : Nat) (x : Husk) : (s.setHsk n x).nest = s.nest := (rfl)
@[simp] theorem State.setHsk_angle (n : Nat) (x : Husk) : (s.setHsk n x).angle = s.angle := (rfl)
@[simp] theorem State.setHsk_trk (n : Nat) (x : Husk) : (s.setHsk n x).trk = s.trk := (rfl)
@[simp] theorem State.setHsk_strm (n : Nat) (x : Husk) : (s.setHsk n x).strm = s.strm := (rfl)
@[simp] theorem State.setHsk_jrnReq (n : Nat) (x : Husk) : (s.setHsk n x).jrnReq = s.jrnReq := (rfl)
@[simp] theorem State.setHsk_jrnHandle (n : Nat) (x : Husk) : (s.setHsk n x).jrnHandle = s.jrnHandle := (rfl)
@[simp] theorem State.setHsk_fco (n : Nat) (x : Husk) : (s.setHsk n x).fco = s.fco := (rfl)
@[simp] theorem State.setHsk_cls (n : Nat) (x : Husk) : (s.setHsk n x).cls = s.cls := (rfl)
@[simp] theorem State.setHsk_pad (n : Nat) (x : Husk) : (s.setHsk n x).pad = s.pad := (rfl)
@[simp] theorem State.setHsk_chan (n : Nat) (x : Husk) : (s.setHsk n x).chan = s.chan := (rfl)
@[simp] theorem State.setHsk_task (n : Nat) (x : Husk) : (s.setHsk n x).task = s.task := (rfl)
@[simp] theorem State.setHsk_adc (n : Nat) (x : Husk) : (s.setHsk n x).adc = s.adc := (rfl)
@[simp] theorem State.setHsk_gainAt (n : Nat) (x : Husk) : (s.setHsk n x).gainAt = s.gainAt := (rfl)
@[simp] theorem State.setHsk_gchg (n : Nat) (x : Husk) : (s.setHsk n x).gchg = s.gchg := (rfl)
@[simp] theorem State.setHsk_gainNext (n : Nat) (x : Husk) : (s.setHsk n x).gainNext = s.gainNext := (rfl)
@[simp] theorem State.setHsk_knk (n : Nat) (x : Husk) : (s.setHsk n x).knk = s.knk := (rfl)
@[simp] theorem State.setHsk_enc (n : Nat) (x : Husk) : (s.setHsk n x).enc = s.enc := (rfl)
@[simp] theorem State.setHsk_nt (n : Nat) (x : Husk) : (s.setHsk n x).nt = s.nt := (rfl)
@[simp] theorem State.setHsk_tmr (n : Nat) (x : Husk) : (s.setHsk n x).tmr = s.tmr := (rfl)
@[simp] theorem State.setHsk_psq (n : Nat) (x : Husk) : (s.setHsk n x).psq = s.psq := (rfl)
@[simp] theorem State.setHsk_gpin (n : Nat) (x : Husk) : (s.setHsk n x).gpin = s.gpin := (rfl)
@[simp] theorem State.setHsk_mkLast (n : Nat) (x : Husk) : (s.setHsk n x).mkLast = s.mkLast := (rfl)
@[simp] theorem State.setHsk_mkPrev (n : Nat) (x : Husk) : (s.setHsk n x).mkPrev = s.mkPrev := (rfl)
@[simp] theorem State.setHsk_angPast (n : Nat) (x : Husk) : (s.setHsk n x).angPast = s.angPast := (rfl)
@[simp] theorem State.setHsk_pwr (n : Nat) (x : Husk) : (s.setHsk n x).pwr = s.pwr := (rfl)
@[simp] theorem State.setHsk_slp (n : Nat) (x : Husk) : (s.setHsk n x).slp = s.slp := (rfl)
@[simp] theorem State.setHsk_roll (n : Nat) (x : Husk) : (s.setHsk n x).roll = s.roll := (rfl)
@[simp] theorem State.setHsk_acn (n : Nat) (x : Husk) : (s.setHsk n x).acn = s.acn := (rfl)
@[simp] theorem State.setHsk_img (n : Nat) (x : Husk) : (s.setHsk n x).img = s.img := (rfl)
@[simp] theorem State.setHsk_gw (n : Nat) (x : Husk) : (s.setHsk n x).gw = s.gw := (rfl)
@[simp] theorem State.setHsk_links (n : Nat) (x : Husk) : (s.setHsk n x).links = s.links := (rfl)
@[simp] theorem State.setHsk_cal (n : Nat) (x : Husk) : (s.setHsk n x).cal = s.cal := (rfl)
@[simp] theorem State.setHsk_dbg (n : Nat) (x : Husk) : (s.setHsk n x).dbg = s.dbg := (rfl)
@[simp] theorem State.setHsk_calForce (n : Nat) (x : Husk) : (s.setHsk n x).calForce = s.calForce := (rfl)
@[simp] theorem State.setHsk_calUse (n : Nat) (x : Husk) : (s.setHsk n x).calUse = s.calUse := (rfl)
@[simp] theorem State.setHsk_ask (n : Nat) (x : Husk) : (s.setHsk n x).ask = s.ask := (rfl)
@[simp] theorem State.setHsk_switched (n : Nat) (x : Husk) : (s.setHsk n x).switched = s.switched := (rfl)
@[simp] theorem State.setHsk_due (n : Nat) (x : Husk) : (s.setHsk n x).due = s.due := (rfl)
@[simp] theorem State.setHsk_sent (n : Nat) (x : Husk) : (s.setHsk n x).sent = s.sent := (rfl)
@[simp] theorem State.setHsk_free (n : Nat) (x : Husk) : (s.setHsk n x).free = s.free := (rfl)
@[simp] theorem State.setHsk_pending (n : Nat) (x : Husk) : (s.setHsk n x).pending = s.pending := (rfl)

@[simp] theorem State.setPd_tb (n : Nat) (x : Pad) : (s.setPd n x).tb = s.tb := (rfl)
@[simp] theorem State.setPd_regs (n : Nat) (x : Pad) : (s.setPd n x).regs = s.regs := (rfl)
@[simp] theorem State.setPd_base (n : Nat) (x : Pad) : (s.setPd n x).base = s.base := (rfl)
@[simp] theorem State.setPd_sram (n : Nat) (x : Pad) : (s.setPd n x).sram = s.sram := (rfl)
@[simp] theorem State.setPd_tcm (n : Nat) (x : Pad) : (s.setPd n x).tcm = s.tcm := (rfl)
@[simp] theorem State.setPd_flash (n : Nat) (x : Pad) : (s.setPd n x).flash = s.flash := (rfl)
@[simp] theorem State.setPd_bus (n : Nat) (x : Pad) : (s.setPd n x).bus = s.bus := (rfl)
@[simp] theorem State.setPd_rdLatch (n : Nat) (x : Pad) : (s.setPd n x).rdLatch = s.rdLatch := (rfl)
@[simp] theorem State.setPd_wrLatch (n : Nat) (x : Pad) : (s.setPd n x).wrLatch = s.wrLatch := (rfl)
@[simp] theorem State.setPd_cores (n : Nat) (x : Pad) : (s.setPd n x).cores = s.cores := (rfl)
@[simp] theorem State.setPd_nest (n : Nat) (x : Pad) : (s.setPd n x).nest = s.nest := (rfl)
@[simp] theorem State.setPd_angle (n : Nat) (x : Pad) : (s.setPd n x).angle = s.angle := (rfl)
@[simp] theorem State.setPd_trk (n : Nat) (x : Pad) : (s.setPd n x).trk = s.trk := (rfl)
@[simp] theorem State.setPd_strm (n : Nat) (x : Pad) : (s.setPd n x).strm = s.strm := (rfl)
@[simp] theorem State.setPd_jrnReq (n : Nat) (x : Pad) : (s.setPd n x).jrnReq = s.jrnReq := (rfl)
@[simp] theorem State.setPd_jrnHandle (n : Nat) (x : Pad) : (s.setPd n x).jrnHandle = s.jrnHandle := (rfl)
@[simp] theorem State.setPd_fco (n : Nat) (x : Pad) : (s.setPd n x).fco = s.fco := (rfl)
@[simp] theorem State.setPd_cls (n : Nat) (x : Pad) : (s.setPd n x).cls = s.cls := (rfl)
@[simp] theorem State.setPd_husk (n : Nat) (x : Pad) : (s.setPd n x).husk = s.husk := (rfl)
@[simp] theorem State.setPd_chan (n : Nat) (x : Pad) : (s.setPd n x).chan = s.chan := (rfl)
@[simp] theorem State.setPd_task (n : Nat) (x : Pad) : (s.setPd n x).task = s.task := (rfl)
@[simp] theorem State.setPd_adc (n : Nat) (x : Pad) : (s.setPd n x).adc = s.adc := (rfl)
@[simp] theorem State.setPd_gainAt (n : Nat) (x : Pad) : (s.setPd n x).gainAt = s.gainAt := (rfl)
@[simp] theorem State.setPd_gchg (n : Nat) (x : Pad) : (s.setPd n x).gchg = s.gchg := (rfl)
@[simp] theorem State.setPd_gainNext (n : Nat) (x : Pad) : (s.setPd n x).gainNext = s.gainNext := (rfl)
@[simp] theorem State.setPd_knk (n : Nat) (x : Pad) : (s.setPd n x).knk = s.knk := (rfl)
@[simp] theorem State.setPd_enc (n : Nat) (x : Pad) : (s.setPd n x).enc = s.enc := (rfl)
@[simp] theorem State.setPd_nt (n : Nat) (x : Pad) : (s.setPd n x).nt = s.nt := (rfl)
@[simp] theorem State.setPd_tmr (n : Nat) (x : Pad) : (s.setPd n x).tmr = s.tmr := (rfl)
@[simp] theorem State.setPd_psq (n : Nat) (x : Pad) : (s.setPd n x).psq = s.psq := (rfl)
@[simp] theorem State.setPd_gpin (n : Nat) (x : Pad) : (s.setPd n x).gpin = s.gpin := (rfl)
@[simp] theorem State.setPd_mkLast (n : Nat) (x : Pad) : (s.setPd n x).mkLast = s.mkLast := (rfl)
@[simp] theorem State.setPd_mkPrev (n : Nat) (x : Pad) : (s.setPd n x).mkPrev = s.mkPrev := (rfl)
@[simp] theorem State.setPd_angPast (n : Nat) (x : Pad) : (s.setPd n x).angPast = s.angPast := (rfl)
@[simp] theorem State.setPd_pwr (n : Nat) (x : Pad) : (s.setPd n x).pwr = s.pwr := (rfl)
@[simp] theorem State.setPd_slp (n : Nat) (x : Pad) : (s.setPd n x).slp = s.slp := (rfl)
@[simp] theorem State.setPd_roll (n : Nat) (x : Pad) : (s.setPd n x).roll = s.roll := (rfl)
@[simp] theorem State.setPd_acn (n : Nat) (x : Pad) : (s.setPd n x).acn = s.acn := (rfl)
@[simp] theorem State.setPd_img (n : Nat) (x : Pad) : (s.setPd n x).img = s.img := (rfl)
@[simp] theorem State.setPd_gw (n : Nat) (x : Pad) : (s.setPd n x).gw = s.gw := (rfl)
@[simp] theorem State.setPd_links (n : Nat) (x : Pad) : (s.setPd n x).links = s.links := (rfl)
@[simp] theorem State.setPd_cal (n : Nat) (x : Pad) : (s.setPd n x).cal = s.cal := (rfl)
@[simp] theorem State.setPd_dbg (n : Nat) (x : Pad) : (s.setPd n x).dbg = s.dbg := (rfl)
@[simp] theorem State.setPd_calForce (n : Nat) (x : Pad) : (s.setPd n x).calForce = s.calForce := (rfl)
@[simp] theorem State.setPd_calUse (n : Nat) (x : Pad) : (s.setPd n x).calUse = s.calUse := (rfl)
@[simp] theorem State.setPd_ask (n : Nat) (x : Pad) : (s.setPd n x).ask = s.ask := (rfl)
@[simp] theorem State.setPd_switched (n : Nat) (x : Pad) : (s.setPd n x).switched = s.switched := (rfl)
@[simp] theorem State.setPd_due (n : Nat) (x : Pad) : (s.setPd n x).due = s.due := (rfl)
@[simp] theorem State.setPd_sent (n : Nat) (x : Pad) : (s.setPd n x).sent = s.sent := (rfl)
@[simp] theorem State.setPd_free (n : Nat) (x : Pad) : (s.setPd n x).free = s.free := (rfl)
@[simp] theorem State.setPd_pending (n : Nat) (x : Pad) : (s.setPd n x).pending = s.pending := (rfl)

@[simp] theorem State.setCh_tb (n : Nat) (x : Chan) : (s.setCh n x).tb = s.tb := (rfl)
@[simp] theorem State.setCh_regs (n : Nat) (x : Chan) : (s.setCh n x).regs = s.regs := (rfl)
@[simp] theorem State.setCh_base (n : Nat) (x : Chan) : (s.setCh n x).base = s.base := (rfl)
@[simp] theorem State.setCh_sram (n : Nat) (x : Chan) : (s.setCh n x).sram = s.sram := (rfl)
@[simp] theorem State.setCh_tcm (n : Nat) (x : Chan) : (s.setCh n x).tcm = s.tcm := (rfl)
@[simp] theorem State.setCh_flash (n : Nat) (x : Chan) : (s.setCh n x).flash = s.flash := (rfl)
@[simp] theorem State.setCh_bus (n : Nat) (x : Chan) : (s.setCh n x).bus = s.bus := (rfl)
@[simp] theorem State.setCh_rdLatch (n : Nat) (x : Chan) : (s.setCh n x).rdLatch = s.rdLatch := (rfl)
@[simp] theorem State.setCh_wrLatch (n : Nat) (x : Chan) : (s.setCh n x).wrLatch = s.wrLatch := (rfl)
@[simp] theorem State.setCh_cores (n : Nat) (x : Chan) : (s.setCh n x).cores = s.cores := (rfl)
@[simp] theorem State.setCh_nest (n : Nat) (x : Chan) : (s.setCh n x).nest = s.nest := (rfl)
@[simp] theorem State.setCh_angle (n : Nat) (x : Chan) : (s.setCh n x).angle = s.angle := (rfl)
@[simp] theorem State.setCh_trk (n : Nat) (x : Chan) : (s.setCh n x).trk = s.trk := (rfl)
@[simp] theorem State.setCh_strm (n : Nat) (x : Chan) : (s.setCh n x).strm = s.strm := (rfl)
@[simp] theorem State.setCh_jrnReq (n : Nat) (x : Chan) : (s.setCh n x).jrnReq = s.jrnReq := (rfl)
@[simp] theorem State.setCh_jrnHandle (n : Nat) (x : Chan) : (s.setCh n x).jrnHandle = s.jrnHandle := (rfl)
@[simp] theorem State.setCh_fco (n : Nat) (x : Chan) : (s.setCh n x).fco = s.fco := (rfl)
@[simp] theorem State.setCh_cls (n : Nat) (x : Chan) : (s.setCh n x).cls = s.cls := (rfl)
@[simp] theorem State.setCh_husk (n : Nat) (x : Chan) : (s.setCh n x).husk = s.husk := (rfl)
@[simp] theorem State.setCh_pad (n : Nat) (x : Chan) : (s.setCh n x).pad = s.pad := (rfl)
@[simp] theorem State.setCh_task (n : Nat) (x : Chan) : (s.setCh n x).task = s.task := (rfl)
@[simp] theorem State.setCh_adc (n : Nat) (x : Chan) : (s.setCh n x).adc = s.adc := (rfl)
@[simp] theorem State.setCh_gainAt (n : Nat) (x : Chan) : (s.setCh n x).gainAt = s.gainAt := (rfl)
@[simp] theorem State.setCh_gchg (n : Nat) (x : Chan) : (s.setCh n x).gchg = s.gchg := (rfl)
@[simp] theorem State.setCh_gainNext (n : Nat) (x : Chan) : (s.setCh n x).gainNext = s.gainNext := (rfl)
@[simp] theorem State.setCh_knk (n : Nat) (x : Chan) : (s.setCh n x).knk = s.knk := (rfl)
@[simp] theorem State.setCh_enc (n : Nat) (x : Chan) : (s.setCh n x).enc = s.enc := (rfl)
@[simp] theorem State.setCh_nt (n : Nat) (x : Chan) : (s.setCh n x).nt = s.nt := (rfl)
@[simp] theorem State.setCh_tmr (n : Nat) (x : Chan) : (s.setCh n x).tmr = s.tmr := (rfl)
@[simp] theorem State.setCh_psq (n : Nat) (x : Chan) : (s.setCh n x).psq = s.psq := (rfl)
@[simp] theorem State.setCh_gpin (n : Nat) (x : Chan) : (s.setCh n x).gpin = s.gpin := (rfl)
@[simp] theorem State.setCh_mkLast (n : Nat) (x : Chan) : (s.setCh n x).mkLast = s.mkLast := (rfl)
@[simp] theorem State.setCh_mkPrev (n : Nat) (x : Chan) : (s.setCh n x).mkPrev = s.mkPrev := (rfl)
@[simp] theorem State.setCh_angPast (n : Nat) (x : Chan) : (s.setCh n x).angPast = s.angPast := (rfl)
@[simp] theorem State.setCh_pwr (n : Nat) (x : Chan) : (s.setCh n x).pwr = s.pwr := (rfl)
@[simp] theorem State.setCh_slp (n : Nat) (x : Chan) : (s.setCh n x).slp = s.slp := (rfl)
@[simp] theorem State.setCh_roll (n : Nat) (x : Chan) : (s.setCh n x).roll = s.roll := (rfl)
@[simp] theorem State.setCh_acn (n : Nat) (x : Chan) : (s.setCh n x).acn = s.acn := (rfl)
@[simp] theorem State.setCh_img (n : Nat) (x : Chan) : (s.setCh n x).img = s.img := (rfl)
@[simp] theorem State.setCh_gw (n : Nat) (x : Chan) : (s.setCh n x).gw = s.gw := (rfl)
@[simp] theorem State.setCh_links (n : Nat) (x : Chan) : (s.setCh n x).links = s.links := (rfl)
@[simp] theorem State.setCh_cal (n : Nat) (x : Chan) : (s.setCh n x).cal = s.cal := (rfl)
@[simp] theorem State.setCh_dbg (n : Nat) (x : Chan) : (s.setCh n x).dbg = s.dbg := (rfl)
@[simp] theorem State.setCh_calForce (n : Nat) (x : Chan) : (s.setCh n x).calForce = s.calForce := (rfl)
@[simp] theorem State.setCh_calUse (n : Nat) (x : Chan) : (s.setCh n x).calUse = s.calUse := (rfl)
@[simp] theorem State.setCh_ask (n : Nat) (x : Chan) : (s.setCh n x).ask = s.ask := (rfl)
@[simp] theorem State.setCh_switched (n : Nat) (x : Chan) : (s.setCh n x).switched = s.switched := (rfl)
@[simp] theorem State.setCh_due (n : Nat) (x : Chan) : (s.setCh n x).due = s.due := (rfl)
@[simp] theorem State.setCh_sent (n : Nat) (x : Chan) : (s.setCh n x).sent = s.sent := (rfl)
@[simp] theorem State.setCh_free (n : Nat) (x : Chan) : (s.setCh n x).free = s.free := (rfl)
@[simp] theorem State.setCh_pending (n : Nat) (x : Chan) : (s.setCh n x).pending = s.pending := (rfl)

@[simp] theorem State.setTask_tb (n : Nat) (x : List TaskEnt) : (s.setTask n x).tb = s.tb := (rfl)
@[simp] theorem State.setTask_regs (n : Nat) (x : List TaskEnt) : (s.setTask n x).regs = s.regs := (rfl)
@[simp] theorem State.setTask_base (n : Nat) (x : List TaskEnt) : (s.setTask n x).base = s.base := (rfl)
@[simp] theorem State.setTask_sram (n : Nat) (x : List TaskEnt) : (s.setTask n x).sram = s.sram := (rfl)
@[simp] theorem State.setTask_tcm (n : Nat) (x : List TaskEnt) : (s.setTask n x).tcm = s.tcm := (rfl)
@[simp] theorem State.setTask_flash (n : Nat) (x : List TaskEnt) : (s.setTask n x).flash = s.flash := (rfl)
@[simp] theorem State.setTask_bus (n : Nat) (x : List TaskEnt) : (s.setTask n x).bus = s.bus := (rfl)
@[simp] theorem State.setTask_rdLatch (n : Nat) (x : List TaskEnt) : (s.setTask n x).rdLatch = s.rdLatch := (rfl)
@[simp] theorem State.setTask_wrLatch (n : Nat) (x : List TaskEnt) : (s.setTask n x).wrLatch = s.wrLatch := (rfl)
@[simp] theorem State.setTask_cores (n : Nat) (x : List TaskEnt) : (s.setTask n x).cores = s.cores := (rfl)
@[simp] theorem State.setTask_nest (n : Nat) (x : List TaskEnt) : (s.setTask n x).nest = s.nest := (rfl)
@[simp] theorem State.setTask_angle (n : Nat) (x : List TaskEnt) : (s.setTask n x).angle = s.angle := (rfl)
@[simp] theorem State.setTask_trk (n : Nat) (x : List TaskEnt) : (s.setTask n x).trk = s.trk := (rfl)
@[simp] theorem State.setTask_strm (n : Nat) (x : List TaskEnt) : (s.setTask n x).strm = s.strm := (rfl)
@[simp] theorem State.setTask_jrnReq (n : Nat) (x : List TaskEnt) : (s.setTask n x).jrnReq = s.jrnReq := (rfl)
@[simp] theorem State.setTask_jrnHandle (n : Nat) (x : List TaskEnt) : (s.setTask n x).jrnHandle = s.jrnHandle := (rfl)
@[simp] theorem State.setTask_fco (n : Nat) (x : List TaskEnt) : (s.setTask n x).fco = s.fco := (rfl)
@[simp] theorem State.setTask_cls (n : Nat) (x : List TaskEnt) : (s.setTask n x).cls = s.cls := (rfl)
@[simp] theorem State.setTask_husk (n : Nat) (x : List TaskEnt) : (s.setTask n x).husk = s.husk := (rfl)
@[simp] theorem State.setTask_pad (n : Nat) (x : List TaskEnt) : (s.setTask n x).pad = s.pad := (rfl)
@[simp] theorem State.setTask_chan (n : Nat) (x : List TaskEnt) : (s.setTask n x).chan = s.chan := (rfl)
@[simp] theorem State.setTask_adc (n : Nat) (x : List TaskEnt) : (s.setTask n x).adc = s.adc := (rfl)
@[simp] theorem State.setTask_gainAt (n : Nat) (x : List TaskEnt) : (s.setTask n x).gainAt = s.gainAt := (rfl)
@[simp] theorem State.setTask_gchg (n : Nat) (x : List TaskEnt) : (s.setTask n x).gchg = s.gchg := (rfl)
@[simp] theorem State.setTask_gainNext (n : Nat) (x : List TaskEnt) : (s.setTask n x).gainNext = s.gainNext := (rfl)
@[simp] theorem State.setTask_knk (n : Nat) (x : List TaskEnt) : (s.setTask n x).knk = s.knk := (rfl)
@[simp] theorem State.setTask_enc (n : Nat) (x : List TaskEnt) : (s.setTask n x).enc = s.enc := (rfl)
@[simp] theorem State.setTask_nt (n : Nat) (x : List TaskEnt) : (s.setTask n x).nt = s.nt := (rfl)
@[simp] theorem State.setTask_tmr (n : Nat) (x : List TaskEnt) : (s.setTask n x).tmr = s.tmr := (rfl)
@[simp] theorem State.setTask_psq (n : Nat) (x : List TaskEnt) : (s.setTask n x).psq = s.psq := (rfl)
@[simp] theorem State.setTask_gpin (n : Nat) (x : List TaskEnt) : (s.setTask n x).gpin = s.gpin := (rfl)
@[simp] theorem State.setTask_mkLast (n : Nat) (x : List TaskEnt) : (s.setTask n x).mkLast = s.mkLast := (rfl)
@[simp] theorem State.setTask_mkPrev (n : Nat) (x : List TaskEnt) : (s.setTask n x).mkPrev = s.mkPrev := (rfl)
@[simp] theorem State.setTask_angPast (n : Nat) (x : List TaskEnt) : (s.setTask n x).angPast = s.angPast := (rfl)
@[simp] theorem State.setTask_pwr (n : Nat) (x : List TaskEnt) : (s.setTask n x).pwr = s.pwr := (rfl)
@[simp] theorem State.setTask_slp (n : Nat) (x : List TaskEnt) : (s.setTask n x).slp = s.slp := (rfl)
@[simp] theorem State.setTask_roll (n : Nat) (x : List TaskEnt) : (s.setTask n x).roll = s.roll := (rfl)
@[simp] theorem State.setTask_acn (n : Nat) (x : List TaskEnt) : (s.setTask n x).acn = s.acn := (rfl)
@[simp] theorem State.setTask_img (n : Nat) (x : List TaskEnt) : (s.setTask n x).img = s.img := (rfl)
@[simp] theorem State.setTask_gw (n : Nat) (x : List TaskEnt) : (s.setTask n x).gw = s.gw := (rfl)
@[simp] theorem State.setTask_links (n : Nat) (x : List TaskEnt) : (s.setTask n x).links = s.links := (rfl)
@[simp] theorem State.setTask_cal (n : Nat) (x : List TaskEnt) : (s.setTask n x).cal = s.cal := (rfl)
@[simp] theorem State.setTask_dbg (n : Nat) (x : List TaskEnt) : (s.setTask n x).dbg = s.dbg := (rfl)
@[simp] theorem State.setTask_calForce (n : Nat) (x : List TaskEnt) : (s.setTask n x).calForce = s.calForce := (rfl)
@[simp] theorem State.setTask_calUse (n : Nat) (x : List TaskEnt) : (s.setTask n x).calUse = s.calUse := (rfl)
@[simp] theorem State.setTask_ask (n : Nat) (x : List TaskEnt) : (s.setTask n x).ask = s.ask := (rfl)
@[simp] theorem State.setTask_switched (n : Nat) (x : List TaskEnt) : (s.setTask n x).switched = s.switched := (rfl)
@[simp] theorem State.setTask_due (n : Nat) (x : List TaskEnt) : (s.setTask n x).due = s.due := (rfl)
@[simp] theorem State.setTask_sent (n : Nat) (x : List TaskEnt) : (s.setTask n x).sent = s.sent := (rfl)
@[simp] theorem State.setTask_free (n : Nat) (x : List TaskEnt) : (s.setTask n x).free = s.free := (rfl)
@[simp] theorem State.setTask_pending (n : Nat) (x : List TaskEnt) : (s.setTask n x).pending = s.pending := (rfl)

@[simp] theorem State.setAd_tb (n : Nat) (x : Adc) : (s.setAd n x).tb = s.tb := (rfl)
@[simp] theorem State.setAd_regs (n : Nat) (x : Adc) : (s.setAd n x).regs = s.regs := (rfl)
@[simp] theorem State.setAd_base (n : Nat) (x : Adc) : (s.setAd n x).base = s.base := (rfl)
@[simp] theorem State.setAd_sram (n : Nat) (x : Adc) : (s.setAd n x).sram = s.sram := (rfl)
@[simp] theorem State.setAd_tcm (n : Nat) (x : Adc) : (s.setAd n x).tcm = s.tcm := (rfl)
@[simp] theorem State.setAd_flash (n : Nat) (x : Adc) : (s.setAd n x).flash = s.flash := (rfl)
@[simp] theorem State.setAd_bus (n : Nat) (x : Adc) : (s.setAd n x).bus = s.bus := (rfl)
@[simp] theorem State.setAd_rdLatch (n : Nat) (x : Adc) : (s.setAd n x).rdLatch = s.rdLatch := (rfl)
@[simp] theorem State.setAd_wrLatch (n : Nat) (x : Adc) : (s.setAd n x).wrLatch = s.wrLatch := (rfl)
@[simp] theorem State.setAd_cores (n : Nat) (x : Adc) : (s.setAd n x).cores = s.cores := (rfl)
@[simp] theorem State.setAd_nest (n : Nat) (x : Adc) : (s.setAd n x).nest = s.nest := (rfl)
@[simp] theorem State.setAd_angle (n : Nat) (x : Adc) : (s.setAd n x).angle = s.angle := (rfl)
@[simp] theorem State.setAd_trk (n : Nat) (x : Adc) : (s.setAd n x).trk = s.trk := (rfl)
@[simp] theorem State.setAd_strm (n : Nat) (x : Adc) : (s.setAd n x).strm = s.strm := (rfl)
@[simp] theorem State.setAd_jrnReq (n : Nat) (x : Adc) : (s.setAd n x).jrnReq = s.jrnReq := (rfl)
@[simp] theorem State.setAd_jrnHandle (n : Nat) (x : Adc) : (s.setAd n x).jrnHandle = s.jrnHandle := (rfl)
@[simp] theorem State.setAd_fco (n : Nat) (x : Adc) : (s.setAd n x).fco = s.fco := (rfl)
@[simp] theorem State.setAd_cls (n : Nat) (x : Adc) : (s.setAd n x).cls = s.cls := (rfl)
@[simp] theorem State.setAd_husk (n : Nat) (x : Adc) : (s.setAd n x).husk = s.husk := (rfl)
@[simp] theorem State.setAd_pad (n : Nat) (x : Adc) : (s.setAd n x).pad = s.pad := (rfl)
@[simp] theorem State.setAd_chan (n : Nat) (x : Adc) : (s.setAd n x).chan = s.chan := (rfl)
@[simp] theorem State.setAd_task (n : Nat) (x : Adc) : (s.setAd n x).task = s.task := (rfl)
@[simp] theorem State.setAd_gainAt (n : Nat) (x : Adc) : (s.setAd n x).gainAt = s.gainAt := (rfl)
@[simp] theorem State.setAd_gchg (n : Nat) (x : Adc) : (s.setAd n x).gchg = s.gchg := (rfl)
@[simp] theorem State.setAd_gainNext (n : Nat) (x : Adc) : (s.setAd n x).gainNext = s.gainNext := (rfl)
@[simp] theorem State.setAd_knk (n : Nat) (x : Adc) : (s.setAd n x).knk = s.knk := (rfl)
@[simp] theorem State.setAd_enc (n : Nat) (x : Adc) : (s.setAd n x).enc = s.enc := (rfl)
@[simp] theorem State.setAd_nt (n : Nat) (x : Adc) : (s.setAd n x).nt = s.nt := (rfl)
@[simp] theorem State.setAd_tmr (n : Nat) (x : Adc) : (s.setAd n x).tmr = s.tmr := (rfl)
@[simp] theorem State.setAd_psq (n : Nat) (x : Adc) : (s.setAd n x).psq = s.psq := (rfl)
@[simp] theorem State.setAd_gpin (n : Nat) (x : Adc) : (s.setAd n x).gpin = s.gpin := (rfl)
@[simp] theorem State.setAd_mkLast (n : Nat) (x : Adc) : (s.setAd n x).mkLast = s.mkLast := (rfl)
@[simp] theorem State.setAd_mkPrev (n : Nat) (x : Adc) : (s.setAd n x).mkPrev = s.mkPrev := (rfl)
@[simp] theorem State.setAd_angPast (n : Nat) (x : Adc) : (s.setAd n x).angPast = s.angPast := (rfl)
@[simp] theorem State.setAd_pwr (n : Nat) (x : Adc) : (s.setAd n x).pwr = s.pwr := (rfl)
@[simp] theorem State.setAd_slp (n : Nat) (x : Adc) : (s.setAd n x).slp = s.slp := (rfl)
@[simp] theorem State.setAd_roll (n : Nat) (x : Adc) : (s.setAd n x).roll = s.roll := (rfl)
@[simp] theorem State.setAd_acn (n : Nat) (x : Adc) : (s.setAd n x).acn = s.acn := (rfl)
@[simp] theorem State.setAd_img (n : Nat) (x : Adc) : (s.setAd n x).img = s.img := (rfl)
@[simp] theorem State.setAd_gw (n : Nat) (x : Adc) : (s.setAd n x).gw = s.gw := (rfl)
@[simp] theorem State.setAd_links (n : Nat) (x : Adc) : (s.setAd n x).links = s.links := (rfl)
@[simp] theorem State.setAd_cal (n : Nat) (x : Adc) : (s.setAd n x).cal = s.cal := (rfl)
@[simp] theorem State.setAd_dbg (n : Nat) (x : Adc) : (s.setAd n x).dbg = s.dbg := (rfl)
@[simp] theorem State.setAd_calForce (n : Nat) (x : Adc) : (s.setAd n x).calForce = s.calForce := (rfl)
@[simp] theorem State.setAd_calUse (n : Nat) (x : Adc) : (s.setAd n x).calUse = s.calUse := (rfl)
@[simp] theorem State.setAd_ask (n : Nat) (x : Adc) : (s.setAd n x).ask = s.ask := (rfl)
@[simp] theorem State.setAd_switched (n : Nat) (x : Adc) : (s.setAd n x).switched = s.switched := (rfl)
@[simp] theorem State.setAd_due (n : Nat) (x : Adc) : (s.setAd n x).due = s.due := (rfl)
@[simp] theorem State.setAd_sent (n : Nat) (x : Adc) : (s.setAd n x).sent = s.sent := (rfl)
@[simp] theorem State.setAd_free (n : Nat) (x : Adc) : (s.setAd n x).free = s.free := (rfl)
@[simp] theorem State.setAd_pending (n : Nat) (x : Adc) : (s.setAd n x).pending = s.pending := (rfl)

@[simp] theorem State.setKn_tb (n : Nat) (x : Knk) : (s.setKn n x).tb = s.tb := (rfl)
@[simp] theorem State.setKn_regs (n : Nat) (x : Knk) : (s.setKn n x).regs = s.regs := (rfl)
@[simp] theorem State.setKn_base (n : Nat) (x : Knk) : (s.setKn n x).base = s.base := (rfl)
@[simp] theorem State.setKn_sram (n : Nat) (x : Knk) : (s.setKn n x).sram = s.sram := (rfl)
@[simp] theorem State.setKn_tcm (n : Nat) (x : Knk) : (s.setKn n x).tcm = s.tcm := (rfl)
@[simp] theorem State.setKn_flash (n : Nat) (x : Knk) : (s.setKn n x).flash = s.flash := (rfl)
@[simp] theorem State.setKn_bus (n : Nat) (x : Knk) : (s.setKn n x).bus = s.bus := (rfl)
@[simp] theorem State.setKn_rdLatch (n : Nat) (x : Knk) : (s.setKn n x).rdLatch = s.rdLatch := (rfl)
@[simp] theorem State.setKn_wrLatch (n : Nat) (x : Knk) : (s.setKn n x).wrLatch = s.wrLatch := (rfl)
@[simp] theorem State.setKn_cores (n : Nat) (x : Knk) : (s.setKn n x).cores = s.cores := (rfl)
@[simp] theorem State.setKn_nest (n : Nat) (x : Knk) : (s.setKn n x).nest = s.nest := (rfl)
@[simp] theorem State.setKn_angle (n : Nat) (x : Knk) : (s.setKn n x).angle = s.angle := (rfl)
@[simp] theorem State.setKn_trk (n : Nat) (x : Knk) : (s.setKn n x).trk = s.trk := (rfl)
@[simp] theorem State.setKn_strm (n : Nat) (x : Knk) : (s.setKn n x).strm = s.strm := (rfl)
@[simp] theorem State.setKn_jrnReq (n : Nat) (x : Knk) : (s.setKn n x).jrnReq = s.jrnReq := (rfl)
@[simp] theorem State.setKn_jrnHandle (n : Nat) (x : Knk) : (s.setKn n x).jrnHandle = s.jrnHandle := (rfl)
@[simp] theorem State.setKn_fco (n : Nat) (x : Knk) : (s.setKn n x).fco = s.fco := (rfl)
@[simp] theorem State.setKn_cls (n : Nat) (x : Knk) : (s.setKn n x).cls = s.cls := (rfl)
@[simp] theorem State.setKn_husk (n : Nat) (x : Knk) : (s.setKn n x).husk = s.husk := (rfl)
@[simp] theorem State.setKn_pad (n : Nat) (x : Knk) : (s.setKn n x).pad = s.pad := (rfl)
@[simp] theorem State.setKn_chan (n : Nat) (x : Knk) : (s.setKn n x).chan = s.chan := (rfl)
@[simp] theorem State.setKn_task (n : Nat) (x : Knk) : (s.setKn n x).task = s.task := (rfl)
@[simp] theorem State.setKn_adc (n : Nat) (x : Knk) : (s.setKn n x).adc = s.adc := (rfl)
@[simp] theorem State.setKn_gainAt (n : Nat) (x : Knk) : (s.setKn n x).gainAt = s.gainAt := (rfl)
@[simp] theorem State.setKn_gchg (n : Nat) (x : Knk) : (s.setKn n x).gchg = s.gchg := (rfl)
@[simp] theorem State.setKn_gainNext (n : Nat) (x : Knk) : (s.setKn n x).gainNext = s.gainNext := (rfl)
@[simp] theorem State.setKn_enc (n : Nat) (x : Knk) : (s.setKn n x).enc = s.enc := (rfl)
@[simp] theorem State.setKn_nt (n : Nat) (x : Knk) : (s.setKn n x).nt = s.nt := (rfl)
@[simp] theorem State.setKn_tmr (n : Nat) (x : Knk) : (s.setKn n x).tmr = s.tmr := (rfl)
@[simp] theorem State.setKn_psq (n : Nat) (x : Knk) : (s.setKn n x).psq = s.psq := (rfl)
@[simp] theorem State.setKn_gpin (n : Nat) (x : Knk) : (s.setKn n x).gpin = s.gpin := (rfl)
@[simp] theorem State.setKn_mkLast (n : Nat) (x : Knk) : (s.setKn n x).mkLast = s.mkLast := (rfl)
@[simp] theorem State.setKn_mkPrev (n : Nat) (x : Knk) : (s.setKn n x).mkPrev = s.mkPrev := (rfl)
@[simp] theorem State.setKn_angPast (n : Nat) (x : Knk) : (s.setKn n x).angPast = s.angPast := (rfl)
@[simp] theorem State.setKn_pwr (n : Nat) (x : Knk) : (s.setKn n x).pwr = s.pwr := (rfl)
@[simp] theorem State.setKn_slp (n : Nat) (x : Knk) : (s.setKn n x).slp = s.slp := (rfl)
@[simp] theorem State.setKn_roll (n : Nat) (x : Knk) : (s.setKn n x).roll = s.roll := (rfl)
@[simp] theorem State.setKn_acn (n : Nat) (x : Knk) : (s.setKn n x).acn = s.acn := (rfl)
@[simp] theorem State.setKn_img (n : Nat) (x : Knk) : (s.setKn n x).img = s.img := (rfl)
@[simp] theorem State.setKn_gw (n : Nat) (x : Knk) : (s.setKn n x).gw = s.gw := (rfl)
@[simp] theorem State.setKn_links (n : Nat) (x : Knk) : (s.setKn n x).links = s.links := (rfl)
@[simp] theorem State.setKn_cal (n : Nat) (x : Knk) : (s.setKn n x).cal = s.cal := (rfl)
@[simp] theorem State.setKn_dbg (n : Nat) (x : Knk) : (s.setKn n x).dbg = s.dbg := (rfl)
@[simp] theorem State.setKn_calForce (n : Nat) (x : Knk) : (s.setKn n x).calForce = s.calForce := (rfl)
@[simp] theorem State.setKn_calUse (n : Nat) (x : Knk) : (s.setKn n x).calUse = s.calUse := (rfl)
@[simp] theorem State.setKn_ask (n : Nat) (x : Knk) : (s.setKn n x).ask = s.ask := (rfl)
@[simp] theorem State.setKn_switched (n : Nat) (x : Knk) : (s.setKn n x).switched = s.switched := (rfl)
@[simp] theorem State.setKn_due (n : Nat) (x : Knk) : (s.setKn n x).due = s.due := (rfl)
@[simp] theorem State.setKn_sent (n : Nat) (x : Knk) : (s.setKn n x).sent = s.sent := (rfl)
@[simp] theorem State.setKn_free (n : Nat) (x : Knk) : (s.setKn n x).free = s.free := (rfl)
@[simp] theorem State.setKn_pending (n : Nat) (x : Knk) : (s.setKn n x).pending = s.pending := (rfl)

@[simp] theorem State.setEn_tb (n : Nat) (x : Enc) : (s.setEn n x).tb = s.tb := (rfl)
@[simp] theorem State.setEn_regs (n : Nat) (x : Enc) : (s.setEn n x).regs = s.regs := (rfl)
@[simp] theorem State.setEn_base (n : Nat) (x : Enc) : (s.setEn n x).base = s.base := (rfl)
@[simp] theorem State.setEn_sram (n : Nat) (x : Enc) : (s.setEn n x).sram = s.sram := (rfl)
@[simp] theorem State.setEn_tcm (n : Nat) (x : Enc) : (s.setEn n x).tcm = s.tcm := (rfl)
@[simp] theorem State.setEn_flash (n : Nat) (x : Enc) : (s.setEn n x).flash = s.flash := (rfl)
@[simp] theorem State.setEn_bus (n : Nat) (x : Enc) : (s.setEn n x).bus = s.bus := (rfl)
@[simp] theorem State.setEn_rdLatch (n : Nat) (x : Enc) : (s.setEn n x).rdLatch = s.rdLatch := (rfl)
@[simp] theorem State.setEn_wrLatch (n : Nat) (x : Enc) : (s.setEn n x).wrLatch = s.wrLatch := (rfl)
@[simp] theorem State.setEn_cores (n : Nat) (x : Enc) : (s.setEn n x).cores = s.cores := (rfl)
@[simp] theorem State.setEn_nest (n : Nat) (x : Enc) : (s.setEn n x).nest = s.nest := (rfl)
@[simp] theorem State.setEn_angle (n : Nat) (x : Enc) : (s.setEn n x).angle = s.angle := (rfl)
@[simp] theorem State.setEn_trk (n : Nat) (x : Enc) : (s.setEn n x).trk = s.trk := (rfl)
@[simp] theorem State.setEn_strm (n : Nat) (x : Enc) : (s.setEn n x).strm = s.strm := (rfl)
@[simp] theorem State.setEn_jrnReq (n : Nat) (x : Enc) : (s.setEn n x).jrnReq = s.jrnReq := (rfl)
@[simp] theorem State.setEn_jrnHandle (n : Nat) (x : Enc) : (s.setEn n x).jrnHandle = s.jrnHandle := (rfl)
@[simp] theorem State.setEn_fco (n : Nat) (x : Enc) : (s.setEn n x).fco = s.fco := (rfl)
@[simp] theorem State.setEn_cls (n : Nat) (x : Enc) : (s.setEn n x).cls = s.cls := (rfl)
@[simp] theorem State.setEn_husk (n : Nat) (x : Enc) : (s.setEn n x).husk = s.husk := (rfl)
@[simp] theorem State.setEn_pad (n : Nat) (x : Enc) : (s.setEn n x).pad = s.pad := (rfl)
@[simp] theorem State.setEn_chan (n : Nat) (x : Enc) : (s.setEn n x).chan = s.chan := (rfl)
@[simp] theorem State.setEn_task (n : Nat) (x : Enc) : (s.setEn n x).task = s.task := (rfl)
@[simp] theorem State.setEn_adc (n : Nat) (x : Enc) : (s.setEn n x).adc = s.adc := (rfl)
@[simp] theorem State.setEn_gainAt (n : Nat) (x : Enc) : (s.setEn n x).gainAt = s.gainAt := (rfl)
@[simp] theorem State.setEn_gchg (n : Nat) (x : Enc) : (s.setEn n x).gchg = s.gchg := (rfl)
@[simp] theorem State.setEn_gainNext (n : Nat) (x : Enc) : (s.setEn n x).gainNext = s.gainNext := (rfl)
@[simp] theorem State.setEn_knk (n : Nat) (x : Enc) : (s.setEn n x).knk = s.knk := (rfl)
@[simp] theorem State.setEn_nt (n : Nat) (x : Enc) : (s.setEn n x).nt = s.nt := (rfl)
@[simp] theorem State.setEn_tmr (n : Nat) (x : Enc) : (s.setEn n x).tmr = s.tmr := (rfl)
@[simp] theorem State.setEn_psq (n : Nat) (x : Enc) : (s.setEn n x).psq = s.psq := (rfl)
@[simp] theorem State.setEn_gpin (n : Nat) (x : Enc) : (s.setEn n x).gpin = s.gpin := (rfl)
@[simp] theorem State.setEn_mkLast (n : Nat) (x : Enc) : (s.setEn n x).mkLast = s.mkLast := (rfl)
@[simp] theorem State.setEn_mkPrev (n : Nat) (x : Enc) : (s.setEn n x).mkPrev = s.mkPrev := (rfl)
@[simp] theorem State.setEn_angPast (n : Nat) (x : Enc) : (s.setEn n x).angPast = s.angPast := (rfl)
@[simp] theorem State.setEn_pwr (n : Nat) (x : Enc) : (s.setEn n x).pwr = s.pwr := (rfl)
@[simp] theorem State.setEn_slp (n : Nat) (x : Enc) : (s.setEn n x).slp = s.slp := (rfl)
@[simp] theorem State.setEn_roll (n : Nat) (x : Enc) : (s.setEn n x).roll = s.roll := (rfl)
@[simp] theorem State.setEn_acn (n : Nat) (x : Enc) : (s.setEn n x).acn = s.acn := (rfl)
@[simp] theorem State.setEn_img (n : Nat) (x : Enc) : (s.setEn n x).img = s.img := (rfl)
@[simp] theorem State.setEn_gw (n : Nat) (x : Enc) : (s.setEn n x).gw = s.gw := (rfl)
@[simp] theorem State.setEn_links (n : Nat) (x : Enc) : (s.setEn n x).links = s.links := (rfl)
@[simp] theorem State.setEn_cal (n : Nat) (x : Enc) : (s.setEn n x).cal = s.cal := (rfl)
@[simp] theorem State.setEn_dbg (n : Nat) (x : Enc) : (s.setEn n x).dbg = s.dbg := (rfl)
@[simp] theorem State.setEn_calForce (n : Nat) (x : Enc) : (s.setEn n x).calForce = s.calForce := (rfl)
@[simp] theorem State.setEn_calUse (n : Nat) (x : Enc) : (s.setEn n x).calUse = s.calUse := (rfl)
@[simp] theorem State.setEn_ask (n : Nat) (x : Enc) : (s.setEn n x).ask = s.ask := (rfl)
@[simp] theorem State.setEn_switched (n : Nat) (x : Enc) : (s.setEn n x).switched = s.switched := (rfl)
@[simp] theorem State.setEn_due (n : Nat) (x : Enc) : (s.setEn n x).due = s.due := (rfl)
@[simp] theorem State.setEn_sent (n : Nat) (x : Enc) : (s.setEn n x).sent = s.sent := (rfl)
@[simp] theorem State.setEn_free (n : Nat) (x : Enc) : (s.setEn n x).free = s.free := (rfl)
@[simp] theorem State.setEn_pending (n : Nat) (x : Enc) : (s.setEn n x).pending = s.pending := (rfl)

@[simp] theorem State.setTm_tb (n : Nat) (x : Tmr) : (s.setTm n x).tb = s.tb := (rfl)
@[simp] theorem State.setTm_regs (n : Nat) (x : Tmr) : (s.setTm n x).regs = s.regs := (rfl)
@[simp] theorem State.setTm_base (n : Nat) (x : Tmr) : (s.setTm n x).base = s.base := (rfl)
@[simp] theorem State.setTm_sram (n : Nat) (x : Tmr) : (s.setTm n x).sram = s.sram := (rfl)
@[simp] theorem State.setTm_tcm (n : Nat) (x : Tmr) : (s.setTm n x).tcm = s.tcm := (rfl)
@[simp] theorem State.setTm_flash (n : Nat) (x : Tmr) : (s.setTm n x).flash = s.flash := (rfl)
@[simp] theorem State.setTm_bus (n : Nat) (x : Tmr) : (s.setTm n x).bus = s.bus := (rfl)
@[simp] theorem State.setTm_rdLatch (n : Nat) (x : Tmr) : (s.setTm n x).rdLatch = s.rdLatch := (rfl)
@[simp] theorem State.setTm_wrLatch (n : Nat) (x : Tmr) : (s.setTm n x).wrLatch = s.wrLatch := (rfl)
@[simp] theorem State.setTm_cores (n : Nat) (x : Tmr) : (s.setTm n x).cores = s.cores := (rfl)
@[simp] theorem State.setTm_nest (n : Nat) (x : Tmr) : (s.setTm n x).nest = s.nest := (rfl)
@[simp] theorem State.setTm_angle (n : Nat) (x : Tmr) : (s.setTm n x).angle = s.angle := (rfl)
@[simp] theorem State.setTm_trk (n : Nat) (x : Tmr) : (s.setTm n x).trk = s.trk := (rfl)
@[simp] theorem State.setTm_strm (n : Nat) (x : Tmr) : (s.setTm n x).strm = s.strm := (rfl)
@[simp] theorem State.setTm_jrnReq (n : Nat) (x : Tmr) : (s.setTm n x).jrnReq = s.jrnReq := (rfl)
@[simp] theorem State.setTm_jrnHandle (n : Nat) (x : Tmr) : (s.setTm n x).jrnHandle = s.jrnHandle := (rfl)
@[simp] theorem State.setTm_fco (n : Nat) (x : Tmr) : (s.setTm n x).fco = s.fco := (rfl)
@[simp] theorem State.setTm_cls (n : Nat) (x : Tmr) : (s.setTm n x).cls = s.cls := (rfl)
@[simp] theorem State.setTm_husk (n : Nat) (x : Tmr) : (s.setTm n x).husk = s.husk := (rfl)
@[simp] theorem State.setTm_pad (n : Nat) (x : Tmr) : (s.setTm n x).pad = s.pad := (rfl)
@[simp] theorem State.setTm_chan (n : Nat) (x : Tmr) : (s.setTm n x).chan = s.chan := (rfl)
@[simp] theorem State.setTm_task (n : Nat) (x : Tmr) : (s.setTm n x).task = s.task := (rfl)
@[simp] theorem State.setTm_adc (n : Nat) (x : Tmr) : (s.setTm n x).adc = s.adc := (rfl)
@[simp] theorem State.setTm_gainAt (n : Nat) (x : Tmr) : (s.setTm n x).gainAt = s.gainAt := (rfl)
@[simp] theorem State.setTm_gchg (n : Nat) (x : Tmr) : (s.setTm n x).gchg = s.gchg := (rfl)
@[simp] theorem State.setTm_gainNext (n : Nat) (x : Tmr) : (s.setTm n x).gainNext = s.gainNext := (rfl)
@[simp] theorem State.setTm_knk (n : Nat) (x : Tmr) : (s.setTm n x).knk = s.knk := (rfl)
@[simp] theorem State.setTm_enc (n : Nat) (x : Tmr) : (s.setTm n x).enc = s.enc := (rfl)
@[simp] theorem State.setTm_nt (n : Nat) (x : Tmr) : (s.setTm n x).nt = s.nt := (rfl)
@[simp] theorem State.setTm_psq (n : Nat) (x : Tmr) : (s.setTm n x).psq = s.psq := (rfl)
@[simp] theorem State.setTm_gpin (n : Nat) (x : Tmr) : (s.setTm n x).gpin = s.gpin := (rfl)
@[simp] theorem State.setTm_mkLast (n : Nat) (x : Tmr) : (s.setTm n x).mkLast = s.mkLast := (rfl)
@[simp] theorem State.setTm_mkPrev (n : Nat) (x : Tmr) : (s.setTm n x).mkPrev = s.mkPrev := (rfl)
@[simp] theorem State.setTm_angPast (n : Nat) (x : Tmr) : (s.setTm n x).angPast = s.angPast := (rfl)
@[simp] theorem State.setTm_pwr (n : Nat) (x : Tmr) : (s.setTm n x).pwr = s.pwr := (rfl)
@[simp] theorem State.setTm_slp (n : Nat) (x : Tmr) : (s.setTm n x).slp = s.slp := (rfl)
@[simp] theorem State.setTm_roll (n : Nat) (x : Tmr) : (s.setTm n x).roll = s.roll := (rfl)
@[simp] theorem State.setTm_acn (n : Nat) (x : Tmr) : (s.setTm n x).acn = s.acn := (rfl)
@[simp] theorem State.setTm_img (n : Nat) (x : Tmr) : (s.setTm n x).img = s.img := (rfl)
@[simp] theorem State.setTm_gw (n : Nat) (x : Tmr) : (s.setTm n x).gw = s.gw := (rfl)
@[simp] theorem State.setTm_links (n : Nat) (x : Tmr) : (s.setTm n x).links = s.links := (rfl)
@[simp] theorem State.setTm_cal (n : Nat) (x : Tmr) : (s.setTm n x).cal = s.cal := (rfl)
@[simp] theorem State.setTm_dbg (n : Nat) (x : Tmr) : (s.setTm n x).dbg = s.dbg := (rfl)
@[simp] theorem State.setTm_calForce (n : Nat) (x : Tmr) : (s.setTm n x).calForce = s.calForce := (rfl)
@[simp] theorem State.setTm_calUse (n : Nat) (x : Tmr) : (s.setTm n x).calUse = s.calUse := (rfl)
@[simp] theorem State.setTm_ask (n : Nat) (x : Tmr) : (s.setTm n x).ask = s.ask := (rfl)
@[simp] theorem State.setTm_switched (n : Nat) (x : Tmr) : (s.setTm n x).switched = s.switched := (rfl)
@[simp] theorem State.setTm_due (n : Nat) (x : Tmr) : (s.setTm n x).due = s.due := (rfl)
@[simp] theorem State.setTm_sent (n : Nat) (x : Tmr) : (s.setTm n x).sent = s.sent := (rfl)
@[simp] theorem State.setTm_free (n : Nat) (x : Tmr) : (s.setTm n x).free = s.free := (rfl)
@[simp] theorem State.setTm_pending (n : Nat) (x : Tmr) : (s.setTm n x).pending = s.pending := (rfl)

@[simp] theorem State.setSq_tb (n : Nat) (x : Psq) : (s.setSq n x).tb = s.tb := (rfl)
@[simp] theorem State.setSq_regs (n : Nat) (x : Psq) : (s.setSq n x).regs = s.regs := (rfl)
@[simp] theorem State.setSq_base (n : Nat) (x : Psq) : (s.setSq n x).base = s.base := (rfl)
@[simp] theorem State.setSq_sram (n : Nat) (x : Psq) : (s.setSq n x).sram = s.sram := (rfl)
@[simp] theorem State.setSq_tcm (n : Nat) (x : Psq) : (s.setSq n x).tcm = s.tcm := (rfl)
@[simp] theorem State.setSq_flash (n : Nat) (x : Psq) : (s.setSq n x).flash = s.flash := (rfl)
@[simp] theorem State.setSq_bus (n : Nat) (x : Psq) : (s.setSq n x).bus = s.bus := (rfl)
@[simp] theorem State.setSq_rdLatch (n : Nat) (x : Psq) : (s.setSq n x).rdLatch = s.rdLatch := (rfl)
@[simp] theorem State.setSq_wrLatch (n : Nat) (x : Psq) : (s.setSq n x).wrLatch = s.wrLatch := (rfl)
@[simp] theorem State.setSq_cores (n : Nat) (x : Psq) : (s.setSq n x).cores = s.cores := (rfl)
@[simp] theorem State.setSq_nest (n : Nat) (x : Psq) : (s.setSq n x).nest = s.nest := (rfl)
@[simp] theorem State.setSq_angle (n : Nat) (x : Psq) : (s.setSq n x).angle = s.angle := (rfl)
@[simp] theorem State.setSq_trk (n : Nat) (x : Psq) : (s.setSq n x).trk = s.trk := (rfl)
@[simp] theorem State.setSq_strm (n : Nat) (x : Psq) : (s.setSq n x).strm = s.strm := (rfl)
@[simp] theorem State.setSq_jrnReq (n : Nat) (x : Psq) : (s.setSq n x).jrnReq = s.jrnReq := (rfl)
@[simp] theorem State.setSq_jrnHandle (n : Nat) (x : Psq) : (s.setSq n x).jrnHandle = s.jrnHandle := (rfl)
@[simp] theorem State.setSq_fco (n : Nat) (x : Psq) : (s.setSq n x).fco = s.fco := (rfl)
@[simp] theorem State.setSq_cls (n : Nat) (x : Psq) : (s.setSq n x).cls = s.cls := (rfl)
@[simp] theorem State.setSq_husk (n : Nat) (x : Psq) : (s.setSq n x).husk = s.husk := (rfl)
@[simp] theorem State.setSq_pad (n : Nat) (x : Psq) : (s.setSq n x).pad = s.pad := (rfl)
@[simp] theorem State.setSq_chan (n : Nat) (x : Psq) : (s.setSq n x).chan = s.chan := (rfl)
@[simp] theorem State.setSq_task (n : Nat) (x : Psq) : (s.setSq n x).task = s.task := (rfl)
@[simp] theorem State.setSq_adc (n : Nat) (x : Psq) : (s.setSq n x).adc = s.adc := (rfl)
@[simp] theorem State.setSq_gainAt (n : Nat) (x : Psq) : (s.setSq n x).gainAt = s.gainAt := (rfl)
@[simp] theorem State.setSq_gchg (n : Nat) (x : Psq) : (s.setSq n x).gchg = s.gchg := (rfl)
@[simp] theorem State.setSq_gainNext (n : Nat) (x : Psq) : (s.setSq n x).gainNext = s.gainNext := (rfl)
@[simp] theorem State.setSq_knk (n : Nat) (x : Psq) : (s.setSq n x).knk = s.knk := (rfl)
@[simp] theorem State.setSq_enc (n : Nat) (x : Psq) : (s.setSq n x).enc = s.enc := (rfl)
@[simp] theorem State.setSq_nt (n : Nat) (x : Psq) : (s.setSq n x).nt = s.nt := (rfl)
@[simp] theorem State.setSq_tmr (n : Nat) (x : Psq) : (s.setSq n x).tmr = s.tmr := (rfl)
@[simp] theorem State.setSq_gpin (n : Nat) (x : Psq) : (s.setSq n x).gpin = s.gpin := (rfl)
@[simp] theorem State.setSq_mkLast (n : Nat) (x : Psq) : (s.setSq n x).mkLast = s.mkLast := (rfl)
@[simp] theorem State.setSq_mkPrev (n : Nat) (x : Psq) : (s.setSq n x).mkPrev = s.mkPrev := (rfl)
@[simp] theorem State.setSq_angPast (n : Nat) (x : Psq) : (s.setSq n x).angPast = s.angPast := (rfl)
@[simp] theorem State.setSq_pwr (n : Nat) (x : Psq) : (s.setSq n x).pwr = s.pwr := (rfl)
@[simp] theorem State.setSq_slp (n : Nat) (x : Psq) : (s.setSq n x).slp = s.slp := (rfl)
@[simp] theorem State.setSq_roll (n : Nat) (x : Psq) : (s.setSq n x).roll = s.roll := (rfl)
@[simp] theorem State.setSq_acn (n : Nat) (x : Psq) : (s.setSq n x).acn = s.acn := (rfl)
@[simp] theorem State.setSq_img (n : Nat) (x : Psq) : (s.setSq n x).img = s.img := (rfl)
@[simp] theorem State.setSq_gw (n : Nat) (x : Psq) : (s.setSq n x).gw = s.gw := (rfl)
@[simp] theorem State.setSq_links (n : Nat) (x : Psq) : (s.setSq n x).links = s.links := (rfl)
@[simp] theorem State.setSq_cal (n : Nat) (x : Psq) : (s.setSq n x).cal = s.cal := (rfl)
@[simp] theorem State.setSq_dbg (n : Nat) (x : Psq) : (s.setSq n x).dbg = s.dbg := (rfl)
@[simp] theorem State.setSq_calForce (n : Nat) (x : Psq) : (s.setSq n x).calForce = s.calForce := (rfl)
@[simp] theorem State.setSq_calUse (n : Nat) (x : Psq) : (s.setSq n x).calUse = s.calUse := (rfl)
@[simp] theorem State.setSq_ask (n : Nat) (x : Psq) : (s.setSq n x).ask = s.ask := (rfl)
@[simp] theorem State.setSq_switched (n : Nat) (x : Psq) : (s.setSq n x).switched = s.switched := (rfl)
@[simp] theorem State.setSq_due (n : Nat) (x : Psq) : (s.setSq n x).due = s.due := (rfl)
@[simp] theorem State.setSq_sent (n : Nat) (x : Psq) : (s.setSq n x).sent = s.sent := (rfl)
@[simp] theorem State.setSq_free (n : Nat) (x : Psq) : (s.setSq n x).free = s.free := (rfl)
@[simp] theorem State.setSq_pending (n : Nat) (x : Psq) : (s.setSq n x).pending = s.pending := (rfl)

@[simp] theorem State.setGx_tb (n : Nat) (x : GwCtx) : (s.setGx n x).tb = s.tb := (rfl)
@[simp] theorem State.setGx_regs (n : Nat) (x : GwCtx) : (s.setGx n x).regs = s.regs := (rfl)
@[simp] theorem State.setGx_base (n : Nat) (x : GwCtx) : (s.setGx n x).base = s.base := (rfl)
@[simp] theorem State.setGx_sram (n : Nat) (x : GwCtx) : (s.setGx n x).sram = s.sram := (rfl)
@[simp] theorem State.setGx_tcm (n : Nat) (x : GwCtx) : (s.setGx n x).tcm = s.tcm := (rfl)
@[simp] theorem State.setGx_flash (n : Nat) (x : GwCtx) : (s.setGx n x).flash = s.flash := (rfl)
@[simp] theorem State.setGx_bus (n : Nat) (x : GwCtx) : (s.setGx n x).bus = s.bus := (rfl)
@[simp] theorem State.setGx_rdLatch (n : Nat) (x : GwCtx) : (s.setGx n x).rdLatch = s.rdLatch := (rfl)
@[simp] theorem State.setGx_wrLatch (n : Nat) (x : GwCtx) : (s.setGx n x).wrLatch = s.wrLatch := (rfl)
@[simp] theorem State.setGx_cores (n : Nat) (x : GwCtx) : (s.setGx n x).cores = s.cores := (rfl)
@[simp] theorem State.setGx_nest (n : Nat) (x : GwCtx) : (s.setGx n x).nest = s.nest := (rfl)
@[simp] theorem State.setGx_angle (n : Nat) (x : GwCtx) : (s.setGx n x).angle = s.angle := (rfl)
@[simp] theorem State.setGx_trk (n : Nat) (x : GwCtx) : (s.setGx n x).trk = s.trk := (rfl)
@[simp] theorem State.setGx_strm (n : Nat) (x : GwCtx) : (s.setGx n x).strm = s.strm := (rfl)
@[simp] theorem State.setGx_jrnReq (n : Nat) (x : GwCtx) : (s.setGx n x).jrnReq = s.jrnReq := (rfl)
@[simp] theorem State.setGx_jrnHandle (n : Nat) (x : GwCtx) : (s.setGx n x).jrnHandle = s.jrnHandle := (rfl)
@[simp] theorem State.setGx_fco (n : Nat) (x : GwCtx) : (s.setGx n x).fco = s.fco := (rfl)
@[simp] theorem State.setGx_cls (n : Nat) (x : GwCtx) : (s.setGx n x).cls = s.cls := (rfl)
@[simp] theorem State.setGx_husk (n : Nat) (x : GwCtx) : (s.setGx n x).husk = s.husk := (rfl)
@[simp] theorem State.setGx_pad (n : Nat) (x : GwCtx) : (s.setGx n x).pad = s.pad := (rfl)
@[simp] theorem State.setGx_chan (n : Nat) (x : GwCtx) : (s.setGx n x).chan = s.chan := (rfl)
@[simp] theorem State.setGx_task (n : Nat) (x : GwCtx) : (s.setGx n x).task = s.task := (rfl)
@[simp] theorem State.setGx_adc (n : Nat) (x : GwCtx) : (s.setGx n x).adc = s.adc := (rfl)
@[simp] theorem State.setGx_gainAt (n : Nat) (x : GwCtx) : (s.setGx n x).gainAt = s.gainAt := (rfl)
@[simp] theorem State.setGx_gchg (n : Nat) (x : GwCtx) : (s.setGx n x).gchg = s.gchg := (rfl)
@[simp] theorem State.setGx_gainNext (n : Nat) (x : GwCtx) : (s.setGx n x).gainNext = s.gainNext := (rfl)
@[simp] theorem State.setGx_knk (n : Nat) (x : GwCtx) : (s.setGx n x).knk = s.knk := (rfl)
@[simp] theorem State.setGx_enc (n : Nat) (x : GwCtx) : (s.setGx n x).enc = s.enc := (rfl)
@[simp] theorem State.setGx_nt (n : Nat) (x : GwCtx) : (s.setGx n x).nt = s.nt := (rfl)
@[simp] theorem State.setGx_tmr (n : Nat) (x : GwCtx) : (s.setGx n x).tmr = s.tmr := (rfl)
@[simp] theorem State.setGx_psq (n : Nat) (x : GwCtx) : (s.setGx n x).psq = s.psq := (rfl)
@[simp] theorem State.setGx_gpin (n : Nat) (x : GwCtx) : (s.setGx n x).gpin = s.gpin := (rfl)
@[simp] theorem State.setGx_mkLast (n : Nat) (x : GwCtx) : (s.setGx n x).mkLast = s.mkLast := (rfl)
@[simp] theorem State.setGx_mkPrev (n : Nat) (x : GwCtx) : (s.setGx n x).mkPrev = s.mkPrev := (rfl)
@[simp] theorem State.setGx_angPast (n : Nat) (x : GwCtx) : (s.setGx n x).angPast = s.angPast := (rfl)
@[simp] theorem State.setGx_pwr (n : Nat) (x : GwCtx) : (s.setGx n x).pwr = s.pwr := (rfl)
@[simp] theorem State.setGx_slp (n : Nat) (x : GwCtx) : (s.setGx n x).slp = s.slp := (rfl)
@[simp] theorem State.setGx_roll (n : Nat) (x : GwCtx) : (s.setGx n x).roll = s.roll := (rfl)
@[simp] theorem State.setGx_acn (n : Nat) (x : GwCtx) : (s.setGx n x).acn = s.acn := (rfl)
@[simp] theorem State.setGx_img (n : Nat) (x : GwCtx) : (s.setGx n x).img = s.img := (rfl)
@[simp] theorem State.setGx_links (n : Nat) (x : GwCtx) : (s.setGx n x).links = s.links := (rfl)
@[simp] theorem State.setGx_cal (n : Nat) (x : GwCtx) : (s.setGx n x).cal = s.cal := (rfl)
@[simp] theorem State.setGx_dbg (n : Nat) (x : GwCtx) : (s.setGx n x).dbg = s.dbg := (rfl)
@[simp] theorem State.setGx_calForce (n : Nat) (x : GwCtx) : (s.setGx n x).calForce = s.calForce := (rfl)
@[simp] theorem State.setGx_calUse (n : Nat) (x : GwCtx) : (s.setGx n x).calUse = s.calUse := (rfl)
@[simp] theorem State.setGx_ask (n : Nat) (x : GwCtx) : (s.setGx n x).ask = s.ask := (rfl)
@[simp] theorem State.setGx_switched (n : Nat) (x : GwCtx) : (s.setGx n x).switched = s.switched := (rfl)
@[simp] theorem State.setGx_due (n : Nat) (x : GwCtx) : (s.setGx n x).due = s.due := (rfl)
@[simp] theorem State.setGx_sent (n : Nat) (x : GwCtx) : (s.setGx n x).sent = s.sent := (rfl)
@[simp] theorem State.setGx_free (n : Nat) (x : GwCtx) : (s.setGx n x).free = s.free := (rfl)
@[simp] theorem State.setGx_pending (n : Nat) (x : GwCtx) : (s.setGx n x).pending = s.pending := (rfl)

@[simp] theorem State.setFco_tb (x : Fco) : (s.setFco x).tb = s.tb := (rfl)
@[simp] theorem State.setFco_regs (x : Fco) : (s.setFco x).regs = s.regs := (rfl)
@[simp] theorem State.setFco_base (x : Fco) : (s.setFco x).base = s.base := (rfl)
@[simp] theorem State.setFco_sram (x : Fco) : (s.setFco x).sram = s.sram := (rfl)
@[simp] theorem State.setFco_tcm (x : Fco) : (s.setFco x).tcm = s.tcm := (rfl)
@[simp] theorem State.setFco_flash (x : Fco) : (s.setFco x).flash = s.flash := (rfl)
@[simp] theorem State.setFco_bus (x : Fco) : (s.setFco x).bus = s.bus := (rfl)
@[simp] theorem State.setFco_rdLatch (x : Fco) : (s.setFco x).rdLatch = s.rdLatch := (rfl)
@[simp] theorem State.setFco_wrLatch (x : Fco) : (s.setFco x).wrLatch = s.wrLatch := (rfl)
@[simp] theorem State.setFco_cores (x : Fco) : (s.setFco x).cores = s.cores := (rfl)
@[simp] theorem State.setFco_nest (x : Fco) : (s.setFco x).nest = s.nest := (rfl)
@[simp] theorem State.setFco_angle (x : Fco) : (s.setFco x).angle = s.angle := (rfl)
@[simp] theorem State.setFco_trk (x : Fco) : (s.setFco x).trk = s.trk := (rfl)
@[simp] theorem State.setFco_strm (x : Fco) : (s.setFco x).strm = s.strm := (rfl)
@[simp] theorem State.setFco_jrnReq (x : Fco) : (s.setFco x).jrnReq = s.jrnReq := (rfl)
@[simp] theorem State.setFco_jrnHandle (x : Fco) : (s.setFco x).jrnHandle = s.jrnHandle := (rfl)
@[simp] theorem State.setFco_cls (x : Fco) : (s.setFco x).cls = s.cls := (rfl)
@[simp] theorem State.setFco_husk (x : Fco) : (s.setFco x).husk = s.husk := (rfl)
@[simp] theorem State.setFco_pad (x : Fco) : (s.setFco x).pad = s.pad := (rfl)
@[simp] theorem State.setFco_chan (x : Fco) : (s.setFco x).chan = s.chan := (rfl)
@[simp] theorem State.setFco_task (x : Fco) : (s.setFco x).task = s.task := (rfl)
@[simp] theorem State.setFco_adc (x : Fco) : (s.setFco x).adc = s.adc := (rfl)
@[simp] theorem State.setFco_gainAt (x : Fco) : (s.setFco x).gainAt = s.gainAt := (rfl)
@[simp] theorem State.setFco_gchg (x : Fco) : (s.setFco x).gchg = s.gchg := (rfl)
@[simp] theorem State.setFco_gainNext (x : Fco) : (s.setFco x).gainNext = s.gainNext := (rfl)
@[simp] theorem State.setFco_knk (x : Fco) : (s.setFco x).knk = s.knk := (rfl)
@[simp] theorem State.setFco_enc (x : Fco) : (s.setFco x).enc = s.enc := (rfl)
@[simp] theorem State.setFco_nt (x : Fco) : (s.setFco x).nt = s.nt := (rfl)
@[simp] theorem State.setFco_tmr (x : Fco) : (s.setFco x).tmr = s.tmr := (rfl)
@[simp] theorem State.setFco_psq (x : Fco) : (s.setFco x).psq = s.psq := (rfl)
@[simp] theorem State.setFco_gpin (x : Fco) : (s.setFco x).gpin = s.gpin := (rfl)
@[simp] theorem State.setFco_mkLast (x : Fco) : (s.setFco x).mkLast = s.mkLast := (rfl)
@[simp] theorem State.setFco_mkPrev (x : Fco) : (s.setFco x).mkPrev = s.mkPrev := (rfl)
@[simp] theorem State.setFco_angPast (x : Fco) : (s.setFco x).angPast = s.angPast := (rfl)
@[simp] theorem State.setFco_pwr (x : Fco) : (s.setFco x).pwr = s.pwr := (rfl)
@[simp] theorem State.setFco_slp (x : Fco) : (s.setFco x).slp = s.slp := (rfl)
@[simp] theorem State.setFco_roll (x : Fco) : (s.setFco x).roll = s.roll := (rfl)
@[simp] theorem State.setFco_acn (x : Fco) : (s.setFco x).acn = s.acn := (rfl)
@[simp] theorem State.setFco_img (x : Fco) : (s.setFco x).img = s.img := (rfl)
@[simp] theorem State.setFco_gw (x : Fco) : (s.setFco x).gw = s.gw := (rfl)
@[simp] theorem State.setFco_links (x : Fco) : (s.setFco x).links = s.links := (rfl)
@[simp] theorem State.setFco_cal (x : Fco) : (s.setFco x).cal = s.cal := (rfl)
@[simp] theorem State.setFco_dbg (x : Fco) : (s.setFco x).dbg = s.dbg := (rfl)
@[simp] theorem State.setFco_calForce (x : Fco) : (s.setFco x).calForce = s.calForce := (rfl)
@[simp] theorem State.setFco_calUse (x : Fco) : (s.setFco x).calUse = s.calUse := (rfl)
@[simp] theorem State.setFco_ask (x : Fco) : (s.setFco x).ask = s.ask := (rfl)
@[simp] theorem State.setFco_switched (x : Fco) : (s.setFco x).switched = s.switched := (rfl)
@[simp] theorem State.setFco_due (x : Fco) : (s.setFco x).due = s.due := (rfl)
@[simp] theorem State.setFco_sent (x : Fco) : (s.setFco x).sent = s.sent := (rfl)
@[simp] theorem State.setFco_free (x : Fco) : (s.setFco x).free = s.free := (rfl)
@[simp] theorem State.setFco_pending (x : Fco) : (s.setFco x).pending = s.pending := (rfl)

@[simp] theorem State.setAcn_tb (x : Acn) : (s.setAcn x).tb = s.tb := (rfl)
@[simp] theorem State.setAcn_regs (x : Acn) : (s.setAcn x).regs = s.regs := (rfl)
@[simp] theorem State.setAcn_base (x : Acn) : (s.setAcn x).base = s.base := (rfl)
@[simp] theorem State.setAcn_sram (x : Acn) : (s.setAcn x).sram = s.sram := (rfl)
@[simp] theorem State.setAcn_tcm (x : Acn) : (s.setAcn x).tcm = s.tcm := (rfl)
@[simp] theorem State.setAcn_flash (x : Acn) : (s.setAcn x).flash = s.flash := (rfl)
@[simp] theorem State.setAcn_bus (x : Acn) : (s.setAcn x).bus = s.bus := (rfl)
@[simp] theorem State.setAcn_rdLatch (x : Acn) : (s.setAcn x).rdLatch = s.rdLatch := (rfl)
@[simp] theorem State.setAcn_wrLatch (x : Acn) : (s.setAcn x).wrLatch = s.wrLatch := (rfl)
@[simp] theorem State.setAcn_cores (x : Acn) : (s.setAcn x).cores = s.cores := (rfl)
@[simp] theorem State.setAcn_nest (x : Acn) : (s.setAcn x).nest = s.nest := (rfl)
@[simp] theorem State.setAcn_angle (x : Acn) : (s.setAcn x).angle = s.angle := (rfl)
@[simp] theorem State.setAcn_trk (x : Acn) : (s.setAcn x).trk = s.trk := (rfl)
@[simp] theorem State.setAcn_strm (x : Acn) : (s.setAcn x).strm = s.strm := (rfl)
@[simp] theorem State.setAcn_jrnReq (x : Acn) : (s.setAcn x).jrnReq = s.jrnReq := (rfl)
@[simp] theorem State.setAcn_jrnHandle (x : Acn) : (s.setAcn x).jrnHandle = s.jrnHandle := (rfl)
@[simp] theorem State.setAcn_fco (x : Acn) : (s.setAcn x).fco = s.fco := (rfl)
@[simp] theorem State.setAcn_cls (x : Acn) : (s.setAcn x).cls = s.cls := (rfl)
@[simp] theorem State.setAcn_husk (x : Acn) : (s.setAcn x).husk = s.husk := (rfl)
@[simp] theorem State.setAcn_pad (x : Acn) : (s.setAcn x).pad = s.pad := (rfl)
@[simp] theorem State.setAcn_chan (x : Acn) : (s.setAcn x).chan = s.chan := (rfl)
@[simp] theorem State.setAcn_task (x : Acn) : (s.setAcn x).task = s.task := (rfl)
@[simp] theorem State.setAcn_adc (x : Acn) : (s.setAcn x).adc = s.adc := (rfl)
@[simp] theorem State.setAcn_gainAt (x : Acn) : (s.setAcn x).gainAt = s.gainAt := (rfl)
@[simp] theorem State.setAcn_gchg (x : Acn) : (s.setAcn x).gchg = s.gchg := (rfl)
@[simp] theorem State.setAcn_gainNext (x : Acn) : (s.setAcn x).gainNext = s.gainNext := (rfl)
@[simp] theorem State.setAcn_knk (x : Acn) : (s.setAcn x).knk = s.knk := (rfl)
@[simp] theorem State.setAcn_enc (x : Acn) : (s.setAcn x).enc = s.enc := (rfl)
@[simp] theorem State.setAcn_nt (x : Acn) : (s.setAcn x).nt = s.nt := (rfl)
@[simp] theorem State.setAcn_tmr (x : Acn) : (s.setAcn x).tmr = s.tmr := (rfl)
@[simp] theorem State.setAcn_psq (x : Acn) : (s.setAcn x).psq = s.psq := (rfl)
@[simp] theorem State.setAcn_gpin (x : Acn) : (s.setAcn x).gpin = s.gpin := (rfl)
@[simp] theorem State.setAcn_mkLast (x : Acn) : (s.setAcn x).mkLast = s.mkLast := (rfl)
@[simp] theorem State.setAcn_mkPrev (x : Acn) : (s.setAcn x).mkPrev = s.mkPrev := (rfl)
@[simp] theorem State.setAcn_angPast (x : Acn) : (s.setAcn x).angPast = s.angPast := (rfl)
@[simp] theorem State.setAcn_pwr (x : Acn) : (s.setAcn x).pwr = s.pwr := (rfl)
@[simp] theorem State.setAcn_slp (x : Acn) : (s.setAcn x).slp = s.slp := (rfl)
@[simp] theorem State.setAcn_roll (x : Acn) : (s.setAcn x).roll = s.roll := (rfl)
@[simp] theorem State.setAcn_img (x : Acn) : (s.setAcn x).img = s.img := (rfl)
@[simp] theorem State.setAcn_gw (x : Acn) : (s.setAcn x).gw = s.gw := (rfl)
@[simp] theorem State.setAcn_links (x : Acn) : (s.setAcn x).links = s.links := (rfl)
@[simp] theorem State.setAcn_cal (x : Acn) : (s.setAcn x).cal = s.cal := (rfl)
@[simp] theorem State.setAcn_dbg (x : Acn) : (s.setAcn x).dbg = s.dbg := (rfl)
@[simp] theorem State.setAcn_calForce (x : Acn) : (s.setAcn x).calForce = s.calForce := (rfl)
@[simp] theorem State.setAcn_calUse (x : Acn) : (s.setAcn x).calUse = s.calUse := (rfl)
@[simp] theorem State.setAcn_ask (x : Acn) : (s.setAcn x).ask = s.ask := (rfl)
@[simp] theorem State.setAcn_switched (x : Acn) : (s.setAcn x).switched = s.switched := (rfl)
@[simp] theorem State.setAcn_due (x : Acn) : (s.setAcn x).due = s.due := (rfl)
@[simp] theorem State.setAcn_sent (x : Acn) : (s.setAcn x).sent = s.sent := (rfl)
@[simp] theorem State.setAcn_free (x : Acn) : (s.setAcn x).free = s.free := (rfl)
@[simp] theorem State.setAcn_pending (x : Acn) : (s.setAcn x).pending = s.pending := (rfl)

@[simp] theorem State.setRoll_tb (x : Roll) : (s.setRoll x).tb = s.tb := (rfl)
@[simp] theorem State.setRoll_regs (x : Roll) : (s.setRoll x).regs = s.regs := (rfl)
@[simp] theorem State.setRoll_base (x : Roll) : (s.setRoll x).base = s.base := (rfl)
@[simp] theorem State.setRoll_sram (x : Roll) : (s.setRoll x).sram = s.sram := (rfl)
@[simp] theorem State.setRoll_tcm (x : Roll) : (s.setRoll x).tcm = s.tcm := (rfl)
@[simp] theorem State.setRoll_flash (x : Roll) : (s.setRoll x).flash = s.flash := (rfl)
@[simp] theorem State.setRoll_bus (x : Roll) : (s.setRoll x).bus = s.bus := (rfl)
@[simp] theorem State.setRoll_rdLatch (x : Roll) : (s.setRoll x).rdLatch = s.rdLatch := (rfl)
@[simp] theorem State.setRoll_wrLatch (x : Roll) : (s.setRoll x).wrLatch = s.wrLatch := (rfl)
@[simp] theorem State.setRoll_cores (x : Roll) : (s.setRoll x).cores = s.cores := (rfl)
@[simp] theorem State.setRoll_nest (x : Roll) : (s.setRoll x).nest = s.nest := (rfl)
@[simp] theorem State.setRoll_angle (x : Roll) : (s.setRoll x).angle = s.angle := (rfl)
@[simp] theorem State.setRoll_trk (x : Roll) : (s.setRoll x).trk = s.trk := (rfl)
@[simp] theorem State.setRoll_strm (x : Roll) : (s.setRoll x).strm = s.strm := (rfl)
@[simp] theorem State.setRoll_jrnReq (x : Roll) : (s.setRoll x).jrnReq = s.jrnReq := (rfl)
@[simp] theorem State.setRoll_jrnHandle (x : Roll) : (s.setRoll x).jrnHandle = s.jrnHandle := (rfl)
@[simp] theorem State.setRoll_fco (x : Roll) : (s.setRoll x).fco = s.fco := (rfl)
@[simp] theorem State.setRoll_cls (x : Roll) : (s.setRoll x).cls = s.cls := (rfl)
@[simp] theorem State.setRoll_husk (x : Roll) : (s.setRoll x).husk = s.husk := (rfl)
@[simp] theorem State.setRoll_pad (x : Roll) : (s.setRoll x).pad = s.pad := (rfl)
@[simp] theorem State.setRoll_chan (x : Roll) : (s.setRoll x).chan = s.chan := (rfl)
@[simp] theorem State.setRoll_task (x : Roll) : (s.setRoll x).task = s.task := (rfl)
@[simp] theorem State.setRoll_adc (x : Roll) : (s.setRoll x).adc = s.adc := (rfl)
@[simp] theorem State.setRoll_gainAt (x : Roll) : (s.setRoll x).gainAt = s.gainAt := (rfl)
@[simp] theorem State.setRoll_gchg (x : Roll) : (s.setRoll x).gchg = s.gchg := (rfl)
@[simp] theorem State.setRoll_gainNext (x : Roll) : (s.setRoll x).gainNext = s.gainNext := (rfl)
@[simp] theorem State.setRoll_knk (x : Roll) : (s.setRoll x).knk = s.knk := (rfl)
@[simp] theorem State.setRoll_enc (x : Roll) : (s.setRoll x).enc = s.enc := (rfl)
@[simp] theorem State.setRoll_nt (x : Roll) : (s.setRoll x).nt = s.nt := (rfl)
@[simp] theorem State.setRoll_tmr (x : Roll) : (s.setRoll x).tmr = s.tmr := (rfl)
@[simp] theorem State.setRoll_psq (x : Roll) : (s.setRoll x).psq = s.psq := (rfl)
@[simp] theorem State.setRoll_gpin (x : Roll) : (s.setRoll x).gpin = s.gpin := (rfl)
@[simp] theorem State.setRoll_mkLast (x : Roll) : (s.setRoll x).mkLast = s.mkLast := (rfl)
@[simp] theorem State.setRoll_mkPrev (x : Roll) : (s.setRoll x).mkPrev = s.mkPrev := (rfl)
@[simp] theorem State.setRoll_angPast (x : Roll) : (s.setRoll x).angPast = s.angPast := (rfl)
@[simp] theorem State.setRoll_pwr (x : Roll) : (s.setRoll x).pwr = s.pwr := (rfl)
@[simp] theorem State.setRoll_slp (x : Roll) : (s.setRoll x).slp = s.slp := (rfl)
@[simp] theorem State.setRoll_acn (x : Roll) : (s.setRoll x).acn = s.acn := (rfl)
@[simp] theorem State.setRoll_img (x : Roll) : (s.setRoll x).img = s.img := (rfl)
@[simp] theorem State.setRoll_gw (x : Roll) : (s.setRoll x).gw = s.gw := (rfl)
@[simp] theorem State.setRoll_links (x : Roll) : (s.setRoll x).links = s.links := (rfl)
@[simp] theorem State.setRoll_cal (x : Roll) : (s.setRoll x).cal = s.cal := (rfl)
@[simp] theorem State.setRoll_dbg (x : Roll) : (s.setRoll x).dbg = s.dbg := (rfl)
@[simp] theorem State.setRoll_calForce (x : Roll) : (s.setRoll x).calForce = s.calForce := (rfl)
@[simp] theorem State.setRoll_calUse (x : Roll) : (s.setRoll x).calUse = s.calUse := (rfl)
@[simp] theorem State.setRoll_ask (x : Roll) : (s.setRoll x).ask = s.ask := (rfl)
@[simp] theorem State.setRoll_switched (x : Roll) : (s.setRoll x).switched = s.switched := (rfl)
@[simp] theorem State.setRoll_due (x : Roll) : (s.setRoll x).due = s.due := (rfl)
@[simp] theorem State.setRoll_sent (x : Roll) : (s.setRoll x).sent = s.sent := (rfl)
@[simp] theorem State.setRoll_free (x : Roll) : (s.setRoll x).free = s.free := (rfl)
@[simp] theorem State.setRoll_pending (x : Roll) : (s.setRoll x).pending = s.pending := (rfl)

@[simp] theorem State.core_setCore (n : Nat) (x : Core) : (s.setCore n x).core n = x := tget_tput_same _ _ _ _
theorem State.core_setCore_ne (n m : Nat) (x : Core) (h : n ≠ m) : (s.setCore n x).core m = s.core m := tget_tput_ne _ _ _ h
@[simp] theorem State.nestOf_setNest (n : Nat) (x : List (Nat × Nat)) : (s.setNest n x).nestOf n = x := tget_tput_same _ _ _ _
theorem State.nestOf_setNest_ne (n m : Nat) (x : List (Nat × Nat)) (h : n ≠ m) : (s.setNest n x).nestOf m = s.nestOf m := tget_tput_ne _ _ _ h
@[simp] theorem State.ang_setAng (n : Nat) (x : Angle) : (s.setAng n x).ang n = x := tget_tput_same _ _ _ _
theorem State.ang_setAng_ne (n m : Nat) (x : Angle) (h : n ≠ m) : (s.setAng n x).ang m = s.ang m := tget_tput_ne _ _ _ h
@[simp] theorem State.tr_setTr (n : Nat) (x : Trk) : (s.setTr n x).tr n = x := tget_tput_same _ _ _ _
theorem State.tr_setTr_ne (n m : Nat) (x : Trk) (h : n ≠ m) : (s.setTr n x).tr m = s.tr m := tget_tput_ne _ _ _ h
@[simp] theorem State.str_setStr (n : Nat) (x : Strm) : (s.setStr n x).str n = x := tget_tput_same _ _ _ _
theorem State.str_setStr_ne (n m : Nat) (x : Strm) (h : n ≠ m) : (s.setStr n x).str m = s.str m := tget_tput_ne _ _ _ h
@[simp] theorem State.clsOf_setCls (n : Nat) (x : Cls) : (s.setCls n x).clsOf n = x := tget_tput_same _ _ _ _
theorem State.clsOf_setCls_ne (n m : Nat) (x : Cls) (h : n ≠ m) : (s.setCls n x).clsOf m = s.clsOf m := tget_tput_ne _ _ _ h
@[simp] theorem State.hsk_setHsk (n : Nat) (x : Husk) : (s.setHsk n x).hsk n = x := tget_tput_same _ _ _ _
theorem State.hsk_setHsk_ne (n m : Nat) (x : Husk) (h : n ≠ m) : (s.setHsk n x).hsk m = s.hsk m := tget_tput_ne _ _ _ h
@[simp] theorem State.pd_setPd (n : Nat) (x : Pad) : (s.setPd n x).pd n = x := tget_tput_same _ _ _ _
theorem State.pd_setPd_ne (n m : Nat) (x : Pad) (h : n ≠ m) : (s.setPd n x).pd m = s.pd m := tget_tput_ne _ _ _ h
@[simp] theorem State.ch_setCh (n : Nat) (x : Chan) : (s.setCh n x).ch n = x := tget_tput_same _ _ _ _
theorem State.ch_setCh_ne (n m : Nat) (x : Chan) (h : n ≠ m) : (s.setCh n x).ch m = s.ch m := tget_tput_ne _ _ _ h
@[simp] theorem State.taskOf_setTask (n : Nat) (x : List TaskEnt) : (s.setTask n x).taskOf n = x := tget_tput_same _ _ _ _
theorem State.taskOf_setTask_ne (n m : Nat) (x : List TaskEnt) (h : n ≠ m) : (s.setTask n x).taskOf m = s.taskOf m := tget_tput_ne _ _ _ h
@[simp] theorem State.ad_setAd (n : Nat) (x : Adc) : (s.setAd n x).ad n = x := tget_tput_same _ _ _ _
theorem State.ad_setAd_ne (n m : Nat) (x : Adc) (h : n ≠ m) : (s.setAd n x).ad m = s.ad m := tget_tput_ne _ _ _ h
@[simp] theorem State.kn_setKn (n : Nat) (x : Knk) : (s.setKn n x).kn n = x := tget_tput_same _ _ _ _
theorem State.kn_setKn_ne (n m : Nat) (x : Knk) (h : n ≠ m) : (s.setKn n x).kn m = s.kn m := tget_tput_ne _ _ _ h
@[simp] theorem State.en_setEn (n : Nat) (x : Enc) : (s.setEn n x).en n = x := tget_tput_same _ _ _ _
theorem State.en_setEn_ne (n m : Nat) (x : Enc) (h : n ≠ m) : (s.setEn n x).en m = s.en m := tget_tput_ne _ _ _ h
@[simp] theorem State.tm_setTm (n : Nat) (x : Tmr) : (s.setTm n x).tm n = x := tget_tput_same _ _ _ _
theorem State.tm_setTm_ne (n m : Nat) (x : Tmr) (h : n ≠ m) : (s.setTm n x).tm m = s.tm m := tget_tput_ne _ _ _ h
@[simp] theorem State.sq_setSq (n : Nat) (x : Psq) : (s.setSq n x).sq n = x := tget_tput_same _ _ _ _
theorem State.sq_setSq_ne (n m : Nat) (x : Psq) (h : n ≠ m) : (s.setSq n x).sq m = s.sq m := tget_tput_ne _ _ _ h
@[simp] theorem State.gx_setGx (n : Nat) (x : GwCtx) : (s.setGx n x).gx n = x := tget_tput_same _ _ _ _
theorem State.gx_setGx_ne (n m : Nat) (x : GwCtx) (h : n ≠ m) : (s.setGx n x).gx m = s.gx m := tget_tput_ne _ _ _ h

@[simp] theorem State.setAsk_tb (fn n : Nat) (x : Option Nat) : (s.setAsk fn n x).tb = s.tb := (rfl)
@[simp] theorem State.setAsk_base (fn n : Nat) (x : Option Nat) : (s.setAsk fn n x).base = s.base := (rfl)
@[simp] theorem State.setAsk_sram (fn n : Nat) (x : Option Nat) : (s.setAsk fn n x).sram = s.sram := (rfl)
@[simp] theorem State.setAsk_tcm (fn n : Nat) (x : Option Nat) : (s.setAsk fn n x).tcm = s.tcm := (rfl)
@[simp] theorem State.setAsk_flash (fn n : Nat) (x : Option Nat) : (s.setAsk fn n x).flash = s.flash := (rfl)
@[simp] theorem State.setAsk_bus (fn n : Nat) (x : Option Nat) : (s.setAsk fn n x).bus = s.bus := (rfl)
@[simp] theorem State.setAsk_rdLatch (fn n : Nat) (x : Option Nat) : (s.setAsk fn n x).rdLatch = s.rdLatch := (rfl)
@[simp] theorem State.setAsk_wrLatch (fn n : Nat) (x : Option Nat) : (s.setAsk fn n x).wrLatch = s.wrLatch := (rfl)
@[simp] theorem State.setAsk_cores (fn n : Nat) (x : Option Nat) : (s.setAsk fn n x).cores = s.cores := (rfl)
@[simp] theorem State.setAsk_nest (fn n : Nat) (x : Option Nat) : (s.setAsk fn n x).nest = s.nest := (rfl)
@[simp] theorem State.setAsk_angle (fn n : Nat) (x : Option Nat) : (s.setAsk fn n x).angle = s.angle := (rfl)
@[simp] theorem State.setAsk_trk (fn n : Nat) (x : Option Nat) : (s.setAsk fn n x).trk = s.trk := (rfl)
@[simp] theorem State.setAsk_strm (fn n : Nat) (x : Option Nat) : (s.setAsk fn n x).strm = s.strm := (rfl)
@[simp] theorem State.setAsk_jrnReq (fn n : Nat) (x : Option Nat) : (s.setAsk fn n x).jrnReq = s.jrnReq := (rfl)
@[simp] theorem State.setAsk_jrnHandle (fn n : Nat) (x : Option Nat) : (s.setAsk fn n x).jrnHandle = s.jrnHandle := (rfl)
@[simp] theorem State.setAsk_fco (fn n : Nat) (x : Option Nat) : (s.setAsk fn n x).fco = s.fco := (rfl)
@[simp] theorem State.setAsk_cls (fn n : Nat) (x : Option Nat) : (s.setAsk fn n x).cls = s.cls := (rfl)
@[simp] theorem State.setAsk_husk (fn n : Nat) (x : Option Nat) : (s.setAsk fn n x).husk = s.husk := (rfl)
@[simp] theorem State.setAsk_pad (fn n : Nat) (x : Option Nat) : (s.setAsk fn n x).pad = s.pad := (rfl)
@[simp] theorem State.setAsk_chan (fn n : Nat) (x : Option Nat) : (s.setAsk fn n x).chan = s.chan := (rfl)
@[simp] theorem State.setAsk_task (fn n : Nat) (x : Option Nat) : (s.setAsk fn n x).task = s.task := (rfl)
@[simp] theorem State.setAsk_adc (fn n : Nat) (x : Option Nat) : (s.setAsk fn n x).adc = s.adc := (rfl)
@[simp] theorem State.setAsk_gainAt (fn n : Nat) (x : Option Nat) : (s.setAsk fn n x).gainAt = s.gainAt := (rfl)
@[simp] theorem State.setAsk_gchg (fn n : Nat) (x : Option Nat) : (s.setAsk fn n x).gchg = s.gchg := (rfl)
@[simp] theorem State.setAsk_gainNext (fn n : Nat) (x : Option Nat) : (s.setAsk fn n x).gainNext = s.gainNext := (rfl)
@[simp] theorem State.setAsk_knk (fn n : Nat) (x : Option Nat) : (s.setAsk fn n x).knk = s.knk := (rfl)
@[simp] theorem State.setAsk_enc (fn n : Nat) (x : Option Nat) : (s.setAsk fn n x).enc = s.enc := (rfl)
@[simp] theorem State.setAsk_nt (fn n : Nat) (x : Option Nat) : (s.setAsk fn n x).nt = s.nt := (rfl)
@[simp] theorem State.setAsk_tmr (fn n : Nat) (x : Option Nat) : (s.setAsk fn n x).tmr = s.tmr := (rfl)
@[simp] theorem State.setAsk_psq (fn n : Nat) (x : Option Nat) : (s.setAsk fn n x).psq = s.psq := (rfl)
@[simp] theorem State.setAsk_gpin (fn n : Nat) (x : Option Nat) : (s.setAsk fn n x).gpin = s.gpin := (rfl)
@[simp] theorem State.setAsk_mkLast (fn n : Nat) (x : Option Nat) : (s.setAsk fn n x).mkLast = s.mkLast := (rfl)
@[simp] theorem State.setAsk_mkPrev (fn n : Nat) (x : Option Nat) : (s.setAsk fn n x).mkPrev = s.mkPrev := (rfl)
@[simp] theorem State.setAsk_angPast (fn n : Nat) (x : Option Nat) : (s.setAsk fn n x).angPast = s.angPast := (rfl)
@[simp] theorem State.setAsk_pwr (fn n : Nat) (x : Option Nat) : (s.setAsk fn n x).pwr = s.pwr := (rfl)
@[simp] theorem State.setAsk_slp (fn n : Nat) (x : Option Nat) : (s.setAsk fn n x).slp = s.slp := (rfl)
@[simp] theorem State.setAsk_roll (fn n : Nat) (x : Option Nat) : (s.setAsk fn n x).roll = s.roll := (rfl)
@[simp] theorem State.setAsk_acn (fn n : Nat) (x : Option Nat) : (s.setAsk fn n x).acn = s.acn := (rfl)
@[simp] theorem State.setAsk_img (fn n : Nat) (x : Option Nat) : (s.setAsk fn n x).img = s.img := (rfl)
@[simp] theorem State.setAsk_gw (fn n : Nat) (x : Option Nat) : (s.setAsk fn n x).gw = s.gw := (rfl)
@[simp] theorem State.setAsk_links (fn n : Nat) (x : Option Nat) : (s.setAsk fn n x).links = s.links := (rfl)
@[simp] theorem State.setAsk_cal (fn n : Nat) (x : Option Nat) : (s.setAsk fn n x).cal = s.cal := (rfl)
@[simp] theorem State.setAsk_dbg (fn n : Nat) (x : Option Nat) : (s.setAsk fn n x).dbg = s.dbg := (rfl)
@[simp] theorem State.setAsk_calForce (fn n : Nat) (x : Option Nat) : (s.setAsk fn n x).calForce = s.calForce := (rfl)
@[simp] theorem State.setAsk_calUse (fn n : Nat) (x : Option Nat) : (s.setAsk fn n x).calUse = s.calUse := (rfl)
@[simp] theorem State.setAsk_switched (fn n : Nat) (x : Option Nat) : (s.setAsk fn n x).switched = s.switched := (rfl)
@[simp] theorem State.setAsk_due (fn n : Nat) (x : Option Nat) : (s.setAsk fn n x).due = s.due := (rfl)
@[simp] theorem State.setAsk_sent (fn n : Nat) (x : Option Nat) : (s.setAsk fn n x).sent = s.sent := (rfl)
@[simp] theorem State.setAsk_free (fn n : Nat) (x : Option Nat) : (s.setAsk fn n x).free = s.free := (rfl)
@[simp] theorem State.setAsk_pending (fn n : Nat) (x : Option Nat) : (s.setAsk fn n x).pending = s.pending := (rfl)
@[simp] theorem State.setAsk_regs (fn n : Nat) (x : Option Nat) : (s.setAsk fn n x).regs = s.regs := (rfl)
@[simp] theorem State.askOf_setAsk (fn n : Nat) (x : Option Nat) : (s.setAsk fn n x).askOf fn n = x := tget_tput_same _ _ _ _

/-! Registers -/

@[simp] theorem State.rd_wr (a : Nat) (v : Word) : (s.wr a v).rd a = v := tget_tput_same _ _ _ _
theorem State.rd_wr_ne (a b : Nat) (v : Word) (h : a ≠ b) : (s.wr a v).rd b = s.rd b := tget_tput_ne _ _ _ h
theorem State.rd_wr_ite (a b : Nat) (v : Word) : (s.wr a v).rd b = if a = b then v else s.rd b := tget_tput _ _ _ _ _
@[simp] theorem State.rd_busOk (v : Nat) (a : Nat) : (s.busOk v).rd a = s.rd a := (rfl)
@[simp] theorem State.rd_busErr (a : Nat) : (s.busErr).rd a = s.rd a := (rfl)
@[simp] theorem State.rd_emit (e : Emit) (a : Nat) : (s.emit e).rd a = s.rd a := (rfl)
@[simp] theorem State.rd_raiseFault (src data : Nat) (a : Nat) : (s.raiseFault src data).rd a = s.rd a := (rfl)
@[simp] theorem State.rd_setCore (n : Nat) (x : Core) (a : Nat) : (s.setCore n x).rd a = s.rd a := (rfl)
@[simp] theorem State.rd_setNest (n : Nat) (x : List (Nat × Nat)) (a : Nat) : (s.setNest n x).rd a = s.rd a := (rfl)
@[simp] theorem State.rd_setAng (n : Nat) (x : Angle) (a : Nat) : (s.setAng n x).rd a = s.rd a := (rfl)
@[simp] theorem State.rd_setTr (n : Nat) (x : Trk) (a : Nat) : (s.setTr n x).rd a = s.rd a := (rfl)
@[simp] theorem State.rd_setStr (n : Nat) (x : Strm) (a : Nat) : (s.setStr n x).rd a = s.rd a := (rfl)
@[simp] theorem State.rd_setCls (n : Nat) (x : Cls) (a : Nat) : (s.setCls n x).rd a = s.rd a := (rfl)
@[simp] theorem State.rd_setHsk (n : Nat) (x : Husk) (a : Nat) : (s.setHsk n x).rd a = s.rd a := (rfl)
@[simp] theorem State.rd_setPd (n : Nat) (x : Pad) (a : Nat) : (s.setPd n x).rd a = s.rd a := (rfl)
@[simp] theorem State.rd_setCh (n : Nat) (x : Chan) (a : Nat) : (s.setCh n x).rd a = s.rd a := (rfl)
@[simp] theorem State.rd_setTask (n : Nat) (x : List TaskEnt) (a : Nat) : (s.setTask n x).rd a = s.rd a := (rfl)
@[simp] theorem State.rd_setAd (n : Nat) (x : Adc) (a : Nat) : (s.setAd n x).rd a = s.rd a := (rfl)
@[simp] theorem State.rd_setKn (n : Nat) (x : Knk) (a : Nat) : (s.setKn n x).rd a = s.rd a := (rfl)
@[simp] theorem State.rd_setEn (n : Nat) (x : Enc) (a : Nat) : (s.setEn n x).rd a = s.rd a := (rfl)
@[simp] theorem State.rd_setTm (n : Nat) (x : Tmr) (a : Nat) : (s.setTm n x).rd a = s.rd a := (rfl)
@[simp] theorem State.rd_setSq (n : Nat) (x : Psq) (a : Nat) : (s.setSq n x).rd a = s.rd a := (rfl)
@[simp] theorem State.rd_setGx (n : Nat) (x : GwCtx) (a : Nat) : (s.setGx n x).rd a = s.rd a := (rfl)
@[simp] theorem State.rd_setFco (x : Fco) (a : Nat) : (s.setFco x).rd a = s.rd a := (rfl)
@[simp] theorem State.rd_setAcn (x : Acn) (a : Nat) : (s.setAcn x).rd a = s.rd a := (rfl)
@[simp] theorem State.rd_setRoll (x : Roll) (a : Nat) : (s.setRoll x).rd a = s.rd a := (rfl)

/-! Fields of registers, through the updates that touch no register -/

@[simp] theorem State.fld_busOk (v : Nat) (f : Fld) (n' k' : Nat) : (s.busOk v).fld f n' k' = s.fld f n' k' := (rfl)
@[simp] theorem State.flag_busOk (v : Nat) (f : Fld) (n' k' : Nat) : (s.busOk v).flag f n' k' = s.flag f n' k' := (rfl)
@[simp] theorem State.wide_busOk (v : Nat) (f : Fld) (n' k' : Nat) : (s.busOk v).wide f n' k' = s.wide f n' k' := (rfl)
@[simp] theorem State.sfld_busOk (v : Nat) (f : Fld) (n' k' : Nat) : (s.busOk v).sfld f n' k' = s.sfld f n' k' := (rfl)
@[simp] theorem State.bankBit_busOk (v : Nat) (f : Fld) (i' : Nat) : (s.busOk v).bankBit f i' = s.bankBit f i' := (rfl)
@[simp] theorem State.fld_emit (e : Emit) (f : Fld) (n' k' : Nat) : (s.emit e).fld f n' k' = s.fld f n' k' := (rfl)
@[simp] theorem State.flag_emit (e : Emit) (f : Fld) (n' k' : Nat) : (s.emit e).flag f n' k' = s.flag f n' k' := (rfl)
@[simp] theorem State.wide_emit (e : Emit) (f : Fld) (n' k' : Nat) : (s.emit e).wide f n' k' = s.wide f n' k' := (rfl)
@[simp] theorem State.sfld_emit (e : Emit) (f : Fld) (n' k' : Nat) : (s.emit e).sfld f n' k' = s.sfld f n' k' := (rfl)
@[simp] theorem State.bankBit_emit (e : Emit) (f : Fld) (i' : Nat) : (s.emit e).bankBit f i' = s.bankBit f i' := (rfl)
@[simp] theorem State.fld_raiseFault (src data : Nat) (f : Fld) (n' k' : Nat) : (s.raiseFault src data).fld f n' k' = s.fld f n' k' := (rfl)
@[simp] theorem State.flag_raiseFault (src data : Nat) (f : Fld) (n' k' : Nat) : (s.raiseFault src data).flag f n' k' = s.flag f n' k' := (rfl)
@[simp] theorem State.wide_raiseFault (src data : Nat) (f : Fld) (n' k' : Nat) : (s.raiseFault src data).wide f n' k' = s.wide f n' k' := (rfl)
@[simp] theorem State.sfld_raiseFault (src data : Nat) (f : Fld) (n' k' : Nat) : (s.raiseFault src data).sfld f n' k' = s.sfld f n' k' := (rfl)
@[simp] theorem State.bankBit_raiseFault (src data : Nat) (f : Fld) (i' : Nat) : (s.raiseFault src data).bankBit f i' = s.bankBit f i' := (rfl)
@[simp] theorem State.fld_setCore (n : Nat) (x : Core) (f : Fld) (n' k' : Nat) : (s.setCore n x).fld f n' k' = s.fld f n' k' := (rfl)
@[simp] theorem State.flag_setCore (n : Nat) (x : Core) (f : Fld) (n' k' : Nat) : (s.setCore n x).flag f n' k' = s.flag f n' k' := (rfl)
@[simp] theorem State.wide_setCore (n : Nat) (x : Core) (f : Fld) (n' k' : Nat) : (s.setCore n x).wide f n' k' = s.wide f n' k' := (rfl)
@[simp] theorem State.sfld_setCore (n : Nat) (x : Core) (f : Fld) (n' k' : Nat) : (s.setCore n x).sfld f n' k' = s.sfld f n' k' := (rfl)
@[simp] theorem State.bankBit_setCore (n : Nat) (x : Core) (f : Fld) (i' : Nat) : (s.setCore n x).bankBit f i' = s.bankBit f i' := (rfl)
@[simp] theorem State.fld_setNest (n : Nat) (x : List (Nat × Nat)) (f : Fld) (n' k' : Nat) : (s.setNest n x).fld f n' k' = s.fld f n' k' := (rfl)
@[simp] theorem State.flag_setNest (n : Nat) (x : List (Nat × Nat)) (f : Fld) (n' k' : Nat) : (s.setNest n x).flag f n' k' = s.flag f n' k' := (rfl)
@[simp] theorem State.wide_setNest (n : Nat) (x : List (Nat × Nat)) (f : Fld) (n' k' : Nat) : (s.setNest n x).wide f n' k' = s.wide f n' k' := (rfl)
@[simp] theorem State.sfld_setNest (n : Nat) (x : List (Nat × Nat)) (f : Fld) (n' k' : Nat) : (s.setNest n x).sfld f n' k' = s.sfld f n' k' := (rfl)
@[simp] theorem State.bankBit_setNest (n : Nat) (x : List (Nat × Nat)) (f : Fld) (i' : Nat) : (s.setNest n x).bankBit f i' = s.bankBit f i' := (rfl)
@[simp] theorem State.fld_setAng (n : Nat) (x : Angle) (f : Fld) (n' k' : Nat) : (s.setAng n x).fld f n' k' = s.fld f n' k' := (rfl)
@[simp] theorem State.flag_setAng (n : Nat) (x : Angle) (f : Fld) (n' k' : Nat) : (s.setAng n x).flag f n' k' = s.flag f n' k' := (rfl)
@[simp] theorem State.wide_setAng (n : Nat) (x : Angle) (f : Fld) (n' k' : Nat) : (s.setAng n x).wide f n' k' = s.wide f n' k' := (rfl)
@[simp] theorem State.sfld_setAng (n : Nat) (x : Angle) (f : Fld) (n' k' : Nat) : (s.setAng n x).sfld f n' k' = s.sfld f n' k' := (rfl)
@[simp] theorem State.bankBit_setAng (n : Nat) (x : Angle) (f : Fld) (i' : Nat) : (s.setAng n x).bankBit f i' = s.bankBit f i' := (rfl)
@[simp] theorem State.fld_setTr (n : Nat) (x : Trk) (f : Fld) (n' k' : Nat) : (s.setTr n x).fld f n' k' = s.fld f n' k' := (rfl)
@[simp] theorem State.flag_setTr (n : Nat) (x : Trk) (f : Fld) (n' k' : Nat) : (s.setTr n x).flag f n' k' = s.flag f n' k' := (rfl)
@[simp] theorem State.wide_setTr (n : Nat) (x : Trk) (f : Fld) (n' k' : Nat) : (s.setTr n x).wide f n' k' = s.wide f n' k' := (rfl)
@[simp] theorem State.sfld_setTr (n : Nat) (x : Trk) (f : Fld) (n' k' : Nat) : (s.setTr n x).sfld f n' k' = s.sfld f n' k' := (rfl)
@[simp] theorem State.bankBit_setTr (n : Nat) (x : Trk) (f : Fld) (i' : Nat) : (s.setTr n x).bankBit f i' = s.bankBit f i' := (rfl)
@[simp] theorem State.fld_setStr (n : Nat) (x : Strm) (f : Fld) (n' k' : Nat) : (s.setStr n x).fld f n' k' = s.fld f n' k' := (rfl)
@[simp] theorem State.flag_setStr (n : Nat) (x : Strm) (f : Fld) (n' k' : Nat) : (s.setStr n x).flag f n' k' = s.flag f n' k' := (rfl)
@[simp] theorem State.wide_setStr (n : Nat) (x : Strm) (f : Fld) (n' k' : Nat) : (s.setStr n x).wide f n' k' = s.wide f n' k' := (rfl)
@[simp] theorem State.sfld_setStr (n : Nat) (x : Strm) (f : Fld) (n' k' : Nat) : (s.setStr n x).sfld f n' k' = s.sfld f n' k' := (rfl)
@[simp] theorem State.bankBit_setStr (n : Nat) (x : Strm) (f : Fld) (i' : Nat) : (s.setStr n x).bankBit f i' = s.bankBit f i' := (rfl)
@[simp] theorem State.fld_setCls (n : Nat) (x : Cls) (f : Fld) (n' k' : Nat) : (s.setCls n x).fld f n' k' = s.fld f n' k' := (rfl)
@[simp] theorem State.flag_setCls (n : Nat) (x : Cls) (f : Fld) (n' k' : Nat) : (s.setCls n x).flag f n' k' = s.flag f n' k' := (rfl)
@[simp] theorem State.wide_setCls (n : Nat) (x : Cls) (f : Fld) (n' k' : Nat) : (s.setCls n x).wide f n' k' = s.wide f n' k' := (rfl)
@[simp] theorem State.sfld_setCls (n : Nat) (x : Cls) (f : Fld) (n' k' : Nat) : (s.setCls n x).sfld f n' k' = s.sfld f n' k' := (rfl)
@[simp] theorem State.bankBit_setCls (n : Nat) (x : Cls) (f : Fld) (i' : Nat) : (s.setCls n x).bankBit f i' = s.bankBit f i' := (rfl)
@[simp] theorem State.fld_setHsk (n : Nat) (x : Husk) (f : Fld) (n' k' : Nat) : (s.setHsk n x).fld f n' k' = s.fld f n' k' := (rfl)
@[simp] theorem State.flag_setHsk (n : Nat) (x : Husk) (f : Fld) (n' k' : Nat) : (s.setHsk n x).flag f n' k' = s.flag f n' k' := (rfl)
@[simp] theorem State.wide_setHsk (n : Nat) (x : Husk) (f : Fld) (n' k' : Nat) : (s.setHsk n x).wide f n' k' = s.wide f n' k' := (rfl)
@[simp] theorem State.sfld_setHsk (n : Nat) (x : Husk) (f : Fld) (n' k' : Nat) : (s.setHsk n x).sfld f n' k' = s.sfld f n' k' := (rfl)
@[simp] theorem State.bankBit_setHsk (n : Nat) (x : Husk) (f : Fld) (i' : Nat) : (s.setHsk n x).bankBit f i' = s.bankBit f i' := (rfl)
@[simp] theorem State.fld_setPd (n : Nat) (x : Pad) (f : Fld) (n' k' : Nat) : (s.setPd n x).fld f n' k' = s.fld f n' k' := (rfl)
@[simp] theorem State.flag_setPd (n : Nat) (x : Pad) (f : Fld) (n' k' : Nat) : (s.setPd n x).flag f n' k' = s.flag f n' k' := (rfl)
@[simp] theorem State.wide_setPd (n : Nat) (x : Pad) (f : Fld) (n' k' : Nat) : (s.setPd n x).wide f n' k' = s.wide f n' k' := (rfl)
@[simp] theorem State.sfld_setPd (n : Nat) (x : Pad) (f : Fld) (n' k' : Nat) : (s.setPd n x).sfld f n' k' = s.sfld f n' k' := (rfl)
@[simp] theorem State.bankBit_setPd (n : Nat) (x : Pad) (f : Fld) (i' : Nat) : (s.setPd n x).bankBit f i' = s.bankBit f i' := (rfl)
@[simp] theorem State.fld_setCh (n : Nat) (x : Chan) (f : Fld) (n' k' : Nat) : (s.setCh n x).fld f n' k' = s.fld f n' k' := (rfl)
@[simp] theorem State.flag_setCh (n : Nat) (x : Chan) (f : Fld) (n' k' : Nat) : (s.setCh n x).flag f n' k' = s.flag f n' k' := (rfl)
@[simp] theorem State.wide_setCh (n : Nat) (x : Chan) (f : Fld) (n' k' : Nat) : (s.setCh n x).wide f n' k' = s.wide f n' k' := (rfl)
@[simp] theorem State.sfld_setCh (n : Nat) (x : Chan) (f : Fld) (n' k' : Nat) : (s.setCh n x).sfld f n' k' = s.sfld f n' k' := (rfl)
@[simp] theorem State.bankBit_setCh (n : Nat) (x : Chan) (f : Fld) (i' : Nat) : (s.setCh n x).bankBit f i' = s.bankBit f i' := (rfl)
@[simp] theorem State.fld_setTask (n : Nat) (x : List TaskEnt) (f : Fld) (n' k' : Nat) : (s.setTask n x).fld f n' k' = s.fld f n' k' := (rfl)
@[simp] theorem State.flag_setTask (n : Nat) (x : List TaskEnt) (f : Fld) (n' k' : Nat) : (s.setTask n x).flag f n' k' = s.flag f n' k' := (rfl)
@[simp] theorem State.wide_setTask (n : Nat) (x : List TaskEnt) (f : Fld) (n' k' : Nat) : (s.setTask n x).wide f n' k' = s.wide f n' k' := (rfl)
@[simp] theorem State.sfld_setTask (n : Nat) (x : List TaskEnt) (f : Fld) (n' k' : Nat) : (s.setTask n x).sfld f n' k' = s.sfld f n' k' := (rfl)
@[simp] theorem State.bankBit_setTask (n : Nat) (x : List TaskEnt) (f : Fld) (i' : Nat) : (s.setTask n x).bankBit f i' = s.bankBit f i' := (rfl)
@[simp] theorem State.fld_setAd (n : Nat) (x : Adc) (f : Fld) (n' k' : Nat) : (s.setAd n x).fld f n' k' = s.fld f n' k' := (rfl)
@[simp] theorem State.flag_setAd (n : Nat) (x : Adc) (f : Fld) (n' k' : Nat) : (s.setAd n x).flag f n' k' = s.flag f n' k' := (rfl)
@[simp] theorem State.wide_setAd (n : Nat) (x : Adc) (f : Fld) (n' k' : Nat) : (s.setAd n x).wide f n' k' = s.wide f n' k' := (rfl)
@[simp] theorem State.sfld_setAd (n : Nat) (x : Adc) (f : Fld) (n' k' : Nat) : (s.setAd n x).sfld f n' k' = s.sfld f n' k' := (rfl)
@[simp] theorem State.bankBit_setAd (n : Nat) (x : Adc) (f : Fld) (i' : Nat) : (s.setAd n x).bankBit f i' = s.bankBit f i' := (rfl)
@[simp] theorem State.fld_setKn (n : Nat) (x : Knk) (f : Fld) (n' k' : Nat) : (s.setKn n x).fld f n' k' = s.fld f n' k' := (rfl)
@[simp] theorem State.flag_setKn (n : Nat) (x : Knk) (f : Fld) (n' k' : Nat) : (s.setKn n x).flag f n' k' = s.flag f n' k' := (rfl)
@[simp] theorem State.wide_setKn (n : Nat) (x : Knk) (f : Fld) (n' k' : Nat) : (s.setKn n x).wide f n' k' = s.wide f n' k' := (rfl)
@[simp] theorem State.sfld_setKn (n : Nat) (x : Knk) (f : Fld) (n' k' : Nat) : (s.setKn n x).sfld f n' k' = s.sfld f n' k' := (rfl)
@[simp] theorem State.bankBit_setKn (n : Nat) (x : Knk) (f : Fld) (i' : Nat) : (s.setKn n x).bankBit f i' = s.bankBit f i' := (rfl)
@[simp] theorem State.fld_setEn (n : Nat) (x : Enc) (f : Fld) (n' k' : Nat) : (s.setEn n x).fld f n' k' = s.fld f n' k' := (rfl)
@[simp] theorem State.flag_setEn (n : Nat) (x : Enc) (f : Fld) (n' k' : Nat) : (s.setEn n x).flag f n' k' = s.flag f n' k' := (rfl)
@[simp] theorem State.wide_setEn (n : Nat) (x : Enc) (f : Fld) (n' k' : Nat) : (s.setEn n x).wide f n' k' = s.wide f n' k' := (rfl)
@[simp] theorem State.sfld_setEn (n : Nat) (x : Enc) (f : Fld) (n' k' : Nat) : (s.setEn n x).sfld f n' k' = s.sfld f n' k' := (rfl)
@[simp] theorem State.bankBit_setEn (n : Nat) (x : Enc) (f : Fld) (i' : Nat) : (s.setEn n x).bankBit f i' = s.bankBit f i' := (rfl)
@[simp] theorem State.fld_setTm (n : Nat) (x : Tmr) (f : Fld) (n' k' : Nat) : (s.setTm n x).fld f n' k' = s.fld f n' k' := (rfl)
@[simp] theorem State.flag_setTm (n : Nat) (x : Tmr) (f : Fld) (n' k' : Nat) : (s.setTm n x).flag f n' k' = s.flag f n' k' := (rfl)
@[simp] theorem State.wide_setTm (n : Nat) (x : Tmr) (f : Fld) (n' k' : Nat) : (s.setTm n x).wide f n' k' = s.wide f n' k' := (rfl)
@[simp] theorem State.sfld_setTm (n : Nat) (x : Tmr) (f : Fld) (n' k' : Nat) : (s.setTm n x).sfld f n' k' = s.sfld f n' k' := (rfl)
@[simp] theorem State.bankBit_setTm (n : Nat) (x : Tmr) (f : Fld) (i' : Nat) : (s.setTm n x).bankBit f i' = s.bankBit f i' := (rfl)
@[simp] theorem State.fld_setSq (n : Nat) (x : Psq) (f : Fld) (n' k' : Nat) : (s.setSq n x).fld f n' k' = s.fld f n' k' := (rfl)
@[simp] theorem State.flag_setSq (n : Nat) (x : Psq) (f : Fld) (n' k' : Nat) : (s.setSq n x).flag f n' k' = s.flag f n' k' := (rfl)
@[simp] theorem State.wide_setSq (n : Nat) (x : Psq) (f : Fld) (n' k' : Nat) : (s.setSq n x).wide f n' k' = s.wide f n' k' := (rfl)
@[simp] theorem State.sfld_setSq (n : Nat) (x : Psq) (f : Fld) (n' k' : Nat) : (s.setSq n x).sfld f n' k' = s.sfld f n' k' := (rfl)
@[simp] theorem State.bankBit_setSq (n : Nat) (x : Psq) (f : Fld) (i' : Nat) : (s.setSq n x).bankBit f i' = s.bankBit f i' := (rfl)
@[simp] theorem State.fld_setGx (n : Nat) (x : GwCtx) (f : Fld) (n' k' : Nat) : (s.setGx n x).fld f n' k' = s.fld f n' k' := (rfl)
@[simp] theorem State.flag_setGx (n : Nat) (x : GwCtx) (f : Fld) (n' k' : Nat) : (s.setGx n x).flag f n' k' = s.flag f n' k' := (rfl)
@[simp] theorem State.wide_setGx (n : Nat) (x : GwCtx) (f : Fld) (n' k' : Nat) : (s.setGx n x).wide f n' k' = s.wide f n' k' := (rfl)
@[simp] theorem State.sfld_setGx (n : Nat) (x : GwCtx) (f : Fld) (n' k' : Nat) : (s.setGx n x).sfld f n' k' = s.sfld f n' k' := (rfl)
@[simp] theorem State.bankBit_setGx (n : Nat) (x : GwCtx) (f : Fld) (i' : Nat) : (s.setGx n x).bankBit f i' = s.bankBit f i' := (rfl)
@[simp] theorem State.fld_setFco (x : Fco) (f : Fld) (n' k' : Nat) : (s.setFco x).fld f n' k' = s.fld f n' k' := (rfl)
@[simp] theorem State.flag_setFco (x : Fco) (f : Fld) (n' k' : Nat) : (s.setFco x).flag f n' k' = s.flag f n' k' := (rfl)
@[simp] theorem State.wide_setFco (x : Fco) (f : Fld) (n' k' : Nat) : (s.setFco x).wide f n' k' = s.wide f n' k' := (rfl)
@[simp] theorem State.sfld_setFco (x : Fco) (f : Fld) (n' k' : Nat) : (s.setFco x).sfld f n' k' = s.sfld f n' k' := (rfl)
@[simp] theorem State.bankBit_setFco (x : Fco) (f : Fld) (i' : Nat) : (s.setFco x).bankBit f i' = s.bankBit f i' := (rfl)
@[simp] theorem State.fld_setAcn (x : Acn) (f : Fld) (n' k' : Nat) : (s.setAcn x).fld f n' k' = s.fld f n' k' := (rfl)
@[simp] theorem State.flag_setAcn (x : Acn) (f : Fld) (n' k' : Nat) : (s.setAcn x).flag f n' k' = s.flag f n' k' := (rfl)
@[simp] theorem State.wide_setAcn (x : Acn) (f : Fld) (n' k' : Nat) : (s.setAcn x).wide f n' k' = s.wide f n' k' := (rfl)
@[simp] theorem State.sfld_setAcn (x : Acn) (f : Fld) (n' k' : Nat) : (s.setAcn x).sfld f n' k' = s.sfld f n' k' := (rfl)
@[simp] theorem State.bankBit_setAcn (x : Acn) (f : Fld) (i' : Nat) : (s.setAcn x).bankBit f i' = s.bankBit f i' := (rfl)
@[simp] theorem State.fld_setRoll (x : Roll) (f : Fld) (n' k' : Nat) : (s.setRoll x).fld f n' k' = s.fld f n' k' := (rfl)
@[simp] theorem State.flag_setRoll (x : Roll) (f : Fld) (n' k' : Nat) : (s.setRoll x).flag f n' k' = s.flag f n' k' := (rfl)
@[simp] theorem State.wide_setRoll (x : Roll) (f : Fld) (n' k' : Nat) : (s.setRoll x).wide f n' k' = s.wide f n' k' := (rfl)
@[simp] theorem State.sfld_setRoll (x : Roll) (f : Fld) (n' k' : Nat) : (s.setRoll x).sfld f n' k' = s.sfld f n' k' := (rfl)
@[simp] theorem State.bankBit_setRoll (x : Roll) (f : Fld) (i' : Nat) : (s.setRoll x).bankBit f i' = s.bankBit f i' := (rfl)
@[simp] theorem State.rd_setAsk (fn n : Nat) (x : Option Nat) (a : Nat) : (s.setAsk fn n x).rd a = s.rd a := (rfl)
@[simp] theorem State.fld_setAsk (fn n : Nat) (x : Option Nat) (f : Fld) (n' k' : Nat) : (s.setAsk fn n x).fld f n' k' = s.fld f n' k' := (rfl)
theorem State.fld_regs {t : State} (h : t.regs = s.regs) (f : Fld) (n k : Nat) : t.fld f n k = s.fld f n k := by
  simp only [State.fld, State.rd, h]
@[simp] theorem State.flag_setAsk (fn n : Nat) (x : Option Nat) (f : Fld) (n' k' : Nat) : (s.setAsk fn n x).flag f n' k' = s.flag f n' k' := (rfl)
theorem State.flag_regs {t : State} (h : t.regs = s.regs) (f : Fld) (n k : Nat) : t.flag f n k = s.flag f n k := by
  simp only [State.flag, State.fld, State.rd, h]
@[simp] theorem State.wide_setAsk (fn n : Nat) (x : Option Nat) (f : Fld) (n' k' : Nat) : (s.setAsk fn n x).wide f n' k' = s.wide f n' k' := (rfl)
theorem State.wide_regs {t : State} (h : t.regs = s.regs) (f : Fld) (n k : Nat) : t.wide f n k = s.wide f n k := by
  simp only [State.wide, State.rd, h]
@[simp] theorem State.sfld_setAsk (fn n : Nat) (x : Option Nat) (f : Fld) (n' k' : Nat) : (s.setAsk fn n x).sfld f n' k' = s.sfld f n' k' := (rfl)
theorem State.sfld_regs {t : State} (h : t.regs = s.regs) (f : Fld) (n k : Nat) : t.sfld f n k = s.sfld f n k := by
  simp only [State.sfld, State.fld, State.rd, h]

@[simp] theorem State.raiseFault_due (src data : Nat) : (s.raiseFault src data).due = s.due ++ [.fault ⟨src, data % 65536⟩] := (rfl)
@[simp] theorem State.emit_due (e : Emit) : (s.emit e).due = s.due ++ [e] := (rfl)
@[simp] theorem State.busOk_bus (v : Nat) : (s.busOk v).bus = ⟨false, BitVec.ofNat 64 v⟩ := (rfl)
@[simp] theorem State.busErr_bus : s.busErr.bus = ⟨true, 0⟩ := (rfl)

end Sys2Proof.Machine
end

