-- ==== Sys2Proof/Laws/Fields.lean ====
section
/-! SUPPORT. Laws of the fields of a register: a field reads back what was set, and the other fields and the other registers stay. -/

namespace Sys2Proof.Machine

theorem setBits_lt (w : Word) (lo len v : Nat) (h : lo + len ≤ 32) :
    w.toNat % 2 ^ lo + (v % 2 ^ len) * 2 ^ lo + (w.toNat / 2 ^ (lo + len)) * 2 ^ (lo + len) < 2 ^ 32 := by
  have hw : w.toNat < 2 ^ 32 := w.isLt
  have h1 : w.toNat % 2 ^ lo < 2 ^ lo := Nat.mod_lt _ (by positivity)
  have h2 : v % 2 ^ len < 2 ^ len := Nat.mod_lt _ (by positivity)
  have e : (2 : Nat) ^ 32 = 2 ^ (32 - (lo + len)) * 2 ^ (lo + len) := by rw [← pow_add]; congr 1; omega
  have h3 : w.toNat / 2 ^ (lo + len) < 2 ^ (32 - (lo + len)) :=
    (Nat.div_lt_iff_lt_mul (by positivity)).2 (by rw [← e]; exact hw)
  have h4 : (v % 2 ^ len) * 2 ^ lo + 2 ^ lo ≤ 2 ^ (lo + len) := by
    have : (v % 2 ^ len + 1) * 2 ^ lo ≤ 2 ^ len * 2 ^ lo := Nat.mul_le_mul_right _ h2
    rw [pow_add, Nat.mul_comm (2 ^ lo)]; linarith
  have h5 : (w.toNat / 2 ^ (lo + len) + 1) * 2 ^ (lo + len) ≤ 2 ^ (32 - (lo + len)) * 2 ^ (lo + len) :=
    Nat.mul_le_mul_right _ h3
  rw [e]; linarith

theorem setBits_toNat (w : Word) (lo len v : Nat) (h : lo + len ≤ 32) :
    (setBits w lo len v).toNat
      = w.toNat % 2 ^ lo + (v % 2 ^ len + w.toNat / 2 ^ (lo + len) * 2 ^ len) * 2 ^ lo := by
  have := setBits_lt w lo len v h
  rw [setBits, BitVec.toNat_ofNat, Nat.mod_eq_of_lt this, pow_add]; ring

theorem setBits_div (w : Word) (lo len v : Nat) (h : lo + len ≤ 32) :
    (setBits w lo len v).toNat / 2 ^ lo = v % 2 ^ len + w.toNat / 2 ^ (lo + len) * 2 ^ len := by
  rw [setBits_toNat w lo len v h, Nat.add_mul_div_right _ _ (by positivity), Nat.div_eq_of_lt (Nat.mod_lt _ (by positivity)), zero_add]

theorem setBits_mod (w : Word) (lo len v : Nat) (h : lo + len ≤ 32) :
    (setBits w lo len v).toNat % 2 ^ lo = w.toNat % 2 ^ lo := by
  rw [setBits_toNat w lo len v h, Nat.add_mul_mod_self_right, Nat.mod_mod]

/-- A field reads back what was set. -/
theorem bitsOf_setBits_same (w : Word) (lo len v : Nat) (h : lo + len ≤ 32) :
    bitsOf (setBits w lo len v) lo len = v % 2 ^ len := by
  rw [bitsOf, setBits_div w lo len v h, Nat.add_mul_mod_self_right, Nat.mod_mod]

/-- A field below the one that was set stays. -/
theorem bitsOf_setBits_below (w : Word) (lo len v a b : Nat) (h : lo + len ≤ 32) (hb : a + b ≤ lo) :
    bitsOf (setBits w lo len v) a b = bitsOf w a b := by
  have key (x : Nat) : x / 2 ^ a % 2 ^ b = x % 2 ^ lo % 2 ^ (a + b) / 2 ^ a := by
    rw [Nat.mod_mod_of_dvd _ (Nat.pow_dvd_pow 2 hb), pow_add, Nat.mod_mul_right_div_self]
  rw [bitsOf, bitsOf, key, setBits_mod w lo len v h, ← key]

/-- A field above the one that was set stays. -/
theorem bitsOf_setBits_above (w : Word) (lo len v a b : Nat) (h : lo + len ≤ 32) (ha : lo + len ≤ a) :
    bitsOf (setBits w lo len v) a b = bitsOf w a b := by
  obtain ⟨d, rfl⟩ := Nat.exists_eq_add_of_le ha
  have hv : v % 2 ^ len < 2 ^ len := Nat.mod_lt _ (by positivity)
  have e : (setBits w lo len v).toNat / 2 ^ (lo + len) = w.toNat / 2 ^ (lo + len) := by
    rw [pow_add, ← Nat.div_div_eq_div_mul, setBits_div w lo len v h, Nat.add_mul_div_right _ _ (by positivity),
      Nat.div_eq_of_lt hv, zero_add, pow_add]
  rw [bitsOf, bitsOf, pow_add, ← Nat.div_div_eq_div_mul, ← Nat.div_div_eq_div_mul, e]

variable (s : State)

/-- A field of a register reads back what was set. -/
theorem State.fld_setFld_same (f : Fld) (v n k : Nat) (h : f.lo + f.len ≤ 32) :
    (s.setFld f v n k).fld f n k = v % 2 ^ f.len := by
  simp [State.fld, State.setFld, bitsOf_setBits_same _ _ _ _ h]

/-- A field of another register stays. -/
theorem State.fld_setFld_other (f g : Fld) (v n k n' k' : Nat) (h : f.addr n k ≠ g.addr n' k') :
    (s.setFld f v n k).fld g n' k' = s.fld g n' k' := by
  simp [State.fld, State.setFld, State.rd_wr_ne _ _ _ _ h]

/-- Another field of the same register stays. -/
theorem State.fld_setFld_apart (f g : Fld) (v n k n' k' : Nat) (h : f.lo + f.len ≤ 32) (ha : f.addr n k = g.addr n' k')
    (hd : g.lo + g.len ≤ f.lo ∨ f.lo + f.len ≤ g.lo) : (s.setFld f v n k).fld g n' k' = s.fld g n' k' := by
  simp only [State.fld, State.setFld, ha, State.rd_wr]
  rcases hd with hd | hd
  · exact bitsOf_setBits_below _ _ _ _ _ _ h hd
  · exact bitsOf_setBits_above _ _ _ _ _ _ h hd

/-- Setting a field changes the register that holds it and no other. -/
theorem State.rd_setFld_ne (f : Fld) (v n k a : Nat) (h : f.addr n k ≠ a) : (s.setFld f v n k).rd a = s.rd a :=
  State.rd_wr_ne _ _ _ _ h

theorem State.rd_setFlag_ne (f : Fld) (b : Bool) (n k a : Nat) (h : f.addr n k ≠ a) : (s.setFlag f b n k).rd a = s.rd a :=
  State.rd_wr_ne _ _ _ _ h

theorem State.rd_bump_ne (f : Fld) (n k a : Nat) (h : f.addr n k ≠ a) : (s.bump f n k).rd a = s.rd a :=
  State.rd_wr_ne _ _ _ _ h

/-- A field of another register than the one written stays. -/
theorem State.fld_wr_ne (a : Nat) (w : Word) (g : Fld) (n k : Nat) (h : a ≠ g.addr n k) : (s.wr a w).fld g n k = s.fld g n k := by
  simp [State.fld, State.rd_wr_ne _ _ _ _ h]

theorem State.fld_setFlag_other (f g : Fld) (b : Bool) (n k n' k' : Nat) (h : f.addr n k ≠ g.addr n' k') :
    (s.setFlag f b n k).fld g n' k' = s.fld g n' k' := State.fld_setFld_other s f g _ n k n' k' h

theorem State.fld_setFlag_apart (f g : Fld) (b : Bool) (n k n' k' : Nat) (h : f.lo + f.len ≤ 32) (ha : f.addr n k = g.addr n' k')
    (hd : g.lo + g.len ≤ f.lo ∨ f.lo + f.len ≤ g.lo) : (s.setFlag f b n k).fld g n' k' = s.fld g n' k' :=
  State.fld_setFld_apart s f g _ n k n' k' h ha hd

/-- A flag reads back what was set. -/
theorem State.flag_setFlag_same (f : Fld) (b : Bool) (n k : Nat) (h : f.lo + f.len ≤ 32) (h1 : 0 < f.len) :
    (s.setFlag f b n k).flag f n k = b := by
  have h2 : 1 < 2 ^ f.len := Nat.one_lt_two_pow h1.ne'
  rw [State.flag, State.setFlag, State.fld_setFld_same s f _ n k h]
  cases b <;> simp [Nat.mod_eq_of_lt h2]

/-- A counter has counted up, or stands at its highest value. -/
theorem State.fld_bump_same (f : Fld) (n k : Nat) (h : f.lo + f.len ≤ 32) :
    (s.bump f n k).fld f n k = min (2 ^ f.len - 1) (s.fld f n k + 1) := by
  rw [State.bump, State.bumpBy, State.fld_setFld_same s f _ n k h, Nat.mod_eq_of_lt]
  have : 0 < 2 ^ f.len := by positivity
  omega

theorem State.fld_bump_other (f g : Fld) (n k n' k' : Nat) (h : f.addr n k ≠ g.addr n' k') : (s.bump f n k).fld g n' k' = s.fld g n' k' :=
  State.fld_setFld_other s f g _ n k n' k' h

theorem State.fld_bump_apart (f g : Fld) (n k n' k' : Nat) (h : f.lo + f.len ≤ 32) (ha : f.addr n k = g.addr n' k')
    (hd : g.lo + g.len ≤ f.lo ∨ f.lo + f.len ≤ g.lo) : (s.bump f n k).fld g n' k' = s.fld g n' k' :=
  State.fld_setFld_apart s f g _ n k n' k' h ha hd

/-- A 64-bit register reads back what was set. -/
theorem State.wide_setWide (f : Fld) (v n k : Nat) : (s.setWide f v n k).wide f n k = v % 2 ^ 64 := by
  simp only [State.wide, State.setWide, State.rd_wr, State.rd_wr_ne _ (f.addr n k + 4) (f.addr n k) _ (by omega), BitVec.toNat_ofNat]
  omega

theorem State.rd_setWide_ne (f : Fld) (v n k a : Nat) (h1 : f.addr n k ≠ a) (h2 : f.addr n k + 4 ≠ a) : (s.setWide f v n k).rd a = s.rd a := by
  simp [State.setWide, State.rd_wr_ne _ _ _ _ h1, State.rd_wr_ne _ _ _ _ h2]

theorem State.fld_setWide_other (f g : Fld) (v n k n' k' : Nat) (h1 : f.addr n k ≠ g.addr n' k') (h2 : f.addr n k + 4 ≠ g.addr n' k') :
    (s.setWide f v n k).fld g n' k' = s.fld g n' k' := by
  simp [State.fld, State.rd_setWide_ne s f v n k _ h1 h2]

/-- A bit of a bank reads back what was set. -/
theorem State.bankBit_setBankBit (f : Fld) (i : Nat) (b : Bool) : (s.setBankBit f i b).bankBit f i = b := by
  rw [State.bankBit, State.setBankBit, State.rd_wr, bitsOf_setBits_same _ _ _ _ (by omega)]
  cases b <;> simp

theorem State.rd_setBankBit_ne (f : Fld) (i : Nat) (b : Bool) (a : Nat) (h : f.addr (i / 32) ≠ a) : (s.setBankBit f i b).rd a = s.rd a :=
  State.rd_wr_ne _ _ _ _ h

theorem State.fld_setBankBit_other (f g : Fld) (i : Nat) (b : Bool) (n k : Nat) (h : f.addr (i / 32) ≠ g.addr n k) :
    (s.setBankBit f i b).fld g n k = s.fld g n k := State.fld_wr_ne s _ _ g n k h

theorem State.bankBit_wr_ne (a : Nat) (w : Word) (f : Fld) (i : Nat) (h : a ≠ f.addr (i / 32)) : (s.wr a w).bankBit f i = s.bankBit f i := by
  simp [State.bankBit, State.rd_wr_ne _ _ _ _ h]

theorem State.bankBit_setFld_ne (f g : Fld) (v n k i : Nat) (h : f.addr n k ≠ g.addr (i / 32)) : (s.setFld f v n k).bankBit g i = s.bankBit g i :=
  State.bankBit_wr_ne s _ _ g i h

theorem State.bankBit_bump_ne (f g : Fld) (n k i : Nat) (h : f.addr n k ≠ g.addr (i / 32)) : (s.bump f n k).bankBit g i = s.bankBit g i :=
  State.bankBit_wr_ne s _ _ g i h

/-- A bit of another bank stays. -/
theorem State.bankBit_setBankBit_ne (f g : Fld) (i j : Nat) (b : Bool) (h : f.addr (i / 32) ≠ g.addr (j / 32)) :
    (s.setBankBit f i b).bankBit g j = s.bankBit g j := State.bankBit_wr_ne s _ _ g j h

/-- Another bit of a bank of words that lie apart stays. -/
theorem State.bankBit_setBankBit_other (f : Fld) (i j : Nat) (b : Bool) (h : i ≠ j) (hf : f.addr (i / 32) = f.addr (j / 32) → i / 32 = j / 32) :
    (s.setBankBit f i b).bankBit f j = s.bankBit f j := by
  by_cases e : f.addr (i / 32) = f.addr (j / 32)
  · have := hf e
    simp only [State.bankBit, State.setBankBit, e, State.rd_wr]
    rcases Nat.lt_or_ge (i % 32) (j % 32) with l | l
    · rw [bitsOf_setBits_above _ _ _ _ _ _ (by omega) (by omega)]
    · rw [bitsOf_setBits_below _ _ _ _ _ _ (by omega) (by omega)]
  · exact State.bankBit_setBankBit_ne s f f i j b e

end Sys2Proof.Machine
end

