-- ==== Sys2Proof/Laws/Settle.lean ====
section
/-! SUPPORT. Laws of the end of a command, and of the gate before an access. -/

namespace Sys2Proof.Machine

variable (s : State)

theorem settleN_due (n : Nat) : (s.settleN n).due = [] := by
  induction n generalizing s with
  | zero => rfl
  | succ n ih =>
    simp only [State.settleN]
    split
    · assumption
    · exact ih _

/-- After a command nothing waits to be handed over. -/
@[simp] theorem State.settle_due : s.settle.due = [] := settleN_due s _

/-- A command that has emitted nothing hands nothing over. -/
theorem State.settle_quiet (h : s.due = []) : s.settle = s := by
  show State.settleN 64 s = s
  simp [State.settleN, h]

theorem done_quiet (h : s.due = []) : done s = .next s := by rw [done, State.settle_quiet s h]

theorem whenAwake_run (o : Host.Outcome State Fault Refusal) (h : s.pwr = .run) : whenAwake s o = o := by simp [whenAwake, h]

/-- An event of the TCLK domain does nothing while the main domain does not run. -/
theorem whenAwake_rest (o : Host.Outcome State Fault Refusal) (h : s.pwr ≠ .run) : whenAwake s o = .next s := by simp [whenAwake, h]

variable (by_ : Agent) (a : Nat) (write : Bool) (v : Word) (k : State → State)

/-- An access without a bus error raises no exception. -/
theorem State.faulted_ok (h : s.bus.err = false) : s.faulted by_ a write = s := by cases by_ <;> simp [State.faulted, h]

/-- An initiator that is no core receives a bus error as such. -/
theorem State.faulted_other (h : ∀ n, by_ ≠ .cp n) : s.faulted by_ a write = s := by
  cases by_ with
  | cp n => exact absurd rfl (h n)
  | _ => rfl

/-- An admitted access has its effect; a bus error that the effect itself ends in reaches the core. -/
theorem State.guard_admits (h : s.Admits by_ a write v) : s.guard by_ a write v k = (k s.busOk).faulted by_ a write := by
  obtain ⟨h1, h2, h3, h4, h5, h6⟩ := h
  have hd : ¬(by_ = .dbg ∧ (!s.dbgOpen) = true) := by rintro ⟨hb, hn⟩; simp [h2 hb] at hn
  have hp : ¬(by_ = .pciHost ∧ (!s.flag SYS_PWRSTAT_VSER) = true) := by rintro ⟨hb, hn⟩; simp [h3 hb] at hn
  rw [State.guard, State.gate, if_neg (not_not.2 h1), State.gateRaw, if_neg (not_not.2 h1), if_neg hd, if_neg hp, if_pos h4, if_neg (by simpa using h5), if_pos h6]

/-- No access happens while the main domain does not run. -/
theorem State.guard_rest (h : s.pwr ≠ .run) : s.guard by_ a write v k = s := by simp [State.guard, State.gate, h]

/-- An access that the check does not pass is refused, and a core takes the access fault. -/
theorem State.guard_refused (h1 : s.pwr = .run) (h2 : by_ ≠ .dbg) (h3 : by_ ≠ .pciHost) (h4 : s.pmpPass by_ a 4 write = true)
    (h5 : a % 4 = 0) (h6 : s.regAccess by_ a write v = false) : s.guard by_ a write v k = (s.refuse by_).faulted by_ a write := by
  simp [State.guard, State.gate, State.gateRaw, h1, h2, h3, h4, h5, h6]

end Sys2Proof.Machine
end

