-- ==== Sys2Proof/Laws/Evolve.lean ====
section
/-! SUPPORT. What the operations over the state leave alone. -/

namespace Sys2Proof.Machine

/-- What every operation but a power-on, a sleep and a wake keeps: TB, a running main domain, the flash and the queue stand, the canonical forms are kept, free
values are only taken, and what has been sent stays sent. -/
structure Evolves (s t : State) : Prop where
  tb : t.tb = s.tb
  pwr : s.pwr = .run → t.pwr = .run
  flash : t.flash = s.flash
  pending : t.pending = s.pending
  regs : twf 0 s.regs = true → twf 0 t.regs = true
  sram : twf 0 s.sram = true → twf 0 t.sram = true
  tcm : twf 0 s.tcm = true → twf 0 t.tcm = true
  free : s.free ≤ t.free
  sent : s.sent <:+ t.sent

theorem Evolves.refl (s : State) : Evolves s s := ⟨rfl, id, rfl, rfl, id, id, id, Nat.le_refl _, List.suffix_refl _⟩

theorem ev_ite {s₀ a b : State} {c : Prop} [Decidable c] (h : Evolves s₀ a) (h' : Evolves s₀ b) : Evolves s₀ (if c then a else b) := by
  split <;> assumption

theorem ev_when {s₀ s : State} (h : Evolves s₀ s) (b : Bool) (f : State → State) (hf : ∀ t, Evolves s₀ t → Evolves s₀ (f t)) :
    Evolves s₀ (s.when b f) := by
  cases b
  · exact h
  · exact hf _ h

theorem ev_each {s₀ s : State} {α : Type} (h : Evolves s₀ s) (l : List α) (f : State → α → State)
    (hf : ∀ t a, Evolves s₀ t → Evolves s₀ (f t a)) : Evolves s₀ (s.each l f) := by
  show Evolves s₀ (l.foldl f s)
  induction l generalizing s with
  | nil => exact h
  | cons a l ih => exact ih (hf _ _ h)

theorem ev_wr {s₀ s : State} (h : Evolves s₀ s) (a : Nat) (v : Word) : Evolves s₀ (s.wr a v) :=
  ⟨h.tb, h.pwr, h.flash, h.pending, fun w => twf_tput _ _ _ _ (h.regs w), h.sram, h.tcm, h.free, h.sent⟩

theorem ev_emit {s₀ s : State} (h : Evolves s₀ s) (e : Emit) : Evolves s₀ (s.emit e) :=
  ⟨h.tb, h.pwr, h.flash, h.pending, h.regs, h.sram, h.tcm, h.free, h.sent⟩

theorem ev_free {s₀ s : State} (h : Evolves s₀ s) : Evolves s₀ { s with free := s.free + 1 } :=
  ⟨h.tb, h.pwr, h.flash, h.pending, h.regs, h.sram, h.tcm, Nat.le_succ_of_le h.free, h.sent⟩

theorem ev_fresh {s₀ s : State} (h : Evolves s₀ s) (b : Nat) : Evolves s₀ (s.fresh b).2 := ev_free h

theorem ev_sent {s₀ s : State} (h : Evolves s₀ s) (x : Sent) : Evolves s₀ { s with sent := x :: s.sent } :=
  ⟨h.tb, h.pwr, h.flash, h.pending, h.regs, h.sram, h.tcm, h.free, h.sent.trans (List.suffix_cons _ _)⟩

theorem ev_gateRaw {s₀ s : State} (h : Evolves s₀ s) (by_ : Agent) (a n : Nat) (w : Bool) (k : State → State)
    (hk : ∀ t, Evolves s₀ t → Evolves s₀ (k t)) : Evolves s₀ (s.gateRaw by_ a n w k) := by
  unfold State.gateRaw
  split
  · exact h
  split
  · exact ⟨h.1, h.2, h.3, h.4, h.5, h.6, h.7, h.8, h.9⟩
  split
  · exact ⟨h.1, h.2, h.3, h.4, h.5, h.6, h.7, h.8, h.9⟩
  split
  · exact hk _ h
  · exact ⟨h.1, h.2, h.3, h.4, h.5, h.6, h.7, h.8, h.9⟩

/-- An update of any other components. -/
theorem ev_mk {s₀ s : State} (h : Evolves s₀ s) {x_base} {x_bus} {x_rdLatch} {x_wrLatch} {x_cores} {x_nest} {x_angle} {x_trk} {x_strm} {x_jrnReq} {x_jrnHandle} {x_fco} {x_cls} {x_husk} {x_pad} {x_chan} {x_task} {x_adc} {x_gainAt} {x_gchg} {x_gainNext} {x_knk} {x_enc} {x_nt} {x_tmr} {x_psq} {x_gpin} {x_mkLast} {x_mkPrev} {x_angPast} {x_slp} {x_roll} {x_acn} {x_img} {x_gw} {x_links} {x_cal} {x_dbg} {x_calForce} {x_calUse} {x_ask} {x_switched} {x_due} :
    Evolves s₀ ⟨s.tb, s.regs, x_base, s.sram, s.tcm, s.flash, x_bus, x_rdLatch, x_wrLatch, x_cores, x_nest, x_angle, x_trk, x_strm, x_jrnReq, x_jrnHandle, x_fco, x_cls, x_husk, x_pad, x_chan, x_task, x_adc, x_gainAt, x_gchg, x_gainNext, x_knk, x_enc, x_nt, x_tmr, x_psq, x_gpin, x_mkLast, x_mkPrev, x_angPast, s.pwr, x_slp, x_roll, x_acn, x_img, x_gw, x_links, x_cal, x_dbg, x_calForce, x_calUse, x_ask, x_switched, x_due, s.sent, s.free, s.pending⟩ :=
  ⟨h.1, h.2, h.3, h.4, h.5, h.6, h.7, h.8, h.9⟩

end Sys2Proof.Machine
end

