-- ==== Sys2Proof/Laws/Operations.lean ====
section
/-! SUPPORT. Each operation over the state evolves it: one lemma per operation, in the order of the model. -/

namespace Sys2Proof.Machine

/-! Ops -/

theorem ev_baseWr {s₀ s : State} (h : Evolves s₀ s) (a : Nat) (v : Word) : Evolves s₀ (State.baseWr s a v) := by
  unfold State.baseWr
  with_reducible repeat' (first | assumption | apply ev_mk)

theorem ev_newBase {s₀ s : State} (h : Evolves s₀ s) : Evolves s₀ s.newBase := ev_mk h

theorem ev_hwSet {s₀ s : State} (h : Evolves s₀ s) (a : Nat) (m : Word) : Evolves s₀ (s.hwSet a m) :=
  ⟨h.tb, h.pwr, h.flash, h.pending, fun w => twf_tput _ _ _ _ (h.regs w), h.sram, h.tcm, h.free, h.sent⟩

theorem ev_hwFlag {s₀ s : State} (h : Evolves s₀ s) (f : Fld) (n : Nat) (k : Nat) : Evolves s₀ (State.hwFlag s f n k) := by
  unfold State.hwFlag
  with_reducible repeat' (first | assumption | apply ev_hwSet)

theorem ev_hwBank {s₀ s : State} (h : Evolves s₀ s) (f : Fld) (i : Nat) : Evolves s₀ (State.hwBank s f i) := by
  unfold State.hwBank
  with_reducible repeat' (first | assumption | apply ev_hwSet)

theorem ev_setFld {s₀ s : State} (h : Evolves s₀ s) (f : Fld) (v : Nat) (n : Nat) (k : Nat) : Evolves s₀ (State.setFld s f v n k) := by
  unfold State.setFld
  with_reducible repeat' (first | assumption | apply ev_wr)

theorem ev_store {s₀ s : State} (h : Evolves s₀ s) (f : Fld) (v : Nat) (n : Nat) (k : Nat) : Evolves s₀ (State.store s f v n k) := by
  unfold State.store
  with_reducible repeat' (first | assumption | apply ev_setFld | apply ev_baseWr | apply ev_ite)

theorem ev_setFlag {s₀ s : State} (h : Evolves s₀ s) (f : Fld) (b : Bool) (n : Nat) (k : Nat) : Evolves s₀ (State.setFlag s f b n k) := by
  unfold State.setFlag
  with_reducible repeat' (first | assumption | apply ev_setFld)

theorem ev_bumpBy {s₀ s : State} (h : Evolves s₀ s) (f : Fld) (d : Nat) (n : Nat) (k : Nat) : Evolves s₀ (State.bumpBy s f d n k) := by
  unfold State.bumpBy
  with_reducible repeat' (first | assumption | apply ev_setFld)

theorem ev_bump {s₀ s : State} (h : Evolves s₀ s) (f : Fld) (n : Nat) (k : Nat) : Evolves s₀ (State.bump s f n k) := by
  unfold State.bump
  with_reducible repeat' (first | assumption | apply ev_bumpBy)

theorem ev_setSFld {s₀ s : State} (h : Evolves s₀ s) (f : Fld) (v : Int) (n : Nat) (k : Nat) : Evolves s₀ (State.setSFld s f v n k) := by
  unfold State.setSFld
  with_reducible repeat' (first | assumption | apply ev_setFld)

theorem ev_setWide {s₀ s : State} (h : Evolves s₀ s) (f : Fld) (v : Nat) (n : Nat) (k : Nat) : Evolves s₀ (State.setWide s f v n k) := by
  unfold State.setWide
  with_reducible repeat' (first | assumption | apply ev_wr)

theorem ev_setBankBit {s₀ s : State} (h : Evolves s₀ s) (f : Fld) (i : Nat) (b : Bool) : Evolves s₀ (State.setBankBit s f i b) := by
  unfold State.setBankBit
  with_reducible repeat' (first | assumption | apply ev_wr)

theorem ev_fresh_eq {s₀ s : State} (h : Evolves s₀ s) {b v : Nat} {t : State} (e : s.fresh b = (v, t)) : Evolves s₀ t := by
  have := ev_fresh h b; rw [e] at this; exact this

theorem ev_busOk {s₀ s : State} (h : Evolves s₀ s) (v : Nat) : Evolves s₀ (State.busOk s v) := by
  unfold State.busOk
  with_reducible repeat' (first | assumption | apply ev_mk)

theorem ev_busErr {s₀ s : State} (h : Evolves s₀ s) : Evolves s₀ (State.busErr s) := by
  unfold State.busErr
  with_reducible repeat' (first | assumption | apply ev_mk)

theorem ev_setCore {s₀ s : State} (h : Evolves s₀ s) (n : Nat) (c : Core) : Evolves s₀ (State.setCore s n c) := by
  unfold State.setCore
  with_reducible repeat' (first | assumption | apply ev_mk)

theorem ev_setNest {s₀ s : State} (h : Evolves s₀ s) (n : Nat) (l : List (Nat × Nat)) : Evolves s₀ (State.setNest s n l) := by
  unfold State.setNest
  with_reducible repeat' (first | assumption | apply ev_mk)

theorem ev_setAng {s₀ s : State} (h : Evolves s₀ s) (n : Nat) (a : Angle) : Evolves s₀ (State.setAng s n a) := by
  unfold State.setAng
  with_reducible repeat' (first | assumption | apply ev_mk)

theorem ev_setTr {s₀ s : State} (h : Evolves s₀ s) (n : Nat) (x : Trk) : Evolves s₀ (State.setTr s n x) := by
  unfold State.setTr
  with_reducible repeat' (first | assumption | apply ev_mk)

theorem ev_setStr {s₀ s : State} (h : Evolves s₀ s) (j : Nat) (x : Strm) : Evolves s₀ (State.setStr s j x) := by
  unfold State.setStr
  with_reducible repeat' (first | assumption | apply ev_mk)

theorem ev_setCls {s₀ s : State} (h : Evolves s₀ s) (c : Nat) (x : Cls) : Evolves s₀ (State.setCls s c x) := by
  unfold State.setCls
  with_reducible repeat' (first | assumption | apply ev_mk)

theorem ev_setHsk {s₀ s : State} (h : Evolves s₀ s) (c : Nat) (x : Husk) : Evolves s₀ (State.setHsk s c x) := by
  unfold State.setHsk
  with_reducible repeat' (first | assumption | apply ev_mk)

theorem ev_setPd {s₀ s : State} (h : Evolves s₀ s) (c : Nat) (x : Pad) : Evolves s₀ (State.setPd s c x) := by
  unfold State.setPd
  with_reducible repeat' (first | assumption | apply ev_mk)

theorem ev_setCh {s₀ s : State} (h : Evolves s₀ s) (c : Nat) (x : Chan) : Evolves s₀ (State.setCh s c x) := by
  unfold State.setCh
  with_reducible repeat' (first | assumption | apply ev_mk)

theorem ev_setTask {s₀ s : State} (h : Evolves s₀ s) (i : Nat) (l : List TaskEnt) : Evolves s₀ (State.setTask s i l) := by
  unfold State.setTask
  with_reducible repeat' (first | assumption | apply ev_mk)

theorem ev_setAd {s₀ s : State} (h : Evolves s₀ s) (a : Nat) (x : Adc) : Evolves s₀ (State.setAd s a x) := by
  unfold State.setAd
  with_reducible repeat' (first | assumption | apply ev_mk)

theorem ev_setKn {s₀ s : State} (h : Evolves s₀ s) (k : Nat) (x : Knk) : Evolves s₀ (State.setKn s k x) := by
  unfold State.setKn
  with_reducible repeat' (first | assumption | apply ev_mk)

theorem ev_setEn {s₀ s : State} (h : Evolves s₀ s) (e : Nat) (x : Enc) : Evolves s₀ (State.setEn s e x) := by
  unfold State.setEn
  with_reducible repeat' (first | assumption | apply ev_mk)

theorem ev_setTm {s₀ s : State} (h : Evolves s₀ s) (t : Nat) (x : Tmr) : Evolves s₀ (State.setTm s t x) := by
  unfold State.setTm
  with_reducible repeat' (first | assumption | apply ev_mk)

theorem ev_setSq {s₀ s : State} (h : Evolves s₀ s) (q : Nat) (x : Psq) : Evolves s₀ (State.setSq s q x) := by
  unfold State.setSq
  with_reducible repeat' (first | assumption | apply ev_mk)

theorem ev_raiseFault {s₀ s : State} (h : Evolves s₀ s) (src : Nat) (data : Nat) : Evolves s₀ (State.raiseFault s src data) := by
  unfold State.raiseFault
  with_reducible repeat' (first | assumption | apply ev_emit)

/-! Lines -/

theorem ev_fire {s₀ s : State} (h : Evolves s₀ s) (src : Nat) : Evolves s₀ (State.fire s src) := by
  unfold State.fire
  with_reducible repeat' (first | assumption | apply ev_setBankBit | apply ev_ite)

theorem ev_fireRises {s₀ s : State} (h : Evolves s₀ s) (old : State) (srcs : List Nat) : Evolves s₀ (State.fireRises s old srcs) := by
  unfold State.fireRises
  with_reducible repeat' (first | assumption | (refine ev_each ?_ _ _ (fun _ _ _ => ?_)) | apply ev_fire | apply ev_ite)

theorem ev_setCauses {s₀ s : State} (h : Evolves s₀ s) (b : IntBlk) (n : Nat) (mask : Nat) : Evolves s₀ (State.setCauses s b n mask) := by
  unfold State.setCauses
  with_reducible repeat' (first | assumption | apply ev_hwSet | apply ev_fireRises)

theorem ev_cause {s₀ s : State} (h : Evolves s₀ s) (b : IntBlk) (f : Fld) (n : Nat) : Evolves s₀ (State.cause s b f n) := by
  unfold State.cause
  with_reducible repeat' (first | assumption | apply ev_setCauses)

/-! HuskOps -/

theorem ev_markAct {s₀ s : State} (h : Evolves s₀ s) (c : Nat) (mask : Nat) : Evolves s₀ (State.markAct s c mask) := by
  unfold State.markAct
  with_reducible repeat' (first | assumption | apply ev_setCh | apply ev_ite | split)

theorem ev_huskAct {s₀ s : State} (h : Evolves s₀ s) (c : Nat) (cause : Nat) (suppr : Bool) (t : Nat) : Evolves s₀ (State.huskAct s c cause suppr t) := by
  unfold State.huskAct
  with_reducible repeat' (first | assumption | apply ev_wr | apply ev_bump | apply ev_emit | (refine ev_when ?_ _ _ (fun _ _ => ?_)) | apply ev_raiseFault | apply ev_setCauses | apply ev_markAct)

theorem ev_padEdge {s₀ s : State} (h : Evolves s₀ s) (c : Nat) (on : Bool) (t : Nat) : Evolves s₀ (State.padEdge s c on t) := by
  unfold State.padEdge
  with_reducible repeat' (first | assumption | apply ev_setPd)

theorem ev_padState {s₀ s : State} (h : Evolves s₀ s) (c : Nat) (st : Nat) : Evolves s₀ (State.padState s c st) := by
  unfold State.padState
  with_reducible repeat' (first | assumption | apply ev_setFld | apply ev_setPd)

theorem ev_pinOff {s₀ s : State} (h : Evolves s₀ s) (c : Nat) (t : Nat) : Evolves s₀ (State.pinOff s c t) := by
  unfold State.pinOff
  with_reducible repeat' (first | assumption | apply ev_setHsk | apply ev_setFld | apply ev_padEdge)

theorem ev_truncate {s₀ s : State} (h : Evolves s₀ s) (c : Nat) (cause : Nat) (t : Nat) : Evolves s₀ (State.truncate s c cause t) := by
  unfold State.truncate
  with_reducible repeat' (first | assumption | apply ev_pinOff | apply ev_huskAct | apply ev_setFld)

theorem ev_huskRiseBy {s₀ s : State} (h : Evolves s₀ s) (c : Nat) (t : Nat) (f : Nat) : Evolves s₀ (State.huskRiseBy s c t f) := by
  unfold State.huskRiseBy
  with_reducible repeat' (first | assumption | apply ev_setFld | apply ev_truncate | apply ev_huskAct | apply ev_setHsk | apply ev_bump | apply ev_padEdge | apply ev_ite)

theorem ev_huskRiseAt {s₀ s : State} (h : Evolves s₀ s) (c : Nat) (t : Nat) : Evolves s₀ (State.huskRiseAt s c t) := by
  unfold State.huskRiseAt
  with_reducible repeat' (first | assumption | apply ev_huskRiseBy)

theorem ev_huskCheck {s₀ s : State} (h : Evolves s₀ s) (c : Nat) (at_ : Nat) : Evolves s₀ (State.huskCheck s c at_) := by
  unfold State.huskCheck
  with_reducible repeat' (first | assumption | (refine ev_when ?_ _ _ (fun _ _ => ?_)) | apply ev_pinOff | apply ev_huskAct | apply ev_setFld | apply ev_ite)

theorem ev_huskRise {s₀ s : State} (h : Evolves s₀ s) (c : Nat) (t : Nat) : Evolves s₀ (State.huskRise s c t) := by
  unfold State.huskRise
  with_reducible repeat' (first | assumption | apply ev_huskRiseBy | (refine ev_when ?_ _ _ (fun _ _ => ?_)) | apply ev_huskCheck | apply ev_huskRiseAt | apply ev_ite | split)

theorem ev_huskFall {s₀ s : State} (h : Evolves s₀ s) (c : Nat) (t : Nat) : Evolves s₀ (State.huskFall s c t) := by
  unfold State.huskFall
  with_reducible repeat' (first | assumption | (refine ev_when ?_ _ _ (fun _ _ => ?_)) | apply ev_pinOff | apply ev_setFld)

theorem ev_huskJudge {s₀ s : State} (h : Evolves s₀ s) (c : Nat) : Evolves s₀ (State.huskJudge s c) := by
  unfold State.huskJudge
  with_reducible repeat' (first | assumption | apply ev_setCh | apply ev_ite | split)

theorem ev_pulseEnd {s₀ s : State} (h : Evolves s₀ s) (c : Nat) (t : Nat) (ok : Bool) : Evolves s₀ (State.pulseEnd s c t ok) := by
  unfold State.pulseEnd
  with_reducible repeat' (first | assumption | apply ev_setPd | (refine ev_when ?_ _ _ (fun _ _ => ?_)) | apply ev_pinOff)

theorem ev_testOver {s₀ s : State} (h : Evolves s₀ s) (c : Nat) : Evolves s₀ (State.testOver s c) := by
  unfold State.testOver
  with_reducible repeat' (first | assumption | apply ev_setFld | (refine ev_when ?_ _ _ (fun _ _ => ?_)) | apply ev_padState)

theorem ev_testAbort {s₀ s : State} (h : Evolves s₀ s) (c : Nat) : Evolves s₀ (State.testAbort s c) := by
  unfold State.testAbort
  with_reducible repeat' (first | assumption | apply ev_pulseEnd | apply ev_testOver | apply ev_setFld | apply ev_setPd | apply ev_ite)

theorem ev_huskCheckAll {s₀ s : State} (h : Evolves s₀ s) (cs : List Nat) (at_ : Nat) : Evolves s₀ (State.huskCheckAll s cs at_) := by
  unfold State.huskCheckAll
  with_reducible repeat' (first | assumption | (refine ev_each ?_ _ _ (fun _ _ _ => ?_)) | apply ev_huskCheck)

/-! SchedOps -/

theorem ev_takeSlot {s₀ s : State} (h : Evolves s₀ s) : Evolves s₀ (State.takeSlot s) := by
  unfold State.takeSlot
  with_reducible repeat' (first | assumption | apply ev_setFld)

theorem ev_freeSlot {s₀ s : State} (h : Evolves s₀ s) : Evolves s₀ (State.freeSlot s) := by
  unfold State.freeSlot
  with_reducible repeat' (first | assumption | apply ev_setFld)

theorem ev_setAsk {s₀ s : State} (h : Evolves s₀ s) (fn : Nat) (inst : Nat) (d : Option Nat) : Evolves s₀ (State.setAsk s fn inst d) := by
  unfold State.setAsk
  with_reducible repeat' (first | assumption | apply ev_mk)

theorem ev_request {s₀ s : State} (h : Evolves s₀ s) (fn : Nat) (inst : Nat) : Evolves s₀ (State.request s fn inst) := by
  unfold State.request
  with_reducible repeat' (first | assumption | apply ev_emit | apply ev_setAsk | apply ev_ite)

theorem ev_lateDecision {s₀ s : State} (h : Evolves s₀ s) : Evolves s₀ (State.lateDecision s) := by
  unfold State.lateDecision
  with_reducible repeat' (first | assumption | apply ev_bump)

theorem ev_injLearn {s₀ s : State} (h : Evolves s₀ s) (c : Nat) (e : Ev) (outcome : Nat) (flags : Nat) : Evolves s₀ (State.injLearn s c e outcome flags) := by
  unfold State.injLearn
  with_reducible repeat' (first | assumption | apply ev_setFld | apply ev_cause | apply ev_request | apply ev_setSFld | apply ev_bump | apply ev_ite | split)

theorem ev_outcome {s₀ s : State} (h : Evolves s₀ s) (c : Nat) (e : Ev) (o : Nat) (flags : Nat) (start : Option (Nat × Nat)) (dur : Nat) : Evolves s₀ (State.outcome s c e o flags start dur) := by
  unfold State.outcome
  with_reducible repeat' (first | assumption | apply ev_freeSlot | (refine ev_when ?_ _ _ (fun _ _ => ?_)) | apply ev_bump | apply ev_wr | apply ev_emit | apply ev_cause)

theorem ev_endActive {s₀ s : State} (h : Evolves s₀ s) (c : Nat) (flags : Nat) (t : Nat) : Evolves s₀ (State.endActive s c flags t) := by
  unfold State.endActive
  with_reducible repeat' (first | assumption | (refine ev_when ?_ _ _ (fun _ _ => ?_)) | apply ev_huskFall | apply ev_injLearn | apply ev_setCh | apply ev_setHsk | apply ev_setFld | apply ev_outcome | apply ev_ite | split)

theorem ev_discard {s₀ s : State} (h : Evolves s₀ s) (c : Nat) (o : Nat) : Evolves s₀ (State.discard s c o) := by
  unfold State.discard
  with_reducible repeat' (first | assumption | apply ev_setCh | apply ev_setFld | (refine ev_each ?_ _ _ (fun _ _ _ => ?_)) | apply ev_outcome)

theorem ev_bumpEpoch {s₀ s : State} (h : Evolves s₀ s) (c : Nat) : Evolves s₀ (State.bumpEpoch s c) := by
  unfold State.bumpEpoch
  with_reducible repeat' (first | assumption | apply ev_setFld)

theorem ev_lossNow {s₀ s : State} (h : Evolves s₀ s) (c : Nat) (flags : Nat) : Evolves s₀ (State.lossNow s c flags) := by
  unfold State.lossNow
  with_reducible repeat' (first | assumption | apply ev_endActive | apply ev_ite)

theorem ev_lossEndOf {s₀ s : State} (h : Evolves s₀ s) (c : Nat) (a : Act) (endNow : Bool) : Evolves s₀ (State.lossEndOf s c a endNow) := by
  unfold State.lossEndOf
  with_reducible repeat' (first | assumption | apply ev_lossNow | apply ev_setCh | apply ev_ite)

theorem ev_skipPassed {s₀ s : State} (h : Evolves s₀ s) (c : Nat) (o : Nat) : Evolves s₀ (State.skipPassed s c o) := by
  unfold State.skipPassed
  with_reducible repeat' (first | assumption | apply ev_setCh | (refine ev_each ?_ _ _ (fun _ _ _ => ?_)) | apply ev_outcome)

theorem ev_lossReact {s₀ s : State} (h : Evolves s₀ s) (n : Nat) (endNow : Bool) (back : Bool) : Evolves s₀ (State.lossReact s n endNow back) := by
  unfold State.lossReact
  with_reducible repeat' (first | assumption | apply ev_huskCheckAll | (refine ev_each ?_ _ _ (fun _ _ _ => ?_)) | apply ev_lossNow | apply ev_lossEndOf | (refine ev_when ?_ _ _ (fun _ _ => ?_)) | apply ev_skipPassed | apply ev_ite | split)

theorem ev_rebaseReact {s₀ s : State} (h : Evolves s₀ s) (n : Nat) : Evolves s₀ (State.rebaseReact s n) := by
  unfold State.rebaseReact
  with_reducible repeat' (first | assumption | (refine ev_each ?_ _ _ (fun _ _ _ => ?_)) | apply ev_skipPassed)

theorem ev_forceEnd {s₀ s : State} (h : Evolves s₀ s) (c : Nat) (flags : Nat) : Evolves s₀ (State.forceEnd s c flags) := by
  unfold State.forceEnd
  with_reducible repeat' (first | assumption | apply ev_lossNow | apply ev_ite | split)

theorem ev_retireSched {s₀ s : State} (h : Evolves s₀ s) (c : Nat) : Evolves s₀ (State.retireSched s c) := by
  unfold State.retireSched
  with_reducible repeat' (first | assumption | apply ev_bumpEpoch | apply ev_discard | apply ev_forceEnd)

theorem ev_flushSched {s₀ s : State} (h : Evolves s₀ s) (c : Nat) (endact : Bool) : Evolves s₀ (State.flushSched s c endact) := by
  unfold State.flushSched
  with_reducible repeat' (first | assumption | apply ev_bumpEpoch | apply ev_discard | (refine ev_when ?_ _ _ (fun _ _ => ?_)) | apply ev_forceEnd | apply ev_ite)

theorem ev_cutChan {s₀ s : State} (h : Evolves s₀ s) (c : Nat) : Evolves s₀ (State.cutChan s c) := by
  unfold State.cutChan
  with_reducible repeat' (first | assumption | apply ev_setFld | apply ev_huskCheck | apply ev_bumpEpoch | apply ev_discard | apply ev_forceEnd)

theorem ev_uncutChan {s₀ s : State} (h : Evolves s₀ s) (c : Nat) : Evolves s₀ (State.uncutChan s c) := by
  unfold State.uncutChan
  with_reducible repeat' (first | assumption | apply ev_setFld | apply ev_testAbort)

/-! ModeOps -/

theorem ev_fnSettle {s₀ s : State} (h : Evolves s₀ s) (fn : Nat) : Evolves s₀ (s.fnSettle fn) := by
  unfold State.fnSettle
  split
  · exact ev_mk (ev_setFld (ev_setFld h _ _ _ _) _ _ _ _)
  · exact h

theorem ev_switchInst {s₀ s : State} (h : Evolves s₀ s) (fn k : Nat) : Evolves s₀ (s.switchInst fn k) := by
  unfold State.switchInst
  split
  · exact ev_fnSettle (ev_mk h) _
  · exact h

/-! FaultOps -/

theorem ev_setFco {s₀ s : State} (h : Evolves s₀ s) (f : Fco) : Evolves s₀ (State.setFco s f) := by
  unfold State.setFco
  with_reducible repeat' (first | assumption | apply ev_mk)

theorem ev_logFault {s₀ s : State} (h : Evolves s₀ s) (kind : Nat) (react : Nat) (src : Nat) (data : Nat) : Evolves s₀ (State.logFault s kind react src data) := by
  unfold State.logFault
  with_reducible repeat' (first | assumption | apply ev_setFco | apply ev_hwFlag | apply ev_cause | apply ev_emit | apply ev_ite)

theorem ev_logOther {s₀ s : State} (h : Evolves s₀ s) (kind : Nat) (src : Nat) : Evolves s₀ (State.logOther s kind src) := by
  unfold State.logOther
  with_reducible repeat' (first | assumption | apply ev_logFault | apply ev_fresh)

theorem ev_logCls {s₀ s : State} (h : Evolves s₀ s) (c : Nat) (kind : Nat) : Evolves s₀ (State.logCls s c kind) := by
  unfold State.logCls
  with_reducible repeat' (first | assumption | apply ev_logOther)

theorem ev_setLatch {s₀ s : State} (h : Evolves s₀ s) (i : Nat) (src : Nat) : Evolves s₀ (State.setLatch s i src) := by
  unfold State.setLatch
  with_reducible repeat' (first | assumption | apply ev_setFco | apply ev_setFld | (refine ev_when ?_ _ _ (fun _ _ => ?_)) | apply ev_bump | apply ev_cause | apply ev_ite)

theorem ev_aliveUpdate {s₀ s : State} (h : Evolves s₀ s) : Evolves s₀ (State.aliveUpdate s) := by
  unfold State.aliveUpdate
  with_reducible repeat' (first | assumption | apply ev_setFld | apply ev_setFco | apply ev_ite)

theorem ev_aliveLow {s₀ s : State} (h : Evolves s₀ s) : Evolves s₀ (State.aliveLow s) := by
  unfold State.aliveLow
  with_reducible repeat' (first | assumption | (refine ev_when ?_ _ _ (fun _ _ => ?_)) | apply ev_setFld)

theorem ev_setBucket {s₀ s : State} (h : Evolves s₀ s) (c : Nat) (b : Nat) : Evolves s₀ (State.setBucket s c b) := by
  unfold State.setBucket
  with_reducible repeat' (first | assumption | apply ev_setFld | apply ev_setCls | apply ev_ite)

theorem ev_retire {s₀ s : State} (h : Evolves s₀ s) (c : Nat) (src : Nat) : Evolves s₀ (State.retire s c src) := by
  unfold State.retire
  with_reducible repeat' (first | assumption | apply ev_setBankBit | apply ev_setFld | apply ev_setAsk | (refine ev_when ?_ _ _ (fun _ _ => ?_)) | apply ev_padState | apply ev_setPd | apply ev_bump | apply ev_cause | apply ev_huskCheck | apply ev_retireSched | apply ev_logOther | apply ev_ite)

theorem ev_startCool {s₀ s : State} (h : Evolves s₀ s) (c : Nat) : Evolves s₀ (State.startCool s c) := by
  unfold State.startCool
  with_reducible repeat' (first | assumption | apply ev_switchInst | apply ev_setBankBit | apply ev_setAsk | apply ev_setFld | apply ev_setCls)

theorem ev_upsetCount {s₀ s : State} (h : Evolves s₀ s) (c : Nat) (therm : Bool) : Evolves s₀ (State.upsetCount s c therm) := by
  unfold State.upsetCount
  with_reducible repeat' (first | assumption | apply ev_setCls | apply ev_setBucket | apply ev_ite)

theorem ev_upsetAct {s₀ s : State} (h : Evolves s₀ s) (c : Nat) : Evolves s₀ (State.upsetAct s c) := by
  unfold State.upsetAct
  with_reducible repeat' (first | assumption | apply ev_retire | apply ev_startCool | apply ev_ite)

theorem ev_retry {s₀ s : State} (h : Evolves s₀ s) (c : Nat) : Evolves s₀ (State.retry s c) := by
  unfold State.retry
  with_reducible repeat' (first | assumption | apply ev_setPd | apply ev_padState | apply ev_setFld | apply ev_setCls | apply ev_logCls | apply ev_ite)

theorem ev_failRetry {s₀ s : State} (h : Evolves s₀ s) (c : Nat) : Evolves s₀ (State.failRetry s c) := by
  unfold State.failRetry
  with_reducible repeat' (first | assumption | apply ev_setBucket | apply ev_setFld | apply ev_retire | apply ev_startCool | apply ev_ite)

theorem ev_collect {s₀ s : State} (h : Evolves s₀ s) (r : Raise) : Evolves s₀ (State.collect s r) := by
  unfold State.collect
  with_reducible repeat' (first | assumption | apply ev_setFco | apply ev_hwBank | apply ev_setLatch | apply ev_huskCheckAll | (refine ev_each ?_ _ _ (fun _ _ _ => ?_)) | apply ev_cause | (refine ev_when ?_ _ _ (fun _ _ => ?_)) | apply ev_upsetCount | apply ev_logFault | apply ev_upsetAct | apply ev_retire | apply ev_aliveUpdate | apply ev_ite | split)

theorem ev_setActive {s₀ s : State} (h : Evolves s₀ s) (src : Nat) (b : Bool) : Evolves s₀ (State.setActive s src b) := by
  unfold State.setActive
  with_reducible repeat' (first | assumption | apply ev_setBankBit)

/-! ImageOps -/

theorem ev_showErr {s₀ s : State} (h : Evolves s₀ s) (r : BoxRes) : Evolves s₀ (State.showErr s r) := by
  unfold State.showErr
  with_reducible repeat' (first | assumption | apply ev_setFld | apply ev_ite | split)

theorem ev_imgPut {s₀ s : State} (h : Evolves s₀ s) (a : Nat) (v : Nat) : Evolves s₀ (State.imgPut s a v) := by
  unfold State.imgPut
  with_reducible repeat' (first | assumption | apply ev_wr | apply ev_ite | split)

theorem ev_imgRecs {s₀ s : State} (h : Evolves s₀ s) (recs : List (Nat × Nat)) : Evolves s₀ (State.imgRecs s recs) := by
  unfold State.imgRecs
  with_reducible repeat' (first | assumption | (refine ev_each ?_ _ _ (fun _ _ _ => ?_)) | apply ev_imgPut)

theorem ev_imgKeys {s₀ s : State} (h : Evolves s₀ s) (recs : List (Nat × Nat)) : Evolves s₀ (s.imgKeys recs) := by
  unfold State.imgKeys
  refine ev_each h _ _ fun t x ht => ?_
  have hf := ev_setFlag ht CTX_CAP_KEYV ((t.keyOf recs x).getD none).isSome x 0
  dsimp only
  split
  · exact hf
  · exact ev_setFld (ev_setFld (ev_mk hf) _ _ _ _) _ _ _ _

/-! PredictOps -/

theorem ev_setCor {s₀ s : State} (h : Evolves s₀ s) (n : Nat) (e : Nat) (v : Int) : Evolves s₀ (State.setCor s n e v) := by
  unfold State.setCor
  with_reducible repeat' (first | assumption | apply ev_wr)

theorem ev_setEntry {s₀ s : State} (h : Evolves s₀ s) (n : Nat) (e : Nat) (rev : Nat) : Evolves s₀ (State.setEntry s n e rev) := by
  unfold State.setEntry
  with_reducible repeat' (first | assumption | apply ev_setTr | apply ev_setFld)

theorem ev_entryFwd {s₀ s : State} (h : Evolves s₀ s) (n : Nat) : Evolves s₀ (State.entryFwd s n) := by
  unfold State.entryFwd
  with_reducible repeat' (first | assumption | apply ev_setEntry)

theorem ev_entryBack {s₀ s : State} (h : Evolves s₀ s) (n : Nat) : Evolves s₀ (State.entryBack s n) := by
  unfold State.entryBack
  with_reducible repeat' (first | assumption | apply ev_setEntry)

theorem ev_freeHold {s₀ s : State} (h : Evolves s₀ s) (n : Nat) : Evolves s₀ (State.freeHold s n) := by
  unfold State.freeHold
  with_reducible repeat' (first | assumption | apply ev_setTr | apply ev_setFld)

theorem ev_endHold {s₀ s : State} (h : Evolves s₀ s) (n : Nat) : Evolves s₀ (State.endHold s n) := by
  unfold State.endHold
  with_reducible repeat' (first | assumption | apply ev_freeHold | apply ev_setFld)

theorem ev_stopAngle {s₀ s : State} (h : Evolves s₀ s) (n : Nat) : Evolves s₀ (State.stopAngle s n) := by
  unfold State.stopAngle
  with_reducible repeat' (first | assumption | apply ev_setAng | apply ev_endHold | apply ev_setFld)

theorem ev_stepAngle {s₀ s : State} (h : Evolves s₀ s) (n : Nat) (au : Nat) (cuEnd : Option Nat) : Evolves s₀ (State.stepAngle s n au cuEnd) := by
  unfold State.stepAngle
  with_reducible repeat' (first | assumption | apply ev_setAng)

theorem ev_loadRebase {s₀ s : State} (h : Evolves s₀ s) (n : Nat) (au : Nat) (rate : Nat) : Evolves s₀ (State.loadRebase s n au rate) := by
  unfold State.loadRebase
  with_reducible repeat' (first | assumption | apply ev_freeHold | apply ev_setAng | apply ev_setFld | (refine ev_each ?_ _ _ (fun _ _ _ => ?_)) | apply ev_mk)

theorem ev_loadJump {s₀ s : State} (h : Evolves s₀ s) (n : Nat) (acc : Nat) (rate : Nat) (lim : Nat) (cuEnd : Option Nat) : Evolves s₀ (State.loadJump s n acc rate lim cuEnd) := by
  unfold State.loadJump
  with_reducible repeat' (first | assumption | apply ev_setAng | apply ev_setFld)

theorem ev_setOfs {s₀ s : State} (h : Evolves s₀ s) (n : Nat) (o : Int) : Evolves s₀ (State.setOfs s n o) := by
  unfold State.setOfs
  with_reducible repeat' (first | assumption | apply ev_setTr | apply ev_setSFld)

theorem ev_fusedLoad {s₀ s : State} (h : Evolves s₀ s) (n : Nat) (cuEnd : Option Nat) (jump : Bool) : Evolves s₀ (State.fusedLoad s n cuEnd jump) := by
  unfold State.fusedLoad
  with_reducible repeat' (first | assumption | apply ev_setAng | apply ev_setFld)

theorem ev_fuseEdge {s₀ s : State} (h : Evolves s₀ s) (n : Nat) (b : Nat) (t : Nat) : Evolves s₀ (State.fuseEdge s n b t) := by
  unfold State.fuseEdge
  with_reducible repeat' (first | assumption | apply ev_setOfs | apply ev_setTr | apply ev_bump | (refine ev_when ?_ _ _ (fun _ _ => ?_)) | apply ev_setFld | apply ev_ite)

theorem ev_fuseAll {s₀ s : State} (h : Evolves s₀ s) (n : Nat) (b : Nat) (t : Nat) : Evolves s₀ (State.fuseAll s n b t) := by
  unfold State.fuseAll
  with_reducible repeat' (first | assumption | apply ev_setTr | apply ev_setFld | apply ev_fuseEdge | apply ev_setOfs | apply ev_bump | apply ev_ite)

theorem ev_classify {s₀ s : State} (h : Evolves s₀ s) (n : Nat) (stamp : Nat) : Evolves s₀ (State.classify s n stamp) := by
  unfold State.classify
  with_reducible repeat' (first | assumption | apply ev_bump | apply ev_setFld | apply ev_ite | split)

theorem ev_loadSlew {s₀ s : State} (h : Evolves s₀ s) (n : Nat) (rate : Nat) (b2 : Nat) (lim : Nat) : Evolves s₀ (State.loadSlew s n rate b2 lim) := by
  unfold State.loadSlew
  with_reducible repeat' (first | assumption | apply ev_setAng | apply ev_setFld)

theorem ev_predEdge {s₀ s : State} (h : Evolves s₀ s) (n : Nat) (e : Nat) (stamp : Nat) (t : Option Nat) (t1 : Option Nat) (running : Bool) : Evolves s₀ (State.predEdge s n e stamp t t1 running) := by
  unfold State.predEdge
  with_reducible repeat' (first | assumption | (refine ev_when ?_ _ _ (fun _ _ => ?_)) | apply ev_classify | apply ev_endHold | apply ev_setFld | apply ev_stepAngle | apply ev_fuseAll | apply ev_fusedLoad | apply ev_loadSlew | apply ev_bump | apply ev_loadJump | apply ev_ite | split)

theorem ev_seekRate {s₀ s : State} (h : Evolves s₀ s) (n : Nat) (t : Option Nat) : Evolves s₀ (State.seekRate s n t) := by
  unfold State.seekRate
  with_reducible repeat' (first | assumption | apply ev_setFld | apply ev_ite | split)

theorem ev_breakRev {s₀ s : State} (h : Evolves s₀ s) (n : Nat) : Evolves s₀ (State.breakRev s n) := by
  unfold State.breakRev
  with_reducible repeat' (first | assumption | apply ev_setTr)

theorem ev_learn {s₀ s : State} (h : Evolves s₀ s) (n : Nat) (trev : Nat) (ps : List Nat) : Evolves s₀ (State.learn s n trev ps) := by
  unfold State.learn
  with_reducible repeat' (first | assumption | (refine ev_each ?_ _ _ (fun _ _ _ => ?_)) | apply ev_setCor | apply ev_setFld)

/-! TaskOps -/

theorem ev_taskPend {s₀ s : State} (h : Evolves s₀ s) (i : Nat) : Evolves s₀ (State.taskPend s i) := by
  unfold State.taskPend
  with_reducible repeat' (first | assumption | apply ev_setFld | apply ev_ite)

theorem ev_taskOvf {s₀ s : State} (h : Evolves s₀ s) (i : Nat) : Evolves s₀ (State.taskOvf s i) := by
  unfold State.taskOvf
  with_reducible repeat' (first | assumption | apply ev_hwFlag | apply ev_cause | apply ev_ite)

theorem ev_taskAdd {s₀ s : State} (h : Evolves s₀ s) (i : Nat) (src : Nat) (cu : Bool) : Evolves s₀ (State.taskAdd s i src cu) := by
  unfold State.taskAdd
  with_reducible repeat' (first | assumption | apply ev_taskOvf | apply ev_setTask | apply ev_taskPend | apply ev_ite)

theorem ev_taskPulse {s₀ s : State} (h : Evolves s₀ s) (src : Nat) (cu : Bool) : Evolves s₀ (State.taskPulse s src cu) := by
  unfold State.taskPulse
  with_reducible repeat' (first | assumption | (refine ev_each ?_ _ _ (fun _ _ _ => ?_)) | apply ev_taskAdd | apply ev_ite)

theorem ev_taskClear {s₀ s : State} (h : Evolves s₀ s) (i : Nat) : Evolves s₀ (State.taskClear s i) := by
  unfold State.taskClear
  with_reducible repeat' (first | assumption | apply ev_setTask | apply ev_taskPend)

theorem ev_taskTake {s₀ s : State} (h : Evolves s₀ s) {i : Nat} {e : TaskEnt} {ov : Bool} {t : State} (q : s.taskTake i = some (e, ov, t)) :
    Evolves s₀ t := by
  unfold State.taskTake at q
  split at q
  · cases q
  split at q <;> cases q <;> exact ev_taskPend (ev_setTask h _ _) _

/-! KnockOps -/

theorem ev_knkClose {s₀ s : State} (h : Evolves s₀ s) (k : Nat) (t : Nat) (flags : Nat) : Evolves s₀ (State.knkClose s k t flags) := by
  unfold State.knkClose
  with_reducible repeat' (first | assumption | apply ev_setKn | apply ev_setFld | apply ev_ite | split | dsimp only)

theorem ev_knockClose {s₀ s : State} (h : Evolves s₀ s) (k : Nat) : Evolves s₀ (State.knockClose s k) := by
  unfold State.knockClose
  with_reducible repeat' (first | assumption | apply ev_bump | apply ev_knkClose | apply ev_ite | split)

theorem ev_knockAbort {s₀ s : State} (h : Evolves s₀ s) (n : Nat) : Evolves s₀ (State.knockAbort s n) := by
  unfold State.knockAbort
  with_reducible repeat' (first | assumption | (refine ev_each ?_ _ _ (fun _ _ _ => ?_)) | apply ev_setKn | apply ev_ite)

theorem ev_knkTick {s₀ s : State} (h : Evolves s₀ s) (k : Nat) : Evolves s₀ (State.knkTick s k) := by
  unfold State.knkTick
  with_reducible repeat' (first | assumption | apply ev_knkClose | apply ev_bump | apply ev_cause | apply ev_ite)

theorem ev_knkAll {s₀ s : State} (h : Evolves s₀ s) : Evolves s₀ (State.knkAll s) := by
  unfold State.knkAll
  with_reducible repeat' (first | assumption | (refine ev_each ?_ _ _ (fun _ _ _ => ?_)) | apply ev_knkTick)

theorem ev_knockPulse {s₀ s : State} (h : Evolves s₀ s) (src : Nat) : Evolves s₀ (State.knockPulse s src) := by
  unfold State.knockPulse
  with_reducible repeat' (first | assumption | (refine ev_each ?_ _ _ (fun _ _ _ => ?_)) | apply ev_knockClose | apply ev_ite)

theorem ev_knkPut {s₀ s : State} (h : Evolves s₀ s) (k : Nat) (ws : List Nat) (result : Bool) : Evolves s₀ (State.knkPut s k ws result) := by
  unfold State.knkPut
  with_reducible repeat' (first | assumption | apply ev_bump | apply ev_cause | apply ev_setKn | apply ev_setFld | (refine ev_when ?_ _ _ (fun _ _ => ?_)) | apply ev_ite)

theorem ev_knkOpen {s₀ s : State} (h : Evolves s₀ s) (k : Nat) (e : TaskEnt) (ov : Bool) : Evolves s₀ (State.knkOpen s k e ov) := by
  unfold State.knkOpen
  with_reducible repeat' (first | assumption | apply ev_switchInst | (refine ev_when ?_ _ _ (fun _ _ => ?_)) | apply ev_bump | apply ev_setFld | apply ev_setFlag | apply ev_setKn)

theorem ev_knkInclude {s₀ s : State} (h : Evolves s₀ s) (k : Nat) (i : Nat) (w : Win) (x : BitVec 24) (clip : Bool) : Evolves s₀ (State.knkInclude s k i w x clip) := by
  unfold State.knkInclude
  with_reducible repeat' (first | assumption | apply ev_setKn | (refine ev_when ?_ _ _ (fun _ _ => ?_)) | apply ev_cause | apply ev_knkPut | apply ev_knkClose | apply ev_bump | apply ev_ite)

theorem ev_knkSample {s₀ s : State} (h : Evolves s₀ s) (k : Nat) (x : BitVec 24) (clip : Bool) : Evolves s₀ (State.knkSample s k x clip) := by
  unfold State.knkSample
  with_reducible repeat' (first | assumption | apply ev_setKn | apply ev_knkInclude | apply ev_ite | split)

theorem ev_knkPost {s₀ s : State} (h : Evolves s₀ s) (k : Nat) : Evolves s₀ (State.knkPost s k) := by
  unfold State.knkPost
  with_reducible repeat' (first | assumption | apply ev_setKn | apply ev_knkPut | apply ev_ite | split)

theorem ev_knkRead {s₀ s : State} (h : Evolves s₀ s) (k : Nat) : Evolves s₀ (State.knkRead s k) := by
  unfold State.knkRead
  with_reducible repeat' (first | assumption | apply ev_busOk | apply ev_setKn | apply ev_setFld | apply ev_ite | split)

/-! TrackOps -/

theorem ev_dropHeld {s₀ s : State} (h : Evolves s₀ s) (n : Nat) : Evolves s₀ (State.dropHeld s n) := by
  unfold State.dropHeld
  with_reducible repeat' (first | assumption | apply ev_setFld | apply ev_setAsk)

theorem ev_trkClear {s₀ s : State} (h : Evolves s₀ s) (n : Nat) (st : Nat) : Evolves s₀ (State.trkClear s n st) := by
  unfold State.trkClear
  with_reducible repeat' (first | assumption | (refine ev_when ?_ _ _ (fun _ _ => ?_)) | apply ev_setTr | apply ev_setFld)

theorem ev_trkGo {s₀ s : State} (h : Evolves s₀ s) (n : Nat) (st : Nat) (cause : Nat) : Evolves s₀ (State.trkGo s n st cause) := by
  unfold State.trkGo
  with_reducible repeat' (first | assumption | apply ev_trkClear | apply ev_setFld | (refine ev_when ?_ _ _ (fun _ _ => ?_)) | apply ev_bump | apply ev_dropHeld | apply ev_setCauses | apply ev_emit | apply ev_raiseFault | apply ev_knockAbort | apply ev_switchInst | apply ev_lossReact | apply ev_setTr)

theorem ev_trkHalt {s₀ s : State} (h : Evolves s₀ s) (n : Nat) (st : Nat) (cause : Nat) : Evolves s₀ (State.trkHalt s n st cause) := by
  unfold State.trkHalt
  with_reducible repeat' (first | assumption | apply ev_stopAngle | apply ev_trkGo)

theorem ev_trkLost {s₀ s : State} (h : Evolves s₀ s) (n : Nat) (cause : Nat) : Evolves s₀ (State.trkLost s n cause) := by
  unfold State.trkLost
  with_reducible repeat' (first | assumption | apply ev_trkHalt)

theorem ev_trkReverse {s₀ s : State} (h : Evolves s₀ s) (n : Nat) (au : Nat) : Evolves s₀ (State.trkReverse s n au) := by
  unfold State.trkReverse
  with_reducible repeat' (first | assumption | apply ev_endHold | apply ev_setFld | apply ev_stepAngle | apply ev_trkGo)

theorem ev_clearCor {s₀ s : State} (h : Evolves s₀ s) (n : Nat) : Evolves s₀ (State.clearCor s n) := by
  unfold State.clearCor
  with_reducible repeat' (first | assumption | apply ev_setTr)

theorem ev_applyCor {s₀ s : State} (h : Evolves s₀ s) (n : Nat) : Evolves s₀ (State.applyCor s n) := by
  unfold State.applyCor
  with_reducible repeat' (first | assumption | (refine ev_each ?_ _ _ (fun _ _ _ => ?_)) | apply ev_setCor | apply ev_setTr | (refine ev_when ?_ _ _ (fun _ _ => ?_)) | apply ev_setFld | apply ev_ite | split)

theorem ev_refEdge {s₀ s : State} (h : Evolves s₀ s) (n : Nat) : Evolves s₀ (State.refEdge s n) := by
  unfold State.refEdge
  with_reducible repeat' (first | assumption | apply ev_switchInst | apply ev_applyCor)

theorem ev_gapRebase {s₀ s : State} (h : Evolves s₀ s) (n : Nat) (stamp : Nat) (t : Option Nat) : Evolves s₀ (State.gapRebase s n stamp t) := by
  unfold State.gapRebase
  with_reducible repeat' (first | assumption | apply ev_setEntry | apply ev_breakRev | apply ev_refEdge | apply ev_endHold | apply ev_loadRebase | apply ev_setTr | apply ev_fuseAll | apply ev_ite)

theorem ev_verify {s₀ s : State} (h : Evolves s₀ s) (n e p : Nat) (t tp : Option Nat) : Evolves s₀ (s.verify n e p t tp).2 := by
  unfold State.verify
  dsimp only
  split
  · split
    · exact h
    split
    · exact ev_cause h _ _ _
    · exact h
  split
  · exact h
  split
  · exact ev_cause (ev_bump (ev_setTr h _ _) _ _ _) _ _ _
  · exact ev_setTr h _ _
theorem ev_verify_eq {s₀ s : State} (h : Evolves s₀ s) {n e p : Nat} {t tp : Option Nat} {v : Verdict} {u : State} (q : s.verify n e p t tp = (v, u)) :
    Evolves s₀ u := by
  have := ev_verify h n e p t tp; rw [q] at this; exact this

theorem ev_trecAdd {s₀ s : State} (h : Evolves s₀ s) (n : Nat) (cand : Bool) (back : Bool) (t : Option Nat) : Evolves s₀ (State.trecAdd s n cand back t) := by
  unfold State.trecAdd
  with_reducible repeat' (first | assumption | apply ev_setTr | apply ev_hwFlag | apply ev_setFld | apply ev_ite)

theorem ev_syncRequest {s₀ s : State} (h : Evolves s₀ s) (n : Nat) : Evolves s₀ (State.syncRequest s n) := by
  unfold State.syncRequest
  with_reducible repeat' (first | assumption | apply ev_setFld | apply ev_setAsk | apply ev_cause | apply ev_request)

theorem ev_revPerRecord {s₀ s : State} (h : Evolves s₀ s) (n : Nat) (ps : List Nat) : Evolves s₀ (s.revPerRecord n ps) := by
  unfold State.revPerRecord
  refine ev_emit ?_ _
  have key (l : List Nat) : ∀ (a : List Nat) (t : State), Evolves s₀ t → Evolves s₀ (l.foldl (fun (acc : List Nat × State) _ =>
      ((acc.1 ++ [(acc.2.fresh 32).1], (acc.2.fresh 32).2) : List Nat × State)) (a, t)).2 := by
    induction l with
    | nil => exact fun _ _ ht => ht
    | cons _ l ih => exact fun _ _ ht => ih _ _ (ev_fresh ht 32)
  exact key _ _ _ h

theorem ev_refTooth {s₀ s : State} (h : Evolves s₀ s) (n : Nat) (st : Nat) : Evolves s₀ (State.refTooth s n st) := by
  unfold State.refTooth
  with_reducible repeat' (first | assumption | apply ev_refEdge | (refine ev_when ?_ _ _ (fun _ _ => ?_)) | apply ev_revPerRecord | apply ev_setFld | apply ev_cause | apply ev_request | apply ev_learn | apply ev_setTr | apply ev_ite)

theorem ev_trkTake {s₀ s : State} (h : Evolves s₀ s) (n : Nat) (i : TrkIn) (k : State → State) (hk : ∀ t, Evolves s₀ t → Evolves s₀ (k t)) :
    Evolves s₀ (s.trkTake n i k) := by
  unfold State.trkTake
  split
  · exact ev_setTr h _ _
  · exact hk _ h

theorem ev_dirsrcIn {s₀ s : State} (h : Evolves s₀ s) (n : Nat) : Evolves s₀ (State.dirsrcIn s n) := by
  unfold State.dirsrcIn
  with_reducible repeat' (first | assumption | apply ev_trkLost | apply ev_ite)

/-! EncOps -/

theorem ev_encPoint {s₀ s : State} (h : Evolves s₀ s) (n : Nat) (d : Int) (rate : Int) : Evolves s₀ (State.encPoint s n d rate) := by
  unfold State.encPoint
  with_reducible repeat' (first | assumption | (refine ev_when ?_ _ _ (fun _ _ => ?_)) | apply ev_setTr | apply ev_fusedLoad | apply ev_ite)

theorem ev_encShift {s₀ s : State} (h : Evolves s₀ s) (e : Nat) (new : Word) : Evolves s₀ (State.encShift s e new) := by
  unfold State.encShift
  with_reducible repeat' (first | assumption | apply ev_wr | (refine ev_each ?_ _ _ (fun _ _ _ => ?_)) | apply ev_setTr)

theorem ev_unfuse {s₀ s : State} (h : Evolves s₀ s) (n : Nat) : Evolves s₀ (State.unfuse s n) := by
  unfold State.unfuse
  with_reducible repeat' (first | assumption | apply ev_setAng)

theorem ev_fuseFail {s₀ s : State} (h : Evolves s₀ s) (n : Nat) : Evolves s₀ (State.fuseFail s n) := by
  unfold State.fuseFail
  with_reducible repeat' (first | assumption | (refine ev_when ?_ _ _ (fun _ _ => ?_)) | apply ev_unfuse | apply ev_setFld | apply ev_setTr | apply ev_ite)

theorem ev_fuseCheck {s₀ s : State} (h : Evolves s₀ s) : Evolves s₀ (State.fuseCheck s) := by
  unfold State.fuseCheck
  with_reducible repeat' (first | assumption | (refine ev_each ?_ _ _ (fun _ _ _ => ?_)) | apply ev_fuseFail)

theorem ev_encIllegal {s₀ s : State} (h : Evolves s₀ s) (e : Nat) : Evolves s₀ (State.encIllegal s e) := by
  unfold State.encIllegal
  with_reducible repeat' (first | assumption | apply ev_setFld | apply ev_bump | apply ev_setEn | apply ev_cause | apply ev_raiseFault | (refine ev_each ?_ _ _ (fun _ _ _ => ?_)) | apply ev_fuseFail | apply ev_encPoint | (refine ev_trkTake ?_ _ _ _ (fun _ _ => ?_)) | apply ev_dirsrcIn)

theorem ev_encLvl {s₀ s : State} (h : Evolves s₀ s) (e : Nat) (lvl : Nat) : Evolves s₀ (State.encLvl s e lvl) := by
  unfold State.encLvl
  with_reducible repeat' (first | assumption | apply ev_setEn | apply ev_setFld)

theorem ev_encCount {s₀ s : State} (h : Evolves s₀ s) (e : Nat) (back : Bool) (stamp : Nat) : Evolves s₀ (State.encCount s e back stamp) := by
  unfold State.encCount
  with_reducible repeat' (first | assumption | apply ev_wr | apply ev_setFlag | apply ev_bump | apply ev_setFld | apply ev_cause | apply ev_setEn | (refine ev_each ?_ _ _ (fun _ _ _ => ?_)) | apply ev_encPoint | apply ev_ite | split)

theorem ev_encLevels {s₀ s : State} (h : Evolves s₀ s) (e : Nat) (a : Bool) (b : Bool) (stamp : Nat) : Evolves s₀ (State.encLevels s e a b stamp) := by
  unfold State.encLevels
  with_reducible repeat' (first | assumption | apply ev_encLvl | apply ev_encIllegal | apply ev_encCount | apply ev_ite | split | dsimp only)

theorem ev_encIndex {s₀ s : State} (h : Evolves s₀ s) (e : Nat) : Evolves s₀ (State.encIndex s e) := by
  unfold State.encIndex
  with_reducible repeat' (first | assumption | apply ev_wr | (refine ev_when ?_ _ _ (fun _ _ => ?_)) | apply ev_encShift | apply ev_setFld | apply ev_bump | apply ev_setEn | apply ev_cause | apply ev_raiseFault)

theorem ev_encZ {s₀ s : State} (h : Evolves s₀ s) (e : Nat) (z : Bool) : Evolves s₀ (State.encZ s e z) := by
  unfold State.encZ
  with_reducible repeat' (first | assumption | apply ev_encLvl | apply ev_encIndex | apply ev_ite)

theorem ev_encStill {s₀ s : State} (h : Evolves s₀ s) (e : Nat) : Evolves s₀ (State.encStill s e) := by
  unfold State.encStill
  with_reducible repeat' (first | assumption | apply ev_setFld | apply ev_setEn | (refine ev_each ?_ _ _ (fun _ _ _ => ?_)) | apply ev_encPoint)

theorem ev_encPosWrite {s₀ s : State} (h : Evolves s₀ s) (e : Nat) (v : Word) : Evolves s₀ (State.encPosWrite s e v) := by
  unfold State.encPosWrite
  with_reducible repeat' (first | assumption | apply ev_encShift | (refine ev_each ?_ _ _ (fun _ _ _ => ?_)) | apply ev_encPoint | apply ev_ite)

/-! TimeOps -/

theorem ev_splitLow {s₀ s : State} (h : Evolves s₀ s) (by_ : Agent) (a : Nat) (v : Word) : Evolves s₀ (State.splitLow s by_ a v) := by
  unfold State.splitLow
  with_reducible repeat' (first | assumption | apply ev_mk)

theorem ev_splitHigh {s₀ s : State} (h : Evolves s₀ s) (by_ : Agent) (a cur : Nat) (v : Word) : Evolves s₀ (s.splitHigh by_ a cur v).2 := ev_mk h
theorem ev_splitHigh_eq {s₀ s : State} (h : Evolves s₀ s) {by_ : Agent} {a cur x : Nat} {v : Word} {t : State} (e : s.splitHigh by_ a cur v = (x, t)) :
    Evolves s₀ t := by
  have := ev_splitHigh h by_ a cur v; rw [e] at this; exact this

theorem ev_ntWrite {s₀ s : State} (h : Evolves s₀ s) (by_ : Agent) (r : NtReg) (high : Bool) (v : Word) : Evolves s₀ (s.ntWrite by_ r high v) := by
  unfold State.ntWrite
  dsimp only
  split
  · exact h
  split
  · exact ev_mk (ev_splitHigh h _ _ _ _)
  · exact ev_splitLow h _ _ _

theorem ev_ntArm {s₀ s : State} (h : Evolves s₀ s) : Evolves s₀ (s.ntArm) := by
  unfold State.ntArm
  split
  · exact h
  · exact ev_mk (ev_setFld h _ _ _ _)

theorem ev_ntApply {s₀ s : State} (h : Evolves s₀ s) : Evolves s₀ (State.ntApply s) := by
  unfold State.ntApply
  with_reducible repeat' (first | assumption | apply ev_setWide | apply ev_setFld | apply ev_ite)

theorem ev_tmrHolds {s₀ s : State} (h : Evolves s₀ s) (g : Nat) : Evolves s₀ (State.tmrHolds s g) := by
  unfold State.tmrHolds
  with_reducible repeat' (first | assumption | (refine ev_each ?_ _ _ (fun _ _ _ => ?_)) | apply ev_setTm | apply ev_ite | split | dsimp only)

theorem ev_tmrFreeze {s₀ s : State} (h : Evolves s₀ s) : Evolves s₀ (State.tmrFreeze s) := by
  unfold State.tmrFreeze
  with_reducible repeat' (first | assumption | (refine ev_each ?_ _ _ (fun _ _ _ => ?_)) | apply ev_setFlag | apply ev_tmrHolds | apply ev_ite)

theorem ev_pscRestart {s₀ s : State} (h : Evolves s₀ s) (t : Nat) : Evolves s₀ (State.pscRestart s t) := by
  unfold State.pscRestart
  with_reducible repeat' (first | assumption | apply ev_setTm)

theorem ev_tmrStart {s₀ s : State} (h : Evolves s₀ s) (t : Nat) : Evolves s₀ (State.tmrStart s t) := by
  unfold State.tmrStart
  with_reducible repeat' (first | assumption | apply ev_setFld | apply ev_setTm | apply ev_pscRestart | apply ev_ite)

theorem ev_tmrStop {s₀ s : State} (h : Evolves s₀ s) (t : Nat) : Evolves s₀ (State.tmrStop s t) := by
  unfold State.tmrStop
  with_reducible repeat' (first | assumption | apply ev_setFld | apply ev_taskClear)

theorem ev_tmrCtl {s₀ s : State} (h : Evolves s₀ s) (t : Nat) (v : Word) : Evolves s₀ (State.tmrCtl s t v) := by
  unfold State.tmrCtl
  with_reducible repeat' (first | assumption | (refine ev_when ?_ _ _ (fun _ _ => ?_)) | apply ev_tmrStart | apply ev_tmrStop)

theorem ev_tmrCompare {s₀ s : State} (h : Evolves s₀ s) (t : Nat) (chg : Bool) : Evolves s₀ (State.tmrCompare s t chg) := by
  unfold State.tmrCompare
  with_reducible repeat' (first | assumption | apply ev_setTm | apply ev_setFlag | apply ev_tmrHolds | apply ev_cause | apply ev_emit | apply ev_ite)

theorem ev_tmrPass {s₀ s : State} (h : Evolves s₀ s) (t : Nat) : Evolves s₀ (State.tmrPass s t) := by
  unfold State.tmrPass
  with_reducible repeat' (first | assumption | apply ev_setTm | apply ev_setFlag)

theorem ev_tmrOneshot {s₀ s : State} (h : Evolves s₀ s) (t : Nat) : Evolves s₀ (State.tmrOneshot s t) := by
  unfold State.tmrOneshot
  with_reducible repeat' (first | assumption | apply ev_setTm | apply ev_tmrStop | apply ev_ite)

theorem ev_tmrTick {s₀ s : State} (h : Evolves s₀ s) (t : Nat) : Evolves s₀ (State.tmrTick s t) := by
  unfold State.tmrTick
  with_reducible repeat' (first | assumption | apply ev_wr | apply ev_tmrPass | apply ev_cause | apply ev_tmrCompare | apply ev_tmrOneshot | apply ev_ite)

theorem ev_tmrReset {s₀ s : State} (h : Evolves s₀ s) (t : Nat) : Evolves s₀ (State.tmrReset s t) := by
  unfold State.tmrReset
  with_reducible repeat' (first | assumption | apply ev_setTm | apply ev_wr | apply ev_pscRestart | apply ev_tmrCompare)

theorem ev_tmrDue {s₀ s : State} (h : Evolves s₀ s) (t : Nat) : Evolves s₀ (State.tmrDue s t) := by
  unfold State.tmrDue
  with_reducible repeat' (first | assumption | apply ev_setTm | apply ev_tmrTick | apply ev_ite)

theorem ev_tmrTake {s₀ s : State} (h : Evolves s₀ s) (t : Nat) : Evolves s₀ (State.tmrTake s t) := by
  unfold State.tmrTake
  with_reducible repeat' (first | assumption | (refine ev_when ?_ _ _ (fun _ _ => ?_)) | apply ev_hwFlag | apply ev_setTm | apply ev_tmrStart | apply ev_tmrReset | apply ev_tmrTick | (refine ev_taskTake ?_ (by assumption)) | apply ev_ite | split | dsimp only)

theorem ev_tmrCapture {s₀ s : State} (h : Evolves s₀ s) (t : Nat) (stamp : Nat) : Evolves s₀ (State.tmrCapture s t stamp) := by
  unfold State.tmrCapture
  with_reducible repeat' (first | assumption | apply ev_setTm | (refine ev_when ?_ _ _ (fun _ _ => ?_)) | apply ev_tmrTake | apply ev_tmrDue | apply ev_wr | apply ev_setFld | apply ev_hwFlag | apply ev_cause | apply ev_tmrReset | apply ev_ite)

theorem ev_capPulse {s₀ s : State} (h : Evolves s₀ s) (src : Nat) : Evolves s₀ (State.capPulse s src) := by
  unfold State.capPulse
  with_reducible repeat' (first | assumption | (refine ev_each ?_ _ _ (fun _ _ _ => ?_)) | apply ev_tmrCapture | apply ev_ite)

theorem ev_tmrCnt {s₀ s : State} (h : Evolves s₀ s) (t : Nat) (v : Word) : Evolves s₀ (State.tmrCnt s t v) := by
  unfold State.tmrCnt
  with_reducible repeat' (first | assumption | apply ev_wr | apply ev_ite)

theorem ev_tmrShadow {s₀ s : State} (h : Evolves s₀ s) (t : Nat) (cmp : Bool) (v : Word) : Evolves s₀ (State.tmrShadow s t cmp v) := by
  unfold State.tmrShadow
  with_reducible repeat' (first | assumption | apply ev_wr | apply ev_setTm | apply ev_setFld | apply ev_ite)

theorem ev_tmrSoon {s₀ s : State} (h : Evolves s₀ s) (t : Nat) : Evolves s₀ (State.tmrSoon s t) := by
  unfold State.tmrSoon
  with_reducible repeat' (first | assumption | apply ev_setTm)

theorem ev_tmrClose {s₀ s : State} (h : Evolves s₀ s) (t : Nat) : Evolves s₀ (State.tmrClose s t) := by
  unfold State.tmrClose
  with_reducible repeat' (first | assumption | apply ev_tmrCompare | apply ev_setTm | apply ev_ite)

theorem ev_tmrAll {s₀ s : State} (h : Evolves s₀ s) : Evolves s₀ (State.tmrAll s) := by
  unfold State.tmrAll
  with_reducible repeat' (first | assumption | (refine ev_each ?_ _ _ (fun _ _ _ => ?_)) | apply ev_tmrSoon | apply ev_tmrFreeze)

theorem ev_tmrEnd {s₀ s : State} (h : Evolves s₀ s) : Evolves s₀ (State.tmrEnd s) := by
  unfold State.tmrEnd
  with_reducible repeat' (first | assumption | (refine ev_each ?_ _ _ (fun _ _ _ => ?_)) | apply ev_tmrClose)

/-! IrtOps -/

theorem ev_nestShow {s₀ s : State} (h : Evolves s₀ s) (n : Nat) : Evolves s₀ (State.nestShow s n) := by
  unfold State.nestShow
  with_reducible repeat' (first | assumption | apply ev_setFld)

theorem ev_irtClaim {s₀ s : State} (h : Evolves s₀ s) (n : Nat) (k : Nat) : Evolves s₀ (State.irtClaim s n k) := by
  unfold State.irtClaim
  with_reducible repeat' (first | assumption | apply ev_setBankBit | apply ev_setNest | apply ev_nestShow)

theorem ev_irtComplete {s₀ s : State} (h : Evolves s₀ s) (n : Nat) : Evolves s₀ (State.irtComplete s n) := by
  unfold State.irtComplete
  with_reducible repeat' (first | assumption | apply ev_setBankBit | (refine ev_when ?_ _ _ (fun _ _ => ?_)) | apply ev_setNest | apply ev_nestShow | apply ev_ite | split)

theorem ev_irtEoi {s₀ s : State} (h : Evolves s₀ s) (n : Nat) (v : Word) : Evolves s₀ (State.irtEoi s n v) := by
  unfold State.irtEoi
  with_reducible repeat' (first | assumption | apply ev_irtComplete | apply ev_hwFlag | apply ev_ite | split)

theorem ev_claimRead {s₀ s : State} (h : Evolves s₀ s) (n : Nat) : Evolves s₀ (State.claimRead s n) := by
  unfold State.claimRead
  with_reducible repeat' (first | assumption | apply ev_irtClaim | apply ev_busOk | apply ev_ite | split)

theorem ev_irtClear {s₀ s : State} (h : Evolves s₀ s) (k : Nat) : Evolves s₀ (State.irtClear s k) := by
  unfold State.irtClear
  with_reducible repeat' (first | assumption | apply ev_setBankBit)

theorem ev_swSet {s₀ s : State} (h : Evolves s₀ s) (k : Nat) (v : Word) : Evolves s₀ (State.swSet s k v) := by
  unfold State.swSet
  with_reducible repeat' (first | assumption | (refine ev_each ?_ _ _ (fun _ _ _ => ?_)) | apply ev_fire)

theorem ev_swClear {s₀ s : State} (h : Evolves s₀ s) (k : Nat) (v : Word) : Evolves s₀ (State.swClear s k v) := by
  unfold State.swClear
  with_reducible repeat' (first | assumption | (refine ev_each ?_ _ _ (fun _ _ _ => ?_)) | apply ev_irtClear)

theorem ev_irtSrcWrite {s₀ s : State} (h : Evolves s₀ s) (k : Nat) (v : Word) : Evolves s₀ (State.irtSrcWrite s k v) := by
  unfold State.irtSrcWrite
  with_reducible repeat' (first | assumption | apply ev_setFld | (refine ev_when ?_ _ _ (fun _ _ => ?_)) | apply ev_irtClear)

theorem ev_irtRelease {s₀ s : State} (h : Evolves s₀ s) (n : Nat) : Evolves s₀ (State.irtRelease s n) := by
  unfold State.irtRelease
  with_reducible repeat' (first | assumption | (refine ev_each ?_ _ _ (fun _ _ _ => ?_)) | apply ev_setBankBit | apply ev_setNest | apply ev_nestShow)

theorem ev_cpStop {s₀ s : State} (h : Evolves s₀ s) (n : Nat) (st : Nat) : Evolves s₀ (State.cpStop s n st) := by
  unfold State.cpStop
  with_reducible repeat' (first | assumption | apply ev_setFld | apply ev_irtRelease)

theorem ev_putCore {s₀ s : State} (h : Evolves s₀ s) (n : Nat) (c : Core) : Evolves s₀ (State.putCore s n c) := by
  unfold State.putCore
  with_reducible repeat' (first | assumption | apply ev_setCore | apply ev_setFlag)

theorem ev_cpStart {s₀ s : State} (h : Evolves s₀ s) (n : Nat) : Evolves s₀ (State.cpStart s n) := by
  unfold State.cpStart
  with_reducible repeat' (first | assumption | apply ev_irtRelease | apply ev_putCore | apply ev_setFld)

theorem ev_cpCtl {s₀ s : State} (h : Evolves s₀ s) (n : Nat) (v : Word) : Evolves s₀ (State.cpCtl s n v) := by
  unfold State.cpCtl
  with_reducible repeat' (first | assumption | (refine ev_when ?_ _ _ (fun _ _ => ?_)) | apply ev_cpStart | apply ev_setFld | apply ev_cpStop)

/-! PsqOps -/

theorem ev_setPqFlag {s₀ s : State} (h : Evolves s₀ s) (q : Nat) (i : Nat) (b : Bool) : Evolves s₀ (State.setPqFlag s q i b) := by
  unfold State.setPqFlag
  with_reducible repeat' (first | assumption | apply ev_setFld)

theorem ev_setPqReg {s₀ s : State} (h : Evolves s₀ s) (q : Nat) (code : Nat) (v : Nat) : Evolves s₀ (State.setPqReg s q code v) := by
  unfold State.setPqReg
  with_reducible repeat' (first | assumption | apply ev_setFld | apply ev_ite)

theorem ev_pqZN {s₀ s : State} (h : Evolves s₀ s) (q : Nat) (v : Nat) : Evolves s₀ (State.pqZN s q v) := by
  unfold State.pqZN
  with_reducible repeat' (first | assumption | apply ev_setPqFlag)

theorem ev_gpDrive {s₀ s : State} (h : Evolves s₀ s) (p : Nat) (d : Option Bool) : Evolves s₀ (State.gpDrive s p d) := by
  unfold State.gpDrive
  with_reducible repeat' (first | assumption | apply ev_mk)

theorem ev_lineOut {s₀ s : State} (h : Evolves s₀ s) (q : Nat) (k : Nat) (b : Bool) : Evolves s₀ (State.lineOut s q k b) := by
  unfold State.lineOut
  with_reducible repeat' (first | assumption | apply ev_setFld | apply ev_huskRiseAt | apply ev_huskFall | apply ev_gpDrive | apply ev_ite)

theorem ev_linesOut {s₀ s : State} (h : Evolves s₀ s) (q : Nat) (mask : Nat) (val : Nat) : Evolves s₀ (State.linesOut s q mask val) := by
  unfold State.linesOut
  with_reducible repeat' (first | assumption | (refine ev_each ?_ _ _ (fun _ _ _ => ?_)) | apply ev_lineOut)

theorem ev_linesIdle {s₀ s : State} (h : Evolves s₀ s) (q : Nat) : Evolves s₀ (State.linesIdle s q) := by
  unfold State.linesIdle
  with_reducible repeat' (first | assumption | (refine ev_each ?_ _ _ (fun _ _ _ => ?_)) | apply ev_lineOut)

theorem ev_linesFree {s₀ s : State} (h : Evolves s₀ s) (q : Nat) : Evolves s₀ (State.linesFree s q) := by
  unfold State.linesFree
  with_reducible repeat' (first | assumption | apply ev_setFld | (refine ev_each ?_ _ _ (fun _ _ _ => ?_)) | apply ev_gpDrive)

theorem ev_setPqEdges {s₀ s : State} (h : Evolves s₀ s) (q : Nat) (k : Nat) (pol : Bool) (x : PEdges) : Evolves s₀ (State.setPqEdges s q k pol x) := by
  unfold State.setPqEdges
  with_reducible repeat' (first | assumption | apply ev_setSq)

theorem ev_pqHalt {s₀ s : State} (h : Evolves s₀ s) (q : Nat) : Evolves s₀ (State.pqHalt s q) := by
  unfold State.pqHalt
  with_reducible repeat' (first | assumption | apply ev_linesIdle | apply ev_taskClear | apply ev_setSq | apply ev_setFld | apply ev_cause)

theorem ev_pqStart {s₀ s : State} (h : Evolves s₀ s) (q : Nat) : Evolves s₀ (State.pqStart s q) := by
  unfold State.pqStart
  with_reducible repeat' (first | assumption | (refine ev_each ?_ _ _ (fun _ _ _ => ?_)) | apply ev_setFld | apply ev_setSq)

theorem ev_pqLevels {s₀ s : State} (h : Evolves s₀ s) (q : Nat) : Evolves s₀ (State.pqLevels s q) := by
  unfold State.pqLevels
  with_reducible repeat' (first | assumption | apply ev_setFld)

theorem ev_pqClrq {s₀ s : State} (h : Evolves s₀ s) (q : Nat) : Evolves s₀ (State.pqClrq s q) := by
  unfold State.pqClrq
  with_reducible repeat' (first | assumption | apply ev_setSq | apply ev_pqLevels | (refine ev_when ?_ _ _ (fun _ _ => ?_)) | apply ev_cause)

theorem ev_pqCtl {s₀ s : State} (h : Evolves s₀ s) (q : Nat) (v : Word) : Evolves s₀ (State.pqCtl s q v) := by
  unfold State.pqCtl
  with_reducible repeat' (first | assumption | (refine ev_when ?_ _ _ (fun _ _ => ?_)) | apply ev_pqClrq | apply ev_pqStart | apply ev_pqHalt | apply ev_ite)

theorem ev_txWrite {s₀ s : State} (h : Evolves s₀ s) (q : Nat) (v : Word) : Evolves s₀ (State.txWrite s q v) := by
  unfold State.txWrite
  with_reducible repeat' (first | assumption | apply ev_bump | apply ev_cause | apply ev_setSq | apply ev_pqLevels | apply ev_ite)

theorem ev_rxRead {s₀ s : State} (h : Evolves s₀ s) (q : Nat) : Evolves s₀ (State.rxRead s q) := by
  unfold State.rxRead
  with_reducible repeat' (first | assumption | apply ev_bump | apply ev_cause | apply ev_busOk | apply ev_setSq | apply ev_pqLevels | apply ev_ite | split | dsimp only)

theorem ev_pqTake {s₀ s : State} (h : Evolves s₀ s) (q : Nat) (dst : Nat) (w : Nat) : Evolves s₀ (State.pqTake s q dst w) := by
  unfold State.pqTake
  with_reducible repeat' (first | assumption | apply ev_setSq | apply ev_pqLevels | apply ev_setPqReg | apply ev_setPqFlag | (refine ev_when ?_ _ _ (fun _ _ => ?_)) | apply ev_cause)

theorem ev_pqGive {s₀ s : State} (h : Evolves s₀ s) (q : Nat) (w : Nat) : Evolves s₀ (State.pqGive s q w) := by
  unfold State.pqGive
  with_reducible repeat' (first | assumption | apply ev_setSq | apply ev_pqLevels | apply ev_setPqFlag | (refine ev_when ?_ _ _ (fun _ _ => ?_)) | apply ev_cause)

theorem ev_pqDrop {s₀ s : State} (h : Evolves s₀ s) (q : Nat) : Evolves s₀ (State.pqDrop s q) := by
  unfold State.pqDrop
  with_reducible repeat' (first | assumption | apply ev_setPqFlag | apply ev_bump | apply ev_cause)

theorem ev_pqGo {s₀ s : State} (h : Evolves s₀ s) (q : Nat) (cycles : Nat) (pc : Nat) : Evolves s₀ (State.pqGo s q cycles pc) := by
  unfold State.pqGo
  with_reducible repeat' (first | assumption | apply ev_setSq | apply ev_tick | apply ev_setFld)

theorem ev_pqStep {s₀ s : State} (h : Evolves s₀ s) (q : Nat) : Evolves s₀ (State.pqStep s q) := by
  unfold State.pqStep
  with_reducible repeat' (first | assumption | apply ev_pqGo)

theorem ev_pqWaited {s₀ s : State} (h : Evolves s₀ s) (q : Nat) : Evolves s₀ (State.pqWaited s q) := by
  unfold State.pqWaited
  with_reducible repeat' (first | assumption | apply ev_setSq | apply ev_setFld)

theorem ev_pqCoissue {s₀ s : State} (h : Evolves s₀ s) (q : Nat) (w : Word) : Evolves s₀ (State.pqCoissue s q w) := by
  unfold State.pqCoissue
  with_reducible repeat' (first | assumption | apply ev_setSq | apply ev_linesOut)

theorem ev_pqRun {s₀ s : State} (h : Evolves s₀ s) (q : Nat) (is : Word → Bool) (f : State → Word → State) (hf : ∀ t w, Evolves s₀ t → Evolves s₀ (f t w)) :
    Evolves s₀ (s.pqRun q is f) := by
  unfold State.pqRun
  dsimp only
  split
  · split
    · exact hf _ _ h
    · exact hf _ _ (ev_pqCoissue h _ _)
  · exact h

theorem ev_pqWait {s₀ s : State} (h : Evolves s₀ s) (q : Nat) (tmo : Nat) : Evolves s₀ (State.pqWait s q tmo) := by
  unfold State.pqWait
  with_reducible repeat' (first | assumption | apply ev_setSq | apply ev_tick | apply ev_setFld)

theorem ev_pqMeasureBegin {s₀ s : State} (h : Evolves s₀ s) (q : Nat) (w : Word) : Evolves s₀ (State.pqMeasureBegin s q w) := by
  unfold State.pqMeasureBegin
  with_reducible repeat' (first | assumption | apply ev_pqWait | apply ev_setSq | apply ev_setPqEdges | apply ev_ite | split)

theorem ev_pqEdgeWait {s₀ s : State} (h : Evolves s₀ s) (q : Nat) (k : Nat) (level : Bool) (stamp : Nat) : Evolves s₀ (State.pqEdgeWait s q k level stamp) := by
  unfold State.pqEdgeWait
  with_reducible repeat' (first | assumption | apply ev_setSq | (refine ev_when ?_ _ _ (fun _ _ => ?_)) | apply ev_setPqEdges | apply ev_ite | split)

theorem ev_pqLineEdge {s₀ s : State} (h : Evolves s₀ s) (q : Nat) (k : Nat) (level : Bool) (stamp : Nat) : Evolves s₀ (State.pqLineEdge s q k level stamp) := by
  unfold State.pqLineEdge
  with_reducible repeat' (first | assumption | apply ev_setFld | apply ev_setPqEdges | apply ev_pqEdgeWait)

theorem ev_pqReady {s₀ s : State} (h : Evolves s₀ s) {q : Nat} {t : State} (e : s.pqReady q = some t) : Evolves s₀ t := by
  unfold State.pqReady at e
  dsimp only at e
  split at e
  · cases e
  split at e
  · split at e <;> cases e
    exact ev_setPqFlag h _ _ _
  split at e
  · split at e
    · next heq =>
      split at e <;> cases e
      exact ev_setPqFlag (ev_setPqReg (ev_taskTake h heq) _ _ _) _ _ _
    · cases e
  split at e
  · split at e
    · cases e
    · cases e
      exact ev_when (ev_setPqFlag (ev_setPqReg h _ _ _) _ _ _) _ _ fun _ ht => ev_bump ht _ _ _
  split at e
  · obtain ⟨v, -, rfl⟩ := Option.map_eq_some_iff.1 e
    exact ev_pqTake h _ _ _
  split at e
  · split at e <;> cases e
    exact ev_pqGive h _ _
  · cases e

theorem ev_pqTry {s₀ s : State} (h : Evolves s₀ s) (q : Nat) : Evolves s₀ (State.pqTry s q) := by
  unfold State.pqTry
  with_reducible repeat' (first | assumption | apply ev_pqWaited | (refine ev_pqReady ?_ (by assumption)) | apply ev_ite | split)

theorem ev_pqTimeout {s₀ s : State} (h : Evolves s₀ s) (q : Nat) : Evolves s₀ (State.pqTimeout s q) := by
  unfold State.pqTimeout
  with_reducible repeat' (first | assumption | apply ev_tick | apply ev_setPqReg | apply ev_setPqFlag | apply ev_bump | apply ev_cause | apply ev_setSq | apply ev_setFld | apply ev_ite | split)

theorem ev_pqAlu {s₀ s : State} (h : Evolves s₀ s) (q : Nat) (w : Word) : Evolves s₀ (State.pqAlu s q w) := by
  unfold State.pqAlu
  with_reducible repeat' (first | assumption | apply ev_setPqReg | apply ev_pqZN | apply ev_pqStep | apply ev_ite)

/-! CalOps -/

theorem ev_loadOfs {s₀ s : State} (h : Evolves s₀ s) (a : Nat) : Evolves s₀ (State.loadOfs s a) := by
  unfold State.loadOfs
  with_reducible repeat' (first | assumption | (refine ev_each ?_ _ _ (fun _ _ _ => ?_)) | apply ev_setFld)

/-! JournalOps -/

theorem ev_loseRec {s₀ s : State} (h : Evolves s₀ s) (j : Nat) (ty : Nat) : Evolves s₀ (State.loseRec s j ty) := by
  unfold State.loseRec
  with_reducible repeat' (first | assumption | apply ev_setStr | apply ev_bump | apply ev_raiseFault | apply ev_cause | apply ev_ite)

theorem ev_acceptUp {s₀ s : State} (h : Evolves s₀ s) (j : Nat) (r : Rec) : Evolves s₀ (State.acceptUp s j r) := by
  unfold State.acceptUp
  with_reducible repeat' (first | assumption | apply ev_loseRec | apply ev_setStr | apply ev_ite | split)

theorem ev_acceptRec {s₀ s : State} (h : Evolves s₀ s) (r : Rec) : Evolves s₀ (State.acceptRec s r) := by
  unfold State.acceptRec
  with_reducible repeat' (first | assumption | apply ev_bump | apply ev_acceptUp | apply ev_loseRec | apply ev_ite | split)

/-! StreamOps -/

theorem ev_send {s₀ s : State} (h : Evolves s₀ s) (x : Sent) : Evolves s₀ (s.send x) := ev_sent h x

theorem ev_waterCheck {s₀ s : State} (h : Evolves s₀ s) (j : Nat) (old : Nat) : Evolves s₀ (State.waterCheck s j old) := by
  unfold State.waterCheck
  with_reducible repeat' (first | assumption | apply ev_cause | apply ev_ite)

theorem ev_layRec {s₀ s : State} (h : Evolves s₀ s) (j : Nat) (r : Rec) : Evolves s₀ (s.layRec j r).2 := by
  unfold State.layRec
  dsimp only
  refine ev_waterCheck (ev_when ?_ _ _ fun _ ht => ?_) _ _
  · exact ev_setWide (ev_setWide (ev_setWide (ev_setStr h _ _) _ _ _ _) _ _ _ _) _ _ _ _
  · exact ev_cause (ev_bump ht _ _ _) _ _ _
theorem ev_layRec_eq {s₀ s : State} (h : Evolves s₀ s) {j : Nat} {r : Rec} {o : RecOut} {t : State} (e : s.layRec j r = (o, t)) : Evolves s₀ t := by
  have := ev_layRec h j r; rw [e] at this; exact this

theorem ev_pcieWrite {s₀ s : State} (h : Evolves s₀ s) (addr : Nat) (data : List Nat) : Evolves s₀ (State.pcieWrite s addr data) := by
  unfold State.pcieWrite
  with_reducible repeat' (first | assumption | (refine ev_each ?_ _ _ (fun _ _ _ => ?_)) | apply ev_send)

theorem ev_pcieRec {s₀ s : State} (h : Evolves s₀ s) (j : Nat) (o : RecOut) : Evolves s₀ (s.pcieRec j o) := by
  unfold State.pcieRec
  dsimp only
  refine ev_send ?_ _
  have hp := ev_pcieWrite (ev_each h o.inval (fun t a => t.send (.pcie (s.wide JRN_PCIBASE + s.wide JS_BASE j + a) (List.replicate 8 0)))
    fun _ _ ht => ev_send ht _) (s.wide JRN_PCIBASE + s.wide JS_BASE j + o.off + 8) o.tail
  cases o.zero with
  | none => exact hp
  | some a => exact ev_send hp _

theorem ev_ySend {s₀ s : State} (h : Evolves s₀ s) (j : Nat) (f : YFrame) : Evolves s₀ (State.ySend s j f) := by
  unfold State.ySend
  with_reducible repeat' (first | assumption | apply ev_send | apply ev_fresh | (refine ev_fresh_eq ?_ (by assumption)) | apply ev_ite | split)

theorem ev_yFly {s₀ s : State} (h : Evolves s₀ s) (j : Nat) (o : RecOut) (at_ : Nat) : Evolves s₀ (State.yFly s j o at_) := by
  unfold State.yFly
  with_reducible repeat' (first | assumption | apply ev_setStr)

theorem ev_yPump {s₀ s : State} (h : Evolves s₀ s) (j k : Nat) : Evolves s₀ (s.yPump j k) := by
  induction k generalizing s with
  | zero => exact h
  | succ k ih =>
    unfold State.yPump
    dsimp only
    split
    · exact h
    split
    · exact h
    · exact ih (ev_ySend (ev_setStr h _ _) _ _)

theorem ev_dropJreq {s₀ s : State} (h : Evolves s₀ s) (j : Nat) : Evolves s₀ (s.dropJreq j) := by
  unfold State.dropJreq
  split
  · split
    · exact ev_setAsk (ev_setFld (ev_mk h) _ _ _ _) _ _ _
    · exact h
  · exact h

theorem ev_abandon {s₀ s : State} (h : Evolves s₀ s) (j : Nat) : Evolves s₀ (State.abandon s j) := by
  unfold State.abandon
  with_reducible repeat' (first | assumption | apply ev_setStr | (refine ev_each ?_ _ _ (fun _ _ _ => ?_)) | apply ev_loseRec | apply ev_dropJreq | (refine ev_when ?_ _ _ (fun _ _ => ?_)) | apply ev_setFld | apply ev_raiseFault | apply ev_cause)

theorem ev_jrecAsk {s₀ s : State} (h : Evolves s₀ s) (j : Nat) : Evolves s₀ (s.jrecAsk j) := by
  unfold State.jrecAsk
  split
  · split
    · exact ev_request (ev_cause (ev_setFld (ev_setFld (ev_setFld (ev_setFld (ev_setFld (ev_mk h) _ _ _ _) _ _ _ _) _ _ _ _)
        _ _ _ _) _ _ _ _) _ _ _) _ _
    · exact h
  · exact h

theorem ev_jrecScan {s₀ s : State} (h : Evolves s₀ s) : Evolves s₀ (State.jrecScan s) := by
  unfold State.jrecScan
  with_reducible repeat' (first | assumption | (refine ev_each ?_ _ _ (fun _ _ _ => ?_)) | apply ev_jrecAsk)

theorem ev_putRec {s₀ s : State} (h : Evolves s₀ s) (j : Nat) (q : QRec) : Evolves s₀ (s.putRec j q) := by
  have out {t : State} (ht : Evolves s₀ t) (r : Rec) :
      Evolves s₀ (if (t.layRec j r).2.flag JS_CFG_TRANSPORT j then (t.layRec j r).2.yFly j (t.layRec j r).1 q.at_
        else (t.layRec j r).2.pcieRec j (t.layRec j r).1) := by
    split
    · exact ev_yFly (ev_layRec ht _ _) _ _ _
    · exact ev_pcieRec (ev_layRec ht _ _) _ _
  unfold State.putRec
  exact ev_switchInst (ev_when (out (ev_when (ev_setStr h _ _) _ _ fun _ ht => ev_setWide (out ht _) _ _ _ _) _) _ _ fun _ ht => ev_yPump ht _ _) _ _

theorem ev_recWrite {s₀ s : State} (h : Evolves s₀ s) (j : Nat) : Evolves s₀ (State.recWrite s j) := by
  unfold State.recWrite
  with_reducible repeat' (first | assumption | apply ev_jrecAsk | apply ev_putRec | apply ev_jrecScan | apply ev_ite | split)

theorem ev_jrecBody {s₀ s : State} (h : Evolves s₀ s) (j : Nat) (body : Option (List Nat)) : Evolves s₀ (s.jrecBody j body) := by
  have hs : Evolves s₀ (({ s with jrnReq := none }.setFld JRN_HDEC_REQ 0).setAsk fnJrec 0 none) :=
    ev_setAsk (ev_setFld (ev_mk h) _ _ _ _) _ _ _
  unfold State.jrecBody
  dsimp only
  split
  · exact hs
  · exact ev_setStr hs _ _

theorem ev_hdecWrite {s₀ s : State} (h : Evolves s₀ s) (v : Word) : Evolves s₀ (State.hdecWrite s v) := by
  unfold State.hdecWrite
  with_reducible repeat' (first | assumption | apply ev_store | apply ev_setFld | apply ev_lateDecision | apply ev_jrecBody | apply ev_ite | split)

theorem ev_recTimeout {s₀ s : State} (h : Evolves s₀ s) (j : Nat) : Evolves s₀ (State.recTimeout s j) := by
  unfold State.recTimeout
  with_reducible repeat' (first | assumption | apply ev_abandon | apply ev_setStr | (refine ev_when ?_ _ _ (fun _ _ => ?_)) | apply ev_dropJreq | (refine ev_each ?_ _ _ (fun _ _ _ => ?_)) | apply ev_loseRec | apply ev_jrecScan | apply ev_ite)

theorem ev_yAck {s₀ s : State} (h : Evolves s₀ s) (j : Nat) (fseq : Nat) : Evolves s₀ (State.yAck s j fseq) := by
  unfold State.yAck
  with_reducible repeat' (first | assumption | apply ev_setStr | apply ev_setFld | apply ev_bumpBy | apply ev_yPump | apply ev_ite)

theorem ev_yRetx {s₀ s : State} (h : Evolves s₀ s) (j : Nat) : Evolves s₀ (State.yRetx s j) := by
  unfold State.yRetx
  with_reducible repeat' (first | assumption | apply ev_abandon | apply ev_setStr | apply ev_bump | (refine ev_each ?_ _ _ (fun _ _ _ => ?_)) | apply ev_ySend | apply ev_ite | split | dsimp only)

theorem ev_yProbeSend {s₀ s : State} (h : Evolves s₀ s) (j : Nat) : Evolves s₀ (State.yProbeSend s j) := by
  unfold State.yProbeSend
  with_reducible repeat' (first | assumption | apply ev_setStr | apply ev_ySend | apply ev_ite)

theorem ev_relcWrite {s₀ s : State} (h : Evolves s₀ s) (j : Nat) (v : Nat) : Evolves s₀ (State.relcWrite s j v) := by
  unfold State.relcWrite
  with_reducible repeat' (first | assumption | apply ev_setWide | apply ev_bump | apply ev_ite)

theorem ev_jsEnable {s₀ s : State} (h : Evolves s₀ s) (j : Nat) : Evolves s₀ (State.jsEnable s j) := by
  unfold State.jsEnable
  with_reducible repeat' (first | assumption | apply ev_setWide | apply ev_setStr | apply ev_setFld | apply ev_ite)

theorem ev_jsCtrl {s₀ s : State} (h : Evolves s₀ s) (j : Nat) (v : Word) : Evolves s₀ (State.jsCtrl s j v) := by
  unfold State.jsCtrl
  with_reducible repeat' (first | assumption | apply ev_setFlag | apply ev_jsEnable | (refine ev_when ?_ _ _ (fun _ _ => ?_)) | apply ev_setFld | apply ev_ite)

theorem ev_jsDrained {s₀ s : State} (h : Evolves s₀ s) (j : Nat) : Evolves s₀ (State.jsDrained s j) := by
  unfold State.jsDrained
  with_reducible repeat' (first | assumption | apply ev_setStr | apply ev_setFld | apply ev_ite)

/-! GwOps -/

theorem ev_setGx {s₀ s : State} (h : Evolves s₀ s) (x : Nat) (g : GwCtx) : Evolves s₀ (State.setGx s x g) := by
  unfold State.setGx
  with_reducible repeat' (first | assumption | apply ev_mk)

theorem ev_gwUdp {s₀ s : State} (h : Evolves s₀ s) (x : Nat) (port : Nat) (m : List Nat) : Evolves s₀ (State.gwUdp s x port m) := by
  unfold State.gwUdp
  with_reducible repeat' (first | assumption | apply ev_send | apply ev_ite | split)

theorem ev_gwRing {s₀ s : State} (h : Evolves s₀ s) (x : Nat) (m : List Nat) : Evolves s₀ (State.gwRing s x m) := by
  unfold State.gwRing
  with_reducible repeat' (first | assumption | apply ev_setGx | (refine ev_when ?_ _ _ (fun _ _ => ?_)) | apply ev_send)

theorem ev_gwSend {s₀ s : State} (h : Evolves s₀ s) (x : Nat) (ty : Nat) (token : Nat) (port : Nat) (body : List Nat) : Evolves s₀ (State.gwSend s x ty token port body) := by
  unfold State.gwSend
  with_reducible repeat' (first | assumption | apply ev_setFld | (refine ev_each ?_ _ _ (fun _ _ _ => ?_)) | apply ev_gwUdp | (refine ev_when ?_ _ _ (fun _ _ => ?_)) | apply ev_gwRing | apply ev_ite | split)

theorem ev_gwKeep {s₀ s : State} (h : Evolves s₀ s) (x : Nat) (token : Nat) (ty : Nat) (body : List Nat) : Evolves s₀ (State.gwKeep s x token ty body) := by
  unfold State.gwKeep
  with_reducible repeat' (first | assumption | apply ev_setGx | apply ev_ring | apply ev_setFld)

theorem ev_gwComplete {s₀ s : State} (h : Evolves s₀ s) (x : Nat) (token : Nat) (port : Nat) (status : Nat) (flags : Nat) (idx : Nat) (items : List Nat) : Evolves s₀ (State.gwComplete s x token port status flags idx items) := by
  unfold State.gwComplete
  with_reducible repeat' (first | assumption | apply ev_gwKeep | apply ev_gwSend)

theorem ev_gwRefuse {s₀ s : State} (h : Evolves s₀ s) (x : Nat) (token : Nat) (port : Nat) (status : Nat) (flags : Nat) : Evolves s₀ (State.gwRefuse s x token port status flags) := by
  unfold State.gwRefuse
  with_reducible repeat' (first | assumption | apply ev_gwSend | apply ev_bump | apply ev_setGx | apply ev_raiseFault | apply ev_cause | apply ev_ite)

theorem ev_gwReport {s₀ s : State} (h : Evolves s₀ s) (r : Report) : Evolves s₀ (State.gwReport s r) := by
  unfold State.gwReport
  with_reducible repeat' (first | assumption | apply ev_gwKeep | apply ev_gwSend | apply ev_ite)

theorem ev_gwAsk {s₀ s : State} (h : Evolves s₀ s) (fn : Nat) (inst : Nat) : Evolves s₀ (State.gwAsk s fn inst) := by
  unfold State.gwAsk
  with_reducible repeat' (first | assumption | (refine ev_each ?_ _ _ (fun _ _ _ => ?_)) | apply ev_gwKeep | apply ev_gwSend)

theorem ev_gwPublish {s₀ s : State} (h : Evolves s₀ s) (x : Nat) : Evolves s₀ (State.gwPublish s x) := by
  unfold State.gwPublish
  with_reducible repeat' (first | assumption | apply ev_setGx | apply ev_gwSend | apply ev_ite)

theorem ev_gwResult {s₀ s : State} (h : Evolves s₀ s) (input : Nat) (ws : List Nat) : Evolves s₀ (State.gwResult s input ws) := by
  unfold State.gwResult
  with_reducible repeat' (first | assumption | (refine ev_each ?_ _ _ (fun _ _ _ => ?_)) | apply ev_setGx | (refine ev_when ?_ _ _ (fun _ _ => ?_)) | apply ev_gwPublish)

theorem ev_gwTrackers {s₀ s : State} (h : Evolves s₀ s) (x : Nat) : Evolves s₀ (State.gwTrackers s x) := by
  unfold State.gwTrackers
  with_reducible repeat' (first | assumption | apply ev_setGx | apply ev_gwSend)

theorem ev_cmdLevel {s₀ s : State} (h : Evolves s₀ s) (x : Nat) : Evolves s₀ (State.cmdLevel s x) := by
  unfold State.cmdLevel
  with_reducible repeat' (first | assumption | apply ev_setFld)

theorem ev_gwFinish {s₀ s : State} (h : Evolves s₀ s) (x : Nat) (o : GwOp) (status : Nat) (idx : Nat) (items : List Nat) : Evolves s₀ (State.gwFinish s x o status idx items) := by
  unfold State.gwFinish
  with_reducible repeat' (first | assumption | apply ev_setGx | apply ev_cmdLevel | apply ev_gwComplete)

theorem ev_gwPosted {s₀ s : State} (h : Evolves s₀ s) (x : Nat) (istat : Nat) : Evolves s₀ (State.gwPosted s x istat) := by
  unfold State.gwPosted
  with_reducible repeat' (first | assumption | apply ev_setGx | apply ev_gwFinish | apply ev_ite | split)

/-! Traps -/

theorem ev_doubleTrap {s₀ s : State} (h : Evolves s₀ s) (n : Nat) : Evolves s₀ (State.doubleTrap s n) := by
  unfold State.doubleTrap
  with_reducible repeat' (first | assumption | apply ev_cpStop | apply ev_raiseFault)

theorem ev_coreExc {s₀ s : State} (h : Evolves s₀ s) (n : Nat) (cause : Nat) (tval : Word) : Evolves s₀ (State.coreExc s n cause tval) := by
  unfold State.coreExc
  with_reducible repeat' (first | assumption | apply ev_doubleTrap | apply ev_putCore | apply ev_ite)

theorem ev_accFault {s₀ s : State} (h : Evolves s₀ s) (n : Nat) (cause : Nat) (a : Nat) : Evolves s₀ (State.accFault s n cause a) := by
  unfold State.accFault
  with_reducible repeat' (first | assumption | apply ev_coreExc | apply ev_fresh)

theorem ev_csrGet {s₀ s : State} (h : Evolves s₀ s) (n k : Nat) : Evolves s₀ (s.csrGet n k).2 := by
  have hf : Evolves s₀ (s.fresh 32).2 := ev_fresh h 32
  unfold State.csrGet
  dsimp only
  iterate 23 (refine iteInduction (motive := fun x : Option Word × State => Evolves s₀ x.2) (fun _ => ?_) fun _ => ?_; · first | exact h | exact hf)
  exact h
theorem ev_csrGet_eq {s₀ s : State} (h : Evolves s₀ s) {n k : Nat} {o : Option Word} {t : State} (e : s.csrGet n k = (o, t)) : Evolves s₀ t := by
  have := ev_csrGet h n k; rw [e] at this; exact this

theorem ev_csrRead {s₀ s : State} (h : Evolves s₀ s) (n k : Nat) : Evolves s₀ (s.csrRead n k).2 := by
  unfold State.csrRead
  dsimp only
  split
  · exact ev_coreExc (ev_fresh h _) _ _ _
  split
  · next e => exact ev_csrGet_eq h e
  · next e => exact ev_coreExc (ev_fresh (ev_csrGet_eq h e) _) _ _ _

theorem ev_csrPut {s₀ s : State} (h : Evolves s₀ s) (n : Nat) (k : Nat) (v : Word) : Evolves s₀ (State.csrPut s n k v) := by
  unfold State.csrPut
  with_reducible repeat' (first | assumption | apply ev_putCore | (refine ev_when ?_ _ _ (fun _ _ => ?_)) | apply ev_ite)

theorem ev_csrWrite {s₀ s : State} (h : Evolves s₀ s) (n : Nat) (k : Nat) (v : Word) : Evolves s₀ (State.csrWrite s n k v) := by
  unfold State.csrWrite
  with_reducible repeat' (first | assumption | apply ev_coreExc | apply ev_csrPut | apply ev_fresh | (refine ev_fresh_eq ?_ (by assumption)) | apply ev_csrGet | (refine ev_csrGet_eq ?_ (by assumption)) | apply ev_ite)

theorem ev_refuse {s₀ s : State} (h : Evolves s₀ s) (by_ : Agent) : Evolves s₀ (State.refuse s by_) := by
  unfold State.refuse
  with_reducible repeat' (first | assumption | apply ev_busErr | apply ev_bump | apply ev_raiseFault | apply ev_ite | split)

theorem ev_faulted {s₀ s : State} (h : Evolves s₀ s) (by_ : Agent) (a : Nat) (write : Bool) : Evolves s₀ (State.faulted s by_ a write) := by
  unfold State.faulted
  with_reducible repeat' (first | assumption | apply ev_accFault | apply ev_ite | split)

theorem ev_gate {s₀ s : State} (h : Evolves s₀ s) (by_ : Agent) (a n : Nat) (w : Bool) (k : State → State)
    (hk : ∀ t, Evolves s₀ t → Evolves s₀ (k t)) : Evolves s₀ (s.gate by_ a n w k) := by
  unfold State.gate
  split
  · exact h
  · exact ev_faulted (ev_gateRaw h _ _ _ _ _ hk) _ _ _

theorem ev_guard {s₀ s : State} (h : Evolves s₀ s) (by_ : Agent) (a : Nat) (w : Bool) (v : Word) (k : State → State)
    (hk : ∀ t, Evolves s₀ t → Evolves s₀ (k t)) : Evolves s₀ (s.guard by_ a w v k) := by
  unfold State.guard
  refine ev_gate h _ _ _ _ _ fun t ht => ?_
  split
  · exact ev_busErr ht
  split
  · exact hk _ (ev_busOk ht _)
  · exact ev_refuse ht _

/-! Settle -/

theorem ev_pulseAll {s₀ s : State} (h : Evolves s₀ s) (src : Nat) (cu : Bool) : Evolves s₀ (State.pulseAll s src cu) := by
  unfold State.pulseAll
  with_reducible repeat' (first | assumption | apply ev_taskPulse | apply ev_knockPulse | apply ev_capPulse)

theorem ev_settleRound {s₀ s : State} (h : Evolves s₀ s) : Evolves s₀ (State.settleRound s) := by
  unfold State.settleRound
  with_reducible repeat' (first | assumption | (refine ev_each ?_ _ _ (fun _ _ _ => ?_)) | apply ev_collect | apply ev_huskCheck | apply ev_acceptRec | apply ev_pulseAll | apply ev_gwAsk | apply ev_gwReport | apply ev_gwResult | apply ev_gwPosted | apply ev_jrecScan | apply ev_mk)

theorem ev_settleN {s₀ s : State} (h : Evolves s₀ s) (k : Nat) : Evolves s₀ (s.settleN k) := by
  induction k generalizing s with
  | zero => exact ⟨h.1, h.2, h.3, h.4, h.5, h.6, h.7, h.8, h.9⟩
  | succ k ih =>
    unfold State.settleN
    split
    · exact h
    · exact ih (ev_settleRound h)

theorem ev_settle {s₀ s : State} (h : Evolves s₀ s) : Evolves s₀ (State.settle s) := by
  unfold State.settle
  with_reducible repeat' (first | assumption | apply ev_settleN)

/-! CalStore -/

theorem ev_calShow {s₀ s : State} (h : Evolves s₀ s) (por : Bool) : Evolves s₀ (State.calShow s por) := by
  unfold State.calShow
  with_reducible repeat' (first | assumption | (refine ev_each ?_ _ _ (fun _ _ _ => ?_)) | apply ev_setFld | (refine ev_when ?_ _ _ (fun _ _ => ?_)) | apply ev_wr)

theorem ev_calRead {s₀ s : State} (h : Evolves s₀ s) (por : Bool) : Evolves s₀ (State.calRead s por) := by
  unfold State.calRead
  with_reducible repeat' (first | assumption | apply ev_store | apply ev_setFld | apply ev_calShow | apply ev_mk)

theorem ev_calFaults {s₀ s : State} (h : Evolves s₀ s) : Evolves s₀ (State.calFaults s) := by
  unfold State.calFaults
  with_reducible repeat' (first | assumption | (refine ev_each ?_ _ _ (fun _ _ _ => ?_)) | apply ev_raiseFault)

theorem ev_calCtl {s₀ s : State} (h : Evolves s₀ s) (ctx : Nat) (v : Word) : Evolves s₀ (s.calCtl ctx v) := by
  unfold State.calCtl
  dsimp only
  split
  · exact ev_mk (ev_setFld (ev_setFld h _ _ _ _) _ _ _ _)
  · exact h

theorem ev_calBuf {s₀ s : State} (h : Evolves s₀ s) (a : Nat) (v : Word) : Evolves s₀ (State.calBuf s a v) := by
  unfold State.calBuf
  with_reducible repeat' (first | assumption | apply ev_wr | apply ev_ite)

theorem ev_calPut {s₀ s : State} (h : Evolves s₀ s) (k : Nat) (ws : List Word) : Evolves s₀ (State.calPut s k ws) := by
  unfold State.calPut
  with_reducible repeat' (first | assumption | apply ev_store | apply ev_mk)

theorem ev_calLose {s₀ s : State} (h : Evolves s₀ s) (k : Nat) : Evolves s₀ (s.calLose k) := by
  unfold State.calLose
  refine ev_each h _ _ fun t i ht => ?_
  exact ev_mk (ev_fresh ht 32)

theorem ev_calFinish {s₀ s : State} (h : Evolves s₀ s) (ok : Bool) : Evolves s₀ (s.calFinish ok) := by
  unfold State.calFinish
  split
  · exact h
  · have hm : Evolves s₀ { s with cal := { s.cal with job := none } } := ev_mk h
    have hs := ev_setFld (ev_setFld hm CAL_STAT_BUSY 0 0 0) CAL_CTL_GO 0 0 0
    dsimp only
    split
    · exact ev_setFld hs _ _ _ _
    split
    · exact ev_setFld hs _ _ _ _
    split
    · exact ev_setFld hs _ _ _ _
    split
    · exact ev_raiseFault (ev_setFld (ev_setFld (ev_calLose hs _) _ _ _ _) _ _ _ _) _ _
    · exact ev_emit (ev_setFld (ev_setFld (ev_calPut hs _ _) _ _ _ _) _ _ _ _) _

theorem ev_calBreak {s₀ s : State} (h : Evolves s₀ s) : Evolves s₀ s.calBreak := by
  unfold State.calBreak
  split
  · exact h
  · exact ev_mk (ev_calLose h _)

/-! Compare -/

theorem ev_issue {s₀ s : State} (h : Evolves s₀ s) (c : Nat) (i : Issue) : Evolves s₀ (State.issue s c i) := by
  unfold State.issue
  with_reducible repeat' (first | assumption | apply ev_setCh)

theorem ev_arm {s₀ s : State} (h : Evolves s₀ s) (c : Nat) : Evolves s₀ (State.arm s c) := by
  unfold State.arm
  with_reducible repeat' (first | assumption | apply ev_setCh | apply ev_ite | split | dsimp only)

theorem ev_noteEnd {s₀ s : State} (h : Evolves s₀ s) (c : Nat) (a : Act) : Evolves s₀ (State.noteEnd s c a) := by
  unfold State.noteEnd
  with_reducible repeat' (first | assumption | apply ev_setCh | apply ev_ite | split)

theorem ev_mapEv {s₀ s : State} (h : Evolves s₀ s) (c : Nat) (e : Ev) (e' : Ev) : Evolves s₀ (State.mapEv s c e e') := by
  unfold State.mapEv
  with_reducible repeat' (first | assumption | apply ev_setCh)

theorem ev_issueStart {s₀ s : State} (h : Evolves s₀ s) (c : Nat) (e : Ev) (tap : Nat) (fl : Nat) : Evolves s₀ (State.issueStart s c e tap fl) := by
  unfold State.issueStart
  with_reducible repeat' (first | assumption | apply ev_issue | apply ev_ite)

theorem ev_overlap {s₀ s : State} (h : Evolves s₀ s) (c : Nat) (a : Act) (e : Ev) (tap : Nat) (fl : Nat) : Evolves s₀ (State.overlap s c a e tap fl) := by
  unfold State.overlap
  with_reducible repeat' (first | assumption | apply ev_issueStart | apply ev_mapEv | apply ev_issue | apply ev_ite)

theorem ev_compareOne {s₀ s : State} (h : Evolves s₀ s) {c : Nat} {t : State} (q : s.compareOne c = some t) : Evolves s₀ t := by
  unfold State.compareOne at q
  dsimp only at q
  split at q
  · split at q
    · cases q
    · obtain ⟨p, -, rfl⟩ := Option.map_eq_some_iff.1 q
      exact ev_issueStart h _ _ _ _
  · split at q
    · cases q
      split
      · exact ev_issue h _ _
      · split
        · exact ev_mapEv (ev_issue h _ _) _ _ _
        · exact ev_issue h _ _
      · exact ev_issue h _ _
    · split at q
      · cases q
      split at q
      · cases q
      split at q
      · cases q; exact ev_issueStart h _ _ _ _
      split at q
      · cases q; exact ev_mapEv h _ _ _
      · cases q; exact ev_overlap h _ _ _ _ _

theorem ev_compareN {s₀ s : State} (h : Evolves s₀ s) (k c : Nat) : Evolves s₀ (s.compareN k c) := by
  induction k generalizing s with
  | zero => exact h
  | succ k ih =>
    unfold State.compareN
    split
    · next q => exact ih (ev_compareOne h q)
    · exact h

theorem ev_compare {s₀ s : State} (h : Evolves s₀ s) (c : Nat) : Evolves s₀ (s.compare c) := by
  unfold State.compare
  dsimp only
  split
  · refine ev_huskJudge ?_ _
    have hc := ev_compareN (ev_arm h c) (2 * ((s.arm c).ch c).queue.length + 4) c
    split
    · exact ev_noteEnd hc _ _
    · exact hc
  · exact h

theorem ev_compareAll {s₀ s : State} (h : Evolves s₀ s) : Evolves s₀ (State.compareAll s) := by
  unfold State.compareAll
  with_reducible repeat' (first | assumption | (refine ev_each ?_ _ _ (fun _ _ _ => ?_)) | apply ev_compare)

/-! Scheduler -/

theorem ev_stageWord {s₀ s : State} (h : Evolves s₀ s) (i : Nat) (c : Nat) (k : Nat) (v : Word) : Evolves s₀ (State.stageWord s i c k v) := by
  unfold State.stageWord
  with_reducible repeat' (first | assumption | apply ev_setCh)

theorem ev_commitEvent {s₀ s : State} (h : Evolves s₀ s) (by_ : Agent) (c : Nat) (v : Word) : Evolves s₀ (State.commitEvent s by_ c v) := by
  unfold State.commitEvent
  with_reducible repeat' (first | assumption | apply ev_setCh | apply ev_switchInst)

theorem ev_insertItem {s₀ s : State} (h : Evolves s₀ s) (c : Nat) (it : Item) : Evolves s₀ (State.insertItem s c it) := by
  unfold State.insertItem
  with_reducible repeat' (first | assumption | apply ev_takeSlot | apply ev_setCh | apply ev_bump | (refine ev_when ?_ _ _ (fun _ _ => ?_)) | apply ev_raiseFault | apply ev_cause | apply ev_emit | apply ev_ite)

theorem ev_pwmPass {s₀ s : State} (h : Evolves s₀ s) (c : Nat) (r : Nat) : Evolves s₀ (State.pwmPass s c r) := by
  unfold State.pwmPass
  with_reducible repeat' (first | assumption | apply ev_setCh | apply ev_setFld)

theorem ev_pwmIntent {s₀ s : State} (h : Evolves s₀ s) (c : Nat) (t : Nat) : Evolves s₀ (State.pwmIntent s c t) := by
  unfold State.pwmIntent
  with_reducible repeat' (first | assumption | apply ev_huskFall | apply ev_huskRise | apply ev_ite | split)

theorem ev_startEdge {s₀ s : State} (h : Evolves s₀ s) (c : Nat) (e : Ev) (pad : Nat) (fl : Nat) : Evolves s₀ (State.startEdge s c e pad fl) := by
  unfold State.startEdge
  with_reducible repeat' (first | assumption | apply ev_setCh | apply ev_emit | apply ev_outcome | (refine ev_when ?_ _ _ (fun _ _ => ?_)) | apply ev_huskFall | apply ev_setHsk | apply ev_pwmPass | apply ev_setFld | apply ev_pwmIntent | apply ev_huskRise | apply ev_ite)

theorem ev_dropStart {s₀ s : State} (h : Evolves s₀ s) (c : Nat) (e : Ev) (o : Nat) : Evolves s₀ (State.dropStart s c e o) := by
  unfold State.dropStart
  with_reducible repeat' (first | assumption | apply ev_setCh | apply ev_outcome)

theorem ev_fireIssue {s₀ s : State} (h : Evolves s₀ s) (c : Nat) (i : Issue) : Evolves s₀ (State.fireIssue s c i) := by
  unfold State.fireIssue
  with_reducible repeat' (first | assumption | apply ev_setCh | apply ev_startEdge | apply ev_dropStart | apply ev_endActive | apply ev_ite | split)

theorem ev_fireEdge {s₀ s : State} (h : Evolves s₀ s) (c : Nat) (k : Option EndWhy) : Evolves s₀ (State.fireEdge s c k) := by
  unfold State.fireEdge
  with_reducible repeat' (first | assumption | apply ev_fireIssue | apply ev_ite | split)

theorem ev_chCmd {s₀ s : State} (h : Evolves s₀ s) (c : Nat) (v : Word) : Evolves s₀ (State.chCmd s c v) := by
  unfold State.chCmd
  with_reducible repeat' (first | assumption | (refine ev_when ?_ _ _ (fun _ _ => ?_)) | apply ev_flushSched | apply ev_cutChan | apply ev_uncutChan | apply ev_ite)

theorem ev_latchRead {s₀ s : State} (h : Evolves s₀ s) (by_ : Agent) (first : Nat) (others : List Nat) : Evolves s₀ (State.latchRead s by_ first others) := by
  unfold State.latchRead
  with_reducible repeat' (first | assumption | (refine ev_each ?_ _ _ (fun _ _ _ => ?_)) | apply ev_busOk | apply ev_mk)

/-! Tracker -/

theorem ev_vrPeak {s₀ s : State} (h : Evolves s₀ s) (n : Nat) (stamp : Nat) (peak : Nat) : Evolves s₀ (State.vrPeak s n stamp peak) := by
  unfold State.vrPeak
  with_reducible repeat' (first | assumption | apply ev_setFld | apply ev_setTr | apply ev_ite)

theorem ev_stampEdge {s₀ s : State} (h : Evolves s₀ s) (n stamp : Nat) (back : Bool) : Evolves s₀ (s.stampEdge n stamp back).2.2 := by
  unfold State.stampEdge
  dsimp only
  refine ev_setTr (ev_setFlag (ev_setWide ?_ _ _ _ _) _ _ _ _) _ _
  split
  · exact ev_setFld h _ _ _ _
  · exact h
theorem ev_stampEdge_eq {s₀ s : State} (h : Evolves s₀ s) {n stamp : Nat} {back : Bool} {t tp : Option Nat} {u : State}
    (q : s.stampEdge n stamp back = (t, tp, u)) : Evolves s₀ u := by
  have := ev_stampEdge h n stamp back; rw [q] at this; exact this

theorem ev_addPeriod {s₀ s : State} (h : Evolves s₀ s) (n : Nat) (t : Option Nat) : Evolves s₀ (State.addPeriod s n t) := by
  unfold State.addPeriod
  with_reducible repeat' (first | assumption | apply ev_setTr | apply ev_ite | split)

theorem ev_edgePass {s₀ s : State} (h : Evolves s₀ s) (n : Nat) (e : Nat) (stamp : Nat) (t : Option Nat) (tp : Option Nat) (st : Nat) (running : Bool) : Evolves s₀ (State.edgePass s n e stamp t tp st running) := by
  unfold State.edgePass
  with_reducible repeat' (first | assumption | apply ev_addPeriod | apply ev_entryFwd | (refine ev_when ?_ _ _ (fun _ _ => ?_)) | apply ev_refTooth | apply ev_predEdge | apply ev_trkGo)

theorem ev_fwdSync {s₀ s : State} (h : Evolves s₀ s) (n : Nat) (stamp : Nat) (t : Option Nat) (tp : Option Nat) : Evolves s₀ (State.fwdSync s n stamp t tp) := by
  unfold State.fwdSync
  with_reducible repeat' (first | assumption | apply ev_edgePass | apply ev_gapRebase | apply ev_rebaseReact | apply ev_setTr | apply ev_entryFwd | apply ev_trkHalt | apply ev_seekRate | apply ev_trkLost | apply ev_cause | apply ev_verify | (refine ev_verify_eq ?_ (by assumption)) | apply ev_ite | split | dsimp only)

theorem ev_fwdRestored {s₀ s : State} (h : Evolves s₀ s) (n : Nat) (stamp : Nat) (t : Option Nat) (tp : Option Nat) : Evolves s₀ (State.fwdRestored s n stamp t tp) := by
  unfold State.fwdRestored
  with_reducible repeat' (first | assumption | apply ev_setTr | apply ev_entryFwd | apply ev_trkLost | apply ev_edgePass | apply ev_verify | (refine ev_verify_eq ?_ (by assumption)) | apply ev_ite | split)

theorem ev_stepFwd {s₀ s : State} (h : Evolves s₀ s) (n : Nat) : Evolves s₀ (State.stepFwd s n) := by
  unfold State.stepFwd
  with_reducible repeat' (first | assumption | apply ev_entryFwd | (refine ev_when ?_ _ _ (fun _ _ => ?_)) | apply ev_refEdge)

theorem ev_fwdReverse {s₀ s : State} (h : Evolves s₀ s) (n : Nat) (stamp : Nat) (t : Option Nat) (tp : Option Nat) : Evolves s₀ (State.fwdReverse s n stamp t tp) := by
  unfold State.fwdReverse
  with_reducible repeat' (first | assumption | apply ev_setTr | apply ev_edgePass | apply ev_stepFwd | apply ev_stepAngle | apply ev_entryFwd | apply ev_trkLost | apply ev_verify | (refine ev_verify_eq ?_ (by assumption)) | apply ev_ite | split | dsimp only)

theorem ev_backReverse {s₀ s : State} (h : Evolves s₀ s) (n : Nat) (t : Option Nat) (tp : Option Nat) : Evolves s₀ (State.backReverse s n t tp) := by
  unfold State.backReverse
  with_reducible repeat' (first | assumption | (refine ev_when ?_ _ _ (fun _ _ => ?_)) | apply ev_refEdge | apply ev_setTr | apply ev_entryBack | apply ev_stepAngle | apply ev_trkLost | apply ev_verify | (refine ev_verify_eq ?_ (by assumption)) | apply ev_ite | split | dsimp only)

theorem ev_revDetect {s₀ s : State} (h : Evolves s₀ s) (n : Nat) (undo : Bool) : Evolves s₀ (State.revDetect s n undo) := by
  unfold State.revDetect
  with_reducible repeat' (first | assumption | apply ev_trkHalt | apply ev_seekRate | apply ev_entryBack | apply ev_trkReverse | apply ev_ite)

theorem ev_edgeIdle {s₀ s : State} (h : Evolves s₀ s) (n : Nat) (stamp : Nat) (t : Option Nat) (gap : Bool) : Evolves s₀ (State.edgeIdle s n stamp t gap) := by
  unfold State.edgeIdle
  with_reducible repeat' (first | assumption | apply ev_trkGo | apply ev_trkHalt | apply ev_seekRate | (refine ev_when ?_ _ _ (fun _ _ => ?_)) | apply ev_syncRequest | apply ev_gapRebase | apply ev_rebaseReact | apply ev_ite)

theorem ev_evalEdge {s₀ s : State} (h : Evolves s₀ s) (n : Nat) (stamp : Nat) (back : Bool) : Evolves s₀ (State.evalEdge s n stamp back) := by
  unfold State.evalEdge
  with_reducible repeat' (first | assumption | apply ev_setTr | apply ev_bump | apply ev_cause | apply ev_trecAdd | apply ev_backReverse | apply ev_fwdReverse | apply ev_edgeIdle | apply ev_revDetect | apply ev_fwdRestored | apply ev_fwdSync | apply ev_stampEdge | (refine ev_stampEdge_eq ?_ (by assumption)) | apply ev_ite)

theorem ev_camLostCheck {s₀ s : State} (h : Evolves s₀ s) (n : Nat) : Evolves s₀ (State.camLostCheck s n) := by
  unfold State.camLostCheck
  with_reducible repeat' (first | assumption | apply ev_setFld | apply ev_ite)

theorem ev_toothIn {s₀ s : State} (h : Evolves s₀ s) (n : Nat) (stamp : Nat) (peak : Nat) : Evolves s₀ (State.toothIn s n stamp peak) := by
  unfold State.toothIn
  with_reducible repeat' (first | assumption | apply ev_vrPeak | apply ev_setTr | apply ev_evalEdge | apply ev_camLostCheck | apply ev_ite)

theorem ev_trailIn {s₀ s : State} (h : Evolves s₀ s) (n : Nat) (stamp : Nat) : Evolves s₀ (State.trailIn s n stamp) := by
  unfold State.trailIn
  with_reducible repeat' (first | assumption | apply ev_evalEdge | apply ev_setTr | apply ev_setFld | apply ev_revDetect | apply ev_ite | split)

theorem ev_camDev {s₀ s : State} (h : Evolves s₀ s) (n : Nat) (k : Nat) (m : List Nat) (q : Nat) : Evolves s₀ (State.camDev s n k m q) := by
  unfold State.camDev
  with_reducible repeat' (first | assumption | apply ev_setFld | apply ev_setSFld | apply ev_ite | split)

theorem ev_camRebase {s₀ s : State} (h : Evolves s₀ s) (n : Nat) (off : Nat) : Evolves s₀ (State.camRebase s n off) := by
  unfold State.camRebase
  with_reducible repeat' (first | assumption | apply ev_setEntry | apply ev_setTr | (refine ev_when ?_ _ _ (fun _ _ => ?_)) | apply ev_setOfs | apply ev_loadRebase)

theorem ev_camResolve {s₀ s : State} (h : Evolves s₀ s) (n : Nat) (k : Nat) (m : List Nat) : Evolves s₀ (State.camResolve s n k m) := by
  unfold State.camResolve
  with_reducible repeat' (first | assumption | apply ev_setTr | apply ev_bump | apply ev_setFld | apply ev_camRebase | apply ev_trkGo | apply ev_rebaseReact | apply ev_ite | split | dsimp only)

theorem ev_camVerify {s₀ s : State} (h : Evolves s₀ s) (n : Nat) (k : Nat) (m : List Nat) : Evolves s₀ (State.camVerify s n k m) := by
  unfold State.camVerify
  with_reducible repeat' (first | assumption | apply ev_setTr | apply ev_setFld | apply ev_bump | (refine ev_when ?_ _ _ (fun _ _ => ?_)) | apply ev_trkGo | apply ev_ite)

theorem ev_camIn {s₀ s : State} (h : Evolves s₀ s) (n : Nat) (k : Nat) (rising : Bool) (stamp : Nat) (aw : Nat) : Evolves s₀ (State.camIn s n k rising stamp aw) := by
  unfold State.camIn
  with_reducible repeat' (first | assumption | apply ev_setFld | apply ev_camLostCheck | apply ev_camDev | apply ev_camResolve | apply ev_camVerify | apply ev_cause | apply ev_ite)

theorem ev_stopIn {s₀ s : State} (h : Evolves s₀ s) (n : Nat) : Evolves s₀ (State.stopIn s n) := by
  unfold State.stopIn
  with_reducible repeat' (first | assumption | apply ev_trkHalt | apply ev_ite)

theorem ev_trkResync {s₀ s : State} (h : Evolves s₀ s) (n : Nat) : Evolves s₀ (State.trkResync s n) := by
  unfold State.trkResync
  with_reducible repeat' (first | assumption | apply ev_trkLost | apply ev_trkHalt | apply ev_seekRate | apply ev_ite)

theorem ev_trkRefuse {s₀ s : State} (h : Evolves s₀ s) (n : Nat) : Evolves s₀ (State.trkRefuse s n) := by
  unfold State.trkRefuse
  with_reducible repeat' (first | assumption | apply ev_lateDecision | apply ev_trkLost | apply ev_ite)

theorem ev_trkConfirm {s₀ s : State} (h : Evolves s₀ s) (n : Nat) : Evolves s₀ (State.trkConfirm s n) := by
  unfold State.trkConfirm
  with_reducible repeat' (first | assumption | apply ev_lateDecision | apply ev_dropHeld | apply ev_ite)

theorem ev_cmdIn {s₀ s : State} (h : Evolves s₀ s) (n : Nat) (v : Word) : Evolves s₀ (State.cmdIn s n v) := by
  unfold State.cmdIn
  with_reducible repeat' (first | assumption | (refine ev_when ?_ _ _ (fun _ _ => ?_)) | apply ev_trkResync | (refine ev_trkTake ?_ _ _ _ (fun _ _ => ?_)) | apply ev_trkRefuse | apply ev_trkConfirm)

theorem ev_trkCmd {s₀ s : State} (h : Evolves s₀ s) (n : Nat) (v : Word) : Evolves s₀ (State.trkCmd s n v) := by
  unfold State.trkCmd
  with_reducible repeat' (first | assumption | (refine ev_when ?_ _ _ (fun _ _ => ?_)) | (refine ev_trkTake ?_ _ _ _ (fun _ _ => ?_)) | apply ev_cmdIn)

theorem ev_assertSync {s₀ s : State} (h : Evolves s₀ s) (n : Nat) (v : Word) : Evolves s₀ (s.assertSync n v) := by
  unfold State.assertSync
  dsimp only
  exact ev_rebaseReact (ev_trkGo (ev_loadRebase (ev_setFld (ev_setAsk (ev_setFld (ev_setTr (ev_breakRev (ev_setEntry (ev_fresh h _)
    _ _ _) _) _ _) _ _ _ _) _ _ _) _ _ _ _) _ _ _) _ _ _) _

theorem ev_assertIn {s₀ s : State} (h : Evolves s₀ s) (n : Nat) (v : Word) : Evolves s₀ (State.assertIn s n v) := by
  unfold State.assertIn
  with_reducible repeat' (first | assumption | apply ev_setFld | apply ev_lateDecision | apply ev_assertSync | apply ev_ite)

theorem ev_syncAssert {s₀ s : State} (h : Evolves s₀ s) (n : Nat) (v : Word) : Evolves s₀ (State.syncAssert s n v) := by
  unfold State.syncAssert
  with_reducible repeat' (first | assumption | (refine ev_trkTake ?_ _ _ _ (fun _ _ => ?_)) | apply ev_assertIn)

theorem ev_trkInput {s₀ s : State} (h : Evolves s₀ s) (n : Nat) (i : TrkIn) : Evolves s₀ (State.trkInput s n i) := by
  unfold State.trkInput
  with_reducible repeat' (first | assumption | apply ev_toothIn | apply ev_trailIn | apply ev_camIn | apply ev_stopIn | apply ev_dirsrcIn | apply ev_cmdIn | apply ev_assertIn | apply ev_ite | split)

theorem ev_trkWaiting {s₀ s : State} (h : Evolves s₀ s) (n : Nat) : Evolves s₀ (State.trkWaiting s n) := by
  unfold State.trkWaiting
  with_reducible repeat' (first | assumption | apply ev_setTr | (refine ev_each ?_ _ _ (fun _ _ _ => ?_)) | (refine ev_trkTake ?_ _ _ _ (fun _ _ => ?_)) | apply ev_trkInput | apply ev_ite)

theorem ev_trecRead {s₀ s : State} (h : Evolves s₀ s) (by_ : Agent) (n : Nat) : Evolves s₀ (State.trecRead s by_ n) := by
  unfold State.trecRead
  with_reducible repeat' (first | assumption | apply ev_setTr | apply ev_setFld | apply ev_busOk | apply ev_mk)

/-! Husks -/

theorem ev_huskForce {s₀ s : State} (h : Evolves s₀ s) (c : Nat) (v : Word) : Evolves s₀ (State.huskForce s c v) := by
  unfold State.huskForce
  with_reducible repeat' (first | assumption | apply ev_wr | apply ev_huskRiseAt | apply ev_huskFall | apply ev_ite)

theorem ev_limitCut {s₀ s : State} (h : Evolves s₀ s) (c : Nat) : Evolves s₀ (State.limitCut s c) := by
  unfold State.limitCut
  with_reducible repeat' (first | assumption | apply ev_truncate | apply ev_ite | split)

theorem ev_senseDriver {s₀ s : State} (h : Evolves s₀ s) (c : Nat) (code : Nat) : Evolves s₀ (State.senseDriver s c code) := by
  unfold State.senseDriver
  with_reducible repeat' (first | assumption | apply ev_setFld | (refine ev_when ?_ _ _ (fun _ _ => ?_)) | apply ev_limitCut | apply ev_ite)

/-! Pads -/

theorem ev_contRise {s₀ s : State} (h : Evolves s₀ s) (c : Nat) : Evolves s₀ (State.contRise s c) := by
  unfold State.contRise
  with_reducible repeat' (first | assumption | apply ev_setPd | apply ev_setCls | apply ev_setActive)

theorem ev_padCause {s₀ s : State} (h : Evolves s₀ s) (c : Nat) (cause : Nat) : Evolves s₀ (State.padCause s c cause) := by
  unfold State.padCause
  with_reducible repeat' (first | assumption | apply ev_hwSet | apply ev_setCauses | apply ev_setPd | (refine ev_when ?_ _ _ (fun _ _ => ?_)) | apply ev_setFld | apply ev_padState | apply ev_emit | apply ev_contRise | apply ev_raiseFault)

theorem ev_holdMismatch {s₀ s : State} (h : Evolves s₀ s) (c : Nat) (high : Bool) : Evolves s₀ (State.holdMismatch s c high) := by
  unfold State.holdMismatch
  with_reducible repeat' (first | assumption | (refine ev_each ?_ _ _ (fun _ _ _ => ?_)) | apply ev_setPd | apply ev_ite | split)

theorem ev_padTestWrite {s₀ s : State} (h : Evolves s₀ s) (c : Nat) (v : Word) : Evolves s₀ (State.padTestWrite s c v) := by
  unfold State.padTestWrite
  with_reducible repeat' (first | assumption | apply ev_setPd | apply ev_setFld | apply ev_padState | apply ev_ite)

theorem ev_pulseStart {s₀ s : State} (h : Evolves s₀ s) (c : Nat) : Evolves s₀ (State.pulseStart s c) := by
  unfold State.pulseStart
  with_reducible repeat' (first | assumption | apply ev_huskAct | apply ev_setPd | apply ev_setHsk | apply ev_setFld | apply ev_bump | apply ev_padEdge | apply ev_ite)

theorem ev_testTick {s₀ s : State} (h : Evolves s₀ s) (c : Nat) : Evolves s₀ (State.testTick s c) := by
  unfold State.testTick
  with_reducible repeat' (first | assumption | apply ev_pulseStart | apply ev_pulseEnd | apply ev_ite)

theorem ev_testAll {s₀ s : State} (h : Evolves s₀ s) : Evolves s₀ (State.testAll s) := by
  unfold State.testAll
  with_reducible repeat' (first | assumption | (refine ev_each ?_ _ _ (fun _ _ _ => ?_)) | apply ev_testTick)

/-! Classifier -/

theorem ev_coolOver {s₀ s : State} (h : Evolves s₀ s) (c : Nat) : Evolves s₀ (State.coolOver s c) := by
  unfold State.coolOver
  with_reducible repeat' (first | assumption | apply ev_setFld | apply ev_setBankBit | apply ev_cause | apply ev_request | apply ev_retry | apply ev_ite)

theorem ev_holdCheck {s₀ s : State} (h : Evolves s₀ s) (c : Nat) : Evolves s₀ (State.holdCheck s c) := by
  unfold State.holdCheck
  with_reducible repeat' (first | assumption | apply ev_coolOver | apply ev_ite)

theorem ev_dropRreq {s₀ s : State} (h : Evolves s₀ s) (c : Nat) : Evolves s₀ (State.dropRreq s c) := by
  unfold State.dropRreq
  with_reducible repeat' (first | assumption | apply ev_setBankBit | apply ev_setAsk)

theorem ev_retryDecision {s₀ s : State} (h : Evolves s₀ s) (v : Word) : Evolves s₀ (State.retryDecision s v) := by
  unfold State.retryDecision
  with_reducible repeat' (first | assumption | apply ev_setFld | apply ev_dropRreq | apply ev_retry | apply ev_logCls | apply ev_failRetry | apply ev_lateDecision | apply ev_bump | apply ev_ite)

theorem ev_retireClear {s₀ s : State} (h : Evolves s₀ s) (v : Word) : Evolves s₀ (State.retireClear s v) := by
  unfold State.retireClear
  with_reducible repeat' (first | assumption | apply ev_setFld | apply ev_setBankBit | (refine ev_when ?_ _ _ (fun _ _ => ?_)) | apply ev_padState | apply ev_setPd | apply ev_testAbort | apply ev_setBucket | apply ev_logCls | apply ev_ite)

/-! AdcOps -/

theorem ev_gainChange {s₀ s : State} (h : Evolves s₀ s) (j : Nat) (c : Nat) : Evolves s₀ (State.gainChange s j c) := by
  unfold State.gainChange
  with_reducible repeat' (first | assumption | apply ev_bump | apply ev_mk)

theorem ev_setGain {s₀ s : State} (h : Evolves s₀ s) (j : Nat) (g : Nat) (c : Nat) : Evolves s₀ (State.setGain s j g c) := by
  unfold State.setGain
  with_reducible repeat' (first | assumption | apply ev_setFld | apply ev_gainChange | apply ev_ite)

theorem ev_namedGain {s₀ s : State} (h : Evolves s₀ s) (j g : Nat) : Evolves s₀ (s.namedGain j g).2 := by
  unfold State.namedGain
  split
  · exact h
  split <;> exact h
theorem ev_namedGain_eq {s₀ s : State} (h : Evolves s₀ s) {j g v : Nat} {t : State} (e : s.namedGain j g = (v, t)) : Evolves s₀ t := by
  have := ev_namedGain h j g; rw [e] at this; exact this

theorem ev_gainAsk {s₀ s : State} (h : Evolves s₀ s) (j : Nat) (g : Nat) (t : Nat) : Evolves s₀ (State.gainAsk s j g t) := by
  unfold State.gainAsk
  with_reducible repeat' (first | assumption | apply ev_mk)

theorem ev_gainTake {s₀ s : State} (h : Evolves s₀ s) (j : Nat) : Evolves s₀ (s.gainTake j) := by
  unfold State.gainTake
  split
  · exact h
  split
  · exact ev_setGain (ev_mk h) _ _ _
  · exact h

theorem ev_gainDue {s₀ s : State} (h : Evolves s₀ s) (a : Nat) : Evolves s₀ (s.gainDue a) := by
  have step {t : State} (ht : Evolves s₀ t) : Evolves s₀ (match (t.ad a).due with
      | none => t
      | some d =>
        let i := t.fld ADC_CTRL_IDX a
        let j := t.fld ADC_SEQ0_SRC a i
        if decide (d ≤ t.now) && (t.ad a).gainFor != some d && decide (j < 64) && !t.converting j then
          let (g, t) := t.namedGain j (t.fld ADC_SEQ0_GAIN a i)
          (t.setGain j g t.now).setAd a { t.ad a with gainFor := some d }
        else t) := by
    split
    · exact ht
    · dsimp only
      split
      · exact ev_setAd (ev_setGain (ev_namedGain ht _ _) _ _ _) _ _
      · exact ht
  unfold State.gainDue
  refine step ?_
  split
  · split
    · exact ev_setAd (ev_setGain (ev_namedGain h _ _) _ _ _) _ _
    · exact h
  · exact h

theorem ev_adcEnter {s₀ s : State} (h : Evolves s₀ s) (a : Nat) (t : Nat) : Evolves s₀ (State.adcEnter s a t) := by
  unfold State.adcEnter
  with_reducible repeat' (first | assumption | apply ev_setAd)

theorem ev_adcStart {s₀ s : State} (h : Evolves s₀ s) (a : Nat) : Evolves s₀ (State.adcStart s a) := by
  unfold State.adcStart
  with_reducible repeat' (first | assumption | apply ev_setFld | apply ev_taskClear | apply ev_adcEnter)

theorem ev_traceFlush {s₀ s : State} (h : Evolves s₀ s) (a : Nat) (cont : Bool) : Evolves s₀ (s.traceFlush a cont) := by
  unfold State.traceFlush
  dsimp only
  split
  · exact h
  · exact ev_emit (ev_setAd h _ _) _

theorem ev_adcStop {s₀ s : State} (h : Evolves s₀ s) (a : Nat) : Evolves s₀ (s.adcStop a) := by
  unfold State.adcStop
  dsimp only
  have hs (x : Adc) : Evolves s₀ (((s.setFld ADC_CTRL_STATE 0 a).taskClear (tiAdc a)).setAd a x) :=
    ev_setAd (ev_taskClear (ev_setFld h _ _ _ _) _) _ _
  split
  · exact hs _
  split
  · exact ev_setAd (hs _) _ _
  · exact ev_traceFlush (hs _) _ _

theorem ev_adcClrq {s₀ s : State} (h : Evolves s₀ s) (a : Nat) : Evolves s₀ (State.adcClrq s a) := by
  unfold State.adcClrq
  with_reducible repeat' (first | assumption | apply ev_setAd | apply ev_setFld)

theorem ev_adcCtl {s₀ s : State} (h : Evolves s₀ s) (a : Nat) (v : Word) : Evolves s₀ (State.adcCtl s a v) := by
  unfold State.adcCtl
  with_reducible repeat' (first | assumption | (refine ev_when ?_ _ _ (fun _ _ => ?_)) | apply ev_adcClrq | apply ev_adcStart | apply ev_adcStop | apply ev_ite)

theorem ev_adcAdvance {s₀ s : State} (h : Evolves s₀ s) (a : Nat) (start : Nat) : Evolves s₀ (State.adcAdvance s a start) := by
  unfold State.adcAdvance
  with_reducible repeat' (first | assumption | apply ev_setFld | apply ev_cause | apply ev_adcEnter | apply ev_ite)

theorem ev_traceAdd {s₀ s : State} (h : Evolves s₀ s) (a : Nat) (c : Conv) (code : Nat) (flags : Nat) : Evolves s₀ (State.traceAdd s a c code flags) := by
  unfold State.traceAdd
  with_reducible repeat' (first | assumption | (refine ev_when ?_ _ _ (fun _ _ => ?_)) | apply ev_traceFlush | apply ev_setAd)

theorem ev_adcStore {s₀ s : State} (h : Evolves s₀ s) (a : Nat) (c : Conv) (code : Nat) (flags : Nat) : Evolves s₀ (State.adcStore s a c code flags) := by
  unfold State.adcStore
  with_reducible repeat' (first | assumption | apply ev_bump | apply ev_setAd | apply ev_cause | apply ev_setFld | (refine ev_when ?_ _ _ (fun _ _ => ?_)) | apply ev_emit | apply ev_traceAdd | apply ev_traceFlush | apply ev_ite)

theorem ev_adcForm {s₀ s : State} (h : Evolves s₀ s) (a : Nat) (c : Conv) (code : Nat) (flags : Nat) : Evolves s₀ (State.adcForm s a c code flags) := by
  unfold State.adcForm
  with_reducible repeat' (first | assumption | apply ev_setAd)

theorem ev_adcOut {s₀ s : State} (h : Evolves s₀ s) (a : Nat) : Evolves s₀ (State.adcOut s a) := by
  unfold State.adcOut
  with_reducible repeat' (first | assumption | apply ev_setAd | apply ev_adcStore | (refine ev_when ?_ _ _ (fun _ _ => ?_)) | apply ev_traceFlush | apply ev_ite | split)

theorem ev_adcTick {s₀ s : State} (h : Evolves s₀ s) : Evolves s₀ (State.adcTick s) := by
  unfold State.adcTick
  with_reducible repeat' (first | assumption | (refine ev_each ?_ _ _ (fun _ _ _ => ?_)) | apply ev_adcOut | apply ev_gainTake | apply ev_gainDue)

theorem ev_autoRange {s₀ s : State} (h : Evolves s₀ s) (j : Nat) (code : Nat) : Evolves s₀ (State.autoRange s j code) := by
  unfold State.autoRange
  with_reducible repeat' (first | assumption | apply ev_gainAsk | apply ev_ite)

theorem ev_injSee {s₀ s : State} (h : Evolves s₀ s) (j : Nat) (tb : Nat) (code : Nat) : Evolves s₀ (State.injSee s j tb code) := by
  unfold State.injSee
  with_reducible repeat' (first | assumption | (refine ev_each ?_ _ _ (fun _ _ _ => ?_)) | apply ev_setCh | apply ev_ite | split)

theorem ev_adcResult {s₀ s : State} (h : Evolves s₀ s) (a : Nat) (c : Conv) (raw : Nat) : Evolves s₀ (State.adcResult s a c raw) := by
  unfold State.adcResult
  with_reducible repeat' (first | assumption | (refine ev_when ?_ _ _ (fun _ _ => ?_)) | apply ev_bump | apply ev_cause | apply ev_injSee | apply ev_adcForm | apply ev_autoRange | apply ev_gainTake)

theorem ev_ofsTrack {s₀ s : State} (h : Evolves s₀ s) (a g : Nat) (m : Int) : Evolves s₀ (s.ofsTrack a g m) := by
  unfold State.ofsTrack
  dsimp only
  generalize unsignedOf 16 (if s.calOfs a g < m then s.calOfs a g + (s.fld ADC_CALLIM_LIM a : Int) else s.calOfs a g - (s.fld ADC_CALLIM_LIM a : Int)) = w
  split
  · split
    · exact ev_setFld h _ _ _ _
    · exact ev_cause (ev_raiseFault (ev_setAd (ev_setFld h _ _ _ _) _ _) _ _) _ _ _
  · exact ev_setFld h _ _ _ _

theorem ev_shadowResult {s₀ s : State} (h : Evolves s₀ s) (a : Nat) (c : Conv) (raw : Nat) : Evolves s₀ (State.shadowResult s a c raw) := by
  unfold State.shadowResult
  with_reducible repeat' (first | assumption | apply ev_bump | (refine ev_when ?_ _ _ (fun _ _ => ?_)) | apply ev_cause | apply ev_adcForm | apply ev_ofsTrack | apply ev_setFld | apply ev_ite)

theorem ev_caltrkSwitch {s₀ s : State} (h : Evolves s₀ s) (a : Nat) : Evolves s₀ (State.caltrkSwitch s a) := by
  unfold State.caltrkSwitch
  with_reducible repeat' (first | assumption | apply ev_switchInst | apply ev_loadOfs | apply ev_ite)

theorem ev_convStart {s₀ s : State} (h : Evolves s₀ s) (a : Nat) (kind : Nat) (j : Nat) (gain : Nat) (tsrc : Nat) (entry : Nat) (flags : Nat) (final : Bool) : Evolves s₀ (State.convStart s a kind j gain tsrc entry flags final) := by
  unfold State.convStart
  with_reducible repeat' (first | assumption | (refine ev_when ?_ _ _ (fun _ _ => ?_)) | apply ev_setAd | apply ev_mk)

theorem ev_convPick {s₀ s : State} (h : Evolves s₀ s) (a : Nat) : Evolves s₀ (s.convPick a) := by
  have hg := ev_gainDue h a
  unfold State.convPick
  dsimp only
  split
  · split
    · exact hg
    · exact ev_setAd (ev_convStart hg _ _ _ _ _ _ _ _) _ _
  · split
    · exact hg
    split
    · exact hg
    · refine ev_setAd (ev_convStart (ev_when hg _ _ fun _ ht => ev_bump ht _ _ _) _ _ _ _ _ _ _ _) _ _

theorem ev_convEnd {s₀ s : State} (h : Evolves s₀ s) (a : Nat) (c : Conv) (raw : Nat) : Evolves s₀ (State.convEnd s a c raw) := by
  unfold State.convEnd
  with_reducible repeat' (first | assumption | apply ev_setAd | apply ev_shadowResult | apply ev_adcResult | apply ev_setFld | (refine ev_when ?_ _ _ (fun _ _ => ?_)) | apply ev_adcAdvance | apply ev_caltrkSwitch | apply ev_ite)

theorem ev_shadowStart {s₀ s : State} (h : Evolves s₀ s) (a : Nat) : Evolves s₀ (State.shadowStart s a) := by
  unfold State.shadowStart
  with_reducible repeat' (first | assumption | apply ev_setAd | apply ev_bump | apply ev_convStart | apply ev_ite | split | dsimp only)

theorem ev_shadowDue {s₀ s : State} (h : Evolves s₀ s) (a : Nat) : Evolves s₀ (State.shadowDue s a) := by
  unfold State.shadowDue
  with_reducible repeat' (first | assumption | apply ev_setAd | apply ev_setFld | apply ev_cause | apply ev_request | apply ev_ite)

theorem ev_calCommit {s₀ s : State} (h : Evolves s₀ s) (a : Nat) : Evolves s₀ (State.calCommit s a) := by
  unfold State.calCommit
  with_reducible repeat' (first | assumption | apply ev_setFld | apply ev_lateDecision | (refine ev_each ?_ _ _ (fun _ _ _ => ?_)) | apply ev_setAd | apply ev_setAsk | apply ev_ite)

theorem ev_urgWrite {s₀ s : State} (h : Evolves s₀ s) (a : Nat) (v : Word) : Evolves s₀ (State.urgWrite s a v) := by
  unfold State.urgWrite
  with_reducible repeat' (first | assumption | apply ev_bump | apply ev_setFld | apply ev_setAd | apply ev_ite)

theorem ev_gainWrite {s₀ s : State} (h : Evolves s₀ s) (j : Nat) (v : Word) : Evolves s₀ (State.gainWrite s j v) := by
  unfold State.gainWrite
  with_reducible repeat' (first | assumption | apply ev_gainAsk | apply ev_gainTake | apply ev_ite)

theorem ev_tdacWrite {s₀ s : State} (h : Evolves s₀ s) (v : Word) : Evolves s₀ (State.tdacWrite s v) := by
  unfold State.tdacWrite
  with_reducible repeat' (first | assumption | apply ev_setFld | apply ev_setFlag | apply ev_gainChange | apply ev_ite)

theorem ev_resRead {s₀ s : State} (h : Evolves s₀ s) (by_ : Nat) (a : Nat) : Evolves s₀ (State.resRead s by_ a) := by
  unfold State.resRead
  with_reducible repeat' (first | assumption | apply ev_setAd | apply ev_setFld | (refine ev_each ?_ _ _ (fun _ _ _ => ?_)) | apply ev_busOk | apply ev_mk)

/-! FnOps -/

theorem ev_fnSwitch {s₀ s : State} (h : Evolves s₀ s) (fn : Nat) (k : Nat) : Evolves s₀ (State.fnSwitch s fn k) := by
  unfold State.fnSwitch
  with_reducible repeat' (first | assumption | apply ev_caltrkSwitch | apply ev_switchInst | apply ev_ite)

theorem ev_fnChange {s₀ s : State} (h : Evolves s₀ s) (fn : Nat) (new : Bool) : Evolves s₀ (s.fnChange fn new) := by
  unfold State.fnChange
  dsimp only
  have hs : Evolves s₀ { s with switched := (List.range 128).foldl (fun t k => tput false t (fn * 128 + k) false) s.switched } := ev_mk h
  split
  · exact ev_setFld hs _ _ _ _
  · exact ev_fnSettle (ev_each (ev_setFld hs _ _ _ _) _ _ fun _ _ ht => ev_fnSwitch ht _ _) _

theorem ev_fnModes {s₀ s : State} (h : Evolves s₀ s) (new : Nat) : Evolves s₀ (State.fnModes s new) := by
  unfold State.fnModes
  with_reducible repeat' (first | assumption | apply ev_setFld | (refine ev_each ?_ _ _ (fun _ _ _ => ?_)) | apply ev_fnChange)

theorem ev_fnmode {s₀ s : State} (h : Evolves s₀ s) (v : Word) : Evolves s₀ (State.fnmode s v) := by
  unfold State.fnmode
  with_reducible repeat' (first | assumption | apply ev_fnModes)

theorem ev_fnFallback {s₀ s : State} (h : Evolves s₀ s) (fn : Nat) (k : Nat) : Evolves s₀ (State.fnFallback s fn k) := by
  unfold State.fnFallback
  with_reducible repeat' (first | assumption | apply ev_setAsk | apply ev_raiseFault | apply ev_setFld | apply ev_clearCor | apply ev_setBankBit | apply ev_logCls | apply ev_failRetry | apply ev_loadOfs | apply ev_setAd | apply ev_jrecBody | (refine ev_when ?_ _ _ (fun _ _ => ?_)) | apply ev_ite | split)

/-! FaultPins -/

theorem ev_releaseLatch {s₀ s : State} (h : Evolves s₀ s) (i : Nat) : Evolves s₀ (State.releaseLatch s i) := by
  unfold State.releaseLatch
  with_reducible repeat' (first | assumption | apply ev_setFld | apply ev_setFco | apply ev_logOther | apply ev_fresh | (refine ev_fresh_eq ?_ (by assumption)) | apply ev_ite | split)

theorem ev_asyncCheck {s₀ s : State} (h : Evolves s₀ s) : Evolves s₀ (State.asyncCheck s) := by
  unfold State.asyncCheck
  with_reducible repeat' (first | assumption | apply ev_setFco | apply ev_ite)

theorem ev_safeClear {s₀ s : State} (h : Evolves s₀ s) (v : Word) : Evolves s₀ (State.safeClear s v) := by
  unfold State.safeClear
  with_reducible repeat' (first | assumption | (refine ev_each ?_ _ _ (fun _ _ _ => ?_)) | apply ev_releaseLatch | apply ev_asyncCheck | apply ev_aliveUpdate)

theorem ev_sevWrite {s₀ s : State} (h : Evolves s₀ s) (k : Nat) (v : Word) : Evolves s₀ (State.sevWrite s k v) := by
  unfold State.sevWrite
  with_reducible repeat' (first | assumption | apply ev_setFld | apply ev_ite)

theorem ev_kaViolation {s₀ s : State} (h : Evolves s₀ s) (kind : Nat) : Evolves s₀ (State.kaViolation s kind) := by
  unfold State.kaViolation
  with_reducible repeat' (first | assumption | apply ev_setFld | apply ev_bump | apply ev_cause | apply ev_setFco | apply ev_raiseFault | apply ev_aliveUpdate)

theorem ev_kickAccept {s₀ s : State} (h : Evolves s₀ s) (inWindow : Bool) : Evolves s₀ (State.kickAccept s inWindow) := by
  unfold State.kickAccept
  with_reducible repeat' (first | assumption | apply ev_setFld | apply ev_setFco | (refine ev_when ?_ _ _ (fun _ _ => ?_)) | apply ev_aliveUpdate)

theorem ev_kick {s₀ s : State} (h : Evolves s₀ s) (v : Word) : Evolves s₀ (State.kick s v) := by
  unfold State.kick
  with_reducible repeat' (first | assumption | apply ev_kaViolation | apply ev_kickAccept | apply ev_ite)

theorem ev_fcoLogRead {s₀ s : State} (h : Evolves s₀ s) (by_ : Agent) : Evolves s₀ (State.fcoLogRead s by_) := by
  unfold State.fcoLogRead
  with_reducible repeat' (first | assumption | apply ev_setFco | apply ev_wr | apply ev_latchRead)

/-! Image -/

theorem ev_loadedAngle {s₀ s : State} (h : Evolves s₀ s) : Evolves s₀ (State.loadedAngle s) := by
  unfold State.loadedAngle
  with_reducible repeat' (first | assumption | (refine ev_each ?_ _ _ (fun _ _ _ => ?_)) | apply ev_setTm | apply ev_loadOfs | apply ev_setAd | (refine ev_when ?_ _ _ (fun _ _ => ?_)) | apply ev_adcStart | apply ev_mk)

theorem ev_loadedUnits {s₀ s : State} (h : Evolves s₀ s) : Evolves s₀ (State.loadedUnits s) := by
  unfold State.loadedUnits
  with_reducible repeat' (first | assumption | (refine ev_each ?_ _ _ (fun _ _ _ => ?_)) | (refine ev_when ?_ _ _ (fun _ _ => ?_)) | apply ev_padState | apply ev_setFlag | apply ev_linesIdle | apply ev_pqStart | apply ev_cpStart | apply ev_setFld | apply ev_jsEnable | apply ev_ite)

theorem ev_loaded {s₀ s : State} (h : Evolves s₀ s) : Evolves s₀ (State.loaded s) := by
  unfold State.loaded
  with_reducible repeat' (first | assumption | apply ev_setFld | apply ev_loadedAngle | apply ev_loadedUnits | apply ev_fuseCheck | (refine ev_when ?_ _ _ (fun _ _ => ?_)) | apply ev_setFco | apply ev_calFaults | apply ev_aliveUpdate | apply ev_mk)

theorem ev_acnClear {s₀ s : State} (h : Evolves s₀ s) : Evolves s₀ (State.acnClear s) := by
  unfold State.acnClear
  with_reducible repeat' (first | assumption | (refine ev_each ?_ _ _ (fun _ _ _ => ?_)) | apply ev_imgPut)

theorem ev_burn {s₀ s : State} (h : Evolves s₀ s) (b : Nat → Nat) : Evolves s₀ (State.burn s b) := by
  unfold State.burn
  with_reducible repeat' (first | assumption | (refine ev_when ?_ _ _ (fun _ _ => ?_)) | apply ev_setFld)

theorem ev_fullApply {s₀ s : State} (h : Evolves s₀ s) (b : Nat → Nat) (slot : Nat) : Evolves s₀ (State.fullApply s b slot) := by
  unfold State.fullApply
  with_reducible repeat' (first | assumption | apply ev_acnClear | (refine ev_each ?_ _ _ (fun _ _ _ => ?_)) | apply ev_imgRecs | apply ev_imgKeys | apply ev_burn | apply ev_setFld | apply ev_loaded | apply ev_mk)

theorem ev_loadFailed {s₀ s : State} (h : Evolves s₀ s) : Evolves s₀ (State.loadFailed s) := by
  unfold State.loadFailed
  with_reducible repeat' (first | assumption | apply ev_setFld | apply ev_putCore)

theorem ev_bootLoad {s₀ s : State} (h : Evolves s₀ s) (errPri : Bool) (errFb : Bool) : Evolves s₀ (State.bootLoad s errPri errFb) := by
  unfold State.bootLoad
  with_reducible repeat' (first | assumption | apply ev_setFld | apply ev_cause | apply ev_showErr | apply ev_fullApply | apply ev_acnClear | apply ev_loadFailed | apply ev_ite)

theorem ev_recoveryGo {s₀ s : State} (h : Evolves s₀ s) (v : Word) : Evolves s₀ (State.recoveryGo s v) := by
  unfold State.recoveryGo
  with_reducible repeat' (first | assumption | apply ev_setFld | apply ev_cause | apply ev_showErr | apply ev_fullApply | apply ev_acnClear | apply ev_ite)

theorem ev_deltaEnd {s₀ s : State} (h : Evolves s₀ s) (res : Nat) : Evolves s₀ (State.deltaEnd s res) := by
  unfold State.deltaEnd
  with_reducible repeat' (first | assumption | apply ev_setFld | apply ev_mk)

theorem ev_deltaRefuse {s₀ s : State} (h : Evolves s₀ s) (res : Nat) : Evolves s₀ (State.deltaRefuse s res) := by
  unfold State.deltaRefuse
  with_reducible repeat' (first | assumption | apply ev_deltaEnd | apply ev_raiseFault)

theorem ev_dctlWrite {s₀ s : State} (h : Evolves s₀ s) (v : Word) : Evolves s₀ (s.dctlWrite v) := by
  unfold State.dctlWrite
  have hs := ev_setFld h IMG_DCTL_WAIT (bitsOf v 16 10) 0 0
  dsimp only
  split
  · exact hs
  split
  · exact ev_deltaEnd hs _
  split
  · exact ev_deltaRefuse (ev_showErr hs _) _
  · exact ev_mk (ev_setFld (ev_setFld hs _ _ _ _) _ _ _ _)

theorem ev_switchSect {s₀ s : State} (h : Evolves s₀ s) (x : Sect) : Evolves s₀ (s.switchSect x) := by
  unfold State.switchSect
  dsimp only
  have hs (l : List Nat) (g r : List (Nat × Nat)) : Evolves s₀ (((s.each l fun s q => s.linesFree q).imgRecs g).imgRecs r) :=
    ev_imgRecs (ev_imgRecs (ev_each h _ _ fun _ _ ht => ev_linesFree ht _) _) _
  split
  · exact ev_imgKeys (hs _ _ _) _
  split
  · exact ev_mk (hs _ _ _)
  split
  · exact ev_fnModes (ev_setFld (hs _ _ _) _ _ _ _) _
  split
  · exact ev_each (hs _ _ _) _ _ fun _ _ ht => ev_linesIdle ht _
  · exact hs _ _ _

theorem ev_deltaSwitch {s₀ s : State} (h : Evolves s₀ s) : Evolves s₀ (s.deltaSwitch) := by
  unfold State.deltaSwitch
  split
  · exact h
  split
  · exact ev_emit (ev_deltaEnd (ev_bump (ev_setFld (ev_mk (ev_each h _ _ fun _ _ ht => ev_switchSect ht _)) _ _ _ _) _ _ _) _) _
  · exact h

theorem ev_deltaExpire {s₀ s : State} (h : Evolves s₀ s) : Evolves s₀ (State.deltaExpire s) := by
  unfold State.deltaExpire
  with_reducible repeat' (first | assumption | apply ev_deltaEnd | apply ev_ite | split)

/-! AcornOps -/

theorem ev_setRoll {s₀ s : State} (h : Evolves s₀ s) (r : Roll) : Evolves s₀ (State.setRoll s r) := by
  unfold State.setRoll
  with_reducible repeat' (first | assumption | apply ev_mk)

theorem ev_setAcn {s₀ s : State} (h : Evolves s₀ s) (a : Acn) : Evolves s₀ (State.setAcn s a) := by
  unfold State.setAcn
  with_reducible repeat' (first | assumption | apply ev_mk)

theorem ev_recShow {s₀ s : State} (h : Evolves s₀ s) : Evolves s₀ (State.recShow s) := by
  unfold State.recShow
  with_reducible repeat' (first | assumption | apply ev_setFlag | apply ev_setFld)

theorem ev_handOver {s₀ s : State} (h : Evolves s₀ s) : Evolves s₀ (State.handOver s) := by
  unfold State.handOver
  with_reducible repeat' (first | assumption | apply ev_setRoll | apply ev_wr | apply ev_setFld | apply ev_recShow)

theorem ev_rollPulse {s₀ s : State} (h : Evolves s₀ s) (back : Bool) : Evolves s₀ (State.rollPulse s back) := by
  unfold State.rollPulse
  with_reducible repeat' (first | assumption | apply ev_setRoll | apply ev_setFlag | apply ev_setFld | apply ev_bump | apply ev_ite)

theorem ev_rollSeal {s₀ s : State} (h : Evolves s₀ s) (ended : Bool) (wake : Bool) : Evolves s₀ (State.rollSeal s ended wake) := by
  unfold State.rollSeal
  with_reducible repeat' (first | assumption | apply ev_setRoll | apply ev_setFld | apply ev_setFlag | apply ev_recShow)

theorem ev_restore {s₀ s : State} (h : Evolves s₀ s) (n : Nat) (tidx : Nat) (rev : Nat) (phase : Bool) : Evolves s₀ (State.restore s n tidx rev phase) := by
  unfold State.restore
  with_reducible repeat' (first | assumption | apply ev_setEntry | apply ev_setTr | apply ev_loadRebase | apply ev_setFld | apply ev_trkGo | (refine ev_when ?_ _ _ (fun _ _ => ?_)) | apply ev_request | apply ev_rebaseReact)

theorem ev_recPresent {s₀ s : State} (h : Evolves s₀ s) : Evolves s₀ (State.recPresent s) := by
  unfold State.recPresent
  with_reducible repeat' (first | assumption | apply ev_wr | (refine ev_when ?_ _ _ (fun _ _ => ?_)) | apply ev_restore | apply ev_setRoll | apply ev_recShow | apply ev_ite)

theorem ev_acnLogCause {s₀ s : State} (h : Evolves s₀ s) : Evolves s₀ (State.acnLogCause s) := by
  unfold State.acnLogCause
  with_reducible repeat' (first | assumption | apply ev_cause | apply ev_ite)

theorem ev_wakeAt {s₀ s : State} (h : Evolves s₀ s) (pin : Nat) (prog : Nat) : Evolves s₀ (State.wakeAt s pin prog) := by
  unfold State.wakeAt
  with_reducible repeat' (first | assumption | apply ev_setFld | (refine ev_when ?_ _ _ (fun _ _ => ?_)) | apply ev_rollSeal | apply ev_mk)

theorem ev_acnZero {s₀ s : State} (h : Evolves s₀ s) : Evolves s₀ (State.acnZero s) := by
  unfold State.acnZero
  with_reducible repeat' (first | assumption | (refine ev_each ?_ _ _ (fun _ _ _ => ?_)) | apply ev_wr)

theorem ev_acnStart {s₀ s : State} (h : Evolves s₀ s) : Evolves s₀ (State.acnStart s) := by
  unfold State.acnStart
  with_reducible repeat' (first | assumption | apply ev_bump | (refine ev_when ?_ _ _ (fun _ _ => ?_)) | apply ev_acnZero | apply ev_setAcn | apply ev_setFld | apply ev_ite)

theorem ev_acnNext {s₀ s : State} (h : Evolves s₀ s) (pc : Nat) : Evolves s₀ (State.acnNext s pc) := by
  unfold State.acnNext
  with_reducible repeat' (first | assumption | apply ev_setAcn | apply ev_hwFlag | apply ev_ite | split)

theorem ev_acnRun {s₀ s : State} (h : Evolves s₀ s) (op : Nat) (f : State → Nat → Word → State) (hf : ∀ t p w, Evolves s₀ t → Evolves s₀ (f t p w)) :
    Evolves s₀ (s.acnRun op f) := by
  unfold State.acnRun
  split
  · exact h
  · dsimp only
    split
    · exact hf _ _ _ h
    · exact h

theorem ev_setAcnC {s₀ s : State} (h : Evolves s₀ s) (b : Bool) : Evolves s₀ (State.setAcnC s b) := by
  unfold State.setAcnC
  with_reducible repeat' (first | assumption | apply ev_setFlag)

theorem ev_setAcnCnt {s₀ s : State} (h : Evolves s₀ s) (k : Nat) (v : Nat) : Evolves s₀ (State.setAcnCnt s k v) := by
  unfold State.setAcnCnt
  with_reducible repeat' (first | assumption | apply ev_wr)

theorem ev_acnRecord {s₀ s : State} (h : Evolves s₀ s) (pc : Nat) (ch : Nat) (value : Nat) : Evolves s₀ (State.acnRecord s pc ch value) := by
  unfold State.acnRecord
  with_reducible repeat' (first | assumption | apply ev_hwFlag | apply ev_setAcn | apply ev_acnLogCause | apply ev_fresh | (refine ev_fresh_eq ?_ (by assumption)) | apply ev_ite)

theorem ev_acnLogRead {s₀ s : State} (h : Evolves s₀ s) (by_ : Agent) : Evolves s₀ (State.acnLogRead s by_) := by
  unfold State.acnLogRead
  with_reducible repeat' (first | assumption | apply ev_setAcn | apply ev_wr | apply ev_latchRead)

theorem twf_resetRegs : twf 0 resetRegs = true := by decide
theorem twf_foldl_tput (l : List (Nat × Word)) (m : Table Word) (h : twf 0 m = true) :
    twf 0 (l.foldl (fun t p => tput 0 t p.1 p.2) m) = true := by
  induction l generalizing m with
  | nil => exact h
  | cons p l ih => exact ih _ (twf_tput _ _ _ _ h)
/-- Registers after a main-domain reset are in canonical form. -/
theorem twf_regsAfter (s : State) : twf 0 s.regsAfter = true := twf_foldl_tput _ _ (twf_tdel _ _ _ twf_resetRegs)

theorem ev_fuses {s₀ s : State} (h : Evolves s₀ s) (old : State) : Evolves s₀ (State.fuses s old) := by
  unfold State.fuses
  with_reducible repeat' (first | assumption | apply ev_setFld | apply ev_wr)

theorem ev_newChallenge {s₀ s : State} (h : Evolves s₀ s) : Evolves s₀ s.newChallenge := ev_mk (ev_fresh h 128)

theorem ev_retain {s₀ s : State} (h : Evolves s₀ s) (old : State) : Evolves s₀ (State.retain s old) := by
  unfold State.retain
  with_reducible repeat' (first | assumption | (refine ev_each ?_ _ _ (fun _ _ _ => ?_)) | apply ev_setBankBit | apply ev_setFld | apply ev_padState)

/-- A reset of the main domain sets TB and keeps what `Evolves` names beside it. -/
theorem ev_resetMain {s₀ s : State} (h : Evolves s₀ s) (cause : Nat) (por warm : Bool) (tb : Nat) :
    Evolves { s₀ with tb := BitVec.ofNat 64 tb } (s.resetMain cause por warm tb) := by
  have hb := ev_calBreak h
  unfold State.resetMain
  dsimp only
  refine ev_newBase (ev_acnLogCause (ev_calRead (ev_newChallenge (ev_when (ev_when (ev_when ?_ _ _ fun _ ht => ?_) _ _ fun _ ht => ?_) _ _ fun _ ht => ?_)) _))
  · refine ev_wr (ev_fuses ?_ _) _ _
    exact ⟨rfl, hb.2, hb.3, hb.4, fun _ => twf_regsAfter s, fun _ => rfl, fun _ => rfl, hb.8, hb.9⟩
  · exact ev_retain ht _
  · exact ev_each (ev_setFco (ev_setFld (ev_each ht _ _ fun _ _ hu => ev_setBankBit (ev_setBankBit hu _ _ _) _ _ _) _ _ _ _) _) _ _
      fun _ _ hu => ev_setFld hu _ _ _ _
  · exact ev_recShow (ev_setRoll ht _)

/-- What a power-on of the Acorn domain keeps. -/
theorem kept_fields (s : State) : s.kept.tb = 0 ∧ s.kept.regs = resetRegs ∧ s.kept.sram = [] ∧ s.kept.tcm = []
    ∧ s.kept.flash = s.calBreak.flash ∧ s.kept.pwr = s.calBreak.pwr ∧ s.kept.sent = s.calBreak.sent
    ∧ s.kept.free = s.calBreak.free ∧ s.kept.pending = s.calBreak.pending := ⟨rfl, rfl, rfl, rfl, rfl, rfl, rfl, rfl, rfl⟩
theorem ev_kept {s₀ s : State} (h : Evolves s₀ s) : Evolves { s₀ with tb := 0 } s.kept := by
  have hb := ev_calBreak h
  obtain ⟨h1, h2, h3, h4, h5, h6, h7, h8, h9⟩ := kept_fields s
  refine ⟨h1, fun hr => h6.trans (hb.pwr hr), h5.trans hb.flash, h9.trans hb.pending, fun _ => ?_, fun _ => ?_, fun _ => ?_, ?_, ?_⟩
  · rw [h2]; exact twf_resetRegs
  · rw [h3]; rfl
  · rw [h4]; rfl
  · rw [h8]; exact hb.free
  · rw [h7]; exact hb.sent
theorem ev_resetAll {s₀ s : State} (h : Evolves s₀ s) : Evolves { s₀ with tb := 0 } s.resetAll := by
  have hn := ev_newBase (ev_calRead (ev_newChallenge (ev_fuses (ev_kept h) s)) true)
  have hp : s₀.pwr = .run → s.pwr = .run := h.pwr
  unfold State.resetAll
  generalize (State.calRead (State.newChallenge (State.fuses (State.kept s) s)) true).newBase = n at hn ⊢
  refine ⟨hn.1, fun hr => ?_, hn.3, hn.4, hn.5, hn.6, hn.7, hn.8, hn.9⟩
  have : s.pwr = .run := hp hr
  simp [this]

/-! Acorn -/

theorem ev_acnCtl {s₀ s : State} (h : Evolves s₀ s) (v : Word) : Evolves s₀ (State.acnCtl s v) := by
  unfold State.acnCtl
  with_reducible repeat' (first | assumption | apply ev_setRoll | apply ev_recShow | apply ev_ite)

/-! PowerOps -/

theorem ev_levelStarts {s₀ s : State} (h : Evolves s₀ s) (src : Nat) (data : Nat) : Evolves s₀ (State.levelStarts s src data) := by
  unfold State.levelStarts
  with_reducible repeat' (first | assumption | apply ev_setActive | apply ev_raiseFault | apply ev_ite)

theorem ev_levelEnds {s₀ s : State} (h : Evolves s₀ s) (src : Nat) : Evolves s₀ (State.levelEnds s src) := by
  unfold State.levelEnds
  with_reducible repeat' (first | assumption | apply ev_setActive | apply ev_asyncCheck | (refine ev_when ?_ _ _ (fun _ _ => ?_)) | apply ev_setFld)

theorem ev_linksDown {s₀ s : State} (h : Evolves s₀ s) : Evolves s₀ (State.linksDown s) := by
  unfold State.linksDown
  with_reducible repeat' (first | assumption | (refine ev_each ?_ _ _ (fun _ _ _ => ?_)) | apply ev_setFld | apply ev_mk)

theorem ev_slpWrite {s₀ s : State} (h : Evolves s₀ s) (v : Word) : Evolves s₀ (s.slpWrite v) := by
  unfold State.slpWrite
  have hs := ev_setFlag h SYS_SLPCTL_DEPTH (bitsOf v 8 1 == 1) 0 0
  dsimp only
  split
  · exact hs
  split
  · exact ev_mk (ev_setFld hs _ _ _ _)
  · exact ev_cause (ev_setFld hs _ _ _ _) _ _ _

theorem ev_lateTabs {s₀ s : State} (h : Evolves s₀ s) : Evolves s₀ (State.lateTabs s) := by
  unfold State.lateTabs
  with_reducible repeat' (first | assumption | (refine ev_each ?_ _ _ (fun _ _ _ => ?_)) | apply ev_setCh)

theorem ev_wakeBlocks {s₀ s : State} (h : Evolves s₀ s) : Evolves s₀ (State.wakeBlocks s) := by
  unfold State.wakeBlocks
  with_reducible repeat' (first | assumption | (refine ev_each ?_ _ _ (fun _ _ _ => ?_)) | apply ev_trkGo | apply ev_setTr | apply ev_setEn | apply ev_hwFlag | apply ev_linksDown)

theorem ev_holdRelease {s₀ s : State} (h : Evolves s₀ s) : Evolves s₀ (State.holdRelease s) := by
  unfold State.holdRelease
  with_reducible repeat' (first | assumption | apply ev_setFco | apply ev_setFld | apply ev_cause | apply ev_acnLogCause | apply ev_aliveUpdate)

/-! Power -/

/-- A warm reset keeps TB and leaves the main domain running. -/
theorem ev_warmReset {s₀ s : State} (h : Evolves s₀ s) (cause : Nat) : Evolves s₀ (s.warmReset cause) := by
  have e : BitVec.ofNat 64 s.now = s₀.tb := by
    rw [State.now, BitVec.ofNat_toNat, BitVec.setWidth_eq, h.tb]
  have hr : Evolves s₀ { s.resetMain cause false true s.now with pwr := .run } := by
    have hm := ev_resetMain h cause false true s.now
    generalize s.resetMain cause false true s.now = t at hm ⊢
    exact ⟨hm.1.trans e, fun _ => rfl, hm.3, hm.4, hm.5, hm.6, hm.7, hm.8, hm.9⟩
  unfold State.warmReset
  exact ev_acnLogCause hr

theorem ev_rstWrite {s₀ s : State} (h : Evolves s₀ s) (v : Word) : Evolves s₀ (State.rstWrite s v) := by
  unfold State.rstWrite
  with_reducible repeat' (first | assumption | apply ev_warmReset | apply ev_ite)

/-! Predictor -/

theorem ev_corCommit {s₀ s : State} (h : Evolves s₀ s) (n : Nat) : Evolves s₀ (State.corCommit s n) := by
  unfold State.corCommit
  with_reducible repeat' (first | assumption | apply ev_setFld | apply ev_lateDecision | apply ev_setTr | apply ev_setAsk | apply ev_ite)

theorem ev_pcmd {s₀ s : State} (h : Evolves s₀ s) (n : Nat) (v : Word) : Evolves s₀ (State.pcmd s n v) := by
  unfold State.pcmd
  with_reducible repeat' (first | assumption | (refine ev_when ?_ _ _ (fun _ _ => ?_)) | apply ev_corCommit | apply ev_clearCor)

theorem ev_corWrite {s₀ s : State} (h : Evolves s₀ s) (n j : Nat) (v : Word) : Evolves s₀ (s.corWrite n j v) := by
  unfold State.corWrite
  split
  · exact h
  · exact ev_setTr h _ _

theorem ev_mkPosWrite {s₀ s : State} (h : Evolves s₀ s) (m : Nat) (v : Word) : Evolves s₀ (s.mkPosWrite m v) := by
  unfold State.mkPosWrite
  split
  · exact ev_busErr h
  · exact ev_setFld (ev_setFld (ev_mk h) _ _ _ _) _ _ _ _

theorem ev_mkTake {s₀ s : State} (h : Evolves s₀ s) : Evolves s₀ (State.mkTake s) := by
  unfold State.mkTake
  with_reducible repeat' (first | assumption | apply ev_mk)

/-! PwmRun -/

theorem ev_pwmReload {s₀ s : State} (h : Evolves s₀ s) (c : Nat) (p : Pwm) : Evolves s₀ (State.pwmReload s c p) := by
  unfold State.pwmReload
  with_reducible repeat' (first | assumption | apply ev_pwmPass | apply ev_setCh | (refine ev_when ?_ _ _ (fun _ _ => ?_)) | apply ev_emit | apply ev_pwmIntent)

theorem ev_pwmShadow {s₀ s : State} (h : Evolves s₀ s) (c : Nat) (duty : Bool) (v : Word) : Evolves s₀ (State.pwmShadow s c duty v) := by
  unfold State.pwmShadow
  with_reducible repeat' (first | assumption | apply ev_setFld | apply ev_setCh | apply ev_ite)

theorem ev_pwmLock {s₀ s : State} (h : Evolves s₀ s) (c : Nat) (v : Word) : Evolves s₀ (State.pwmLock s c v) := by
  unfold State.pwmLock
  with_reducible repeat' (first | assumption | apply ev_setFld | apply ev_setCh | apply ev_ite)

theorem ev_injdly {s₀ s : State} (h : Evolves s₀ s) (c : Nat) (v : Word) : Evolves s₀ (State.injdly s c v) := by
  unfold State.injdly
  with_reducible repeat' (first | assumption | apply ev_setFld | apply ev_lateDecision | apply ev_setSFld | apply ev_setAsk | apply ev_ite)

/-! Timers -/

theorem ev_capRead {s₀ s : State} (h : Evolves s₀ s) (by_ : Agent) (t : Nat) : Evolves s₀ (State.capRead s by_ t) := by
  unfold State.capRead
  with_reducible repeat' (first | assumption | apply ev_setTm | apply ev_latchRead)

/-! ReadOps -/

theorem ev_present {s₀ s : State} (h : Evolves s₀ s) (by_ : Agent) (f : Fam) (n : Nat) (k : Nat) : Evolves s₀ (State.present s by_ f n k) := by
  unfold State.present
  with_reducible repeat' (first | assumption | apply ev_setFld | apply ev_setFlag | apply ev_wr | (refine ev_when ?_ _ _ (fun _ _ => ?_)) | apply ev_setWide | apply ev_store | apply ev_ite | split)

theorem ev_hqRead {s₀ s : State} (h : Evolves s₀ s) (p : Nat) : Evolves s₀ (s.hqRead p) := by
  unfold State.hqRead
  split
  · exact ev_busOk h _
  · have hf := ev_fresh h 32
    dsimp only
    split
    · exact ev_busOk (ev_mk hf) _
    · exact ev_busOk (ev_mk hf) _

theorem ev_readClear {s₀ s : State} (h : Evolves s₀ s) (h : RegHit) (a : Nat) : Evolves s₀ (State.readClear s h a) := by
  unfold State.readClear
  with_reducible repeat' (first | assumption | apply ev_wr | apply ev_baseWr | apply ev_setFld | apply ev_setGx | apply ev_ite | split)

theorem ev_plainRead {s₀ s : State} (h : Evolves s₀ s) (by_ : Agent) (g : RegHit) (a : Nat) : Evolves s₀ (s.plainRead by_ g a) := by
  unfold State.plainRead
  dsimp only
  split
  · split
    · exact ev_busOk (ev_mk h) _
    · exact ev_busOk h _
  split
  · exact ev_busOk (ev_readClear h _ _) _
  · exact ev_busOk h _

theorem ev_regRead {s₀ s : State} (h : Evolves s₀ s) (by_ : Agent) (h : RegHit) (a : Nat) : Evolves s₀ (State.regRead s by_ h a) := by
  unfold State.regRead
  with_reducible repeat' (first | assumption | apply ev_fcoLogRead | apply ev_busOk | apply ev_acnLogRead | apply ev_resRead | apply ev_knkRead | apply ev_rxRead | apply ev_trecRead | apply ev_latchRead | apply ev_capRead | apply ev_claimRead | apply ev_hqRead | apply ev_plainRead | (refine ev_when ?_ _ _ (fun _ _ => ?_)) | apply ev_fresh | (refine ev_fresh_eq ?_ (by assumption)) | apply ev_free | apply ev_ite | split)

theorem ev_addrRead {s₀ s : State} (h : Evolves s₀ s) (by_ : Agent) (a : Nat) : Evolves s₀ (State.addrRead s by_ a) := by
  unfold State.addrRead
  with_reducible repeat' (first | assumption | apply ev_busOk | apply ev_regRead | apply ev_ite | split)

/-! WriteOps -/

theorem ev_plainWrite {s₀ s : State} (h : Evolves s₀ s) (h : RegHit) (a : Nat) (v : Word) : Evolves s₀ (State.plainWrite s h a v) := by
  unfold State.plainWrite
  with_reducible repeat' (first | assumption | apply ev_wr | apply ev_baseWr | apply ev_fireRises | apply ev_ite | split)

theorem ev_firedWrite {s₀ s : State} (h : Evolves s₀ s) (by_ : Agent) (k : Nat) (v : Word) : Evolves s₀ (State.firedWrite s by_ k v) := by
  unfold State.firedWrite
  with_reducible repeat' (first | assumption | (refine ev_each ?_ _ _ (fun _ _ _ => ?_)) | apply ev_setBankBit | apply ev_baseWr | apply ev_ite)

theorem ev_flashTouch {s₀ s : State} (h : Evolves s₀ s) (faddr : Nat) : Evolves s₀ (State.flashTouch s faddr) := by
  unfold State.flashTouch
  with_reducible repeat' (first | assumption | apply ev_mk)

theorem ev_xspWrite {s₀ s : State} (h : Evolves s₀ s) (v : Word) (faddr : Nat) : Evolves s₀ (s.xspWrite v faddr) := by
  have hs := ev_setFld h XSP_CMD_OP (bitsOf v 0 8) 0 0
  unfold State.xspWrite
  dsimp only
  split
  · exact hs
  split
  · exact hs
  split
  · exact ev_setFld hs _ _ _ _
  · exact ev_flashTouch (ev_mk (ev_setFld (ev_setFld hs _ _ _ _) _ _ _ _)) _

theorem ev_wideWrite {s₀ s : State} (h : Evolves s₀ s) (by_ : Agent) (h : RegHit) (v : Nat) : Evolves s₀ (State.wideWrite s by_ h v) := by
  unfold State.wideWrite
  with_reducible repeat' (first | assumption | apply ev_ntWrite | apply ev_relcWrite | apply ev_ite | split)

theorem ev_halfWrite {s₀ s : State} (h : Evolves s₀ s) (by_ : Agent) (h : RegHit) (a : Nat) (v : Word) : Evolves s₀ (State.halfWrite s by_ h a v) := by
  unfold State.halfWrite
  with_reducible repeat' (first | assumption | apply ev_ntWrite | apply ev_splitLow | apply ev_relcWrite | apply ev_splitHigh | (refine ev_splitHigh_eq ?_ (by assumption)) | apply ev_ite | split)

theorem ev_regWrite {s₀ s : State} (h : Evolves s₀ s) (by_ : Agent) (h : RegHit) (a : Nat) (v : Word) : Evolves s₀ (State.regWrite s by_ h a v) := by
  unfold State.regWrite
  with_reducible repeat' (first | assumption | apply ev_rstWrite | apply ev_slpWrite | apply ev_fnmode | apply ev_plainWrite | (refine ev_when ?_ _ _ (fun _ _ => ?_)) | apply ev_setFld | apply ev_dctlWrite | apply ev_recoveryGo | apply ev_safeClear | apply ev_sevWrite | apply ev_kick | apply ev_retryDecision | apply ev_retireClear | apply ev_wr | apply ev_baseWr | apply ev_irtSrcWrite | apply ev_swSet | apply ev_swClear | apply ev_irtEoi | apply ev_cpCtl | apply ev_ntArm | apply ev_tmrCtl | apply ev_tmrCnt | apply ev_tmrShadow | apply ev_tmrHolds | apply ev_tmrFreeze | apply ev_trkCmd | apply ev_syncAssert | apply ev_pcmd | apply ev_corWrite | apply ev_mkPosWrite | apply ev_firedWrite | apply ev_encPosWrite | apply ev_commitEvent | apply ev_stageWord | apply ev_chCmd | apply ev_pwmShadow | apply ev_pwmLock | apply ev_injdly | apply ev_huskForce | apply ev_padTestWrite | apply ev_tdacWrite | apply ev_gainWrite | apply ev_busErr | apply ev_adcCtl | apply ev_urgWrite | apply ev_calCommit | apply ev_pqCtl | apply ev_txWrite | apply ev_calCtl | apply ev_calBuf | apply ev_acnCtl | apply ev_hdecWrite | apply ev_jsCtrl | apply ev_xspWrite | apply ev_halfWrite | apply ev_fresh | (refine ev_fresh_eq ?_ (by assumption)) | apply ev_ite | split)

theorem ev_addrWrite {s₀ s : State} (h : Evolves s₀ s) (by_ : Agent) (a : Nat) (v : Word) : Evolves s₀ (State.addrWrite s by_ a v) := by
  unfold State.addrWrite
  with_reducible repeat' (first | assumption | apply ev_regWrite | apply ev_ite | split)

/-! BusOps -/

theorem ev_memStore {s₀ s : State} (h : Evolves s₀ s) (m : Mem) (a v : Nat) : Evolves s₀ (s.memStore m a v) := by
  unfold State.memStore
  split
  · exact ⟨h.1, h.2, h.3, h.4, h.5, h.6, fun w => twf_tput _ _ _ _ (h.7 w), h.8, h.9⟩
  · exact ⟨h.1, h.2, h.3, h.4, h.5, fun w => twf_tput _ _ _ _ (h.6 w), h.7, h.8, h.9⟩
  · exact h

theorem ev_memPut {s₀ s : State} (h : Evolves s₀ s) (m : Mem) (k a v : Nat) : Evolves s₀ (s.memPut m k a v) := by
  induction k generalizing s a v with
  | zero => exact h
  | succ k ih => exact ih (ev_memStore h _ _ _) _ _

theorem ev_readAt {s₀ s : State} (h : Evolves s₀ s) (by_ : Agent) (a : Nat) (size : Size) : Evolves s₀ (State.readAt s by_ a size) := by
  unfold State.readAt
  with_reducible repeat' (first | assumption | apply ev_busOk | apply ev_busErr | apply ev_refuse | apply ev_addrRead | apply ev_ite | split)

theorem ev_devRead {s₀ s : State} (h : Evolves s₀ s) (by_ : Agent) (a : Nat) (size : Size) : Evolves s₀ (State.devRead s by_ a size) := by
  unfold State.devRead
  with_reducible repeat' (first | assumption | (refine ev_gate ?_ _ _ _ _ _ (fun _ _ => ?_)) | apply ev_readAt)

theorem ev_writeAt {s₀ s : State} (h : Evolves s₀ s) (by_ : Agent) (a : Nat) (size : Size) (v : Nat) : Evolves s₀ (State.writeAt s by_ a size v) := by
  unfold State.writeAt
  with_reducible repeat' (first | assumption | apply ev_busOk | apply ev_busErr | apply ev_refuse | apply ev_wideWrite | apply ev_addrWrite | apply ev_memPut | apply ev_ite | split)

theorem ev_devWrite {s₀ s : State} (h : Evolves s₀ s) (by_ : Agent) (a : Nat) (size : Size) (v : Nat) : Evolves s₀ (State.devWrite s by_ a size v) := by
  unfold State.devWrite
  with_reducible repeat' (first | assumption | (refine ev_gate ?_ _ _ _ _ _ (fun _ _ => ?_)) | apply ev_writeAt)

/-! Receive -/

theorem ev_windowMark {s₀ s : State} (h : Evolves s₀ s) (x : Nat) (seq : Nat) (port : Nat) : Evolves s₀ (State.windowMark s x seq port) := by
  unfold State.windowMark
  with_reducible repeat' (first | assumption | apply ev_setGx | apply ev_setFld)

theorem ev_replayDrop {s₀ s : State} (h : Evolves s₀ s) (x : Nat) : Evolves s₀ (State.replayDrop s x) := by
  unfold State.replayDrop
  with_reducible repeat' (first | assumption | apply ev_bump | apply ev_setGx | apply ev_cause | apply ev_ite)

theorem ev_windowDrop {s₀ s : State} (h : Evolves s₀ s) (x : Nat) (seq : Nat) (port : Nat) : Evolves s₀ (State.windowDrop s x seq port) := by
  unfold State.windowDrop
  with_reducible repeat' (first | assumption | apply ev_bump | apply ev_replayDrop | apply ev_ite | split)

theorem ev_authFail {s₀ s : State} (h : Evolves s₀ s) (x : Nat) : Evolves s₀ (State.authFail s x) := by
  unfold State.authFail
  with_reducible repeat' (first | assumption | apply ev_bump | apply ev_setGx | apply ev_raiseFault | apply ev_cause | apply ev_ite)

theorem ev_urgentCut {s₀ s : State} (h : Evolves s₀ s) (x : Nat) (token : Nat) (port : Nat) (body : List Nat) : Evolves s₀ (State.urgentCut s x token port body) := by
  unfold State.urgentCut
  with_reducible repeat' (first | assumption | apply ev_gwRefuse | (refine ev_each ?_ _ _ (fun _ _ _ => ?_)) | apply ev_cutChan | apply ev_setFld | (refine ev_when ?_ _ _ (fun _ _ => ?_)) | apply ev_bump | apply ev_cause | apply ev_gwComplete | apply ev_fresh | (refine ev_fresh_eq ?_ (by assumption)) | apply ev_ite)

theorem ev_ordinary {s₀ s : State} (h : Evolves s₀ s) (x : Nat) (ty : Nat) (token : Nat) (port : Nat) (b : List Nat) : Evolves s₀ (State.ordinary s x ty token port b) := by
  unfold State.ordinary
  with_reducible repeat' (first | assumption | apply ev_gwRefuse | apply ev_ring | apply ev_setGx | apply ev_gwSend | apply ev_cmdLevel | apply ev_ite | split)

theorem ev_gwReceive {s₀ s : State} (h : Evolves s₀ s) (port : Nat) (peer : Option (Nat × Nat)) (m : List Nat) : Evolves s₀ (State.gwReceive s port peer m) := by
  unfold State.gwReceive
  with_reducible repeat' (first | assumption | apply ev_bump | apply ev_authFail | apply ev_windowDrop | apply ev_windowMark | apply ev_setGx | apply ev_urgentCut | apply ev_ordinary | apply ev_ite | split)

theorem ev_ring {s₀ s : State} (h : Evolves s₀ s) (x : Nat) (m : List Nat) : Evolves s₀ (State.ring s x m) := by
  unfold State.ring
  with_reducible repeat' (first | assumption | apply ev_bump | apply ev_setGx | apply ev_gwReceive | apply ev_ite)

theorem ev_arrive {s₀ s : State} (h : Evolves s₀ s) (p : Path) (x : Nat) (m : List Nat) : Evolves s₀ (State.arrive s p x m) := by
  unfold State.arrive
  with_reducible repeat' (first | assumption | apply ev_gwReceive | apply ev_ring | apply ev_ite | split)

theorem ev_tenant {s₀ s : State} (h : Evolves s₀ s) (p : Path) (h : DtpHeader) (ty : Nat) (body : List Nat) : Evolves s₀ (State.tenant s p h ty body) := by
  unfold State.tenant
  with_reducible repeat' (first | assumption | apply ev_arrive)

/-! Execute -/

theorem ev_opRead {s₀ s : State} (h : Evolves s₀ s) (x : Fin 512) (k a left : Nat) (acc : List Nat) : Evolves s₀ (s.opRead x k a left acc).1 := by
  induction k generalizing s a left acc with
  | zero => exact h
  | succ k ih =>
    unfold State.opRead
    by_cases hl : left = 0
    · rw [if_pos hl]; exact h
    rw [if_neg hl]
    generalize (decide (2 ≤ left) && pairAt a) = two
    cases two
    · have hd := ev_devRead h (.gw x) a .b32
      simp only [Bool.false_eq_true, if_false]
      split
      · exact hd
      · exact ih hd _ _ _
    · have hd := ev_devRead h (.gw x) a .b64
      simp only [if_true]
      split
      · exact hd
      · exact ih hd _ _ _
theorem ev_opRead_eq {s₀ s : State} (h : Evolves s₀ s) {x : Fin 512} {k a left : Nat} {acc l : List Nat} {o : Option Nat} {t : State}
    (e : s.opRead x k a left acc = (t, o, l)) : Evolves s₀ t := by
  have := ev_opRead h x k a left acc; rw [e] at this; exact this

theorem ev_opWrite {s₀ s : State} (h : Evolves s₀ s) (x : Fin 512) (a i : Nat) (l : List Nat) : Evolves s₀ (s.opWrite x a i l).1 := by
  induction hn : l.length using Nat.strong_induction_on generalizing s a i l with
  | _ n ih =>
    match l with
    | [] => unfold State.opWrite; exact h
    | [v] => unfold State.opWrite; exact ev_devWrite h _ _ _ _
    | v :: w :: l =>
      unfold State.opWrite
      dsimp only
      simp only [List.length_cons] at hn
      split
      · split
        · exact ev_devWrite h _ _ _ _
        · exact ih _ (by omega) (ev_devWrite h _ _ _ _) _ _ _ rfl
      · split
        · exact ev_devWrite h _ _ _ _
        · exact ih _ (by simp only [List.length_cons]; omega) (ev_devWrite h _ _ _ _) _ _ (w :: l) rfl
theorem ev_opWrite_eq {s₀ s : State} (h : Evolves s₀ s) {x : Fin 512} {a i : Nat} {l : List Nat} {o : Option Nat} {t : State}
    (e : s.opWrite x a i l = (t, o)) : Evolves s₀ t := by
  have := ev_opWrite h x a i l; rw [e] at this; exact this

theorem ev_submitItem {s₀ s : State} (h : Evolves s₀ s) (x : Nat) (c : Nat) (ws : List Nat) : Evolves s₀ (State.submitItem s x c ws) := by
  unfold State.submitItem
  with_reducible repeat' (first | assumption | apply ev_setCh | apply ev_switchInst)

theorem ev_subscribe {s₀ s : State} (h : Evolves s₀ s) (x : Nat) (kind : Nat) (period : Nat) (mask : Nat) : Evolves s₀ (State.subscribe s x kind period mask) := by
  unfold State.subscribe
  with_reducible repeat' (first | assumption | apply ev_setGx)

theorem ev_gwExecute {s₀ s : State} (h : Evolves s₀ s) (x : Fin 512) : Evolves s₀ (s.gwExecute x) := by
  unfold State.gwExecute
  split
  · exact h
  · next o rest _ =>
    dsimp only
    split
    · exact h
    split
    · exact ev_each (ev_setGx h _ _) _ _ fun _ _ ht => ev_submitItem ht _ _ _
    split
    · have ht := ev_opRead h x 8 (msgU o.body 0 4) (o.body.getD 4 0) []
      split <;> exact ev_gwFinish ht _ _ _ _ _
    split
    · have ht := ev_opWrite h x (msgU o.body 0 4) 0 (bodyWords o.body 8 (o.body.getD 4 0))
      split <;> exact ev_gwFinish ht _ _ _ _ _
    split
    · exact ev_gwFinish (ev_devWrite h _ _ _ _) _ _ _ _ _
    split
    · exact ev_gwFinish (ev_each h _ _ fun _ _ ht => ev_uncutChan ht _) _ _ _ _ _
    split
    · exact ev_gwFinish (ev_subscribe h _ _ _ _) _ _ _ _ _
    · exact ev_gwFinish h _ _ _ _ _

theorem ev_publishDue {s₀ s : State} (h : Evolves s₀ s) (x : Nat) (kind : Nat) : Evolves s₀ (State.publishDue s x kind) := by
  unfold State.publishDue
  with_reducible repeat' (first | assumption | apply ev_gwPublish | apply ev_gwTrackers | apply ev_ite)

theorem ev_refill {s₀ s : State} (h : Evolves s₀ s) : Evolves s₀ (State.refill s) := by
  unfold State.refill
  with_reducible repeat' (first | assumption | (refine ev_each ?_ _ _ (fun _ _ _ => ?_)) | apply ev_setGx)

theorem ev_barRead {s₀ s : State} (h : Evolves s₀ s) (off : Nat) (size : Size) : Evolves s₀ (State.barRead s off size) := by
  unfold State.barRead
  with_reducible repeat' (first | assumption | apply ev_devRead | apply ev_busOk | apply ev_busErr | apply ev_ite)

theorem ev_barWrite {s₀ s : State} (h : Evolves s₀ s) (off : Nat) (size : Size) (v : Nat) : Evolves s₀ (State.barWrite s off size v) := by
  unfold State.barWrite
  with_reducible repeat' (first | assumption | apply ev_devWrite | apply ev_busOk | apply ev_setGx | apply ev_ring | apply ev_busErr | apply ev_ite)

theorem ev_hostFrame {s₀ s : State} (h : Evolves s₀ s) (p : Nat) (fr : List Nat) : Evolves s₀ (s.hostFrame p fr) := by
  unfold State.hostFrame
  dsimp only
  split
  · exact h
  split
  · exact ev_bump h _ _ _
  split
  · exact ev_bump h _ _ _
  · exact ev_mk h

theorem ev_canFrame {s₀ s : State} (h : Evolves s₀ s) (n id : Nat) (data : List Nat) : Evolves s₀ (s.canFrame n id data) := by
  unfold State.canFrame
  dsimp only
  split
  · exact h
  split
  · exact ev_mk (ev_fresh h 1)
  · exact ev_fresh h 1

theorem ev_linkChange {s₀ s : State} (h : Evolves s₀ s) (link : Link) (up : Bool) (code : Nat) : Evolves s₀ (s.linkChange link up code) := by
  unfold State.linkChange
  split
  · split
    · split
      · exact ev_setFld h _ _ _ _
      · exact h
    · exact ev_setFld h _ _ _ _
  · split
    · exact h
    · exact ev_mk (ev_setFld (ev_setFld (ev_fresh h 2) _ _ _ _) _ _ _ _)
  · exact h

theorem ev_xspDone {s₀ s : State} (h : Evolves s₀ s) (ok : Bool) : Evolves s₀ (s.xspDone ok) := by
  unfold State.xspDone
  split
  · exact h
  · exact ev_flashTouch (ev_mk (ev_setFld (ev_setFld h _ _ _ _) _ _ _ _)) _

/-! CpOps -/

theorem ev_asMachine {s₀ s : State} (h : Evolves s₀ s) {α : Type} (n : Nat) (f : State → State × α) (hf : ∀ t, Evolves s₀ t → Evolves s₀ (f t).1) :
    Evolves s₀ (s.asMachine n f).1 := ev_setCore (hf _ (ev_setCore h _ _)) _ _
theorem ev_asMachine_eq {s₀ s : State} (h : Evolves s₀ s) {α : Type} {n : Nat} {f : State → State × α} {t : State} {x : α} (e : s.asMachine n f = (t, x))
    (hf : ∀ t, Evolves s₀ t → Evolves s₀ (f t).1) : Evolves s₀ t := by
  have := ev_asMachine h n f hf; rw [e] at this; exact this

theorem ev_putWords {s₀ s : State} (h : Evolves s₀ s) (by_ : Agent) (a : Nat) (l : List Word) : Evolves s₀ (s.putWords by_ a l).1 := by
  induction l generalizing s a with
  | nil => unfold State.putWords; exact h
  | cons w l ih =>
    unfold State.putWords
    dsimp only
    have hw := ev_gateRaw h by_ a 4 true (fun s => s.writeAt by_ a .b32 w.toNat) fun _ ht => ev_writeAt ht _ _ _ _
    split
    · exact hw
    · exact ih hw _

theorem ev_getWords {s₀ s : State} (h : Evolves s₀ s) (by_ : Agent) (k a : Nat) (acc : List Word) : Evolves s₀ (s.getWords by_ k a acc).1 := by
  induction k generalizing s a acc with
  | zero => exact h
  | succ k ih =>
    unfold State.getWords
    dsimp only
    have hw := ev_gateRaw h by_ a 4 false (fun s => s.readAt by_ a .b32) fun _ ht => ev_readAt ht _ _ _
    split
    · exact hw
    · exact ih hw _ _

theorem ev_saveFrame {s₀ s : State} (h : Evolves s₀ s) (n : Nat) (ws : List Word) : Evolves s₀ (State.saveFrame s n ws) := by
  unfold State.saveFrame
  with_reducible repeat' (first | assumption | (refine ev_each ?_ _ _ (fun _ _ _ => ?_)) | apply ev_memPut)

theorem ev_emergency {s₀ s : State} (h : Evolves s₀ s) (n : Nat) (sp : Word) : Evolves s₀ (State.emergency s n sp) := by
  unfold State.emergency
  with_reducible repeat' (first | assumption | apply ev_saveFrame | apply ev_putCore | apply ev_raiseFault)

theorem ev_stackEntry {s₀ s : State} (h : Evolves s₀ s) (n : Fin 4) (k : Nat) : Evolves s₀ (State.stackEntry s n k) := by
  unfold State.stackEntry
  with_reducible repeat' (first | assumption | apply ev_emergency | apply ev_irtClaim | apply ev_putCore | apply ev_accFault | (refine ev_asMachine ?_ _ _ (fun _ _ => ?_)) | (refine ev_asMachine_eq ?_ (by assumption) (fun _ _ => ?_)) | apply ev_putWords | apply ev_getWords | apply ev_ite | split | dsimp only)

theorem ev_intEntry {s₀ s : State} (h : Evolves s₀ s) (n : Fin 4) : Evolves s₀ (State.intEntry s n) := by
  unfold State.intEntry
  with_reducible repeat' (first | assumption | apply ev_stackEntry | apply ev_putCore | apply ev_ite | split)

theorem ev_unframe {s₀ s : State} (h : Evolves s₀ s) (n : Nat) (fa : Nat) (ws : List Word) : Evolves s₀ (State.unframe s n fa ws) := by
  unfold State.unframe
  with_reducible repeat' (first | assumption | apply ev_putCore | apply ev_fresh)

theorem ev_iret {s₀ s : State} (h : Evolves s₀ s) (n : Fin 4) : Evolves s₀ (State.iret s n) := by
  unfold State.iret
  with_reducible repeat' (first | assumption | apply ev_coreExc | apply ev_accFault | apply ev_unframe | apply ev_putCore | apply ev_irtComplete | apply ev_fresh | (refine ev_fresh_eq ?_ (by assumption)) | (refine ev_asMachine ?_ _ _ (fun _ _ => ?_)) | (refine ev_asMachine_eq ?_ (by assumption) (fun _ _ => ?_)) | apply ev_getWords | apply ev_ite | split | dsimp only)

theorem ev_eccError {s₀ s : State} (h : Evolves s₀ s) (where_ : EccSite) (by_ : Agent) (use : MemUse) (double : Bool) : Evolves s₀ (State.eccError s where_ by_ use double) := by
  unfold State.eccError
  with_reducible repeat' (first | assumption | (refine ev_when ?_ _ _ (fun _ _ => ?_)) | apply ev_coreExc | apply ev_store | apply ev_bump | apply ev_setFco | apply ev_busErr | apply ev_raiseFault | apply ev_fresh | (refine ev_fresh_eq ?_ (by assumption)) | apply ev_ite | split)

theorem ev_dbgHalt {s₀ s : State} (h : Evolves s₀ s) (n : Nat) : Evolves s₀ (State.dbgHalt s n) := by
  unfold State.dbgHalt
  with_reducible repeat' (first | assumption | apply ev_setFld | apply ev_tmrFreeze | apply ev_ite)

theorem ev_dbgResume {s₀ s : State} (h : Evolves s₀ s) (n : Nat) : Evolves s₀ (State.dbgResume s n) := by
  unfold State.dbgResume
  with_reducible repeat' (first | assumption | apply ev_setFld | apply ev_ite)

theorem ev_dbgUnlock {s₀ s : State} (h : Evolves s₀ s) (r sig : Nat) : Evolves s₀ (s.dbgUnlock r sig) := by
  unfold State.dbgUnlock
  split
  · exact h
  dsimp only
  have hs : Evolves s₀ { s with dbg := { s.dbg with custom := (r, sig) } }.newChallenge := ev_newChallenge (ev_mk h)
  split
  · exact ev_emit (ev_raiseFault (ev_setFld hs _ _ _ _) _ _) _
  · exact hs

theorem ev_scanLoad {s₀ s : State} (h : Evolves s₀ s) (ins : ScanInstr) (drive : List (Nat × Bool)) : Evolves s₀ (State.scanLoad s ins drive) := by
  unfold State.scanLoad
  with_reducible repeat' (first | assumption | apply ev_mk)

/-! Registers -/

theorem ev_busRead {s₀ s : State} (h : Evolves s₀ s) (by_ : Agent) (a : Nat) (size : Size) : Evolves s₀ (State.busRead s by_ a size) := by
  unfold State.busRead
  with_reducible repeat' (first | assumption | apply ev_barRead | apply ev_devRead | apply ev_ite | split)

theorem ev_busWrite {s₀ s : State} (h : Evolves s₀ s) (by_ : Agent) (a : Nat) (size : Size) (v : Nat) : Evolves s₀ (State.busWrite s by_ a size v) := by
  unfold State.busWrite
  with_reducible repeat' (first | assumption | apply ev_barWrite | apply ev_devWrite | apply ev_ite | split)

/-! Tick -/

theorem ev_trkAll {s₀ s : State} (h : Evolves s₀ s) : Evolves s₀ (State.trkAll s) := by
  unfold State.trkAll
  with_reducible repeat' (first | assumption | (refine ev_each ?_ _ _ (fun _ _ _ => ?_)) | apply ev_trkWaiting | apply ev_settle)

theorem ev_tclk {s₀ s : State} (h : Evolves s₀ s) : Evolves s₀ (State.tclk s) := by
  unfold State.tclk
  with_reducible repeat' (first | assumption | apply ev_trkAll | apply ev_mkTake | apply ev_testAll | apply ev_adcTick | apply ev_knkAll | apply ev_tmrAll | apply ev_aliveLow | apply ev_settle)

end Sys2Proof.Machine
end

