-- ==== Sys2Proof/Laws/Commands.lean ====
section
/-! SUPPORT. What every command but a power-on, a sleep entry and a wake does to time, power, memories and queue: it answers a next state that has evolved from
the one before it, and hands over all that it emits. -/

namespace Sys2Proof.Machine

/-- A command answers a next state that has evolved, with nothing left to hand over. -/
def Runs (s : State) (o : Host.Outcome State Fault Refusal) : Prop :=
  ∃ t, o = .next t ∧ Evolves s t ∧ (s.due = [] → t.due = [])

theorem runs_done {s x : State} (h : Evolves s x) : Runs s (done x) := ⟨_, rfl, ev_settle h, fun _ => State.settle_due _⟩

theorem runs_next {s x : State} (h : Evolves s x) (hd : x.due = s.due) : Runs s (.next x) := ⟨_, rfl, h, fun e => hd.trans e⟩

theorem runs_same (s : State) : Runs s (.next s) := runs_next (Evolves.refl s) rfl

theorem runs_awake {s : State} {o : Host.Outcome State Fault Refusal} (h : Runs s o) : Runs s (whenAwake s o) := by
  unfold whenAwake
  split
  · exact h
  · exact runs_same s

theorem runs_ite {s : State} {c : Prop} [Decidable c] {a b : Host.Outcome State Fault Refusal} (ha : Runs s a) (hb : Runs s b) :
    Runs s (if c then a else b) := by
  split <;> assumption

theorem due_each {α : Type} (l : List α) (f : State → α → State) (s : State) (h : ∀ s x, (f s x).due = s.due) : (s.each l f).due = s.due := by
  induction l generalizing s with
  | nil => rfl
  | cons x l ih => exact (ih (f s x)).trans (h s x)

theorem due_setBucket (s : State) (c b : Nat) : (s.setBucket c b).due = s.due := by
  unfold State.setBucket
  split
  · rfl
  · exact (State.setCls_due _ _ _).trans (State.setFld_due _ _ _ _ _)

theorem runs_calGo (by_ : Agent) (v : Word) (s : State) : Runs s (execCalGo by_ v s) := by
  unfold execCalGo
  with_reducible repeat' (first | assumption | apply runs_awake | apply runs_same | apply runs_done | apply Evolves.refl | apply runs_ite | (refine ev_guard ?_ _ _ _ _ _ (fun _ _ => ?_)) | apply ev_calCtl)

theorem runs_calWriteDone (ok : Bool) (s : State) : Runs s (execCalWriteDone ok s) := by
  unfold execCalWriteDone
  with_reducible repeat' (first | assumption | apply runs_awake | apply runs_same | apply runs_done | apply Evolves.refl | apply runs_ite | apply ev_calFinish)

theorem runs_stageWord (by_ : Agent) (c : Fin 128) (i : Fin 3) (v : Word) (s : State) : Runs s (execStageWord by_ c i v s) := by
  unfold execStageWord
  with_reducible repeat' (first | assumption | apply runs_awake | apply runs_same | apply runs_done | apply Evolves.refl | apply runs_ite | (refine ev_guard ?_ _ _ _ _ _ (fun _ _ => ?_)) | apply ev_stageWord)

theorem runs_eventCommit (by_ : Agent) (c : Fin 128) (v : Word) (s : State) : Runs s (execEventCommit by_ c v s) := by
  unfold execEventCommit
  with_reducible repeat' (first | assumption | apply runs_awake | apply runs_same | apply runs_done | apply Evolves.refl | apply runs_ite | (refine ev_guard ?_ _ _ _ _ _ (fun _ _ => ?_)) | apply ev_commitEvent)

theorem runs_eventInsert (c : Fin 128) (s : State) : Runs s (execEventInsert c s) := by
  unfold execEventInsert
  with_reducible repeat' (first | assumption | apply runs_awake | apply runs_same | apply runs_done | apply Evolves.refl | apply runs_ite | apply ev_setCh | apply ev_insertItem | apply ev_ite | split)

theorem runs_edgeExecute (c : Fin 128) (s : State) : Runs s (execEdgeExecute c s) := by
  unfold execEdgeExecute
  with_reducible repeat' (first | assumption | apply runs_awake | apply runs_same | apply runs_done | apply Evolves.refl | apply runs_ite | apply ev_fireEdge)

theorem runs_minExpiry (c : Fin 128) (s : State) : Runs s (execMinExpiry c s) := by
  unfold execMinExpiry
  with_reducible repeat' (first | assumption | apply runs_awake | apply runs_same | apply runs_done | apply Evolves.refl | apply runs_ite | apply ev_fireEdge)

theorem runs_maxcutExpiry (c : Fin 128) (s : State) : Runs s (execMaxcutExpiry c s) := by
  unfold execMaxcutExpiry
  with_reducible repeat' (first | assumption | apply runs_awake | apply runs_same | apply runs_done | apply Evolves.refl | apply runs_ite | apply ev_fireEdge)

theorem runs_lossEndByTime (c : Fin 128) (s : State) : Runs s (execLossEndByTime c s) := by
  unfold execLossEndByTime
  with_reducible repeat' (first | assumption | apply runs_awake | apply runs_same | apply runs_done | apply Evolves.refl | apply runs_ite | apply ev_fireEdge)

theorem runs_chFlush (by_ : Agent) (c : Fin 128) (endact : Bool) (s : State) : Runs s (execChFlush by_ c endact s) := by
  unfold execChFlush
  with_reducible repeat' (first | assumption | apply runs_awake | apply runs_same | apply runs_done | apply Evolves.refl | apply runs_ite | (refine ev_guard ?_ _ _ _ _ _ (fun _ _ => ?_)) | apply ev_chCmd)

theorem runs_flushDone (c : Fin 128) (s : State) : Runs s (execFlushDone c s) := by
  unfold execFlushDone
  with_reducible repeat' (first | assumption | apply runs_awake | apply runs_same | apply runs_done | apply Evolves.refl | apply runs_ite | apply ev_setCh | apply ev_setFld | (refine runs_next ?_ rfl) | apply ev_ite | split)

theorem runs_chCut (by_ : Agent) (c : Fin 128) (s : State) : Runs s (execChCut by_ c s) := by
  unfold execChCut
  with_reducible repeat' (first | assumption | apply runs_awake | apply runs_same | apply runs_done | apply Evolves.refl | apply runs_ite | (refine ev_guard ?_ _ _ _ _ _ (fun _ _ => ?_)) | apply ev_chCmd)

theorem runs_chUncut (by_ : Agent) (c : Fin 128) (s : State) : Runs s (execChUncut by_ c s) := by
  unfold execChUncut
  with_reducible repeat' (first | assumption | apply runs_awake | apply runs_same | apply runs_done | apply Evolves.refl | apply runs_ite | (refine ev_guard ?_ _ _ _ _ _ (fun _ _ => ?_)) | apply ev_chCmd)

theorem runs_reportRead (by_ : Agent) (c : Fin 128) (s : State) : Runs s (execReportRead by_ c s) := by
  unfold execReportRead
  with_reducible repeat' (first | assumption | apply runs_awake | apply runs_same | apply runs_done | apply Evolves.refl | apply runs_ite | (refine ev_guard ?_ _ _ _ _ _ (fun _ _ => ?_)) | apply ev_latchRead)

theorem runs_toothEdge (n : Fin 6) (edge : ToothLevel) (peak : BitVec 12) (s : State) : Runs s (execToothEdge n edge peak s) := by
  unfold execToothEdge
  with_reducible repeat' (first | assumption | apply runs_awake | apply runs_same | apply runs_done | apply Evolves.refl | apply runs_ite | (refine ev_trkTake ?_ _ _ _ (fun _ _ => ?_)) | apply ev_toothIn)

theorem runs_trailingEdge (n : Fin 6) (edge : HeldEdge) (s : State) : Runs s (execTrailingEdge n edge s) := by
  unfold execTrailingEdge
  with_reducible repeat' (first | assumption | apply runs_awake | apply runs_same | apply runs_done | apply Evolves.refl | apply runs_ite | (refine ev_trkTake ?_ _ _ _ (fun _ _ => ?_)) | apply ev_trailIn)

theorem runs_camEdge (n : Fin 6) (k : Fin 4) (rising : Bool) (stamp : BitVec 64) (held : BitVec 10) (s : State) : Runs s (execCamEdge n k rising stamp held s) := by
  unfold execCamEdge
  with_reducible repeat' (first | assumption | apply runs_awake | apply runs_same | apply runs_done | apply Evolves.refl | apply runs_ite | (refine ev_trkTake ?_ _ _ _ (fun _ _ => ?_)) | apply ev_camIn)

theorem runs_stopTimeout (n : Fin 6) (s : State) : Runs s (execStopTimeout n s) := by
  unfold execStopTimeout
  with_reducible repeat' (first | assumption | apply runs_awake | apply runs_same | apply runs_done | apply Evolves.refl | apply runs_ite | (refine ev_trkTake ?_ _ _ _ (fun _ _ => ?_)) | apply ev_stopIn)

theorem runs_resync (by_ : Agent) (n : Fin 6) (s : State) : Runs s (execResync by_ n s) := by
  unfold execResync
  with_reducible repeat' (first | assumption | apply runs_awake | apply runs_same | apply runs_done | apply Evolves.refl | apply runs_ite | (refine ev_guard ?_ _ _ _ _ _ (fun _ _ => ?_)) | apply ev_trkCmd)

theorem runs_rconf (by_ : Agent) (n : Fin 6) (s : State) : Runs s (execRconf by_ n s) := by
  unfold execRconf
  with_reducible repeat' (first | assumption | apply runs_awake | apply runs_same | apply runs_done | apply Evolves.refl | apply runs_ite | (refine ev_guard ?_ _ _ _ _ _ (fun _ _ => ?_)) | apply ev_trkCmd)

theorem runs_rrefuse (by_ : Agent) (n : Fin 6) (s : State) : Runs s (execRrefuse by_ n s) := by
  unfold execRrefuse
  with_reducible repeat' (first | assumption | apply runs_awake | apply runs_same | apply runs_done | apply Evolves.refl | apply runs_ite | (refine ev_guard ?_ _ _ _ _ _ (fun _ _ => ?_)) | apply ev_trkCmd)

theorem runs_syncAssert (by_ : Agent) (n : Fin 6) (v : Word) (s : State) : Runs s (execSyncAssert by_ n v s) := by
  unfold execSyncAssert
  with_reducible repeat' (first | assumption | apply runs_awake | apply runs_same | apply runs_done | apply Evolves.refl | apply runs_ite | (refine ev_guard ?_ _ _ _ _ _ (fun _ _ => ?_)) | apply ev_syncAssert)

theorem runs_trecRead (by_ : Agent) (n : Fin 6) (s : State) : Runs s (execTrecRead by_ n s) := by
  unfold execTrecRead
  with_reducible repeat' (first | assumption | apply runs_awake | apply runs_same | apply runs_done | apply Evolves.refl | apply runs_ite | (refine ev_guard ?_ _ _ _ _ _ (fun _ _ => ?_)) | apply ev_trecRead)

theorem runs_camposRead (by_ : Agent) (n : Fin 6) (k : Fin 4) (s : State) : Runs s (execCamposRead by_ n k s) := by
  unfold execCamposRead
  with_reducible repeat' (first | assumption | apply runs_awake | apply runs_same | apply runs_done | apply Evolves.refl | apply runs_ite | (refine ev_guard ?_ _ _ _ _ _ (fun _ _ => ?_)) | apply ev_latchRead)

theorem runs_huskForce (by_ : Agent) (c : Fin 128) (v : Word) (s : State) : Runs s (execHuskForce by_ c v s) := by
  unfold execHuskForce
  with_reducible repeat' (first | assumption | apply runs_awake | apply runs_same | apply runs_done | apply Evolves.refl | apply runs_ite | (refine ev_guard ?_ _ _ _ _ _ (fun _ _ => ?_)) | apply ev_huskForce)

theorem runs_onmaxExpiry (c : Fin 128) (s : State) : Runs s (execOnmaxExpiry c s) := by
  unfold execOnmaxExpiry
  with_reducible repeat' (first | assumption | apply runs_awake | apply runs_same | apply runs_done | apply Evolves.refl | apply runs_ite | apply ev_limitCut)

theorem runs_revonExpiry (c : Fin 128) (s : State) : Runs s (execRevonExpiry c s) := by
  unfold execRevonExpiry
  with_reducible repeat' (first | assumption | apply runs_awake | apply runs_same | apply runs_done | apply Evolves.refl | apply runs_ite | apply ev_limitCut)

theorem runs_huskWindowTouch (c : Fin 128) (s : State) : Runs s (execHuskWindowTouch c s) := by
  unfold execHuskWindowTouch
  with_reducible repeat' (first | assumption | apply runs_awake | apply runs_same | apply runs_done | apply Evolves.refl | apply runs_ite | apply ev_limitCut)

theorem runs_revaccClear (n : Fin 6) (s : State) : Runs s (execRevaccClear n s) := by
  unfold execRevaccClear
  refine runs_awake (runs_ite (runs_next (ev_each (Evolves.refl s) _ _ fun _ _ h => ev_setHsk h _ _) ?_) (runs_same s))
  exact due_each _ _ _ fun _ _ => rfl

theorem runs_iSenseSample (i : Vector (BitVec 12) 16) (s : State) : Runs s (execISenseSample i s) := by
  unfold execISenseSample
  with_reducible repeat' (first | assumption | apply runs_awake | apply runs_same | apply runs_done | apply Evolves.refl | apply runs_ite | (refine ev_each ?_ _ _ (fun _ _ _ => ?_)) | apply ev_senseDriver)

theorem runs_hskLastRead (by_ : Agent) (c : Fin 128) (s : State) : Runs s (execHskLastRead by_ c s) := by
  unfold execHskLastRead
  with_reducible repeat' (first | assumption | apply runs_awake | apply runs_same | apply runs_done | apply Evolves.refl | apply runs_ite | (refine ev_guard ?_ _ _ _ _ _ (fun _ _ => ?_)) | apply ev_latchRead)

theorem runs_readbackMismatch (c : Fin 128) (high : Bool) (s : State) : Runs s (execReadbackMismatch c high s) := by
  unfold execReadbackMismatch
  with_reducible repeat' (first | assumption | apply runs_awake | apply runs_same | apply runs_done | apply Evolves.refl | apply runs_ite | apply ev_padCause | apply ev_holdMismatch)

theorem runs_mismatchAct (c : Fin 128) (s : State) : Runs s (execMismatchAct c s) := by
  unfold execMismatchAct
  with_reducible repeat' (first | assumption | apply runs_awake | apply runs_same | apply runs_done | apply Evolves.refl | apply runs_ite | apply ev_setPd | apply ev_padCause | apply ev_ite | split)

theorem runs_overcurrent (fd : Fin 16) (s : State) : Runs s (execOvercurrent fd s) := by
  unfold execOvercurrent
  with_reducible repeat' (first | assumption | apply runs_awake | apply runs_same | apply runs_done | apply Evolves.refl | apply runs_ite | apply ev_padCause)

theorem runs_driverThermal (fd : Fin 16) (s : State) : Runs s (execDriverThermal fd s) := by
  unfold execDriverThermal
  with_reducible repeat' (first | assumption | apply runs_awake | apply runs_same | apply runs_done | apply Evolves.refl | apply runs_ite | apply ev_padCause)

theorem runs_openOn (fd : Fin 16) (s : State) : Runs s (execOpenOn fd s) := by
  unfold execOpenOn
  with_reducible repeat' (first | assumption | apply runs_awake | apply runs_same | apply runs_done | apply Evolves.refl | apply runs_ite | apply ev_padCause)

theorem runs_padTest (by_ : Agent) (c : Fin 128) (s : State) : Runs s (execPadTest by_ c s) := by
  unfold execPadTest
  with_reducible repeat' (first | assumption | apply runs_awake | apply runs_same | apply runs_done | apply Evolves.refl | apply runs_ite | (refine ev_guard ?_ _ _ _ _ _ (fun _ _ => ?_)) | apply ev_padTestWrite)

theorem runs_padTestDone (c : Fin 128) (fail : Option (Fin 7)) (s : State) : Runs s (execPadTestDone c fail s) := by
  unfold execPadTestDone
  with_reducible repeat' (first | assumption | apply runs_awake | apply runs_same | apply runs_done | apply Evolves.refl | apply runs_ite | apply ev_testOver | apply ev_setFld | apply ev_setPd)

theorem runs_cooldownEnd (c : Fin 128) (s : State) : Runs s (execCooldownEnd c s) := by
  unfold execCooldownEnd
  with_reducible repeat' (first | assumption | apply runs_awake | apply runs_same | apply runs_done | apply Evolves.refl | apply runs_ite | apply ev_setFld | apply ev_coolOver | (refine runs_next ?_ rfl))

theorem runs_retryDecision (by_ : Agent) (v : Word) (s : State) : Runs s (execRetryDecision by_ v s) := by
  unfold execRetryDecision
  with_reducible repeat' (first | assumption | apply runs_awake | apply runs_same | apply runs_done | apply Evolves.refl | apply runs_ite | (refine ev_guard ?_ _ _ _ _ _ (fun _ _ => ?_)) | apply ev_retryDecision)

theorem runs_tpermExpiry (c : Fin 128) (s : State) : Runs s (execTpermExpiry c s) := by
  unfold execTpermExpiry
  with_reducible repeat' (first | assumption | apply runs_awake | apply runs_same | apply runs_done | apply Evolves.refl | apply runs_ite | apply ev_retire)

theorem runs_forgiveness (c : Fin 128) (s : State) : Runs s (execForgiveness c s) := by
  unfold execForgiveness
  exact runs_awake (runs_ite (runs_next (ev_setBucket (Evolves.refl s) _ _) (due_setBucket s c _)) (runs_same s))

theorem runs_retryCountReset (c : Fin 128) (s : State) : Runs s (execRetryCountReset c s) := by
  unfold execRetryCountReset
  exact runs_awake (runs_ite (runs_next (ev_setFld (Evolves.refl s) _ _ _ _) (State.setFld_due _ _ _ _ _)) (runs_same s))

theorem runs_retireClear (by_ : Agent) (v : Word) (s : State) : Runs s (execRetireClear by_ v s) := by
  unfold execRetireClear
  with_reducible repeat' (first | assumption | apply runs_awake | apply runs_same | apply runs_done | apply Evolves.refl | apply runs_ite | (refine ev_guard ?_ _ _ _ _ _ (fun _ _ => ?_)) | apply ev_retireClear)

theorem runs_continuingFaultEnds (c : Fin 128) (s : State) : Runs s (execContinuingFaultEnds c s) := by
  unfold execContinuingFaultEnds
  with_reducible repeat' (first | assumption | apply runs_awake | apply runs_same | apply runs_done | apply Evolves.refl | apply runs_ite | apply ev_setPd | apply ev_setActive | apply ev_setCls | apply ev_holdCheck)

theorem runs_driverThermalRelease (fd : Fin 16) (s : State) : Runs s (execDriverThermalRelease fd s) := by
  unfold execDriverThermalRelease
  with_reducible repeat' (first | assumption | apply runs_awake | apply runs_same | apply runs_done | apply Evolves.refl | apply runs_ite | apply ev_setCls | apply ev_holdCheck)

theorem runs_safeRelease (by_ : Agent) (v : Word) (s : State) : Runs s (execSafeRelease by_ v s) := by
  unfold execSafeRelease
  with_reducible repeat' (first | assumption | apply runs_awake | apply runs_same | apply runs_done | apply Evolves.refl | apply runs_ite | (refine ev_guard ?_ _ _ _ _ _ (fun _ _ => ?_)) | apply ev_safeClear)

theorem runs_sevWrite (by_ : Agent) (src : Fin 512) (v : Word) (s : State) : Runs s (execSevWrite by_ src v s) := by
  unfold execSevWrite
  with_reducible repeat' (first | assumption | apply runs_awake | apply runs_same | apply runs_done | apply Evolves.refl | apply runs_ite | (refine ev_guard ?_ _ _ _ _ _ (fun _ _ => ?_)) | apply ev_sevWrite)

theorem runs_kick (by_ : Agent) (v : Word) (s : State) : Runs s (execKick by_ v s) := by
  unfold execKick
  with_reducible repeat' (first | assumption | apply runs_awake | apply runs_same | apply runs_done | apply Evolves.refl | apply runs_ite | (refine ev_guard ?_ _ _ _ _ _ (fun _ _ => ?_)) | apply ev_kick)

theorem runs_keepaliveTimeout  (s : State) : Runs s (execKeepaliveTimeout s) := by
  unfold execKeepaliveTimeout
  with_reducible repeat' (first | assumption | apply runs_awake | apply runs_same | apply runs_done | apply Evolves.refl | apply runs_ite | apply ev_kaViolation)

theorem runs_aliveToggle  (s : State) : Runs s (execAliveToggle s) := by
  unfold execAliveToggle
  with_reducible repeat' (first | assumption | apply runs_awake | apply runs_same | apply runs_done | apply Evolves.refl | apply runs_ite | apply ev_setFld | apply ev_setFco | (refine runs_next ?_ rfl))

theorem runs_safeNChange (level : Bool) (s : State) : Runs s (execSafeNChange level s) := by
  unfold execSafeNChange
  with_reducible repeat' (first | assumption | apply runs_awake | apply runs_same | apply runs_done | apply Evolves.refl | apply runs_ite | apply ev_setFld | apply ev_setActive | apply ev_huskCheckAll | apply ev_raiseFault | (refine runs_next ?_ rfl))

theorem runs_fcoLogRead (by_ : Agent) (s : State) : Runs s (execFcoLogRead by_ s) := by
  unfold execFcoLogRead
  with_reducible repeat' (first | assumption | apply runs_awake | apply runs_same | apply runs_done | apply Evolves.refl | apply runs_ite | (refine ev_guard ?_ _ _ _ _ _ (fun _ _ => ?_)) | apply ev_fcoLogRead)

theorem runs_bootLoad (errPri : Bool) (errFb : Bool) (s : State) : Runs s (execBootLoad errPri errFb s) := by
  unfold execBootLoad
  with_reducible repeat' (first | assumption | apply runs_awake | apply runs_same | apply runs_done | apply Evolves.refl | apply runs_ite | apply ev_bootLoad | apply ev_ite)

theorem runs_recoveryGo (by_ : Agent) (v : Word) (s : State) : Runs s (execRecoveryGo by_ v s) := by
  unfold execRecoveryGo
  with_reducible repeat' (first | assumption | apply runs_awake | apply runs_same | apply runs_done | apply Evolves.refl | apply runs_ite | (refine ev_guard ?_ _ _ _ _ _ (fun _ _ => ?_)) | apply ev_recoveryGo)

theorem runs_deltaGo (by_ : Agent) (v : Word) (s : State) : Runs s (execDeltaGo by_ v s) := by
  unfold execDeltaGo
  with_reducible repeat' (first | assumption | apply runs_awake | apply runs_same | apply runs_done | apply Evolves.refl | apply runs_ite | (refine ev_guard ?_ _ _ _ _ _ (fun _ _ => ?_)) | apply ev_dctlWrite)

theorem runs_deltaSwitch  (s : State) : Runs s (execDeltaSwitch s) := by
  unfold execDeltaSwitch
  with_reducible repeat' (first | assumption | apply runs_awake | apply runs_same | apply runs_done | apply Evolves.refl | apply runs_ite | apply ev_deltaSwitch)

theorem runs_deltaWaitExpiry  (s : State) : Runs s (execDeltaWaitExpiry s) := by
  unfold execDeltaWaitExpiry
  with_reducible repeat' (first | assumption | apply runs_awake | apply runs_same | apply runs_done | apply Evolves.refl | apply runs_ite | apply ev_deltaExpire)

theorem runs_stopRecordPresent  (s : State) : Runs s (execStopRecordPresent s) := by
  unfold execStopRecordPresent
  with_reducible repeat' (first | assumption | apply runs_awake | apply runs_same | apply runs_done | apply Evolves.refl | apply runs_ite | apply ev_recPresent | apply ev_ite)

theorem runs_rolloutPulse (width : Nat) (s : State) : Runs s (execRolloutPulse width s) := by
  unfold execRolloutPulse
  with_reducible repeat' (first | assumption | apply runs_awake | apply runs_same | apply runs_done | apply Evolves.refl | apply runs_ite | apply ev_rollPulse | apply ev_ite)

theorem runs_rolloutCamEdge  (s : State) : Runs s (execRolloutCamEdge s) := by
  unfold execRolloutCamEdge
  with_reducible repeat' (first | assumption | apply runs_awake | apply runs_same | apply runs_done | apply Evolves.refl | apply runs_ite | apply ev_bump | apply ev_ite)

theorem runs_rolloutEnd (quiet : Bool) (s : State) : Runs s (execRolloutEnd quiet s) := by
  unfold execRolloutEnd
  with_reducible repeat' (first | assumption | apply runs_awake | apply runs_same | apply runs_done | apply Evolves.refl | apply runs_ite | apply ev_setFld | apply ev_rollSeal | apply ev_ite)

theorem runs_recordAgeMinute  (s : State) : Runs s (execRecordAgeMinute s) := by
  unfold execRecordAgeMinute
  with_reducible repeat' (first | assumption | apply runs_awake | apply runs_same | apply runs_done | apply Evolves.refl | apply runs_ite | apply ev_bump | apply ev_recShow | apply ev_ite)

theorem runs_acornVbatDip  (s : State) : Runs s (execAcornVbatDip s) := by
  unfold execAcornVbatDip
  with_reducible repeat' (first | assumption | apply runs_awake | apply runs_same | apply runs_done | apply Evolves.refl | apply runs_ite | apply ev_setRoll | apply ev_recShow)

theorem runs_droprec (by_ : Agent) (s : State) : Runs s (execDroprec by_ s) := by
  unfold execDroprec
  with_reducible repeat' (first | assumption | apply runs_awake | apply runs_same | apply runs_done | apply Evolves.refl | apply runs_ite | (refine ev_guard ?_ _ _ _ _ _ (fun _ _ => ?_)) | apply ev_acnCtl)

theorem runs_ratioWindow (count : Nat) (s : State) : Runs s (execRatioWindow count s) := by
  unfold execRatioWindow
  with_reducible repeat' (first | assumption | apply runs_awake | apply runs_same | apply runs_done | apply Evolves.refl | apply runs_ite | apply ev_wr | apply ev_ite)

theorem runs_crystalStop  (s : State) : Runs s (execCrystalStop s) := by
  unfold execCrystalStop
  with_reducible repeat' (first | assumption | apply runs_awake | apply runs_same | apply runs_done | apply Evolves.refl | apply runs_ite | apply ev_setFld)

theorem runs_acnPassStart  (s : State) : Runs s (execAcnPassStart s) := by
  unfold execAcnPassStart
  with_reducible repeat' (first | assumption | apply runs_awake | apply runs_same | apply runs_done | apply Evolves.refl | apply runs_ite | apply ev_acnStart)

theorem runs_acnEnd  (s : State) : Runs s (execAcnEnd s) := by
  unfold execAcnEnd
  with_reducible repeat' (first | assumption | apply runs_awake | apply runs_same | apply runs_done | apply Evolves.refl | apply runs_ite | (refine ev_acnRun ?_ _ _ (fun _ _ _ _ => ?_)) | apply ev_setAcn)

theorem runs_acnSample (code : BitVec 10) (s : State) : Runs s (execAcnSample code s) := by
  unfold execAcnSample
  with_reducible repeat' (first | assumption | apply runs_awake | apply runs_same | apply runs_done | apply Evolves.refl | apply runs_ite | (refine ev_acnRun ?_ _ _ (fun _ _ _ _ => ?_)) | apply ev_setAcn | apply ev_acnNext)

theorem runs_acnFilt  (s : State) : Runs s (execAcnFilt s) := by
  unfold execAcnFilt
  with_reducible repeat' (first | assumption | apply runs_awake | apply runs_same | apply runs_done | apply Evolves.refl | apply runs_ite | (refine ev_acnRun ?_ _ _ (fun _ _ _ _ => ?_)) | apply ev_setFld | apply ev_acnNext)

theorem runs_acnCmp  (s : State) : Runs s (execAcnCmp s) := by
  unfold execAcnCmp
  with_reducible repeat' (first | assumption | apply runs_awake | apply runs_same | apply runs_done | apply Evolves.refl | apply runs_ite | (refine ev_acnRun ?_ _ _ (fun _ _ _ _ => ?_)) | apply ev_setAcnC | apply ev_acnNext)

theorem runs_acnPin (level : Bool) (s : State) : Runs s (execAcnPin level s) := by
  unfold execAcnPin
  with_reducible repeat' (first | assumption | apply runs_awake | apply runs_same | apply runs_done | apply Evolves.refl | apply runs_ite | (refine ev_acnRun ?_ _ _ (fun _ _ _ _ => ?_)) | apply ev_setAcnC | apply ev_acnNext)

theorem runs_acnCount  (s : State) : Runs s (execAcnCount s) := by
  unfold execAcnCount
  with_reducible repeat' (first | assumption | apply runs_awake | apply runs_same | apply runs_done | apply Evolves.refl | apply runs_ite | (refine ev_acnRun ?_ _ _ (fun _ _ _ _ => ?_)) | apply ev_setAcnCnt | apply ev_setAcnC | apply ev_acnNext)

theorem runs_acnJmp  (s : State) : Runs s (execAcnJmp s) := by
  unfold execAcnJmp
  with_reducible repeat' (first | assumption | apply runs_awake | apply runs_same | apply runs_done | apply Evolves.refl | apply runs_ite | (refine ev_acnRun ?_ _ _ (fun _ _ _ _ => ?_)) | apply ev_acnNext)

theorem runs_acnWake  (s : State) : Runs s (execAcnWake s) := by
  unfold execAcnWake
  with_reducible repeat' (first | assumption | apply runs_awake | apply runs_same | apply runs_done | apply Evolves.refl | apply runs_ite | (refine ev_acnRun ?_ _ _ (fun _ _ _ _ => ?_)) | (refine ev_when ?_ _ _ (fun _ _ => ?_)) | apply ev_setFld | apply ev_wakeAt | apply ev_acnNext)

theorem runs_acnRec  (s : State) : Runs s (execAcnRec s) := by
  unfold execAcnRec
  with_reducible repeat' (first | assumption | apply runs_awake | apply runs_same | apply runs_done | apply Evolves.refl | apply runs_ite | (refine ev_acnRun ?_ _ _ (fun _ _ _ _ => ?_)) | (refine ev_when ?_ _ _ (fun _ _ => ?_)) | apply ev_acnRecord | apply ev_acnNext)

theorem runs_acnPwr  (s : State) : Runs s (execAcnPwr s) := by
  unfold execAcnPwr
  with_reducible repeat' (first | assumption | apply runs_awake | apply runs_same | apply runs_done | apply Evolves.refl | apply runs_ite | (refine ev_acnRun ?_ _ _ (fun _ _ _ _ => ?_)) | (refine ev_when ?_ _ _ (fun _ _ => ?_)) | apply ev_setFld | apply ev_acnNext)

theorem runs_acnDelay  (s : State) : Runs s (execAcnDelay s) := by
  unfold execAcnDelay
  with_reducible repeat' (first | assumption | apply runs_awake | apply runs_same | apply runs_done | apply Evolves.refl | apply runs_ite | (refine ev_acnRun ?_ _ _ (fun _ _ _ _ => ?_)) | apply ev_acnNext)

theorem runs_acnLogRead (by_ : Agent) (s : State) : Runs s (execAcnLogRead by_ s) := by
  unfold execAcnLogRead
  with_reducible repeat' (first | assumption | apply runs_awake | apply runs_same | apply runs_done | apply Evolves.refl | apply runs_ite | (refine ev_guard ?_ _ _ _ _ _ (fun _ _ => ?_)) | apply ev_acnLogRead)

theorem runs_adcStart (by_ : Agent) (a : Fin 4) (s : State) : Runs s (execAdcStart by_ a s) := by
  unfold execAdcStart
  with_reducible repeat' (first | assumption | apply runs_awake | apply runs_same | apply runs_done | apply Evolves.refl | apply runs_ite | (refine ev_guard ?_ _ _ _ _ _ (fun _ _ => ?_)) | apply ev_adcCtl)

theorem runs_adcStop (by_ : Agent) (a : Fin 4) (s : State) : Runs s (execAdcStop by_ a s) := by
  unfold execAdcStop
  with_reducible repeat' (first | assumption | apply runs_awake | apply runs_same | apply runs_done | apply Evolves.refl | apply runs_ite | (refine ev_guard ?_ _ _ _ _ _ (fun _ _ => ?_)) | apply ev_adcCtl)

theorem runs_adcClrq (by_ : Agent) (a : Fin 4) (s : State) : Runs s (execAdcClrq by_ a s) := by
  unfold execAdcClrq
  with_reducible repeat' (first | assumption | apply runs_awake | apply runs_same | apply runs_done | apply Evolves.refl | apply runs_ite | (refine ev_guard ?_ _ _ _ _ _ (fun _ _ => ?_)) | apply ev_adcCtl)

theorem runs_triggerTake (a : Fin 4) (s : State) : Runs s (execTriggerTake a s) := by
  unfold execTriggerTake
  refine runs_awake ?_
  split
  · split
    · exact runs_done (ev_setAd (ev_taskTake (Evolves.refl s) (by assumption)) _ _)
    · exact runs_done (Evolves.refl s)
  · exact runs_done (Evolves.refl s)

theorem runs_conversionStart (a : Fin 4) (s : State) : Runs s (execConversionStart a s) := by
  unfold execConversionStart
  with_reducible repeat' (first | assumption | apply runs_awake | apply runs_same | apply runs_done | apply Evolves.refl | apply runs_ite | apply ev_convPick | apply ev_ite)

theorem runs_conversionEnd (a : Fin 4) (raw : BitVec 16) (s : State) : Runs s (execConversionEnd a raw s) := by
  unfold execConversionEnd
  with_reducible repeat' (first | assumption | apply runs_awake | apply runs_same | apply runs_done | apply Evolves.refl | apply runs_ite | apply ev_convEnd | apply ev_ite | split)

theorem runs_urgentRequest (by_ : Agent) (a : Fin 4) (v : Word) (s : State) : Runs s (execUrgentRequest by_ a v s) := by
  unfold execUrgentRequest
  with_reducible repeat' (first | assumption | apply runs_awake | apply runs_same | apply runs_done | apply Evolves.refl | apply runs_ite | (refine ev_guard ?_ _ _ _ _ _ (fun _ _ => ?_)) | apply ev_urgWrite)

theorem runs_shadowCycleDue (a : Fin 4) (s : State) : Runs s (execShadowCycleDue a s) := by
  unfold execShadowCycleDue
  with_reducible repeat' (first | assumption | apply runs_awake | apply runs_same | apply runs_done | apply Evolves.refl | apply runs_ite | apply ev_shadowDue | apply ev_ite)

theorem runs_shadowStart (a : Fin 4) (s : State) : Runs s (execShadowStart a s) := by
  unfold execShadowStart
  with_reducible repeat' (first | assumption | apply runs_awake | apply runs_same | apply runs_done | apply Evolves.refl | apply runs_ite | apply ev_shadowStart)

theorem runs_calOffsetCommit (by_ : Agent) (a : Fin 4) (s : State) : Runs s (execCalOffsetCommit by_ a s) := by
  unfold execCalOffsetCommit
  with_reducible repeat' (first | assumption | apply runs_awake | apply runs_same | apply runs_done | apply Evolves.refl | apply runs_ite | (refine ev_guard ?_ _ _ _ _ _ (fun _ _ => ?_)) | apply ev_calCommit)

theorem runs_adcGainWrite (by_ : Agent) (j : Fin 64) (v : Word) (s : State) : Runs s (execAdcGainWrite by_ j v s) := by
  unfold execAdcGainWrite
  with_reducible repeat' (first | assumption | apply runs_awake | apply runs_same | apply runs_done | apply Evolves.refl | apply runs_ite | (refine ev_guard ?_ _ _ _ _ _ (fun _ _ => ?_)) | apply ev_gainWrite)

theorem runs_adcResultRead (by_ : Agent) (a : Fin 4) (s : State) : Runs s (execAdcResultRead by_ a s) := by
  unfold execAdcResultRead
  with_reducible repeat' (first | assumption | apply runs_awake | apply runs_same | apply runs_done | apply Evolves.refl | apply runs_ite | (refine ev_guard ?_ _ _ _ _ _ (fun _ _ => ?_)) | apply ev_resRead)

theorem runs_tdacWrite (by_ : Agent) (v : Word) (s : State) : Runs s (execTdacWrite by_ v s) := by
  unfold execTdacWrite
  with_reducible repeat' (first | assumption | apply runs_awake | apply runs_same | apply runs_done | apply Evolves.refl | apply runs_ite | (refine ev_guard ?_ _ _ _ _ _ (fun _ _ => ?_)) | apply ev_tdacWrite)

theorem runs_quadCount (e : Fin 4) (a : Bool) (b : Bool) (stamp : BitVec 64) (s : State) : Runs s (execQuadCount e a b stamp s) := by
  unfold execQuadCount
  with_reducible repeat' (first | assumption | apply runs_awake | apply runs_same | apply runs_done | apply Evolves.refl | apply runs_ite | apply ev_encLevels)

theorem runs_indexEdge (e : Fin 4) (z : Bool) (stamp : BitVec 64) (s : State) : Runs s (execIndexEdge e z stamp s) := by
  unfold execIndexEdge
  with_reducible repeat' (first | assumption | apply runs_awake | apply runs_same | apply runs_done | apply Evolves.refl | apply runs_ite | apply ev_encZ)

theorem runs_stillTimeout (e : Fin 4) (s : State) : Runs s (execStillTimeout e s) := by
  unfold execStillTimeout
  with_reducible repeat' (first | assumption | apply runs_awake | apply runs_same | apply runs_done | apply Evolves.refl | apply runs_ite | apply ev_encStill)

theorem runs_encPosWrite (by_ : Agent) (e : Fin 4) (v : Word) (s : State) : Runs s (execEncPosWrite by_ e v s) := by
  unfold execEncPosWrite
  with_reducible repeat' (first | assumption | apply runs_awake | apply runs_same | apply runs_done | apply Evolves.refl | apply runs_ite | (refine ev_guard ?_ _ _ _ _ _ (fun _ _ => ?_)) | apply ev_encPosWrite)

theorem runs_fnmodeWrite (by_ : Agent) (v : Word) (s : State) : Runs s (execFnmodeWrite by_ v s) := by
  unfold execFnmodeWrite
  with_reducible repeat' (first | assumption | apply runs_awake | apply runs_same | apply runs_done | apply Evolves.refl | apply runs_ite | (refine ev_guard ?_ _ _ _ _ _ (fun _ _ => ?_)) | apply ev_fnmode)

theorem runs_fnModeSwitch (fn : Fin 8) (inst : Fin 128) (s : State) : Runs s (execFnModeSwitch fn inst s) := by
  unfold execFnModeSwitch
  with_reducible repeat' (first | assumption | apply runs_awake | apply runs_same | apply runs_done | apply Evolves.refl | apply runs_ite | apply ev_fnSwitch | apply ev_ite)

theorem runs_decisionTimeout (fn : Fin 8) (inst : Fin 128) (s : State) : Runs s (execDecisionTimeout fn inst s) := by
  unfold execDecisionTimeout
  with_reducible repeat' (first | assumption | apply runs_awake | apply runs_same | apply runs_done | apply Evolves.refl | apply runs_ite | apply ev_fnFallback | apply ev_ite | split)

theorem runs_recordWrite (j : Fin 16) (s : State) : Runs s (execRecordWrite j s) := by
  unfold execRecordWrite
  with_reducible repeat' (first | assumption | apply runs_awake | apply runs_same | apply runs_done | apply Evolves.refl | apply runs_ite | apply ev_recWrite)

theorem runs_recordTimeout (j : Fin 16) (s : State) : Runs s (execRecordTimeout j s) := by
  unfold execRecordTimeout
  with_reducible repeat' (first | assumption | apply runs_awake | apply runs_same | apply runs_done | apply Evolves.refl | apply runs_ite | apply ev_recTimeout)

theorem runs_yunaeAck (j : Fin 16) (fseq : Word) (s : State) : Runs s (execYunaeAck j fseq s) := by
  unfold execYunaeAck
  with_reducible repeat' (first | assumption | apply runs_awake | apply runs_same | apply runs_done | apply Evolves.refl | apply runs_ite | apply ev_yAck)

theorem runs_retransmitTimeout (j : Fin 16) (s : State) : Runs s (execRetransmitTimeout j s) := by
  unfold execRetransmitTimeout
  with_reducible repeat' (first | assumption | apply runs_awake | apply runs_same | apply runs_done | apply Evolves.refl | apply runs_ite | apply ev_yRetx)

theorem runs_probeSend (j : Fin 16) (s : State) : Runs s (execProbeSend j s) := by
  unfold execProbeSend
  with_reducible repeat' (first | assumption | apply runs_awake | apply runs_same | apply runs_done | apply Evolves.refl | apply runs_ite | apply ev_yProbeSend)

theorem runs_relcWrite (by_ : Agent) (j : Fin 16) (v : BitVec 64) (s : State) : Runs s (execRelcWrite by_ j v s) := by
  unfold execRelcWrite
  with_reducible repeat' (first | assumption | apply runs_awake | apply runs_same | apply runs_done | apply Evolves.refl | apply runs_ite | (refine ev_guard ?_ _ _ _ _ _ (fun _ _ => ?_)) | apply ev_relcWrite)

theorem runs_streamEnable (by_ : Agent) (j : Fin 16) (s : State) : Runs s (execStreamEnable by_ j s) := by
  unfold execStreamEnable
  with_reducible repeat' (first | assumption | apply runs_awake | apply runs_same | apply runs_done | apply Evolves.refl | apply runs_ite | (refine ev_guard ?_ _ _ _ _ _ (fun _ _ => ?_)) | apply ev_jsCtrl)

theorem runs_streamDisable (by_ : Agent) (j : Fin 16) (s : State) : Runs s (execStreamDisable by_ j s) := by
  unfold execStreamDisable
  with_reducible repeat' (first | assumption | apply runs_awake | apply runs_same | apply runs_done | apply Evolves.refl | apply runs_ite | (refine ev_guard ?_ _ _ _ _ _ (fun _ _ => ?_)) | apply ev_jsCtrl)

theorem runs_streamDrained (j : Fin 16) (s : State) : Runs s (execStreamDrained j s) := by
  unfold execStreamDrained
  with_reducible repeat' (first | assumption | apply runs_awake | apply runs_same | apply runs_done | apply Evolves.refl | apply runs_ite | apply ev_jsDrained)

theorem runs_jrecCommit (by_ : Agent) (v : Word) (s : State) : Runs s (execJrecCommit by_ v s) := by
  unfold execJrecCommit
  with_reducible repeat' (first | assumption | apply runs_awake | apply runs_same | apply runs_done | apply Evolves.refl | apply runs_ite | (refine ev_guard ?_ _ _ _ _ _ (fun _ _ => ?_)) | apply ev_hdecWrite)

theorem runs_pllLoss (which : Fin 3) (s : State) : Runs s (execPllLoss which s) := by
  unfold execPllLoss
  with_reducible repeat' (first | assumption | apply runs_awake | apply runs_same | apply runs_done | apply Evolves.refl | apply runs_ite | apply ev_levelStarts | (refine ev_when ?_ _ _ (fun _ _ => ?_)) | apply ev_setFco)

theorem runs_railUndervoltage (rail : Fin 3) (s : State) : Runs s (execRailUndervoltage rail s) := by
  unfold execRailUndervoltage
  with_reducible repeat' (first | assumption | apply runs_awake | apply runs_same | apply runs_done | apply Evolves.refl | apply runs_ite | apply ev_setFld | apply ev_levelStarts)

theorem runs_dieTempAlarm (crit : Bool) (temp : BitVec 16) (s : State) : Runs s (execDieTempAlarm crit temp s) := by
  unfold execDieTempAlarm
  with_reducible repeat' (first | assumption | apply runs_awake | apply runs_same | apply runs_done | apply Evolves.refl | apply runs_ite | apply ev_levelStarts)

theorem runs_levelSourceEnds (src : Fin 8) (s : State) : Runs s (execLevelSourceEnds src s) := by
  unfold execLevelSourceEnds
  with_reducible repeat' (first | assumption | apply runs_awake | apply runs_same | apply runs_done | apply Evolves.refl | apply runs_ite | apply ev_levelEnds)

theorem runs_vbatLow (s : State) : Runs s (execVbatLow s) := by
  unfold execVbatLow whenAwake
  dsimp only
  have h := ev_setFld (Evolves.refl s) SYS_PWRSTAT_VBATLOW 1 0 0
  split
  · exact runs_done (ev_cause h _ _ _)
  · exact runs_next h (State.setFld_due _ _ _ _ _)

theorem runs_vserThresholdChange (above : Bool) (s : State) : Runs s (execVserThresholdChange above s) := by
  unfold execVserThresholdChange
  with_reducible repeat' (first | assumption | apply runs_awake | apply runs_same | apply runs_done | apply Evolves.refl | apply runs_ite | apply ev_setFlag | (refine ev_when ?_ _ _ (fun _ _ => ?_)) | apply ev_linksDown)

theorem runs_resetN  (s : State) : Runs s (execResetN s) := by
  unfold execResetN
  with_reducible repeat' (first | assumption | apply runs_awake | apply runs_same | apply runs_done | apply Evolves.refl | apply runs_ite | apply ev_retain | apply ev_warmReset | apply ev_ite)

theorem runs_systemReset (by_ : Agent) (v : Word) (s : State) : Runs s (execSystemReset by_ v s) := by
  unfold execSystemReset
  with_reducible repeat' (first | assumption | apply runs_awake | apply runs_same | apply runs_done | apply Evolves.refl | apply runs_ite | (refine ev_guard ?_ _ _ _ _ _ (fun _ _ => ?_)) | apply ev_rstWrite)

theorem runs_debugReset  (s : State) : Runs s (execDebugReset s) := by
  unfold execDebugReset
  with_reducible repeat' (first | assumption | apply runs_awake | apply runs_same | apply runs_done | apply Evolves.refl | apply runs_ite | apply ev_warmReset | apply ev_ite)

theorem runs_sleepRequest (by_ : Agent) (v : Word) (s : State) : Runs s (execSleepRequest by_ v s) := by
  unfold execSleepRequest
  with_reducible repeat' (first | assumption | apply runs_awake | apply runs_same | apply runs_done | apply Evolves.refl | apply runs_ite | (refine ev_guard ?_ _ _ _ _ _ (fun _ _ => ?_)) | apply ev_slpWrite)

theorem runs_wakePin (k : Fin 4) (s : State) : Runs s (execWakePin k s) := by
  unfold execWakePin
  with_reducible repeat' (first | assumption | apply runs_awake | apply runs_same | apply runs_done | apply Evolves.refl | apply runs_ite | apply ev_wakeAt | apply ev_ite)

theorem runs_holdBegin (n : Fin 6) (s : State) : Runs s (execHoldBegin n s) := by
  unfold execHoldBegin
  with_reducible repeat' (first | assumption | apply runs_awake | apply runs_same | apply runs_done | apply Evolves.refl | apply runs_ite | apply ev_setTr | apply ev_setFld | apply ev_ite | split)

theorem runs_toothCommit (by_ : Agent) (n : Fin 6) (s : State) : Runs s (execToothCommit by_ n s) := by
  unfold execToothCommit
  with_reducible repeat' (first | assumption | apply runs_awake | apply runs_same | apply runs_done | apply Evolves.refl | apply runs_ite | (refine ev_guard ?_ _ _ _ _ _ (fun _ _ => ?_)) | apply ev_pcmd)

theorem runs_clrcor (by_ : Agent) (n : Fin 6) (s : State) : Runs s (execClrcor by_ n s) := by
  unfold execClrcor
  with_reducible repeat' (first | assumption | apply runs_awake | apply runs_same | apply runs_done | apply Evolves.refl | apply runs_ite | (refine ev_guard ?_ _ _ _ _ _ (fun _ _ => ?_)) | apply ev_pcmd)

theorem runs_corWrite (by_ : Agent) (n : Fin 6) (j : Fin 256) (v : Word) (s : State) : Runs s (execCorWrite by_ n j v s) := by
  unfold execCorWrite
  with_reducible repeat' (first | assumption | apply runs_awake | apply runs_same | apply runs_done | apply Evolves.refl | apply runs_ite | (refine ev_guard ?_ _ _ _ _ _ (fun _ _ => ?_)) | apply ev_corWrite)

theorem runs_cycleWrap (n : Fin 6) (s : State) : Runs s (execCycleWrap n s) := by
  unfold execCycleWrap
  with_reducible repeat' (first | assumption | apply runs_awake | apply runs_same | apply runs_done | apply Evolves.refl | apply runs_ite | (refine ev_each ?_ _ _ (fun _ _ _ => ?_)) | apply ev_setFld | (refine ev_when ?_ _ _ (fun _ _ => ?_)))

theorem runs_markFire (m : Fin 256) (s : State) : Runs s (execMarkFire m s) := by
  unfold execMarkFire
  with_reducible repeat' (first | assumption | apply runs_awake | apply runs_same | apply runs_done | apply Evolves.refl | apply runs_ite | apply ev_hwBank | apply ev_emit | (refine ev_when ?_ _ _ (fun _ _ => ?_)) | apply ev_fire | apply ev_mk)

theorem runs_mkPosWrite (by_ : Agent) (m : Fin 256) (v : Word) (s : State) : Runs s (execMkPosWrite by_ m v s) := by
  unfold execMkPosWrite
  with_reducible repeat' (first | assumption | apply runs_awake | apply runs_same | apply runs_done | apply Evolves.refl | apply runs_ite | (refine ev_guard ?_ _ _ _ _ _ (fun _ _ => ?_)) | apply ev_mkPosWrite)

theorem runs_pwmReload (c : Fin 128) (s : State) : Runs s (execPwmReload c s) := by
  unfold execPwmReload
  with_reducible repeat' (first | assumption | apply runs_awake | apply runs_same | apply runs_done | apply Evolves.refl | apply runs_ite | apply ev_pwmReload | apply ev_ite | split)

theorem runs_pwmOffEdge (c : Fin 128) (s : State) : Runs s (execPwmOffEdge c s) := by
  unfold execPwmOffEdge
  with_reducible repeat' (first | assumption | apply runs_awake | apply runs_same | apply runs_done | apply Evolves.refl | apply runs_ite | apply ev_setCh | apply ev_setFld | (refine ev_when ?_ _ _ (fun _ _ => ?_)) | apply ev_huskFall | apply ev_ite | split)

theorem runs_pwmShadowWrite (by_ : Agent) (c : Fin 128) (duty : Bool) (v : Word) (s : State) : Runs s (execPwmShadowWrite by_ c duty v s) := by
  unfold execPwmShadowWrite
  with_reducible repeat' (first | assumption | apply runs_awake | apply runs_same | apply runs_done | apply Evolves.refl | apply runs_ite | (refine ev_guard ?_ _ _ _ _ _ (fun _ _ => ?_)) | apply ev_pwmShadow)

theorem runs_pwmLockWrite (by_ : Agent) (c : Fin 128) (v : Word) (s : State) : Runs s (execPwmLockWrite by_ c v s) := by
  unfold execPwmLockWrite
  with_reducible repeat' (first | assumption | apply runs_awake | apply runs_same | apply runs_done | apply Evolves.refl | apply runs_ite | (refine ev_guard ?_ _ _ _ _ _ (fun _ _ => ?_)) | apply ev_pwmLock)

theorem runs_injdlyWrite (by_ : Agent) (c : Fin 128) (v : Word) (s : State) : Runs s (execInjdlyWrite by_ c v s) := by
  unfold execInjdlyWrite
  with_reducible repeat' (first | assumption | apply runs_awake | apply runs_same | apply runs_done | apply Evolves.refl | apply runs_ite | (refine ev_guard ?_ _ _ _ _ _ (fun _ _ => ?_)) | apply ev_injdly)

theorem runs_knockSample (k : Fin 4) (x : BitVec 24) (clip : Bool) (_awStamp : Word) (s : State) : Runs s (execKnockSample k x clip _awStamp s) := by
  unfold execKnockSample
  with_reducible repeat' (first | assumption | apply runs_awake | apply runs_same | apply runs_done | apply Evolves.refl | apply runs_ite | apply ev_knkSample | apply ev_ite)

theorem runs_knockOpen (k : Fin 4) (s : State) : Runs s (execKnockOpen k s) := by
  unfold execKnockOpen
  with_reducible repeat' (first | assumption | apply runs_awake | apply runs_same | apply runs_done | apply Evolves.refl | apply runs_ite | apply ev_knkOpen | (refine ev_taskTake ?_ (by assumption)) | apply ev_ite | split | dsimp only)

theorem runs_knockResultPost (k : Fin 4) (s : State) : Runs s (execKnockResultPost k s) := by
  unfold execKnockResultPost
  with_reducible repeat' (first | assumption | apply runs_awake | apply runs_same | apply runs_done | apply Evolves.refl | apply runs_ite | apply ev_knkPost)

theorem runs_knkResRead (by_ : Agent) (k : Fin 4) (s : State) : Runs s (execKnkResRead by_ k s) := by
  unfold execKnkResRead
  with_reducible repeat' (first | assumption | apply runs_awake | apply runs_same | apply runs_done | apply Evolves.refl | apply runs_ite | (refine ev_guard ?_ _ _ _ _ _ (fun _ _ => ?_)) | apply ev_knkRead)

theorem runs_ntShadowWrite (by_ : Agent) (r : NtReg) (high : Bool) (v : Word) (s : State) : Runs s (execNtShadowWrite by_ r high v s) := by
  unfold execNtShadowWrite
  with_reducible repeat' (first | assumption | apply runs_awake | apply runs_same | apply runs_done | apply Evolves.refl | apply runs_ite | (refine ev_guard ?_ _ _ _ _ _ (fun _ _ => ?_)) | apply ev_ntWrite)

theorem runs_ntArm (by_ : Agent) (s : State) : Runs s (execNtArm by_ s) := by
  unfold execNtArm
  with_reducible repeat' (first | assumption | apply runs_awake | apply runs_same | apply runs_done | apply Evolves.refl | apply runs_ite | (refine ev_guard ?_ _ _ _ _ _ (fun _ _ => ?_)) | apply ev_ntArm)

theorem runs_ntApply  (s : State) : Runs s (execNtApply s) := by
  unfold execNtApply
  with_reducible repeat' (first | assumption | apply runs_awake | apply runs_same | apply runs_done | apply Evolves.refl | apply runs_ite | apply ev_ntApply)

theorem runs_gptpServoUpdate (port : Fin 2) (nb : BitVec 64) (no : BitVec 64) (nr : BitVec 64) (na : BitVec 64) (s : State) : Runs s (execGptpServoUpdate port nb no nr na s) := by
  unfold execGptpServoUpdate
  with_reducible repeat' (first | assumption | apply runs_awake | apply runs_same | apply runs_done | apply Evolves.refl | apply runs_ite | apply ev_setFld | apply ev_mk)

theorem runs_tmrStart (by_ : Agent) (t : Fin 48) (s : State) : Runs s (execTmrStart by_ t s) := by
  unfold execTmrStart
  with_reducible repeat' (first | assumption | apply runs_awake | apply runs_same | apply runs_done | apply Evolves.refl | apply runs_ite | (refine ev_guard ?_ _ _ _ _ _ (fun _ _ => ?_)) | apply ev_tmrCtl)

theorem runs_tmrStop (by_ : Agent) (t : Fin 48) (s : State) : Runs s (execTmrStop by_ t s) := by
  unfold execTmrStop
  with_reducible repeat' (first | assumption | apply runs_awake | apply runs_same | apply runs_done | apply Evolves.refl | apply runs_ite | (refine ev_guard ?_ _ _ _ _ _ (fun _ _ => ?_)) | apply ev_tmrCtl)

theorem runs_tmrCntWrite (by_ : Agent) (t : Fin 48) (v : Word) (s : State) : Runs s (execTmrCntWrite by_ t v s) := by
  unfold execTmrCntWrite
  with_reducible repeat' (first | assumption | apply runs_awake | apply runs_same | apply runs_done | apply Evolves.refl | apply runs_ite | (refine ev_guard ?_ _ _ _ _ _ (fun _ _ => ?_)) | apply ev_tmrCnt)

theorem runs_tmrShadowWrite (by_ : Agent) (t : Fin 48) (cmp : Bool) (v : Word) (s : State) : Runs s (execTmrShadowWrite by_ t cmp v s) := by
  unfold execTmrShadowWrite
  with_reducible repeat' (first | assumption | apply runs_awake | apply runs_same | apply runs_done | apply Evolves.refl | apply runs_ite | (refine ev_guard ?_ _ _ _ _ _ (fun _ _ => ?_)) | apply ev_tmrShadow)

theorem runs_timerTick (t : Fin 48) (s : State) : Runs s (execTimerTick t s) := by
  unfold execTimerTick
  with_reducible repeat' (first | assumption | apply runs_awake | apply runs_same | apply runs_done | apply Evolves.refl | apply runs_ite | apply ev_tmrDue)

theorem runs_timerTake (t : Fin 48) (s : State) : Runs s (execTimerTake t s) := by
  unfold execTimerTake
  with_reducible repeat' (first | assumption | apply runs_awake | apply runs_same | apply runs_done | apply Evolves.refl | apply runs_ite | apply ev_tmrTake)

theorem runs_captureEdge (t : Fin 48) (edge : SignedEdge) (s : State) : Runs s (execCaptureEdge t edge s) := by
  unfold execCaptureEdge
  with_reducible repeat' (first | assumption | apply runs_awake | apply runs_same | apply runs_done | apply Evolves.refl | apply runs_ite | apply ev_tmrCapture)

theorem runs_capRead (by_ : Agent) (t : Fin 48) (s : State) : Runs s (execCapRead by_ t s) := by
  unfold execCapRead
  with_reducible repeat' (first | assumption | apply runs_awake | apply runs_same | apply runs_done | apply Evolves.refl | apply runs_ite | (refine ev_guard ?_ _ _ _ _ _ (fun _ _ => ?_)) | apply ev_capRead)

theorem runs_dtpSubmit (p : Path) (h : DtpHeader) (chan : BitVec 16) (evs : List EventWords) (s : State) : Runs s (execDtpSubmit p h chan evs s) := by
  unfold execDtpSubmit
  with_reducible repeat' (first | assumption | apply runs_awake | apply runs_same | apply runs_done | apply Evolves.refl | apply runs_ite | apply ev_tenant)

theorem runs_dtpCut (p : Path) (h : DtpHeader) (mask : BitVec 128) (s : State) : Runs s (execDtpCut p h mask s) := by
  unfold execDtpCut
  with_reducible repeat' (first | assumption | apply runs_awake | apply runs_same | apply runs_done | apply Evolves.refl | apply runs_ite | apply ev_tenant)

theorem runs_dtpUncut (p : Path) (h : DtpHeader) (mask : BitVec 128) (s : State) : Runs s (execDtpUncut p h mask s) := by
  unfold execDtpUncut
  with_reducible repeat' (first | assumption | apply runs_awake | apply runs_same | apply runs_done | apply Evolves.refl | apply runs_ite | apply ev_tenant)

theorem runs_dtpFlush (p : Path) (h : DtpHeader) (chan : BitVec 16) (ctl : Byte) (s : State) : Runs s (execDtpFlush p h chan ctl s) := by
  unfold execDtpFlush
  with_reducible repeat' (first | assumption | apply runs_awake | apply runs_same | apply runs_done | apply Evolves.refl | apply runs_ite | apply ev_tenant)

theorem runs_dtpRead (p : Path) (h : DtpHeader) (addr : Word) (count : Byte) (s : State) : Runs s (execDtpRead p h addr count s) := by
  unfold execDtpRead
  with_reducible repeat' (first | assumption | apply runs_awake | apply runs_same | apply runs_done | apply Evolves.refl | apply runs_ite | apply ev_tenant)

theorem runs_dtpWrite (p : Path) (h : DtpHeader) (addr : Word) (ws : List Word) (s : State) : Runs s (execDtpWrite p h addr ws s) := by
  unfold execDtpWrite
  with_reducible repeat' (first | assumption | apply runs_awake | apply runs_same | apply runs_done | apply Evolves.refl | apply runs_ite | apply ev_tenant)

theorem runs_dtpSubscribe (p : Path) (h : DtpHeader) (kind : Byte) (period : BitVec 16) (mask : BitVec 128) (s : State) : Runs s (execDtpSubscribe p h kind period mask s) := by
  unfold execDtpSubscribe
  with_reducible repeat' (first | assumption | apply runs_awake | apply runs_same | apply runs_done | apply Evolves.refl | apply runs_ite | apply ev_tenant)

theorem runs_dtpEcho (p : Path) (h : DtpHeader) (s : State) : Runs s (execDtpEcho p h s) := by
  unfold execDtpEcho
  with_reducible repeat' (first | assumption | apply runs_awake | apply runs_same | apply runs_done | apply Evolves.refl | apply runs_ite | apply ev_tenant)

theorem runs_dtpDroppedMessage (p : Path) (msg : List Byte) (s : State) : Runs s (execDtpDroppedMessage p msg s) := by
  unfold execDtpDroppedMessage
  with_reducible repeat' (first | assumption | apply runs_awake | apply runs_same | apply runs_done | apply Evolves.refl | apply runs_ite | apply ev_arrive)

theorem runs_operationExecute (x : Fin 512) (s : State) : Runs s (execOperationExecute x s) := by
  unfold execOperationExecute
  with_reducible repeat' (first | assumption | apply runs_awake | apply runs_same | apply runs_done | apply Evolves.refl | apply runs_ite | apply ev_gwExecute)

theorem runs_doorbell (x : Fin 512) (len : Nat) (s : State) : Runs s (execDoorbell x len s) := by
  unfold execDoorbell
  with_reducible repeat' (first | assumption | apply runs_awake | apply runs_same | apply runs_done | apply Evolves.refl | apply runs_ite | apply ev_ring)

theorem runs_publishSend (x : Fin 512) (kind : Fin 2) (s : State) : Runs s (execPublishSend x kind s) := by
  unfold execPublishSend
  with_reducible repeat' (first | assumption | apply runs_awake | apply runs_same | apply runs_done | apply Evolves.refl | apply runs_ite | apply ev_publishDue)

theorem runs_hostQueueFrame (port : Fin 2) (frame : List Byte) (s : State) : Runs s (execHostQueueFrame port frame s) := by
  unfold execHostQueueFrame
  with_reducible repeat' (first | assumption | apply runs_awake | apply runs_same | apply runs_done | apply Evolves.refl | apply runs_ite | apply ev_hostFrame)

theorem runs_canBusOff (n : Fin 4) (s : State) : Runs s (execCanBusOff n s) := by
  unfold execCanBusOff
  with_reducible repeat' (first | assumption | apply runs_awake | apply runs_same | apply runs_done | apply Evolves.refl | apply runs_ite | apply ev_raiseFault | apply ev_ite)

theorem runs_canFrameReceive (n : Fin 4) (id : Word) (payload : List Byte) (s : State) : Runs s (execCanFrameReceive n id payload s) := by
  unfold execCanFrameReceive
  with_reducible repeat' (first | assumption | apply runs_awake | apply runs_same | apply runs_done | apply Evolves.refl | apply runs_ite | apply ev_canFrame)

theorem runs_xspCmdGo (by_ : Agent) (v : Word) (faddr : BitVec 28) (s : State) : Runs s (execXspCmdGo by_ v faddr s) := by
  unfold execXspCmdGo
  with_reducible repeat' (first | assumption | apply runs_awake | apply runs_same | apply runs_done | apply Evolves.refl | apply runs_ite | (refine ev_guard ?_ _ _ _ _ _ (fun _ _ => ?_)) | apply ev_xspWrite)

theorem runs_xspCmdDone (ok : Bool) (s : State) : Runs s (execXspCmdDone ok s) := by
  unfold execXspCmdDone
  with_reducible repeat' (first | assumption | apply runs_awake | apply runs_same | apply runs_done | apply Evolves.refl | apply runs_ite | apply ev_xspDone)

theorem runs_tokenRefill  (s : State) : Runs s (execTokenRefill s) := by
  unfold execTokenRefill
  with_reducible repeat' (first | assumption | apply runs_awake | apply runs_same | apply runs_done | apply Evolves.refl | apply runs_ite | apply ev_refill)

theorem runs_linkStateChange (link : Link) (up : Bool) (code : BitVec 3) (s : State) : Runs s (execLinkStateChange link up code s) := by
  unfold execLinkStateChange
  with_reducible repeat' (first | assumption | apply runs_awake | apply runs_same | apply runs_done | apply Evolves.refl | apply runs_ite | apply ev_linkChange)

theorem runs_cpRestart (by_ : Agent) (n : Fin 4) (s : State) : Runs s (execCpRestart by_ n s) := by
  unfold execCpRestart
  with_reducible repeat' (first | assumption | apply runs_awake | apply runs_same | apply runs_done | apply Evolves.refl | apply runs_ite | (refine ev_guard ?_ _ _ _ _ _ (fun _ _ => ?_)) | apply ev_cpCtl)

theorem runs_cpHalt (by_ : Agent) (n : Fin 4) (s : State) : Runs s (execCpHalt by_ n s) := by
  unfold execCpHalt
  with_reducible repeat' (first | assumption | apply runs_awake | apply runs_same | apply runs_done | apply Evolves.refl | apply runs_ite | (refine ev_guard ?_ _ _ _ _ _ (fun _ _ => ?_)) | apply ev_cpCtl)

theorem runs_lockstepMismatch (n : Fin 4) (s : State) : Runs s (execLockstepMismatch n s) := by
  unfold execLockstepMismatch
  with_reducible repeat' (first | assumption | apply runs_awake | apply runs_same | apply runs_done | apply Evolves.refl | apply runs_ite | apply ev_cpStop | apply ev_raiseFault | apply ev_ite)

theorem runs_eccError (where_ : EccSite) (access : EccAccess) (s : State) : Runs s (execEccError where_ access s) := by
  unfold execEccError
  with_reducible repeat' (first | assumption | apply runs_awake | apply runs_same | apply runs_done | apply Evolves.refl | apply runs_ite | apply ev_eccError)

theorem runs_interruptEntry (n : Fin 4) (s : State) : Runs s (execInterruptEntry n s) := by
  unfold execInterruptEntry
  with_reducible repeat' (first | assumption | apply runs_awake | apply runs_same | apply runs_done | apply Evolves.refl | apply runs_ite | apply ev_intEntry)

theorem runs_iret (n : Fin 4) (s : State) : Runs s (execIret n s) := by
  unfold execIret
  with_reducible repeat' (first | assumption | apply runs_awake | apply runs_same | apply runs_done | apply Evolves.refl | apply runs_ite | apply ev_iret)

theorem runs_doubleTrap (n : Fin 4) (s : State) : Runs s (execDoubleTrap n s) := by
  unfold execDoubleTrap
  with_reducible repeat' (first | assumption | apply runs_awake | apply runs_same | apply runs_done | apply Evolves.refl | apply runs_ite | apply ev_doubleTrap | apply ev_ite)

theorem runs_irtClaim (by_ : Agent) (n : Fin 4) (s : State) : Runs s (execIrtClaim by_ n s) := by
  unfold execIrtClaim
  with_reducible repeat' (first | assumption | apply runs_awake | apply runs_same | apply runs_done | apply Evolves.refl | apply runs_ite | (refine ev_guard ?_ _ _ _ _ _ (fun _ _ => ?_)) | apply ev_claimRead)

theorem runs_irtEoi (by_ : Agent) (n : Fin 4) (v : Word) (s : State) : Runs s (execIrtEoi by_ n v s) := by
  unfold execIrtEoi
  with_reducible repeat' (first | assumption | apply runs_awake | apply runs_same | apply runs_done | apply Evolves.refl | apply runs_ite | (refine ev_guard ?_ _ _ _ _ _ (fun _ _ => ?_)) | apply ev_irtEoi)

theorem runs_irtSwset (by_ : Agent) (k : Fin 2) (v : Word) (s : State) : Runs s (execIrtSwset by_ k v s) := by
  unfold execIrtSwset
  with_reducible repeat' (first | assumption | apply runs_awake | apply runs_same | apply runs_done | apply Evolves.refl | apply runs_ite | (refine ev_guard ?_ _ _ _ _ _ (fun _ _ => ?_)) | apply ev_swSet)

theorem runs_irtSwclr (by_ : Agent) (k : Fin 2) (v : Word) (s : State) : Runs s (execIrtSwclr by_ k v s) := by
  unfold execIrtSwclr
  with_reducible repeat' (first | assumption | apply runs_awake | apply runs_same | apply runs_done | apply Evolves.refl | apply runs_ite | (refine ev_guard ?_ _ _ _ _ _ (fun _ _ => ?_)) | apply ev_swClear)

theorem runs_irtClrp (by_ : Agent) (src : Fin 576) (s : State) : Runs s (execIrtClrp by_ src s) := by
  unfold execIrtClrp
  with_reducible repeat' (first | assumption | apply runs_awake | apply runs_same | apply runs_done | apply Evolves.refl | apply runs_ite | (refine ev_guard ?_ _ _ _ _ _ (fun _ _ => ?_)) | apply ev_irtClear)

theorem runs_debugHalt (n : Fin 4) (s : State) : Runs s (execDebugHalt n s) := by
  unfold execDebugHalt
  with_reducible repeat' (first | assumption | apply runs_awake | apply runs_same | apply runs_done | apply Evolves.refl | apply runs_ite | apply ev_dbgHalt)

theorem runs_debugResume (n : Fin 4) (s : State) : Runs s (execDebugResume n s) := by
  unfold execDebugResume
  with_reducible repeat' (first | assumption | apply runs_awake | apply runs_same | apply runs_done | apply Evolves.refl | apply runs_ite | apply ev_dbgResume)

theorem runs_debugUnlock (r : BitVec 256) (sig : BitVec 256) (s : State) : Runs s (execDebugUnlock r sig s) := by
  unfold execDebugUnlock
  with_reducible repeat' (first | assumption | apply runs_awake | apply runs_same | apply runs_done | apply Evolves.refl | apply runs_ite | apply ev_dbgUnlock)

theorem runs_boundaryScanInstruction (ins : ScanInstr) (drive : List (Nat × Bool)) (s : State) : Runs s (execBoundaryScanInstruction ins drive s) := by
  unfold execBoundaryScanInstruction
  with_reducible repeat' (first | assumption | apply runs_awake | apply runs_same | apply runs_done | apply Evolves.refl | apply runs_ite | apply ev_scanLoad | (refine runs_next ?_ rfl))

theorem runs_psqStart (by_ : Agent) (q : Fin 16) (s : State) : Runs s (execPsqStart by_ q s) := by
  unfold execPsqStart
  with_reducible repeat' (first | assumption | apply runs_awake | apply runs_same | apply runs_done | apply Evolves.refl | apply runs_ite | (refine ev_guard ?_ _ _ _ _ _ (fun _ _ => ?_)) | apply ev_pqCtl)

theorem runs_psqHalt (by_ : Agent) (q : Fin 16) (s : State) : Runs s (execPsqHalt by_ q s) := by
  unfold execPsqHalt
  with_reducible repeat' (first | assumption | apply runs_awake | apply runs_same | apply runs_done | apply Evolves.refl | apply runs_ite | (refine ev_guard ?_ _ _ _ _ _ (fun _ _ => ?_)) | apply ev_pqCtl)

theorem runs_psqClrq (by_ : Agent) (q : Fin 16) (s : State) : Runs s (execPsqClrq by_ q s) := by
  unfold execPsqClrq
  with_reducible repeat' (first | assumption | apply runs_awake | apply runs_same | apply runs_done | apply Evolves.refl | apply runs_ite | (refine ev_guard ?_ _ _ _ _ _ (fun _ _ => ?_)) | apply ev_pqCtl)

theorem runs_txqWrite (by_ : Agent) (q : Fin 16) (v : Word) (s : State) : Runs s (execTxqWrite by_ q v s) := by
  unfold execTxqWrite
  with_reducible repeat' (first | assumption | apply runs_awake | apply runs_same | apply runs_done | apply Evolves.refl | apply runs_ite | (refine ev_guard ?_ _ _ _ _ _ (fun _ _ => ?_)) | apply ev_txWrite)

theorem runs_rxqRead (by_ : Agent) (q : Fin 16) (s : State) : Runs s (execRxqRead by_ q s) := by
  unfold execRxqRead
  with_reducible repeat' (first | assumption | apply runs_awake | apply runs_same | apply runs_done | apply Evolves.refl | apply runs_ite | (refine ev_guard ?_ _ _ _ _ _ (fun _ _ => ?_)) | apply ev_rxRead)

theorem runs_lineEdge (q : Fin 16) (k : Fin 4) (level : Bool) (stamp : BitVec 64) (s : State) : Runs s (execLineEdge q k level stamp s) := by
  unfold execLineEdge
  with_reducible repeat' (first | assumption | apply runs_awake | apply runs_same | apply runs_done | apply Evolves.refl | apply runs_ite | apply ev_pqLineEdge)

theorem runs_psqWaitDone (q : Fin 16) (s : State) : Runs s (execPsqWaitDone q s) := by
  unfold execPsqWaitDone
  with_reducible repeat' (first | assumption | apply runs_awake | apply runs_same | apply runs_done | apply Evolves.refl | apply runs_ite | apply ev_pqTry)

theorem runs_psqWaitTimeout (q : Fin 16) (s : State) : Runs s (execPsqWaitTimeout q s) := by
  unfold execPsqWaitTimeout
  with_reducible repeat' (first | assumption | apply runs_awake | apply runs_same | apply runs_done | apply Evolves.refl | apply runs_ite | apply ev_pqTimeout)

theorem runs_psqNop (q : Fin 16) (s : State) : Runs s (execPsqNop q s) := by
  unfold execPsqNop
  with_reducible repeat' (first | assumption | apply runs_awake | apply runs_same | apply runs_done | apply Evolves.refl | apply runs_ite | (refine ev_pqRun ?_ _ _ _ (fun _ _ _ => ?_)) | apply ev_pqStep)

theorem runs_psqBr (q : Fin 16) (s : State) : Runs s (execPsqBr q s) := by
  unfold execPsqBr
  with_reducible repeat' (first | assumption | apply runs_awake | apply runs_same | apply runs_done | apply Evolves.refl | apply runs_ite | (refine ev_pqRun ?_ _ _ _ (fun _ _ _ => ?_)) | apply ev_pqGo)

theorem runs_psqLoop (q : Fin 16) (s : State) : Runs s (execPsqLoop q s) := by
  unfold execPsqLoop
  with_reducible repeat' (first | assumption | apply runs_awake | apply runs_same | apply runs_done | apply Evolves.refl | apply runs_ite | (refine ev_pqRun ?_ _ _ _ (fun _ _ _ => ?_)) | apply ev_setPqReg | apply ev_pqGo)

theorem runs_psqBrl (q : Fin 16) (s : State) : Runs s (execPsqBrl q s) := by
  unfold execPsqBrl
  with_reducible repeat' (first | assumption | apply runs_awake | apply runs_same | apply runs_done | apply Evolves.refl | apply runs_ite | (refine ev_pqRun ?_ _ _ _ (fun _ _ _ => ?_)) | apply ev_pqGo)

theorem runs_psqDrv (q : Fin 16) (s : State) : Runs s (execPsqDrv q s) := by
  unfold execPsqDrv
  with_reducible repeat' (first | assumption | apply runs_awake | apply runs_same | apply runs_done | apply Evolves.refl | apply runs_ite | (refine ev_pqRun ?_ _ _ _ (fun _ _ _ => ?_)) | apply ev_setSq | apply ev_pqGo | apply ev_linesOut | apply ev_pqStep | apply ev_ite)

theorem runs_psqPinw (q : Fin 16) (s : State) : Runs s (execPsqPinw q s) := by
  unfold execPsqPinw
  with_reducible repeat' (first | assumption | apply runs_awake | apply runs_same | apply runs_done | apply Evolves.refl | apply runs_ite | (refine ev_pqRun ?_ _ _ _ (fun _ _ _ => ?_)) | apply ev_pqWait | apply ev_pqTry)

theorem runs_psqAwait (q : Fin 16) (s : State) : Runs s (execPsqAwait q s) := by
  unfold execPsqAwait
  with_reducible repeat' (first | assumption | apply runs_awake | apply runs_same | apply runs_done | apply Evolves.refl | apply runs_ite | (refine ev_pqRun ?_ _ _ _ (fun _ _ _ => ?_)) | apply ev_pqWait | apply ev_pqTry)

theorem runs_psqMeasure (q : Fin 16) (s : State) : Runs s (execPsqMeasure q s) := by
  unfold execPsqMeasure
  with_reducible repeat' (first | assumption | apply runs_awake | apply runs_same | apply runs_done | apply Evolves.refl | apply runs_ite | (refine ev_pqRun ?_ _ _ _ (fun _ _ _ => ?_)) | apply ev_pqMeasureBegin | apply ev_pqTry)

theorem runs_psqCpy (q : Fin 16) (s : State) : Runs s (execPsqCpy q s) := by
  unfold execPsqCpy
  with_reducible repeat' (first | assumption | apply runs_awake | apply runs_same | apply runs_done | apply Evolves.refl | apply runs_ite | (refine ev_pqRun ?_ _ _ _ (fun _ _ _ => ?_)) | apply ev_setPqReg | apply ev_pqStep)

theorem runs_psqLdi (q : Fin 16) (s : State) : Runs s (execPsqLdi q s) := by
  unfold execPsqLdi
  with_reducible repeat' (first | assumption | apply runs_awake | apply runs_same | apply runs_done | apply Evolves.refl | apply runs_ite | (refine ev_pqRun ?_ _ _ _ (fun _ _ _ => ?_)) | apply ev_setPqReg | apply ev_pqStep)

theorem runs_psqAdd (q : Fin 16) (s : State) : Runs s (execPsqAdd q s) := by
  unfold execPsqAdd
  with_reducible repeat' (first | assumption | apply runs_awake | apply runs_same | apply runs_done | apply Evolves.refl | apply runs_ite | (refine ev_pqRun ?_ _ _ _ (fun _ _ _ => ?_)) | apply ev_pqAlu)

theorem runs_psqSub (q : Fin 16) (s : State) : Runs s (execPsqSub q s) := by
  unfold execPsqSub
  with_reducible repeat' (first | assumption | apply runs_awake | apply runs_same | apply runs_done | apply Evolves.refl | apply runs_ite | (refine ev_pqRun ?_ _ _ _ (fun _ _ _ => ?_)) | apply ev_pqAlu)

theorem runs_psqAnd (q : Fin 16) (s : State) : Runs s (execPsqAnd q s) := by
  unfold execPsqAnd
  with_reducible repeat' (first | assumption | apply runs_awake | apply runs_same | apply runs_done | apply Evolves.refl | apply runs_ite | (refine ev_pqRun ?_ _ _ _ (fun _ _ _ => ?_)) | apply ev_pqAlu)

theorem runs_psqOr (q : Fin 16) (s : State) : Runs s (execPsqOr q s) := by
  unfold execPsqOr
  with_reducible repeat' (first | assumption | apply runs_awake | apply runs_same | apply runs_done | apply Evolves.refl | apply runs_ite | (refine ev_pqRun ?_ _ _ _ (fun _ _ _ => ?_)) | apply ev_pqAlu)

theorem runs_psqXor (q : Fin 16) (s : State) : Runs s (execPsqXor q s) := by
  unfold execPsqXor
  with_reducible repeat' (first | assumption | apply runs_awake | apply runs_same | apply runs_done | apply Evolves.refl | apply runs_ite | (refine ev_pqRun ?_ _ _ _ (fun _ _ _ => ?_)) | apply ev_pqAlu)

theorem runs_psqShl (q : Fin 16) (s : State) : Runs s (execPsqShl q s) := by
  unfold execPsqShl
  with_reducible repeat' (first | assumption | apply runs_awake | apply runs_same | apply runs_done | apply Evolves.refl | apply runs_ite | (refine ev_pqRun ?_ _ _ _ (fun _ _ _ => ?_)) | apply ev_pqAlu)

theorem runs_psqShr (q : Fin 16) (s : State) : Runs s (execPsqShr q s) := by
  unfold execPsqShr
  with_reducible repeat' (first | assumption | apply runs_awake | apply runs_same | apply runs_done | apply Evolves.refl | apply runs_ite | (refine ev_pqRun ?_ _ _ _ (fun _ _ _ => ?_)) | apply ev_pqAlu)

theorem runs_psqCmp (q : Fin 16) (s : State) : Runs s (execPsqCmp q s) := by
  unfold execPsqCmp
  with_reducible repeat' (first | assumption | apply runs_awake | apply runs_same | apply runs_done | apply Evolves.refl | apply runs_ite | (refine ev_pqRun ?_ _ _ _ (fun _ _ _ => ?_)) | apply ev_pqAlu)

theorem runs_psqDiv (q : Fin 16) (s : State) : Runs s (execPsqDiv q s) := by
  unfold execPsqDiv
  with_reducible repeat' (first | assumption | apply runs_awake | apply runs_same | apply runs_done | apply Evolves.refl | apply runs_ite | (refine ev_pqRun ?_ _ _ _ (fun _ _ _ => ?_)) | apply ev_setPqReg | apply ev_pqZN | apply ev_pqGo)

theorem runs_psqCrcstep (q : Fin 16) (s : State) : Runs s (execPsqCrcstep q s) := by
  unfold execPsqCrcstep
  with_reducible repeat' (first | assumption | apply runs_awake | apply runs_same | apply runs_done | apply Evolves.refl | apply runs_ite | (refine ev_pqRun ?_ _ _ _ (fun _ _ _ => ?_)) | apply ev_setPqReg | apply ev_pqStep)

theorem runs_psqSho (q : Fin 16) (s : State) : Runs s (execPsqSho q s) := by
  unfold execPsqSho
  with_reducible repeat' (first | assumption | apply runs_awake | apply runs_same | apply runs_done | apply Evolves.refl | apply runs_ite | (refine ev_pqRun ?_ _ _ _ (fun _ _ _ => ?_)) | apply ev_lineOut | apply ev_setPqReg | apply ev_pqStep)

theorem runs_psqShi (q : Fin 16) (s : State) : Runs s (execPsqShi q s) := by
  unfold execPsqShi
  with_reducible repeat' (first | assumption | apply runs_awake | apply runs_same | apply runs_done | apply Evolves.refl | apply runs_ite | (refine ev_pqRun ?_ _ _ _ (fun _ _ _ => ?_)) | apply ev_setPqReg | apply ev_pqStep)

theorem runs_psqTake (q : Fin 16) (s : State) : Runs s (execPsqTake q s) := by
  unfold execPsqTake
  with_reducible repeat' (first | assumption | apply runs_awake | apply runs_same | apply runs_done | apply Evolves.refl | apply runs_ite | (refine ev_pqRun ?_ _ _ _ (fun _ _ _ => ?_)) | apply ev_pqTake | apply ev_pqStep | apply ev_setPqReg | apply ev_setPqFlag | apply ev_bump | apply ev_cause | apply ev_pqWait | apply ev_pqTry | apply ev_ite | split)

theorem runs_psqGive (q : Fin 16) (s : State) : Runs s (execPsqGive q s) := by
  unfold execPsqGive
  with_reducible repeat' (first | assumption | apply runs_awake | apply runs_same | apply runs_done | apply Evolves.refl | apply runs_ite | (refine ev_pqRun ?_ _ _ _ (fun _ _ _ => ?_)) | apply ev_pqGive | apply ev_pqDrop | apply ev_pqStep | apply ev_pqWait | apply ev_pqTry | apply ev_ite)

theorem runs_psqDelay (q : Fin 16) (s : State) : Runs s (execPsqDelay q s) := by
  unfold execPsqDelay
  with_reducible repeat' (first | assumption | apply runs_awake | apply runs_same | apply runs_done | apply Evolves.refl | apply runs_ite | (refine ev_pqRun ?_ _ _ _ (fun _ _ _ => ?_)) | apply ev_pqGo)

theorem runs_psqSig (q : Fin 16) (s : State) : Runs s (execPsqSig q s) := by
  unfold execPsqSig
  with_reducible repeat' (first | assumption | apply runs_awake | apply runs_same | apply runs_done | apply Evolves.refl | apply runs_ite | (refine ev_pqRun ?_ _ _ _ (fun _ _ _ => ?_)) | (refine ev_when ?_ _ _ (fun _ _ => ?_)) | apply ev_emit | apply ev_cause | apply ev_pqStep)

theorem runs_psqStop (q : Fin 16) (s : State) : Runs s (execPsqStop q s) := by
  unfold execPsqStop
  with_reducible repeat' (first | assumption | apply runs_awake | apply runs_same | apply runs_done | apply Evolves.refl | apply runs_ite | (refine ev_pqRun ?_ _ _ _ (fun _ _ _ => ?_)) | apply ev_pqHalt)

theorem runs_registerWrite (by_ : Agent) (addr : Nat) (size : Size) (v : BitVec 64) (s : State) : Runs s (execRegisterWrite by_ addr size v s) := by
  unfold execRegisterWrite
  with_reducible repeat' (first | assumption | apply runs_awake | apply runs_same | apply runs_done | apply Evolves.refl | apply runs_ite | apply ev_busWrite)

theorem runs_readClear (by_ : Agent) (addr : Nat) (size : Size) (s : State) : Runs s (execReadClear by_ addr size s) := by
  unfold execReadClear
  with_reducible repeat' (first | assumption | apply runs_awake | apply runs_same | apply runs_done | apply Evolves.refl | apply runs_ite | apply ev_busRead)

theorem runs_latchedReadLow (by_ : Agent) (addr : Nat) (s : State) : Runs s (execLatchedReadLow by_ addr s) := by
  unfold execLatchedReadLow
  with_reducible repeat' (first | assumption | apply runs_awake | apply runs_same | apply runs_done | apply Evolves.refl | apply runs_ite | apply ev_busRead)

theorem runs_splitWriteLow (by_ : Agent) (addr : Nat) (v : Word) (s : State) : Runs s (execSplitWriteLow by_ addr v s) := by
  unfold execSplitWriteLow
  with_reducible repeat' (first | assumption | apply runs_awake | apply runs_same | apply runs_done | apply Evolves.refl | apply runs_ite | apply ev_busWrite)

theorem runs_splitWriteHigh (by_ : Agent) (addr : Nat) (v : Word) (s : State) : Runs s (execSplitWriteHigh by_ addr v s) := by
  unfold execSplitWriteHigh
  with_reducible repeat' (first | assumption | apply runs_awake | apply runs_same | apply runs_done | apply Evolves.refl | apply runs_ite | apply ev_busWrite)

end Sys2Proof.Machine
end

