-- ==== Sys2Proof/Laws/Lines.lean ====
section
/-! SUPPORT. What an interrupt cause does: it sets its status bits and makes sources pending, and touches nothing else. -/

namespace Sys2Proof.Machine

/-- Firing sources changes IRT_PEND registers and nothing else. -/
theorem each_fire (l : List Nat) (p : Nat → Bool) (s : State) :
    ∃ r, s.each l (fun t k => if p k then t.fire k else t) = { s with regs := r }
      ∧ ∀ a, (∀ k, k < 18 → IRT_PEND.addr k ≠ a) → tget 0 r a = s.rd a := by
  induction l generalizing s with
  | nil => exact ⟨s.regs, rfl, fun _ _ => rfl⟩
  | cons x l ih =>
    have one : ∃ r, (if p x then s.fire x else s) = { s with regs := r } ∧ ∀ a, (∀ k, k < 18 → IRT_PEND.addr k ≠ a) → tget 0 r a = s.rd a := by
      unfold State.fire
      split
      · split
        · exact ⟨_, rfl, fun a h => State.rd_setBankBit_ne s IRT_PEND x true a (h _ (by omega))⟩
        · exact ⟨s.regs, rfl, fun _ _ => rfl⟩
      · exact ⟨s.regs, rfl, fun _ _ => rfl⟩
    obtain ⟨r, h, hr⟩ := one
    obtain ⟨r', h', hr'⟩ := ih { s with regs := r }
    refine ⟨r', ?_, fun a ha => (hr' a ha).trans (hr a ha)⟩
    show State.each (if p x then s.fire x else s) l _ = _
    rw [h, h']

variable (s : State) (b : IntBlk) (n m : Nat)

/-- Setting causes sets the bits of the status register, may set bits of IRT_PEND, and marks the bits as set in this TCLK; it does nothing else. -/
theorem State.setCauses_spec : ∃ r d, s.setCauses b n m = { s with regs := r, base := d }
    ∧ (∀ a, (intSt b).addr n ≠ a → (∀ k, k < 18 → IRT_PEND.addr k ≠ a) → tget 0 r a = s.rd a)
    ∧ ((∀ k, k < 18 → IRT_PEND.addr k ≠ (intSt b).addr n) →
        tget 0 r ((intSt b).addr n) = s.rd ((intSt b).addr n) ||| BitVec.ofNat 32 m) := by
  let t := s.hwSet ((intSt b).addr n) (BitVec.ofNat 32 m)
  obtain ⟨r, h, hr⟩ := each_fire (s.sources b n) (fun k => t.line k && !s.line k) t
  refine ⟨r, t.base, h, fun a h1 h2 => (hr a h2).trans (tget_tput_ne _ _ _ h1), fun h2 => (hr _ h2).trans (tget_tput_same _ _ _ _)⟩

theorem State.cause_spec (f : Fld) : ∃ r d, s.cause b f n = { s with regs := r, base := d }
    ∧ (∀ a, (intSt b).addr n ≠ a → (∀ k, k < 18 → IRT_PEND.addr k ≠ a) → tget 0 r a = s.rd a)
    ∧ ((∀ k, k < 18 → IRT_PEND.addr k ≠ (intSt b).addr n) →
        tget 0 r ((intSt b).addr n) = s.rd ((intSt b).addr n) ||| BitVec.ofNat 32 (2 ^ f.lo)) := s.setCauses_spec b n _
@[simp] theorem State.setCauses_tb : (s.setCauses b n m).tb = s.tb := by obtain ⟨r, d, h, _⟩ := s.setCauses_spec b n m; rw [h]
@[simp] theorem State.setCauses_sram : (s.setCauses b n m).sram = s.sram := by obtain ⟨r, d, h, _⟩ := s.setCauses_spec b n m; rw [h]
@[simp] theorem State.setCauses_tcm : (s.setCauses b n m).tcm = s.tcm := by obtain ⟨r, d, h, _⟩ := s.setCauses_spec b n m; rw [h]
@[simp] theorem State.setCauses_flash : (s.setCauses b n m).flash = s.flash := by obtain ⟨r, d, h, _⟩ := s.setCauses_spec b n m; rw [h]
@[simp] theorem State.setCauses_bus : (s.setCauses b n m).bus = s.bus := by obtain ⟨r, d, h, _⟩ := s.setCauses_spec b n m; rw [h]
@[simp] theorem State.setCauses_rdLatch : (s.setCauses b n m).rdLatch = s.rdLatch := by obtain ⟨r, d, h, _⟩ := s.setCauses_spec b n m; rw [h]
@[simp] theorem State.setCauses_wrLatch : (s.setCauses b n m).wrLatch = s.wrLatch := by obtain ⟨r, d, h, _⟩ := s.setCauses_spec b n m; rw [h]
@[simp] theorem State.setCauses_cores : (s.setCauses b n m).cores = s.cores := by obtain ⟨r, d, h, _⟩ := s.setCauses_spec b n m; rw [h]
@[simp] theorem State.setCauses_nest : (s.setCauses b n m).nest = s.nest := by obtain ⟨r, d, h, _⟩ := s.setCauses_spec b n m; rw [h]
@[simp] theorem State.setCauses_angle : (s.setCauses b n m).angle = s.angle := by obtain ⟨r, d, h, _⟩ := s.setCauses_spec b n m; rw [h]
@[simp] theorem State.setCauses_trk : (s.setCauses b n m).trk = s.trk := by obtain ⟨r, d, h, _⟩ := s.setCauses_spec b n m; rw [h]
@[simp] theorem State.setCauses_strm : (s.setCauses b n m).strm = s.strm := by obtain ⟨r, d, h, _⟩ := s.setCauses_spec b n m; rw [h]
@[simp] theorem State.setCauses_jrnReq : (s.setCauses b n m).jrnReq = s.jrnReq := by obtain ⟨r, d, h, _⟩ := s.setCauses_spec b n m; rw [h]
@[simp] theorem State.setCauses_jrnHandle : (s.setCauses b n m).jrnHandle = s.jrnHandle := by obtain ⟨r, d, h, _⟩ := s.setCauses_spec b n m; rw [h]
@[simp] theorem State.setCauses_fco : (s.setCauses b n m).fco = s.fco := by obtain ⟨r, d, h, _⟩ := s.setCauses_spec b n m; rw [h]
@[simp] theorem State.setCauses_cls : (s.setCauses b n m).cls = s.cls := by obtain ⟨r, d, h, _⟩ := s.setCauses_spec b n m; rw [h]
@[simp] theorem State.setCauses_husk : (s.setCauses b n m).husk = s.husk := by obtain ⟨r, d, h, _⟩ := s.setCauses_spec b n m; rw [h]
@[simp] theorem State.setCauses_pad : (s.setCauses b n m).pad = s.pad := by obtain ⟨r, d, h, _⟩ := s.setCauses_spec b n m; rw [h]
@[simp] theorem State.setCauses_chan : (s.setCauses b n m).chan = s.chan := by obtain ⟨r, d, h, _⟩ := s.setCauses_spec b n m; rw [h]
@[simp] theorem State.setCauses_task : (s.setCauses b n m).task = s.task := by obtain ⟨r, d, h, _⟩ := s.setCauses_spec b n m; rw [h]
@[simp] theorem State.setCauses_adc : (s.setCauses b n m).adc = s.adc := by obtain ⟨r, d, h, _⟩ := s.setCauses_spec b n m; rw [h]
@[simp] theorem State.setCauses_gainAt : (s.setCauses b n m).gainAt = s.gainAt := by obtain ⟨r, d, h, _⟩ := s.setCauses_spec b n m; rw [h]
@[simp] theorem State.setCauses_gchg : (s.setCauses b n m).gchg = s.gchg := by obtain ⟨r, d, h, _⟩ := s.setCauses_spec b n m; rw [h]
@[simp] theorem State.setCauses_gainNext : (s.setCauses b n m).gainNext = s.gainNext := by obtain ⟨r, d, h, _⟩ := s.setCauses_spec b n m; rw [h]
@[simp] theorem State.setCauses_knk : (s.setCauses b n m).knk = s.knk := by obtain ⟨r, d, h, _⟩ := s.setCauses_spec b n m; rw [h]
@[simp] theorem State.setCauses_enc : (s.setCauses b n m).enc = s.enc := by obtain ⟨r, d, h, _⟩ := s.setCauses_spec b n m; rw [h]
@[simp] theorem State.setCauses_nt : (s.setCauses b n m).nt = s.nt := by obtain ⟨r, d, h, _⟩ := s.setCauses_spec b n m; rw [h]
@[simp] theorem State.setCauses_tmr : (s.setCauses b n m).tmr = s.tmr := by obtain ⟨r, d, h, _⟩ := s.setCauses_spec b n m; rw [h]
@[simp] theorem State.setCauses_psq : (s.setCauses b n m).psq = s.psq := by obtain ⟨r, d, h, _⟩ := s.setCauses_spec b n m; rw [h]
@[simp] theorem State.setCauses_gpin : (s.setCauses b n m).gpin = s.gpin := by obtain ⟨r, d, h, _⟩ := s.setCauses_spec b n m; rw [h]
@[simp] theorem State.setCauses_mkLast : (s.setCauses b n m).mkLast = s.mkLast := by obtain ⟨r, d, h, _⟩ := s.setCauses_spec b n m; rw [h]
@[simp] theorem State.setCauses_mkPrev : (s.setCauses b n m).mkPrev = s.mkPrev := by obtain ⟨r, d, h, _⟩ := s.setCauses_spec b n m; rw [h]
@[simp] theorem State.setCauses_angPast : (s.setCauses b n m).angPast = s.angPast := by obtain ⟨r, d, h, _⟩ := s.setCauses_spec b n m; rw [h]
@[simp] theorem State.setCauses_pwr : (s.setCauses b n m).pwr = s.pwr := by obtain ⟨r, d, h, _⟩ := s.setCauses_spec b n m; rw [h]
@[simp] theorem State.setCauses_slp : (s.setCauses b n m).slp = s.slp := by obtain ⟨r, d, h, _⟩ := s.setCauses_spec b n m; rw [h]
@[simp] theorem State.setCauses_roll : (s.setCauses b n m).roll = s.roll := by obtain ⟨r, d, h, _⟩ := s.setCauses_spec b n m; rw [h]
@[simp] theorem State.setCauses_acn : (s.setCauses b n m).acn = s.acn := by obtain ⟨r, d, h, _⟩ := s.setCauses_spec b n m; rw [h]
@[simp] theorem State.setCauses_img : (s.setCauses b n m).img = s.img := by obtain ⟨r, d, h, _⟩ := s.setCauses_spec b n m; rw [h]
@[simp] theorem State.setCauses_gw : (s.setCauses b n m).gw = s.gw := by obtain ⟨r, d, h, _⟩ := s.setCauses_spec b n m; rw [h]
@[simp] theorem State.setCauses_links : (s.setCauses b n m).links = s.links := by obtain ⟨r, d, h, _⟩ := s.setCauses_spec b n m; rw [h]
@[simp] theorem State.setCauses_cal : (s.setCauses b n m).cal = s.cal := by obtain ⟨r, d, h, _⟩ := s.setCauses_spec b n m; rw [h]
@[simp] theorem State.setCauses_dbg : (s.setCauses b n m).dbg = s.dbg := by obtain ⟨r, d, h, _⟩ := s.setCauses_spec b n m; rw [h]
@[simp] theorem State.setCauses_calForce : (s.setCauses b n m).calForce = s.calForce := by obtain ⟨r, d, h, _⟩ := s.setCauses_spec b n m; rw [h]
@[simp] theorem State.setCauses_calUse : (s.setCauses b n m).calUse = s.calUse := by obtain ⟨r, d, h, _⟩ := s.setCauses_spec b n m; rw [h]
@[simp] theorem State.setCauses_ask : (s.setCauses b n m).ask = s.ask := by obtain ⟨r, d, h, _⟩ := s.setCauses_spec b n m; rw [h]
@[simp] theorem State.setCauses_switched : (s.setCauses b n m).switched = s.switched := by obtain ⟨r, d, h, _⟩ := s.setCauses_spec b n m; rw [h]
@[simp] theorem State.setCauses_due : (s.setCauses b n m).due = s.due := by obtain ⟨r, d, h, _⟩ := s.setCauses_spec b n m; rw [h]
@[simp] theorem State.setCauses_sent : (s.setCauses b n m).sent = s.sent := by obtain ⟨r, d, h, _⟩ := s.setCauses_spec b n m; rw [h]
@[simp] theorem State.setCauses_free : (s.setCauses b n m).free = s.free := by obtain ⟨r, d, h, _⟩ := s.setCauses_spec b n m; rw [h]
@[simp] theorem State.setCauses_pending : (s.setCauses b n m).pending = s.pending := by obtain ⟨r, d, h, _⟩ := s.setCauses_spec b n m; rw [h]
@[simp] theorem State.cause_tb (f : Fld) : (s.cause b f n).tb = s.tb := s.setCauses_tb b n _
@[simp] theorem State.cause_sram (f : Fld) : (s.cause b f n).sram = s.sram := s.setCauses_sram b n _
@[simp] theorem State.cause_tcm (f : Fld) : (s.cause b f n).tcm = s.tcm := s.setCauses_tcm b n _
@[simp] theorem State.cause_flash (f : Fld) : (s.cause b f n).flash = s.flash := s.setCauses_flash b n _
@[simp] theorem State.cause_bus (f : Fld) : (s.cause b f n).bus = s.bus := s.setCauses_bus b n _
@[simp] theorem State.cause_rdLatch (f : Fld) : (s.cause b f n).rdLatch = s.rdLatch := s.setCauses_rdLatch b n _
@[simp] theorem State.cause_wrLatch (f : Fld) : (s.cause b f n).wrLatch = s.wrLatch := s.setCauses_wrLatch b n _
@[simp] theorem State.cause_cores (f : Fld) : (s.cause b f n).cores = s.cores := s.setCauses_cores b n _
@[simp] theorem State.cause_nest (f : Fld) : (s.cause b f n).nest = s.nest := s.setCauses_nest b n _
@[simp] theorem State.cause_angle (f : Fld) : (s.cause b f n).angle = s.angle := s.setCauses_angle b n _
@[simp] theorem State.cause_trk (f : Fld) : (s.cause b f n).trk = s.trk := s.setCauses_trk b n _
@[simp] theorem State.cause_strm (f : Fld) : (s.cause b f n).strm = s.strm := s.setCauses_strm b n _
@[simp] theorem State.cause_jrnReq (f : Fld) : (s.cause b f n).jrnReq = s.jrnReq := s.setCauses_jrnReq b n _
@[simp] theorem State.cause_jrnHandle (f : Fld) : (s.cause b f n).jrnHandle = s.jrnHandle := s.setCauses_jrnHandle b n _
@[simp] theorem State.cause_fco (f : Fld) : (s.cause b f n).fco = s.fco := s.setCauses_fco b n _
@[simp] theorem State.cause_cls (f : Fld) : (s.cause b f n).cls = s.cls := s.setCauses_cls b n _
@[simp] theorem State.cause_husk (f : Fld) : (s.cause b f n).husk = s.husk := s.setCauses_husk b n _
@[simp] theorem State.cause_pad (f : Fld) : (s.cause b f n).pad = s.pad := s.setCauses_pad b n _
@[simp] theorem State.cause_chan (f : Fld) : (s.cause b f n).chan = s.chan := s.setCauses_chan b n _
@[simp] theorem State.cause_task (f : Fld) : (s.cause b f n).task = s.task := s.setCauses_task b n _
@[simp] theorem State.cause_adc (f : Fld) : (s.cause b f n).adc = s.adc := s.setCauses_adc b n _
@[simp] theorem State.cause_gainAt (f : Fld) : (s.cause b f n).gainAt = s.gainAt := s.setCauses_gainAt b n _
@[simp] theorem State.cause_gchg (f : Fld) : (s.cause b f n).gchg = s.gchg := s.setCauses_gchg b n _
@[simp] theorem State.cause_gainNext (f : Fld) : (s.cause b f n).gainNext = s.gainNext := s.setCauses_gainNext b n _
@[simp] theorem State.cause_knk (f : Fld) : (s.cause b f n).knk = s.knk := s.setCauses_knk b n _
@[simp] theorem State.cause_enc (f : Fld) : (s.cause b f n).enc = s.enc := s.setCauses_enc b n _
@[simp] theorem State.cause_nt (f : Fld) : (s.cause b f n).nt = s.nt := s.setCauses_nt b n _
@[simp] theorem State.cause_tmr (f : Fld) : (s.cause b f n).tmr = s.tmr := s.setCauses_tmr b n _
@[simp] theorem State.cause_psq (f : Fld) : (s.cause b f n).psq = s.psq := s.setCauses_psq b n _
@[simp] theorem State.cause_gpin (f : Fld) : (s.cause b f n).gpin = s.gpin := s.setCauses_gpin b n _
@[simp] theorem State.cause_mkLast (f : Fld) : (s.cause b f n).mkLast = s.mkLast := s.setCauses_mkLast b n _
@[simp] theorem State.cause_mkPrev (f : Fld) : (s.cause b f n).mkPrev = s.mkPrev := s.setCauses_mkPrev b n _
@[simp] theorem State.cause_angPast (f : Fld) : (s.cause b f n).angPast = s.angPast := s.setCauses_angPast b n _
@[simp] theorem State.cause_pwr (f : Fld) : (s.cause b f n).pwr = s.pwr := s.setCauses_pwr b n _
@[simp] theorem State.cause_slp (f : Fld) : (s.cause b f n).slp = s.slp := s.setCauses_slp b n _
@[simp] theorem State.cause_roll (f : Fld) : (s.cause b f n).roll = s.roll := s.setCauses_roll b n _
@[simp] theorem State.cause_acn (f : Fld) : (s.cause b f n).acn = s.acn := s.setCauses_acn b n _
@[simp] theorem State.cause_img (f : Fld) : (s.cause b f n).img = s.img := s.setCauses_img b n _
@[simp] theorem State.cause_gw (f : Fld) : (s.cause b f n).gw = s.gw := s.setCauses_gw b n _
@[simp] theorem State.cause_links (f : Fld) : (s.cause b f n).links = s.links := s.setCauses_links b n _
@[simp] theorem State.cause_cal (f : Fld) : (s.cause b f n).cal = s.cal := s.setCauses_cal b n _
@[simp] theorem State.cause_dbg (f : Fld) : (s.cause b f n).dbg = s.dbg := s.setCauses_dbg b n _
@[simp] theorem State.cause_calForce (f : Fld) : (s.cause b f n).calForce = s.calForce := s.setCauses_calForce b n _
@[simp] theorem State.cause_calUse (f : Fld) : (s.cause b f n).calUse = s.calUse := s.setCauses_calUse b n _
@[simp] theorem State.cause_ask (f : Fld) : (s.cause b f n).ask = s.ask := s.setCauses_ask b n _
@[simp] theorem State.cause_switched (f : Fld) : (s.cause b f n).switched = s.switched := s.setCauses_switched b n _
@[simp] theorem State.cause_due (f : Fld) : (s.cause b f n).due = s.due := s.setCauses_due b n _
@[simp] theorem State.cause_sent (f : Fld) : (s.cause b f n).sent = s.sent := s.setCauses_sent b n _
@[simp] theorem State.cause_free (f : Fld) : (s.cause b f n).free = s.free := s.setCauses_free b n _
@[simp] theorem State.cause_pending (f : Fld) : (s.cause b f n).pending = s.pending := s.setCauses_pending b n _

/-- A register that is neither the status register of the block nor one of IRT_PEND stays. -/
theorem State.rd_cause_ne (f : Fld) (a : Nat) (h : (intSt b).addr n ≠ a) (h' : ∀ k, k < 18 → IRT_PEND.addr k ≠ a) : (s.cause b f n).rd a = s.rd a := by
  obtain ⟨r, d, e, hr, _⟩ := s.cause_spec b n f
  rw [e]; exact hr a h h'

theorem State.fld_cause_other (f g : Fld) (n' k' : Nat) (h : (intSt b).addr n ≠ g.addr n' k') (h' : ∀ k, k < 18 → IRT_PEND.addr k ≠ g.addr n' k') :
    (s.cause b f n).fld g n' k' = s.fld g n' k' := by rw [State.fld, State.rd_cause_ne s b n f _ h h', State.fld]

theorem State.bankBit_cause_other (f g : Fld) (i : Nat) (h : (intSt b).addr n ≠ g.addr (i / 32)) (h' : ∀ k, k < 18 → IRT_PEND.addr k ≠ g.addr (i / 32)) :
    (s.cause b f n).bankBit g i = s.bankBit g i := by rw [State.bankBit, State.rd_cause_ne s b n f _ h h', State.bankBit]

/-- The cause's own bit is set. -/
theorem State.flag_cause_same (f : Fld) (n : Nat) (hf : f.addr n = (intSt b).addr n) (hl : f.len = 1) (hb : f.lo < 32)
    (h : ∀ k, k < 18 → IRT_PEND.addr k ≠ (intSt b).addr n) : (s.cause b f n).flag f n = true := by
  obtain ⟨r, d, e, _, hr⟩ := s.cause_spec b n f
  have : (s.cause b f n).rd (f.addr n) = s.rd ((intSt b).addr n) ||| BitVec.ofNat 32 (2 ^ f.lo) := by rw [e, hf]; exact hr h
  have hw : (BitVec.ofNat 32 (2 ^ f.lo)).toNat = 2 ^ f.lo := by
    rw [BitVec.toNat_ofNat, Nat.mod_eq_of_lt]
    exact Nat.pow_lt_pow_right (by omega) hb
  rw [State.flag, State.fld, this, hl, bitsOf, BitVec.toNat_or, hw, bne_iff_ne]
  have hbit : Nat.testBit ((s.rd ((intSt b).addr n)).toNat ||| 2 ^ f.lo) f.lo = true := by
    rw [Nat.testBit_or, Nat.testBit_two_pow_self, Bool.or_true]
  rw [Nat.testBit_eq_decide_div_mod_eq, decide_eq_true_eq] at hbit
  rw [pow_one, hbit]; decide

end Sys2Proof.Machine
end

