-- ==== Sys2Proof/Laws/Faults.lean ====
section
/-! SUPPORT. What a fault's log entry and its record do: the log of the collector, or its overflow, and one record. -/

namespace Sys2Proof.Machine

variable (s : State)

/-- A log entry: one record is emitted; beside it only the collector's log, its overflow flag and cause, and IRT_PEND may change. -/
theorem State.logFault_spec (kind react src data : Nat) : ∃ (x : State) (r : Rec), s.logFault kind react src data = x.emit (.record r)
    ∧ r.ty = 5 ∧ r.src = src ∧ (∀ p, p ≠ .fco → p ≠ .base → s.same x p)
    ∧ ∀ a, FCO_LOGSTAT.addr ≠ a → FCO_INTST.addr ≠ a → (∀ k, k < 18 → IRT_PEND.addr k ≠ a) → x.rd a = s.rd a := by
  unfold State.logFault
  dsimp only
  split
  · exact ⟨s.setFco _, _, rfl, rfl, rfl, by intro p hp _; cases p <;> first | rfl | exact absurd rfl hp, fun a _ _ _ => rfl⟩
  · refine ⟨(s.hwFlag FCO_LOGSTAT_OVF).cause .fco FCO_INTST_LOGOVF, _, rfl, rfl, rfl, ?_, ?_⟩
    · intro p hp hb
      cases p <;> first | exact absurd rfl hb | simp [State.same, State.hwFlag, State.hwSet]
    · intro a h1 h2 h3
      rw [State.rd_cause_ne _ .fco 0 _ a h2 h3]
      exact tget_tput_ne _ _ _ h1

/-- An entry of the classifier about a channel: the same, with one free value taken. -/
theorem State.logCls_spec (c kind : Nat) : ∃ (x : State) (r : Rec), s.logCls c kind = x.emit (.record r) ∧ r.ty = 5 ∧ r.src = 256 + c
    ∧ (∀ p, p ≠ .fco → p ≠ .base → p ≠ .free → s.same x p)
    ∧ ∀ a, FCO_LOGSTAT.addr ≠ a → FCO_INTST.addr ≠ a → (∀ k, k < 18 → IRT_PEND.addr k ≠ a) → x.rd a = s.rd a := by
  obtain ⟨x, r, h1, h2, h3, h4, h5⟩ := (s.fresh 3).2.logFault_spec kind (s.fresh 3).1 (256 + c) ((s.fresh 3).2.recData (256 + c))
  refine ⟨x, r, h1, h2, h3, ?_, fun a a1 a2 a3 => h5 a a1 a2 a3⟩
  intro p hp hb hq
  have := h4 p hp hb
  cases p <;> first | exact this | exact absurd rfl hq

theorem State.rd_logCls_ne (c kind a : Nat) (h1 : FCO_LOGSTAT.addr ≠ a) (h2 : FCO_INTST.addr ≠ a) (h3 : ∀ k, k < 18 → IRT_PEND.addr k ≠ a) :
    (s.logCls c kind).rd a = s.rd a := by
  obtain ⟨x, r, e, _, _, _, h⟩ := s.logCls_spec c kind
  rw [e]; exact h a h1 h2 h3

theorem State.fld_logCls_other (c kind : Nat) (f : Fld) (n k : Nat) (h1 : FCO_LOGSTAT.addr ≠ f.addr n k) (h2 : FCO_INTST.addr ≠ f.addr n k)
    (h3 : ∀ j, j < 18 → IRT_PEND.addr j ≠ f.addr n k) : (s.logCls c kind).fld f n k = s.fld f n k := by
  rw [State.fld, s.rd_logCls_ne c kind _ h1 h2 h3, State.fld]

theorem State.bankBit_logCls_other (c kind : Nat) (f : Fld) (i : Nat) (h1 : FCO_LOGSTAT.addr ≠ f.addr (i / 32)) (h2 : FCO_INTST.addr ≠ f.addr (i / 32))
    (h3 : ∀ j, j < 18 → IRT_PEND.addr j ≠ f.addr (i / 32)) : (s.logCls c kind).bankBit f i = s.bankBit f i := by
  rw [State.bankBit, s.rd_logCls_ne c kind _ h1 h2 h3, State.bankBit]

theorem State.logCls_cls (c kind : Nat) : (s.logCls c kind).cls = s.cls := by
  obtain ⟨x, r, e, _, _, h, _⟩ := s.logCls_spec c kind
  rw [e]; exact h .cls (by decide) (by decide) (by decide)

theorem State.logCls_due (c kind : Nat) : ∃ r : Rec, (s.logCls c kind).due = s.due ++ [.record r] ∧ r.ty = 5 ∧ r.src = 256 + c := by
  obtain ⟨x, r, e, h2, h3, h, _⟩ := s.logCls_spec c kind
  have : x.due = s.due := h .due (by decide) (by decide) (by decide)
  exact ⟨r, by rw [e, State.emit_due, this], h2, h3⟩

end Sys2Proof.Machine
end

