-- ==== Sys2Proof/Tests/Slice0.lean ====
section
/-! SUPPORT. The author's own tests: what is not well formed, states that meet the hypotheses of every statement of
Obligations.lean, clause by clause, and a few steps whose results are the manual's words worked by hand. -/

set_option Elab.async false

namespace Sys2Proof.Tests

open Sys2Proof Sys2Proof.Machine

/-! What no command can be -/

/-- Every check of WellFormed refuses a term that breaks it: addresses and values (R26, R27), a pad test that fails without a cause (R201), counts of events and words
(R316), a doorbell beyond the message buffer (R330), octets of frames and messages, identifiers and payloads of CAN (R331), a release at E0 itself
(R386), scanned pads (R305). -/
theorem test_wf_refuses :
    (Instr.registerWrite (.cp 0) (2 ^ 32) .b32 0).wf = false ∧ (Instr.registerWrite (.cp 0) 0 .b8 256).wf = false
    ∧ (Instr.readClear (.cp 0) (2 ^ 32) .b32).wf = false ∧ (Instr.latchedReadLow (.cp 0) (2 ^ 32)).wf = false
    ∧ (Instr.splitWriteLow (.cp 0) (2 ^ 32) 0).wf = false ∧ (Instr.splitWriteHigh (.cp 0) (2 ^ 32) 0).wf = false
    ∧ (Instr.padTestDone 5 (some 0)).wf = false ∧ (Instr.doorbell 4 0x801).wf = false
    ∧ (Instr.canFrameReceive 0 (2 ^ 29) []).wf = false ∧ (Instr.wakeRelease 0).wf = false
    ∧ (Instr.boundaryScanInstruction .bypass [(3, true)]).wf = false ∧ (Instr.boundaryScanInstruction .extest [(128, true)]).wf = false
    ∧ (Instr.boundaryScanInstruction .extest [(3, true), (3, false)]).wf = false := by decide

/-- And lets through what lies at the edge of each. -/
theorem test_wf_passes :
    (Instr.registerWrite (.cp 0) (2 ^ 32 - 1) .b8 255).wf = true ∧ (Instr.registerWrite (.cp 0) 0 .b64 (-1)).wf = true
    ∧ (Instr.padTestDone 5 (some 6)).wf = true ∧ (Instr.padTestDone 5 none).wf = true ∧ (Instr.doorbell 4 0x800).wf = true
    ∧ (Instr.canFrameReceive 0 (2 ^ 29 - 1) []).wf = true ∧ (Instr.wakeRelease 1).wf = true
    ∧ (Instr.boundaryScanInstruction .extest [(127, true)]).wf = true := by decide

/-- Lists that are too long. -/
theorem test_wf_refuses_long :
    (Instr.dtpSubmit .pcie ⟨4, 0, 0, 0⟩ 0 (List.replicate 256 ⟨0, 0, 0, 0⟩)).wf = false
    ∧ (Instr.dtpWrite .pcie ⟨4, 0, 0, 0⟩ 0 (List.replicate 256 0)).wf = false ∧ octetsOk (2 ^ 16) = false ∧ canLenOk 2049 = false ∧ canLenOk 2048 = true := by decide +kernel

/-! States to start from -/

/-- A running block 2.5 s after its power-on: the image LOADED, pair 0 running, contexts 0 and 4 with every capability, both paths and every grant. -/
def live : State :=
  let s := { State.reset with tb := 1000000000 }
  let s := (s.setFld IMG_STATUS_STATE 2).setFld CPC_CPSTAT_STATE cpRunning
  let s := s.each [0, 4] fun s x => ((s.wr (CTX_CAP.addr x) 0xFFFFFFFF).wr (CTX_GRP.addr x) 0xFFFFFFFF).each (List.range 4) fun s k => s.wr (CTX_CHG.addr x k) 0xFFFFFFFF
  s.each [0, 1] fun s k => s.wr (CTX_ADCG.addr 0 k) 0xFFFFFFFF

/-- The core that makes the accesses. -/
abbrev cp : Agent := .cp 0

/-- Fields of `live` set one after another. -/
def live1 (f : Fld) (v : Nat) (n : Nat := 0) (k : Nat := 0) : State := live.setFld f v n k

/-! What the statements ask of a state, met clause by clause. The names follow Obligations.lean. -/

theorem test_meets_StepRunsFront :
    ({ State.reset with pending := [.rolloutCamEdge, .deltaSwitch] }).pending = .rolloutCamEdge :: [.deltaSwitch] := rfl

theorem test_meets_TimePasses : live.pending = [] ∧ live.pwr = .run ∧ ({ live with pwr := .retain }).pwr ≠ .run
    ∧ ∃ t, exec .deltaSwitch live = .next t := ⟨rfl, by decide, by decide, live, rfl⟩

theorem test_meets_StepKeepsSettled : State.reset.Settled ∧ live.Settled ∧ ∃ t, step State.reset = .next t :=
  ⟨by decide, by decide, ⟨_, rfl⟩⟩

/-- The last bit of a register with fields of each kind. -/ theorem test_meets_AccessCodes : (lookupReg (TMR_STAT.addr 47)).any fun h => h.half == 0 := by decide +kernel

theorem test_meets_RegisterWrite :
    let run := live.setFld CPC_CPSTAT_STATE cpRunning 3
    let plain (a : Nat) : Bool := (lookupReg a).any fun h => !ownWrites.contains h.row.fam && !h.row.wide && !h.row.readOnly
    (live.due = [] ∧ live.Admits cp (TMR_STAT.addr 47) true 0xFFFFFFFF ∧ plain (TMR_STAT.addr 47) ∧ plain (FCO_INTEN.addr) ∧ live.Admits cp FCO_INTEN.addr true 0x7F)
    ∧ (((lookupReg (TMR_STAT.addr 47)).any fun h => intBlkOf h.row.fam == none) ∧ live.Admits cp SYS_ID.addr true 0xFFFFFFFF
    ∧ (lookupReg SYS_ID.addr).all (·.row.readOnly) ∧ live.Admits cp 0x4000FFFC true 1 ∧ (lookupReg 0x4000FFFC).all (·.row.readOnly))
    ∧ (live.pwr = .run ∧ inBlock (CH_CMD.addr 127) = true ∧ CH_CMD.addr 127 % 4 = 0 ∧ live.pmpPass (.cp 3) (CH_CMD.addr 127) 4 true = true
    ∧ live.regAccess (.cp 3) (CH_CMD.addr 127) true 1 = false) ∧ (live.cpState 3 ≠ cpRunning ∧ run.cpState 3 = cpRunning ∧ (run.core 3).emerg = false
    ∧ run.pmpPass (.cp 3) (CH_CMD.addr 127) 4 true = true ∧ run.regAccess (.cp 3) (CH_CMD.addr 127) true 1 = false)
    ∧ (inBlock SYS_FNMODE.addr = true ∧ SYS_FNMODE.addr % 4 = 0 ∧ live.regAccess (.gw 511) SYS_FNMODE.addr true 1 = false
    ∧ live.imgState = isLoaded ∧ live.pageLive (0xFFFF / 0x4000) = false) := by
  refine ⟨?_, ?_, ?_, ?_, ?_⟩ <;> decide +kernel

theorem test_meets_LatchedAccesses :
    let counted := (live.setFld TRK_CNT_NOISE 255 5).newBase.setFld CTX_STAT_REFUSED 3 511
    let rc (s : State) (a : Nat) : Bool := decide (s.Admits cp a false 0) && (lookupReg a).any fun h => h.row.fields.any fun f => f.acc == .rc
    let moved := (live.setWide JS_HEADC 64 15).setWide JS_RELC 32 15
    let ring (v : Nat) := { moved with wrLatch := [(latchKey cp (JS_RELC.addr 15), some (BitVec.ofNat 32 v))] }
    (rc counted (TRK_CNT.addr 5) ∧ counted.baseRd (TRK_CNT.addr 5) = counted.rd (TRK_CNT.addr 5) ∧ rc live SCH_POOL.addr ∧ rc counted (CTX_STAT.addr 511)
    ∧ bitsOf (counted.baseRd (CTX_STAT.addr 511)) CTX_STAT_REFUSED.lo CTX_STAT_REFUSED.len < bitsOf (counted.rd (CTX_STAT.addr 511)) CTX_STAT_REFUSED.lo CTX_STAT_REFUSED.len)
    ∧ (live.Admits cp (TRK_EDGETB.addr 5) false 0 ∧ ((lookupReg (TRK_EDGETB.addr 5)).any fun h => h.row.wide && h.half == 0)
    ∧ live.Admits cp TB_COUNT.addr false 0 ∧ live.flag TB_NTCFG_ARM = false ∧ live.fld TB_NTCFG_SRC = 0)
    ∧ (live.Admits cp TB_NTBASE.addr true 0xFFFFFFFF ∧ live.Admits cp (TB_NTAPPLY.addr + 4) true 0xFFFFFFFF ∧ moved.Admits cp (JS_RELC.addr 15) true 64
    ∧ moved.Admits cp (JS_RELC.addr 15 + 4) true 0 ∧ (tget none (ring 64).wrLatch (latchKey cp (JS_RELC.addr 15))) = some 64)
    ∧ ((ring 64).Admits cp (JS_RELC.addr 15 + 4) true 0 ∧ moved.wide JS_RELC 15 = 32 ∧ moved.wide JS_HEADC 15 = 64
    ∧ (ring 65).Admits cp (JS_RELC.addr 15 + 4) true 0) := by
  refine ⟨?_, ?_, ?_, ?_⟩ <;> decide +kernel

/-- The last word of the last SRAM page below the staging buffer, which the image gives pair 0. -/
def paged : State := live.wr (CPC_PART.addr 27) 0x11111111

theorem test_meets_SramAccess :
    paged.Ready ∧ paged.pmpPass cp 0x206FFFFC 4 true = true ∧ paged.memAt cp 0x206FFFFC .b32 true = some .sram
    ∧ paged.pmpPass cp 0x206FFFFC 4 false = true ∧ paged.memAt cp 0x206FFFFC .b32 false = some .sram := by decide +kernel

/-- A change of FN_JREC is pending, and requests of FN_SYNC and FN_INJDLY are outstanding: one whose time is not up and one whose is. -/
def asking : State := ((live.setFld SYS_FNSTAT_PEND 0x40).setAsk fnSync 5 (some 1000000000)).setAsk fnInjdly 127 (some 1000000001)

theorem test_meets_FunctionModes :
    let last (fn m : Nat) := { asking.setFld SYS_FNSTAT_PEND (2 ^ fn) with switched := ((List.range m).map fun k => (fn * 128 + k, true)) }
    let used (s : State) := (s.setFld ADC_IN_EN 1 63).setFld ADC_IN_CONV 3 63
    (asking.Admits cp SYS_FNMODE.addr true 0xFF ∧ asking.Ready ∧ asking.fnPending fnJrec = true ∧ asking.jrnReq = none ∧ asking.fnAtPoint 0 5 = false)
    ∧ (asking.askOf fnRetry 0 = none ∧ asking.askOf fnSync 5 = some 1000000000 ∧ 1000000000 ≤ asking.now ∧ asking.askOf fnInjdly 127 = some 1000000001
    ∧ asking.now < 1000000001)
    ∧ ({ asking with tb := 1000000001 }.now = 1000000001 ∧ live.Ready ∧ live.ctxOf (.gw 4) = some 4 ∧ (live.setFld CTX_CAP_CAP 0 4).Ready
    ∧ (live.setFld CTX_CAP_CAP 0 4).cap 4 capCfgMode = false)
    ∧ ((last fnRetry 127).fnPending fnRetry = true ∧ (last fnRetry 127).fld FCO_BKT_CSTATE 127 ∉ [csCool, csHold, csWaitdec]
    ∧ (∀ j : Fin 128, j ≠ 127 → tget false (last fnRetry 127).switched (fnRetry * 128 + j) = true)
    ∧ tget false (last fnRetry 126).switched (fnRetry * 128 + 126) = false ∧ (last fnCaltrk 3).fnPending fnCaltrk = true)
    ∧ (((used (last fnCaltrk 3)).ad 3).conv = none ∧ 3 ∈ (used (last fnCaltrk 3)).fnInstances fnCaltrk ∧ tget false (last fnCaltrk 3).switched (fnCaltrk * 128 + 3) = false)
    ∧ ((live.setAsk fnJrec 0 (some 0)).askOf fnJrec 0 = some 0
    ∧ ({ live with jrnReq := some ⟨15, 255⟩ }.setStr 15 { Strm.zero with fifo := [⟨⟨2, 0, 7, 0, 0, false, 0, false, false, false, []⟩, 0⟩] }).jrnReq = some ⟨15, 255⟩
    ∧ (live.setFld TRK_STATE_STATE stCycleSync 5).trkState 5 = stCycleSync) := by
  refine ⟨?_, ?_, ?_, ?_, ?_, ?_⟩ <;> decide +kernel

/-! Trackers -/

/-- Tracker 5 is enabled, takes its direction from the pulse width, names cam input 3, and has an edge that its stop time has just passed;
tracker 4 is enabled and has made its transition of this TCLK. -/
def tracking : State :=
  let s := live.each [4, 5] fun s n => (s.setFld TRK_CFG_EN 1 n).setFld TRK_CFG_DIRSRC 1 n
  let s := (((s.setFld TRK_TTAB_NCAM 1 5).setFld TRK_CAM0_CIN 3 5 0).setFld TRK_CAM0_POL 1 5 0).setFld TRK_STATE_STATE stGapFound 5
  let s := ((s.setFld TRK_LOSS_STOPTMO 1 5).setWide TRK_EDGETB (1000000000 - 400002) 5).setTr 5 { haveLast := true, histN := 3, edgeSeq := 7 }
  s.setTr 4 { movedAt := some 1000000000 }

/-- Tracker 5 has a wheel of 3 teeth with its gap before entry 0, twice as wide as the others; it is in `st` on entry `e`, and its last edge was `t` TCLK before the one
that is evaluated now, `x` being what it holds beside that. -/
def wheel (st e t : Nat) (x : Trk) : State :=
  let s := ((live.setFld TRK_CFG_EN 1 5).setFld TRK_TTAB_NTOOTH 3 5).setFld TRK_CFG_SPAN 1 5
  let s := (((s.setFld TRK_TT_PITCH 200 5 0).setFld TRK_TT_PITCH 100 5 1).setFld TRK_TT_PITCH 100 5 2).setFld TRK_TT_SYNCGAP 1 5 0
  let s := ((((s.setFld TRK_GAP_GAPLO 28 5).setFld TRK_GAP_GAPHI 36 5).setFld TRK_GAP_TOL 64 5).setFld TRK_LOSS_LOSSN 2 5).setFld TRK_LOSS_FWDN 2 5
  let s := ((s.setFld TRK_STATE_STATE st 5).setFld TRK_STATE_TIDX e 5).setWide TRK_EDGETB (999999997 - t) 5
  s.setTr 5 { x with haveLast := true, tp := some 1000 }

/-- What the verification of an edge of `wheel` finds. -/
def found (e t : Nat) (x : Trk) : Verdict :=
  let s := wheel stRevSync e t x
  (s.verify 5 e (s.entPrev 5 e) (some t) (some 1000)).1

theorem test_meets_TrackerInputs_edges :
    let vr := (tracking.setFld TRK_CFG_INTYPE 1 5).setFld TRK_CFG_EDGE 1 5
    let first := { tracking with pending := [.stopTimeout 5] }
    let defers := wheel stReverse 2 1000 {}
    (tracking.Ready ∧ tracking.flag TRK_CFG_EN 5 = true ∧ tracking.flag TRK_CFG_EN 4 = true ∧ tracking.flag TRK_CFG_EDGE 5 = false ∧ tracking.fld TRK_INFLT_FILT 5 = 0)
    ∧ (tracking.vrThr 5 = 0 ∧ vr.vrThr 5 = 20 ∧ vr.flag TRK_CFG_EDGE 5 = true ∧ 999999997 + tracking.fld TRK_INFLT_FILT 5 + 3 = tracking.now
    ∧ (tracking.setFld TRK_INFLT_FILT 1023 5).fld TRK_INFLT_FILT 5 = 1023) ∧ (tracking.trkBusy 4 = true ∧ tracking.trkBusy 5 = false ∧ first.outranked 5 4 = true
    ∧ first.outranked 5 2 = false ∧ tracking.outranked 5 4 = false) ∧ (tracking.fld TRK_CFG_DIRSRC 5 = 1 ∧ live.fld TRK_CFG_DIRSRC 5 ≠ 1
    ∧ (defers.setFld TRK_CFG_DIRSRC 1 5).trkState 5 = stReverse ∧ defers.flag TRK_CFG_EN 5 = true ∧ ((defers.setFld TRK_INFLT_BLANK 8 5).blanked 5 (999999997 - 501) false = true))
    ∧ ((defers.setFld TRK_INFLT_BLANK 8 5).blanked 5 999999997 false = false ∧ tracking.fld TRK_INFLT_PWTHR 5 * 200 ≤ 0
    ∧ (tracking.setFld TRK_INFLT_PWTHR 1 5).fld TRK_INFLT_PWTHR 5 * 200 = 200 ∧ ((tracking.setTr 5 { pulse := some 999999798 }).tr 5).pulse = some 999999798
    ∧ ((tracking.setTr 5 { deferred := some 999999798 }).tr 5).deferred = some 999999798) := by
  refine ⟨?_, ?_, ?_, ?_, ?_⟩ <;> decide +kernel

/-- Every way in which the verification of an edge ends, and the gap test. -/
theorem test_meets_TrackerInputs_verdicts :
    let gap := (wheel stSeeking 2 2000 {}).gapTest 5 (some 2000) (some 1000)
    let back := (((wheel stRevSync 2 1000 {}).setFld TRK_CFG_DIRSRC 2 5).setFld TRK_PENC_AUPC 65535 5).wr (ENC_POS.addr 0) 0x80000000
    (found 0 2000 {} = .ok true ∧ found 2 1000 {} = .ok false ∧ found 2 1400 {} = .tol ∧ found 2 1400 { errs := 1 } = .tolLoss ∧ found 0 1000 {} = .missing)
    ∧ (found 2 2000 {} = .unexpected ∧ gap = true ∧ back.encBack 5 = true
    ∧ (wheel stReverse 2 1000 { fwd := 1 }).fld TRK_LOSS_FWDN 5 ≤ 2 ∧ (wheel stRestored 2 1000 { restEdges := 4 }).nTooth 5 + 2 ≤ 5) := by
  refine ⟨?_, ?_⟩ <;> decide +kernel

theorem test_meets_TrackerInputs_cam :
    let cam (st pos res mis : Nat) (x : Trk) : State :=
      ((((((wheel st 2 1000 x).setFld TRK_TTAB_NCAM 1 5).setFld TRK_CAM0_CIN 3 5 0).setFld TRK_CAM0_POL 1 5 0).setFld TRK_CAM0_POS pos 5 0).setFld TRK_LOSS_CAMRES res 5).setFld TRK_LOSS_CAMMIS mis 5
    let s := cam stRevSync 0 0 1 { cand := 3 }
    let stopped (st : Nat) (l : Bool) : State := (tracking.setFld TRK_STATE_STATE st 5).setTr 5 { haveLast := l }
    (s.Ready ∧ s.flag TRK_CFG_EN 5 = true ∧ s.camBound 5 3 = true ∧ (s.setFld TRK_CAMSEL 0xFFFFFFFF 5).camBound 5 3 = false ∧ s.fld TRK_CAMFLT_CFILT 5 = 0)
    ∧ (s.camNamed 5 3 true ≠ [] ∧ s.camNamed 5 3 false = [] ∧ 999999997 + s.fld TRK_CAMFLT_CFILT 5 + 3 = s.now ∧ s.awThen 5 999999997 = 0
    ∧ s.camMatch 5 3 true (posOf (s.awThen 5 999999997) % revAu) = [0]) ∧ ((s.tr 5).cand &&& 1 = 1 ∧ s.fld TRK_LOSS_CAMRES 5 ≤ (s.tr 5).nres + 1
    ∧ ¬(cam stRevSync 0 3 1 { cand := 3 }).fld TRK_LOSS_CAMRES 5 ≤ 1 ∧ (cam stRevSync 1000 0 1 {}).camMatch 5 3 true 0 = [] ∧ s.camPosOf 5 0 / revAu = 0)
    ∧ ((cam stCycleSync 0 0 1 {}).trkState 5 = stCycleSync ∧ (cam stCycleSync 1000 0 1 {}).camMatch 5 3 true 0 = [] ∧ (cam stCycleSync 1000 0 1 {}).fld TRK_LOSS_CAMMIS 5 ≤ 0 + 1
    ∧ (tracking.wide TRK_EDGETB 5 + tracking.fld TRK_INFLT_FILT 5 + 2 + tracking.fld TRK_LOSS_STOPTMO 5 * 400000 = tracking.now) ∧ tracking.trkState 5 ≠ stStopped)
    ∧ ((stopped stRestored true).trkState 5 = stRestored ∧ ((stopped stRestored true).tr 5).haveLast = true ∧ ((stopped stRestored false).tr 5).haveLast = false
    ∧ (stopped stStopped true).trkState 5 = stStopped ∧ (tracking.setTr 5 { deferred := some 999999999 }).now < 999999999 + 2 + 400000) := by
  refine ⟨?_, ?_, ?_, ?_, ?_⟩ <;> decide +kernel

/-- Tracker 5 seeks, and its host request is outstanding. -/
def seeking : State := (tracking.setFld TRK_STATE_STATE stSeeking 5).setFld TRK_DECSTAT_REQ 1 5

theorem test_meets_TrackerCommands :
    let busy := tracking.setTr 5 { movedAt := some 1000000000 }
    let at_ (st : Nat) := tracking.setFld TRK_STATE_STATE st 5
    let asked := (at_ stRestored).setAsk fnRestart 5 (some 1000000000)
    let spread (n r : Nat) := (seeking.setFld TRK_TTAB_NTOOTH n 5).setFld TRK_CFG_SPAN r 5
    (tracking.due = [] ∧ tracking.Admits cp (TRK_CMD.addr 5) true 1 ∧ tracking.trkState 5 ∈ [stGapFound, stRevSync, stCycleSync, stRestored, stReverse]
    ∧ tracking.Admits cp (TRK_CMD.addr 5) true 2 ∧ tracking.Admits cp (TRK_CMD.addr 5) true 4)
    ∧ (tracking.trkBusy 5 = false ∧ busy.trkBusy 5 = true ∧ busy.Admits cp (TRK_CMD.addr 5) true 4 ∧ (at_ stLost).trkState 5 = stLost
    ∧ ((at_ stLost).setFld TRK_CTRL_LOSTLATCH 1 5).flag TRK_CTRL_LOSTLATCH 5 = true) ∧ ((at_ stLost).flag TRK_CTRL_LOSTLATCH 5 = false
    ∧ (at_ stSeeking).trkState 5 = stSeeking ∧ tracking.askOf fnRestart 5 = none ∧ asked.askOf fnRestart 5 ≠ none ∧ asked.trkState 5 = stRestored)
    ∧ (((at_ stReverse).setAsk fnRestart 5 (some 0)).trkState 5 = stReverse ∧ (((at_ stCycleSync).setFld TRK_STATE_HELD 1 5).flag TRK_STATE_HELD 5 = true)
    ∧ tracking.outranked 5 6 = false ∧ { tracking with pending := [.stopTimeout 5] }.outranked 5 6 = true ∧ live.flag TRK_CFG_EN 5 = false)
    ∧ (seeking.Admits cp (TRK_SYNCASSERT.addr 5) true 6 ∧ seeking.flag TRK_DECSTAT_REQ 5 = true ∧ live.flag TRK_DECSTAT_REQ 5 = false ∧ seeking.trkState 5 = stSeeking
    ∧ seeking.trkBusy 5 = false) ∧ (((seeking.tr 5).edgeSeq + 65535 - 6) % 65536 = 0 ∧ 0 < (seeking.tr 5).histN
    ∧ (seeking.tr 5).histN ≤ ((seeking.tr 5).edgeSeq + 65535 - 3) % 65536 ∧ (spread 3 1).nTooth 5 ≤ bitsOf (0x00030006 : Word) 16 9 ∧ (spread 3 1).nRev 5 ≤ bitsOf (0x04000006 : Word) 25 2)
    ∧ (bitsOf (0x02020006 : Word) 16 9 < (spread 3 1).nTooth 5 ∧ bitsOf (0x02020006 : Word) 25 2 < (spread 3 1).nRev 5 ∧ (spread 3 0).nRev 5 = 1
    ∧ (spread 3 1).Admits cp (TRK_SYNCASSERT.addr 5) true 0x02020006) := by
  refine ⟨?_, ?_, ?_, ?_, ?_, ?_, ?_⟩ <;> decide +kernel

theorem test_meets_GroupReads :
    live.Admits cp (TRK_TREC.addr 5) false 0 ∧ live.Admits cp (TRK_CAMPOS.addr 5 3) false 0 ∧ live.Admits cp (CH_RPT0.addr 127) false 0
    ∧ live.Admits cp (HSK_LAST.addr 127) false 0 := by decide +kernel

/-! Marks and the predictor -/

/-- Trackers 0 and 5 turn one AU in a TCLK: 0 has just passed from the last AU of its cycle to the first, 5 has reached its boundary. -/
def turning : State :=
  let s := live.each [0, 5] fun s n => ((s.setFld TRK_CFG_EN 1 n).setFld TRK_STATE_STATE stRevSync n).setFld TRK_RATE auFrac n
  let a : Angle := { Angle.zero with acc := (revAu - 1) * auFrac, t0 := 999999999, rate := auFrac, run := true, lim := 4 * revAu * auFrac }
  let s := (s.setAng 0 a).setAng 5 { a with lim := revAu * auFrac }
  (s.setFld MK_CFG_REQ 1 255).setFld MK_POS_EN 1 255

theorem test_meets_MarksAndBoundaries :
    (live.span (live.fld MK_CFG_TRK 255) = revAu ∧ live.Admits cp (MK_POS.addr 255) true (BitVec.ofNat 32 revAu)
    ∧ live.Admits (.gw 4) (MK_POS.addr 255) true (BitVec.ofNat 32 revAu) ∧ live.Admits cp (MK_POS.addr 255) true (BitVec.ofNat 32 (revAu - 1))
    ∧ live.due = []) ∧ (turning.Ready ∧ turning.markFires 1 = false ∧ turning.markFires 255 = true
    ∧ ((turning.setFld MK_CFG_REQ 1 63).setFld MK_POS_EN 1 63).markFires 63 = true ∧ turning.crosses 1 (awOf (cycOf (turning.aw 1)) 0) = false)
    ∧ (turning.crosses 0 (awOf (cycOf (turning.aw 0)) 0) = true ∧ turning.trkState 0 ≠ stCycleSync ∧ turning.holdStart 0 turning.now = none
    ∧ turning.holdStart 5 turning.now = some 1000000000 ∧ ((turning.setFld TRK_STATE_STATE stCycleSync 0).setFld TRK_TTAB_NCAM 1 0).trkState 0 = stCycleSync)
    ∧ (({ live with mkPrev := [(255, some 0)] }.setFld MK_POS_EN 1 255).flag MK_POS_EN 255 = true
    ∧ bitsOf (({ live with mkPrev := [(255, some 0)] }.setFld MK_POS_EN 1 255).mkWord 255) 31 1 = 0) := by
  refine ⟨?_, ?_, ?_, ?_⟩ <;> decide +kernel

/-- Two teeth; shadow corrections 7 and -7, which the limit 7 admits; a request of FN_TOOTH in host-assisted mode. -/
def fitting : State :=
  let s := ((live.setFld TRK_TTAB_NTOOTH 2 5).setFld TRK_PLRN_CORLIM 7 5).setFld TRK_PDEC_REQ 1 5
  (s.setFld SYS_FNSTAT_INFORCE 2).setTr 5 { shadow := [(0, 0xFFF90007)] }

theorem test_meets_PredictorCommands :
    let l (s : State) := (List.range (s.nTooth 5)).map fun k => signedOf 16 (bitsOf (tget 0 (s.tr 5).shadow (k / 2)) (16 * (k % 2)) 16)
    let odd := fitting.setTr 5 { shadow := [(0, 0xFFF90008)] }
    let tight := fitting.setFld TRK_PLRN_CORLIM 6 5
    (fitting.due = [] ∧ fitting.Admits cp (TRK_PCMD.addr 5) true 1 ∧ fitting.Admits cp (TRK_PCMD.addr 5) true 2 ∧ live.flag TRK_PDEC_REQ 5 = false
    ∧ live.Admits cp (TRK_PCMD.addr 5) true 1) ∧ (fitting.flag TRK_PDEC_REQ 5 = true ∧ fitting.hostMode fnTooth 5 = true ∧ (l fitting).foldl (· + ·) 0 = 0
    ∧ (∀ x ∈ l fitting, -7 ≤ x ∧ x ≤ 7) ∧ (l odd).foldl (· + ·) 0 ≠ 0) ∧ ((l tight).foldl (· + ·) 0 = 0 ∧ (∃ x ∈ l tight, (6 : Int) < x)
    ∧ tight.fld TRK_PLRN_CORLIM 5 = 6 ∧ fitting.Admits cp (TRK_COR.addr 5 255) true 1 ∧ fitting.Admits cp (TRK_COR.addr 5 0) true 1)
    ∧ ((live.setFld TRK_PDEC_REQ 1 5).hostMode fnTooth 5 = false ∧ live.hostMode fnTooth 5 = false) := by
  refine ⟨?_, ?_, ?_, ?_⟩ <;> decide +kernel

/-! Events -/

/-- A PULSE from TABS `a` to TABS `b` with MIN and MAX in its last word, committed by context 0 in TCLK 0. -/
def pulse (a b : Nat) (mm : Word) : Ev := ⟨0x0100A000, BitVec.ofNat 32 a, BitVec.ofNat 32 b, mm, 0, false, false, 0, false, 0⟩

/-- Channel 127 is enabled, without a tracker: what `x` says is on it. -/
def firing (x : Chan) : State := (((live.setFld CH_CFG_EN 1 127).setFld CH_CFG_TRK 7 127).setFld CH_DEPTH_DEPTH 4 127).setCh 127 x

theorem test_meets_EventStaging :
    let it (at_ : Nat) : Item := ⟨pulse 1000000010 1000000100 0, true, 0, at_, false⟩
    let s (at_ : Nat) := (firing { inbox := [it at_] }).setFld SCH_POOL_FREE 1
    let two := firing { inbox := [it 0, it 1] }
    (live.due = [] ∧ live.Admits cp (CH_EVT.addr 127 2) true 0xFFFFFFFF ∧ live.Admits cp (CH_EVT.addr 127 3) true 0
    ∧ live.fnPending fnInjdly = false ∧ live.pwr = .run) ∧ ((live.ch 127).inbox = [] ∧ ((s 1000000000).ch 127).inbox = [it 1000000000]
    ∧ (s 1000000000).now ≤ 1000000000 ∧ 999999999 < (s 999999999).now ∧ (s 0).insertStatus 127 (it 0) = 0) ∧ (live.insertStatus 127 (it 0) = 6
    ∧ (s 0).flag CH_CFG_EN 127 = true ∧ (s 0).insertStatus 127 { it 0 with complete := false } = 1 ∧ (two.ch 127).inbox = [it 0, it 1]
    ∧ ([it 1].all fun k => k.by_ != (it 0).by_) = false) := by
  refine ⟨?_, ?_, ?_⟩ <;> decide +kernel

theorem test_meets_EdgeExecute :
    let op (o : Nat) : Ev := { pulse 1000000000 1000000100 0 with w0 := BitVec.ofNat 32 (o * 2 ^ 24 + 0xA000) }
    let s (i : Issue) (x : Chan) := firing { x with issued := [i] }
    let st (o t : Nat) := s ⟨.start (op o), t, 0⟩ { queue := [op o] }
    let a : Act := ⟨op opPulse, 999999900, 5, 0, 0, 0, none⟩
    let fin (w : EndWhy) := s ⟨.fin w, 32000000000, 0⟩ { active := some a }
    (((firing {}).ch 127).issued = [] ∧ (st opPulse 32000000032).now < 32000000032 / 32 ∧ ((st opPulse 32000000031).ch 127).issued = [⟨.start (op opPulse), 32000000031, 0⟩]
    ∧ 32000000031 / 32 ≤ (st opPulse 32000000031).now ∧ (op opNop).op = opNop) ∧ ((op opOff).op = opOff ∧ (op opPwm).op = opPwm ∧ (op opPulse).op ≠ opPwm
    ∧ (st opPulse 32000000000).Ready ∧ (st opPulse 32000000000).schedIntent 127 = true) ∧ (((st opPulse 32000000000).ch 127).judged = none
    ∧ (st opPulse 32000000000).forced 127 = 0 ∧ (st opPulse 32000000000).flag HSK_STAT_OUT 127 = false ∧ (st opPulse 32000000000).suppressor 127 (padTime 127 32000000000) = 0
    ∧ (st opPwm 32000000000).flag CH_PWMLOCK_LOCK 127 = false) ∧ (((st opPwm 32000000000).ch 127).perAt = none ∧ ((st opPwm 32000000000).ch 127).dutyAt = none
    ∧ ((s ⟨.drop (op opPulse) 6, 32000000000, 0⟩ { queue := [op opPulse] }).ch 127).issued = [⟨.drop (op opPulse) 6, 32000000000, 0⟩]
    ∧ ((fin .anchor).ch 127).active = some a ∧ (fin .anchor).flag CH_INJCFG_EN 127 = false)
    ∧ (((fin .min).ch 127).issued = [⟨.fin .min, 32000000000, 0⟩] ∧ ((st opOff 32000000000).pd 127).pulse = false
    ∧ ((st opOff 32000000000).setFld HSK_STAT_OUT 1 127).flag HSK_STAT_OUT 127 = true) := by
  refine ⟨?_, ?_, ?_, ?_, ?_⟩ <;> decide +kernel

/-- The compare of a TABS start, and what it asks of the event. -/
theorem test_meets_EdgeExecute_compare :
    let e (t : Nat) : Ev := { pulse t 64 0 with w0 := 0x0100C200 }
    let s (t : Nat) := firing { queue := [e t] }
    ((s 0).flag CH_CFG_EN 127 = true ∧ (s 0).chBound 127 = false ∧ ((s 0).ch 127).active = none ∧ ((s 0).ch 127).issued = [] ∧ ((s 0).ch 127).edgeAt = none)
    ∧ ((e 0).skind = kTabs ∧ (e 0).nocor = true ∧ (e 0).op = opPulse ∧ (e 0).ekind = kTrel ∧ 64 ≤ (e 0).w2.toNat) ∧ ((e 0).max = 0 ∧ (e 0).late = false
    ∧ (e 0).delayed = false ∧ (e 0).behind = false ∧ tabsDiff (e 1000000003).w1.toNat (s 1000000003).now = 3)
    ∧ (3 < tabsDiff (e 1000000004).w1.toNat (s 1000000004).now) := by
  refine ⟨?_, ?_, ?_, ?_⟩ <;> decide +kernel

/-- The active event of `firing`, from TABS `ts` to TABS `b`. -/
def act (ts b : Nat) (mm : Word) (loss : Option Nat) : Act := ⟨pulse ts b mm, ts, 5, 0, 0, 0, loss⟩

theorem test_meets_TimedEnds :
    let s (w : EndWhy) (t : Nat) (x : Option Act) := firing { active := x, issued := [⟨.fin w, t, 0⟩] }
    let held := act (1000000003 - 100) (1000000000 - 50) 0x00640000 none
    let soon := act (1000000004 - 100) (1000000000 - 50) 0x00640000 none
    let long := act (1000000003 - 100) 1000000500 0x00000064 none
    let c (a : Act) := firing { active := some a }
    ((s .min 32000000000 (some held)).Ready ∧ ((firing {}).ch 127).issued = [] ∧ (s .min 32000000032 (some held)).now < 32000000032 / 32
    ∧ 32000000031 / 32 ≤ (s .min 32000000031 (some held)).now ∧ ((s .loss 32000000000 none).ch 127).active = none)
    ∧ (((s .max 32000000000 (some long)).ch 127).active = some long ∧ (s .max 32000000000 (some long)).flag CH_INJCFG_EN 127 = false
    ∧ ((s .loss 32000000000 (some long)).ch 127).issued = [⟨.fin .loss, 32000000000, 0⟩] ∧ (c held).flag CH_CFG_EN 127 = true ∧ ((c held).ch 127).active = some held)
    ∧ (((c held).ch 127).issued = [] ∧ ((c held).ch 127).queue = [] ∧ held.ev.isOpen = false ∧ held.lossEnd = none ∧ (c held).standEnd 127 held = .past)
    ∧ (((c held).ch 127).endFl = none ∧ (c held).now + 3 = held.ts + (c held).minTclk 127 held.ev ∧ held.ev.max = 0
    ∧ 2 ≤ held.ev.min * 2 ^ (c held).fld CH_DUNIT_K 127 ∧ (c soon).now + 3 < soon.ts + (c soon).minTclk 127 soon.ev)
    ∧ ((c soon).standEnd 127 soon = .past ∧ soon.ev.max = 0 ∧ (c long).standEnd 127 long = .ahead ∧ long.ev.max ≠ 0
    ∧ (c long).now + 3 = long.ts + (c long).maxTclk 127 long.ev) := by
  refine ⟨?_, ?_, ?_, ?_, ?_⟩ <;> decide +kernel

theorem test_meets_ChannelCommands :
    let s := firing { queue := [pulse 1000000500 1000000600 0], active := some (act 999999900 1000000500 0 none), flushing := true }
    let own (t : Nat) := firing { active := some (act 999999900 1000000500 0 none), issued := [⟨.fin .anchor, t, 0⟩] }
    (s.Admits cp (CH_CMD.addr 127) true 1 ∧ s.Admits cp (CH_CMD.addr 127) true 3 ∧ s.Admits cp (CH_CMD.addr 127) true 4
    ∧ s.Admits cp (CH_CMD.addr 127) true 8 ∧ s.due = []) ∧ (s.flag CH_CMD_FLUSH 127 = false
    ∧ (s.setFld CH_CMD_FLUSH 1 127).flag CH_CMD_FLUSH 127 = true ∧ (s.setFld CH_CMD_FLUSH 1 127).Admits cp (CH_CMD.addr 127) true 1
    ∧ (s.ch 127).flushing = true ∧ (live.ch 127).flushing = false) ∧ (s.flag PAD_TEST_START 127 = false
    ∧ (s.ch 127).active = some (act 999999900 1000000500 0 none) ∧ s.flag CH_INJCFG_EN 127 = false
    ∧ s.schedIntent 127 = true ∧ (s.setFld SCH_POOL_FREE 8190).fld SCH_POOL_FREE + (s.ch 127).queue.length + 1 ≤ 8192)
    ∧ ((own 32000000032).ownEnd 127 = true ∧ (own 32000000033).ownEnd 127 = false ∧ s.ownEnd 127 = false ∧ (s.setFld HSK_STAT_OUT 1 127).flag HSK_STAT_OUT 127 = true
    ∧ (s.setFld HSK_STAT_OUT 1 127).fallsBy 127 ((s.now + 2) * 32) = false)
    ∧ ((s.setFld PAD_TEST_START 1 127).flag PAD_TEST_START 127 = true ∧ (s.setFld PAD_TEST_START 1 127).Admits cp (CH_CMD.addr 127) true 8
    ∧ (s.setFld PAD_TEST_START 1 127).retired 127 = false ∧ ((s.setFld PAD_TEST_START 1 127).setBankBit FCO_RET 127 true).retired 127 = true) := by
  refine ⟨?_, ?_, ?_, ?_, ?_⟩ <;> decide +kernel

/-! PWM and the opening delay -/

/-- Channel 127 runs a PWM of 100 TCLK at half duty, whose present period began 100 TCLK ago. -/
def modulating : State := firing { pwm := some ⟨100, 1600, 1000000000 - 100, false⟩ }

theorem test_meets_PwmEdges :
    let p : Pwm := ⟨100, 1600, 1000000000 - 100, false⟩
    let free := modulating.setFlag HSK_FORCE_EN true 127
    let locked := (free.setFld CH_PWMLOCK_LOCK 1 127).setFld CH_CFG_PWMSTB 1 127
    let wrote (t : Nat) := modulating.setCh 127 { modulating.ch 127 with dutyAt := some t, perAt := some t }
    let zero := modulating.setCh 127 { modulating.ch 127 with force := some (100, 0), dutyAt := some 1000000000 }
    (modulating.Ready ∧ (live.ch 127).pwm = none ∧ (modulating.ch 127).pwm = some p ∧ ¬modulating.now < p.start + p.per
    ∧ { modulating with tb := 999999999 }.now < p.start + p.per) ∧ (free.schedIntent 127 = false ∧ modulating.schedIntent 127 = true
    ∧ free.flag CH_PWMLOCK_LOCK 127 = false ∧ (free.ch 127).perAt = none ∧ locked.flag CH_PWMLOCK_LOCK 127 = true)
    ∧ (locked.flag CH_CFG_PWMSTB 127 = true ∧ free.flag CH_CFG_PWMSTB 127 = false ∧ ((wrote 999999999).ch 127).dutyAt = some 999999999 ∧ 999999999 < p.start + p.per
    ∧ ((wrote 1000000000).ch 127).perAt = some (p.start + p.per)) ∧ ({ p with offDone := true }.offDone = true ∧ pwmExec 100 1600 < 32 * 100 ∧ pwmExec 100 3200 = 32 * 100
    ∧ (p.start * 32 + pwmExec 100 1600) / 32 ≤ modulating.now ∧ { modulating with tb := 999999949 }.now < (p.start * 32 + pwmExec 100 1600) / 32)
    ∧ ((zero.ch 127).force = some (100, 0) ∧ (modulating.pd 127).pulse = false ∧ (modulating.setFld HSK_STAT_OUT 1 127).flag HSK_STAT_OUT 127 = true) := by
  refine ⟨?_, ?_, ?_, ?_, ?_⟩ <;> decide +kernel

/-- FN_INJDLY is host-assisted, channel 127 waits for its correction, and 5 is the limit. -/
def opening : State := ((live.setFld SYS_FNSTAT_INFORCE 8).setFld CH_INJDEC_REQ 1 127).setFld CH_INJLIM_CORMAX 5 127

theorem test_meets_PwmRegisters :
    let locked := (opening.setFld CH_PWMLOCK_LOCK 1 127).setCh 127 { perAt := some 1 }
    let idle := opening.setFld CH_INJDEC_REQ 0 127
    (opening.due = [] ∧ opening.Admits cp (CH_PWMDUTY.addr 127) true 0xFFFFFFFF ∧ opening.Admits cp (CH_PWMPER.addr 127) true 0xFFFFFFFF
    ∧ opening.Admits cp (CH_PWMLOCK.addr 127) true 0 ∧ opening.Admits cp (CH_INJDLY.addr 127) true 0xFFFB) ∧ (live.hostMode fnInjdly 127 = false
    ∧ opening.hostMode fnInjdly 127 = true ∧ opening.flag CH_INJDEC_REQ 127 = true
    ∧ idle.flag CH_INJDEC_REQ 127 = false ∧ opening.fld CH_INJLIM_CORMAX 127 = 5)
    ∧ (signedOf 16 (bitsOf 0xFFFB 0 16) = -5 ∧ signedOf 16 (bitsOf 0xFFFA 0 16) = -6 ∧ signedOf 16 (bitsOf 6 0 16) = 6
    ∧ opening.Admits cp (CH_INJDLY.addr 127) true 6 ∧ opening.Admits cp (CH_INJDLY.addr 127) true 0xFFFA) ∧ (locked.flag CH_PWMLOCK_LOCK 127 = true
    ∧ bitsOf (0 : Word) 0 1 = 0 ∧ (locked.ch 127).perAt ≠ none ∧ (locked.ch 127).dutyAt = none ∧ locked.Admits cp (CH_PWMLOCK.addr 127) true 0)
    ∧ (live.Admits cp (CH_INJDLY.addr 127) true 5 ∧ idle.hostMode fnInjdly 127 = true ∧ idle.Admits cp (CH_INJDLY.addr 127) true 5) := by
  refine ⟨?_, ?_, ?_, ?_, ?_⟩ <;> decide +kernel

/-! The Husk and the pads -/

/-- Channel 126 has been on for 100 TCLK, on tracker 0 of `turning`, with limits of 100 TCLK and a window at position 0. -/
def driving : State :=
  let s := (turning.setFld HSK_STAT_OUT 1 126).setHsk 126 { Husk.zero with riseAt := (1000000000 - 100) * 32 }
  let s := ((s.setFld HSK_ONMAX_LIM 100 126).setFld HSK_REVON_LIM 100 126).setFld HSK_CFG_WINEN 1 126
  s.setFld CH_CFG_EN 1 126

theorem test_meets_HuskLimits :
    let long := driving.setFld HSK_ONMAX_LIM 101 126
    let wins := long.setFld HSK_REVON_LIM 101 126
    let none_ := wins.setFld HSK_CFG_WINEN 0 126
    let ends := driving.setCh 126 { issued := [⟨.fin .anchor, 32000000000, 0⟩] }
    (driving.Ready ∧ driving.flag HSK_STAT_OUT 0 = false ∧ driving.flag HSK_STAT_OUT 126 = true ∧ driving.fld HSK_ONMAX_LIM 126 ≠ 0
    ∧ ((driving.hsk 126).riseAt + driving.hskUnits 126 HSK_ONMAX_LIM) / 32 = driving.now) ∧ (driving.fallsBy 126 (driving.now * 32) = false
    ∧ ends.fallsBy 126 (driving.now * 32) = true ∧ (ends.hsk 126).riseAt + ends.hskUnits 126 HSK_ONMAX_LIM = ends.now * 32
    ∧ ¬((long.hsk 126).riseAt + long.hskUnits 126 HSK_ONMAX_LIM) / 32 ≤ long.now ∧ long.chBound 126 = true)
    ∧ (long.fld HSK_REVON_LIM 126 ≠ 0 ∧ long.hskUnits 126 HSK_REVON_LIM = long.revOnTime 126 (long.now * 32)
    ∧ ¬wins.hskUnits 126 HSK_REVON_LIM ≤ wins.revOnTime 126 (wins.now * 32) ∧ wins.touchedWins 126 = [0] ∧ wins.fallsBy 126 (wins.winPad 126 0) = false)
    ∧ (none_.touchedWins 126 = [] ∧ none_.i2tOver 126 = false ∧ driving.crossesRev 1 = false ∧ driving.crossesRev 0 = true ∧ driving.chTrk 126 = 0) := by
  refine ⟨?_, ?_, ?_, ?_⟩ <;> decide +kernel

theorem test_meets_ForceAndSense :
    let held := live.setFlag PAD_CFG_SRC true 127
    let on := live.setFld HSK_STAT_INTENT 1 127
    let cut := live.setFld CH_STAT_CUTL 1 127
    let hot (a : Nat) := ((live.setFld HSK_STAT_OUT 1 127).setFld HSK_I2TMAX_LVL 100 127).setFld HSK_I2TACC a 127
    (live.due = [] ∧ live.Admits cp (HSK_FORCE.addr 127) true 3 ∧ live.Admits cp (HSK_FORCE.addr 127) true 2
    ∧ held.Admits cp (HSK_FORCE.addr 127) true 3 ∧ held.flag PAD_CFG_SRC 127 = true) ∧ (live.flag PAD_CFG_SRC 127 = false
    ∧ (live.ch 127).queue = [] ∧ (live.ch 127).active = none ∧ live.flag HSK_STAT_INTENT 127 = false ∧ on.flag HSK_STAT_INTENT 127 = true)
    ∧ (on.Admits cp (HSK_FORCE.addr 127) true 2 ∧ (on.pd 127).pulse = false ∧ live.forced 127 = 0 ∧ live.suppressor 127 ((live.now + 2) * 32) = 0 ∧ cut.forced 127 = cCut)
    ∧ (cut.Admits cp (HSK_FORCE.addr 127) true 3 ∧ live.Ready ∧ live.now % 400 = 0 ∧ { live with tb := 999999999 }.now % 400 ≠ 0 ∧ live.flag HSK_STAT_OUT 127 = false)
    ∧ (live.calWord 6 16 = 0x8000 ∧ (hot 101).fld HSK_I2TMAX_LVL 127 < 101 ∧ ¬(hot 100).fld HSK_I2TMAX_LVL 127 < 100 ∧ (hot 101).fallsBy 127 ((live.now + 2) * 32) = false
    ∧ (hot 101).flag HSK_STAT_OUT 127 = true) := by
  refine ⟨?_, ?_, ?_, ?_, ?_⟩ <;> decide +kernel

theorem test_meets_PadEvents :
    let s := live.each [110, 111, 126, 127] fun s c => s.setFld PAD_STAT_STATE padNormal c
    let on := (s.setFld HSK_STAT_OUT 1 127).setHsk 127 { Husk.zero with riseAt := 32000000000 - 400 * 32 }
    let oc := on.setFld PAD_FDCFG_OCT 1 127
    let held (t : Nat) := s.setPd 111 { held := some ⟨true, 999999900, false, t⟩ }
    let pair := ((s.setPd 110 { matured := some (false, 999999999) }).setFld PADG_CFG_CWIN 1 13).setBankBit FCO_RET 111 true
    let fault := s.setFld PAD_STAT_STATE padFault 111
    (s.Ready ∧ oc.onFor 127 (oc.fld PAD_FDCFG_OCT 127 * 400) = true ∧ (oc.setFld PAD_FDCFG_OCT 2 127).onFor 127 800 = false ∧ oc.padJudged 127 = true
    ∧ live.fld PAD_STAT_STATE 127 = padReset) ∧ (s.fld PAD_STAT_STATE 127 ≠ padReset
    ∧ (((on.setFld PAD_FDCFG_OLTHR 1 127).setHsk 127 { Husk.zero with riseAt := (1000000000 - 40000) * 32 }).onFor 127 ((on.fld PAD_FDCFG_FDBLANK 127 + 100) * 400) = true)
    ∧ on.fld PAD_ISENSE_I 127 < 1 ∧ causeActs 111 1 = true ∧ causeActs 127 5 = true) ∧ (s.rbOver 111 = true ∧ s.padLevel 111 = true
    ∧ (s.setPd 111 { since := 1000000000 }).rbOver 111 = true ∧ (s.setPd 111 { since := 1000000001 }).rbOver 111 = false ∧ s.padLevel 127 = true)
    ∧ (s.rbOver 127 = true ∧ s.padJudged 127 = true ∧ s.fld PAD_STAT_STATE 111 = padNormal ∧ (s.pd 111).held = none ∧ fault.fld PAD_STAT_STATE 111 = padFault)
    ∧ ((pair.pd 110).matured = some (!true, 999999999) ∧ pair.now ≤ 999999999 + pair.fld PADG_CFG_CWIN (111 / 8) ∧ pair.retired 111 = true
    ∧ ((held 1000000001).pd 111).held = some ⟨true, 999999900, false, 1000000001⟩ ∧ (held 1000000001).now < 1000000001)
    ∧ (1000000000 ≤ (held 1000000000).now ∧ ((held 0).setFld PAD_STAT_STATE padTest 111).fld PAD_STAT_STATE 111 = padTest ∧ (live.pd 111).held = none) := by
  refine ⟨?_, ?_, ?_, ?_, ?_, ?_⟩ <;> decide +kernel

theorem test_meets_PadTest :
    let cut := live.setFld CH_STAT_CUTL 1 127
    let ret := live.setBankBit FCO_RET 111 true
    let run (c t : Nat) (p ok : Bool) := ((live.setFld PAD_TEST_START 1 c).setFld PAD_STAT_STATE padTest c).setPd c { testAt := 1000000000 - t, pulse := p, pulseOk := ok }
    (live.Admits cp (PAD_TEST.addr 127) true 1 ∧ cut.Admits cp (PAD_TEST.addr 127) true 1 ∧ ret.Admits cp (PAD_TEST.addr 111) true 1
    ∧ live.due = [] ∧ live.flag PAD_TEST_START 127 = false) ∧ (live.flag CH_STAT_CUTL 127 = false ∧ live.retired 127 = false
    ∧ cut.flag CH_STAT_CUTL 127 = true ∧ ret.retired 111 = true ∧ (run 111 3200 false false).Ready) ∧ ((run 111 3200 false false).flag PAD_TEST_START 111 = true
    ∧ (run 111 3200 false false).Admits cp (PAD_TEST.addr 111) true 1 ∧ ((run 111 3200 false false).pd 111).testAt + 3200 = (run 111 3200 false false).now
    ∧ (run 111 3199 false false).now < ((run 111 3199 false false).pd 111).testAt + 3200 ∧ ((run 127 24000 false true).pd 127).testAt + 24000 = (run 127 24000 false true).now)
    ∧ (((run 127 24000 false true).pd 127).pulseOk = true ∧ ((run 127 24000 false false).pd 127).pulseOk = false
    ∧ (run 127 20000 false false).now = ((run 127 20000 false false).pd 127).testAt + 20000 ∧ (run 127 20000 false false).forcedBy 127 true = 0
    ∧ (run 127 20000 false false).suppressor 127 32000000000 = 0) ∧ (((run 127 24000 true false).pd 127).pulse = true
    ∧ (ret.setFld PAD_TEST_START 1 111).retired 111 = true ∧ (live.setFld PAD_TEST_START 1 0).fld PAD_STAT_STATE 0 ≠ padTest) := by
  refine ⟨?_, ?_, ?_, ?_, ?_⟩ <;> decide +kernel

/-! Converters, knock and calibration -/

theorem test_meets_AdcSequencer :
    let run := live.setFld ADC_CTRL_STATE 1 3
    let c : Conv := ⟨0, 63, 2, 999999960, 0, 0x1FF, 0, 0, true⟩
    let tracing := run.setAd 3 { trace := [[1, 2]], traceIn := 63 }
    let busy := run.setAd 3 { trace := [[1, 2]], conv := some c }
    let out := run.setAd 3 { out := some (c, 5, 0, false) }
    let e : TaskEnt := ⟨300, false, 999999999⟩
    let ready (r : Nat) := (live.setAd 3 { ready := some r }).setTask (tiAdc 3) [e]
    (live.due = [] ∧ live.Admits cp (ADC_CTRL.addr 3) true 1 ∧ live.Admits cp (ADC_CTRL.addr 3) true 2 ∧ live.Admits cp (ADC_CTRL.addr 3) true 4
    ∧ live.fld ADC_CTRL_STATE 3 = 0) ∧ (run.fld ADC_CTRL_STATE 3 ≠ 0 ∧ run.Admits cp (ADC_CTRL.addr 3) true 2 ∧ (run.ad 3).trace = []
    ∧ run.Admits cp (ADC_CTRL.addr 3) true 1 ∧ run.Admits cp (ADC_CTRL.addr 3) true 4) ∧ (live.flag ADC_SEQ0_WAIT 3 0 = false
    ∧ (live.setFld ADC_SEQ0_WAIT 1 3 0).flag ADC_SEQ0_WAIT 3 0 = true ∧ tracing.Admits cp (ADC_CTRL.addr 3) true 2
    ∧ tracing.fld ADC_CTRL_STATE 3 ≠ 0 ∧ (tracing.ad 3).conv = none) ∧ ((tracing.ad 3).out = none ∧ (tracing.ad 3).trace ≠ [] ∧ (busy.ad 3).conv ≠ none
    ∧ busy.Admits cp (ADC_CTRL.addr 3) true 2 ∧ (out.ad 3).out = some (c, 5, 0, false)) ∧ ((out.ad 3).conv = none ∧ out.Admits cp (ADC_CTRL.addr 3) true 2 ∧ live.pwr = .run
    ∧ live.taskOf (tiAdc 3) = [] ∧ ((ready 1000000000).ad 3).ready = some 1000000000) ∧ ((ready 0).taskOf (tiAdc 3) = [e] ∧ 1000000000 ≤ (ready 0).now ∧ e.at_ < (ready 0).now
    ∧ (ready 1000000001).now < 1000000001 ∧ live.Admits cp (ADC_RES.addr 3 0) false 0) := by
  refine ⟨?_, ?_, ?_, ?_, ?_, ?_⟩ <;> decide +kernel

/-- Inputs 62 and 63 are in use on converter 3 with gains 1 to 3, and gain 2 is in force. -/
def sensing : State :=
  live.each [62, 63] fun s j => ((((s.setFld ADC_IN_EN 1 j).setFld ADC_IN_CONV 3 j).setFld ADC_IN_GMIN 1 j).setFld ADC_IN_GMAX 3 j).setFld ADC_IN_GAIN 2 j

theorem test_meets_AdcRegisters :
    let asks (lim : Nat) := ((sensing.setFld ADC_CALDEC_REQ 1 3).setFld ADC_CALLIM_LIM lim 3).setFld ADC_HOFS 9 3 4
    let busy := sensing.setAd 3 { conv := some ⟨0, 63, 2, 999999960, 0, 0x1FF, 0, 0, true⟩ }
    (sensing.due = [] ∧ sensing.Admits cp (ADC_IN.addr 63) true 1 ∧ sensing.Admits cp (ADC_IN.addr 63) true 3
    ∧ sensing.Admits cp (ADC_IN.addr 63) true 4 ∧ sensing.fld ADC_IN_GMIN 63 = 1) ∧ (sensing.fld ADC_IN_GMAX 63 = 3
    ∧ sensing.fld ADC_IN_GAIN 63 = 2 ∧ sensing.converting 63 = false ∧ tget none sensing.gainNext 63 = none ∧ sensing.Admits cp (ADC_IN.addr 63) true 2)
    ∧ (busy.converting 63 = true ∧ busy.Admits cp (ADC_IN.addr 63) true 3 ∧ sensing.Admits cp (ADC_CALDEC.addr 3) true 1 ∧ sensing.flag ADC_CALDEC_REQ 3 = false
    ∧ (asks 9).flag ADC_CALDEC_REQ 3 = true) ∧ ((asks 9).Admits cp (ADC_CALDEC.addr 3) true 1 ∧ (asks 8).Admits cp (ADC_CALDEC.addr 3) true 1
    ∧ (∀ g < 5, (asks 9).sfld ADC_HOFS 3 g - (asks 9).calOfs 3 g ≤ 9 ∧ -9 ≤ (asks 9).sfld ADC_HOFS 3 g - (asks 9).calOfs 3 g)
    ∧ ¬(asks 8).sfld ADC_HOFS 3 4 - (asks 8).calOfs 3 4 ≤ 8 ∧ (asks 8).fld ADC_CALLIM_LIM 3 = 8) ∧ ((asks 9).fld ADC_CALLIM_LIM 3 = 9
    ∧ sensing.flag TDAC_CTRL_EN = false ∧ bitsOf (0x803F0FFF : Word) 31 1 = 1
    ∧ sensing.Admits cp TDAC_CTRL.addr true 0x803F0FFF ∧ sensing.Admits cp TDAC_CTRL.addr true 0) ∧ ((sensing.setFld TDAC_CTRL_EN 1).flag TDAC_CTRL_EN = true
    ∧ (sensing.setFld TDAC_CTRL_EN 1).Admits cp TDAC_CTRL.addr true 0x803F0FFF ∧ (sensing.setFld TDAC_CTRL_EN 1).Admits cp TDAC_CTRL.addr true 0) := by
  refine ⟨?_, ?_, ?_, ?_, ?_, ?_⟩ <;> decide +kernel

/-- A shadow cycle of converter 3 is due in host-assisted mode. -/
def cycling : State := ((sensing.setFld SYS_FNSTAT_INFORCE (2 ^ fnCaltrk)).setFld ADC_CALCFG_PER 10 3).setAd 3 { nextCycle := 1000000000 }

theorem test_meets_AdcConversions :
    let c : Conv := ⟨0, 63, 2, 1000000000 - 40, 0, 0x1FF, 0, 0, true⟩
    let conv := sensing.setAd 3 { conv := some c }
    let urg (g : Nat) := sensing.setAd 3 { urg := some (63, g, 999999999) }
    let due (d : Nat) := ((sensing.setFld ADC_SEQ0_SRC 63 3 0).setFld ADC_SEQ0_GAIN 7 3 0).setAd 3 { due := some d, left := 1 }
    let cyc := (sensing.setFld ADC_CALCFG_PER 10 3).setAd 3 { nextCycle := 1000000000 }
    let slot := (sensing.setFld ADC_CTRL_STATE 0 3).setAd 3 { slots := [4, 5] }
    let late := ((sensing.setFld ADC_CTRL_STATE 1 3).setFld ADC_CALCFG_MARGIN 50 3).setAd 3 { slots := [4, 5], due := some 1000000049 }
    (conv.Ready ∧ (conv.ad 3).conv = some c ∧ c.start + 40 = conv.now ∧ { conv with tb := 999999999 }.now < c.start + 40
    ∧ (sensing.ad 3).urg = none) ∧ ((sensing.ad 3).due = none ∧ (sensing.ad 3).conv = none
    ∧ ((urg 7).ad 3).urg = some (63, 7, 999999999) ∧ 999999999 < (urg 7).now ∧ (urg 7).settled 63 = true)
    ∧ (((due 1000000000).ad 3).due = some 1000000000 ∧ 1000000000 ≤ (due 0).now ∧ (due 1000000001).now < 1000000001
    ∧ (due 0).fld ADC_CTRL_IDX 3 = 0 ∧ (due 0).fld ADC_SEQ0_SRC 3 0 = 63) ∧ ((due 0).fld ADC_SEQ0_GAIN 3 0 = 7 ∧ (due 0).settled 63 = true
    ∧ sensing.Admits cp (ADC_URG.addr 3) true 0x43F ∧ bitsOf (0x43F : Word) 0 6 = 63 ∧ bitsOf (0x43F : Word) 8 3 = 4)
    ∧ (sensing.flag ADC_URGSTAT_PENDING 3 = false ∧ sensing.fld ADC_IN_CONV 63 = 3 ∧ sensing.flag ADC_IN_EN 63 = true
    ∧ sensing.Admits cp (ADC_URG.addr 3) true 0x401 ∧ sensing.flag ADC_IN_EN 1 = false) ∧ (sensing.fld ADC_CALCFG_PER 3 = 0
    ∧ cyc.fld ADC_CALCFG_PER 3 ≠ 0 ∧ (cyc.ad 3).nextCycle ≤ cyc.now ∧ { cyc with tb := 999999999 }.now < (cyc.ad 3).nextCycle
    ∧ cyc.hostMode fnCaltrk 3 = false) ∧ ((cyc.ad 3).slots = [] ∧ (slot.ad 3).slots = [4, 5] ∧ slot.shadowAdmit 3 = true
    ∧ late.shadowAdmit 3 = false ∧ (late.ad 3).slots = [4, 5]) := by
  refine ⟨?_, ?_, ?_, ?_, ?_, ?_, ?_⟩ <;> decide +kernel

/-- A change of gain before a conversion, entries that name no input, the end of a conversion of the sequencer, its result, and the test DAC's slot. -/
theorem test_meets_AdcConversions_more :
    let urg := sensing.setAd 3 { urg := some (63, 4, 999999999), due := some 1000000001 }
    let due (src g : Nat) := ((sensing.setFld ADC_SEQ0_SRC src 3 0).setFld ADC_SEQ0_GAIN g 3 0).setAd 3 { due := some 1000000000, left := 2 }
    let ends := (sensing.setFld ADC_CTRL_STATE 1 3).setAd 3 { conv := some ⟨0, 63, 2, 999999960, 0, 0x1FF, 0, 0, true⟩ }
    let out (n bus : Nat) := (sensing.setFld ADC_CFG_READERS bus 3).setAd 3 { out := some (⟨0, 63, 2, 1, 0, 0, 0, 0, true⟩, 5, 0, false), queue := List.replicate n [0] }
    let tdac (on : Bool) := (sensing.setFlag TDAC_CTRL_EN on).setAd 3 { slots := [5] }
    ((urg.ad 3).urg = some (63, 4, 999999999) ∧ 4 ≠ urg.fld ADC_IN_GAIN 63 ∧ urg.converting 63 = false ∧ urg.now < 1000000001 ∧ (due 63 4).fld ADC_SEQ0_GAIN 3 0 = 4)
    ∧ ((due 63 4).fld ADC_IN_GAIN 63 ≠ 4 ∧ ((due 63 4).ad 3).gainFor ≠ some 1000000000 ∧ (due 63 4).converting 63 = false ∧ 64 ≤ (due 64 0).fld ADC_SEQ0_SRC 3 0
    ∧ 2 ≤ ((due 64 0).ad 3).left) ∧ (ends.fld ADC_CTRL_STATE 3 ≠ 0 ∧ (ends.ad 3).left = 0 ∧ (ends.ad 3).due = none ∧ (ends.ad 3).ready = none ∧ ends.fnPending fnCaltrk = false)
    ∧ ((ends.setFld ADC_SEQ0_LAST 1 3 0).flag ADC_SEQ0_LAST 3 0 = true ∧ ends.flag ADC_SEQ0_LAST 3 0 = false ∧ ((out 2047 1).ad 3).queue.length < 2048
    ∧ 2048 ≤ ((out 2048 1).ad 3).queue.length ∧ (out 0 1).fld ADC_CFG_READERS 3 % 2 = 1) ∧ (¬(out 0 2).fld ADC_CFG_READERS 3 % 2 = 1
    ∧ ((tdac true).ad 3).slots = [5] ∧ (tdac true).flag TDAC_CTRL_EN = true ∧ (tdac false).flag TDAC_CTRL_EN = false
    ∧ ((cycling).hostMode fnCaltrk 3 = true)) := by
  refine ⟨?_, ?_, ?_, ?_, ?_⟩ <;> decide +kernel

/-- Knock channel 3 is in use, with one window open for 4 000 TCLK. -/
def listening : State := (live.setFld KNK_CFG_EN 1 3).setKn 3 { wins := [⟨255, 1000000000 - 4000, 0, 0x1FF, 0, false, 0, 0, [], [], true, none⟩] }

theorem test_meets_Knock :
    let w : Win := ⟨255, 1000000000 - 4000, 0, 0x1FF, 0, false, 0, 0, [], [], true, none⟩
    let e : TaskEnt := ⟨300, false, 999999999⟩
    let opens := (live.setFld KNK_CFG_EN 1 3).setTask (tiKnk 3) [e]
    let shut (t : Nat) (q : List Nat) := listening.setKn 3 { wins := [{ w with close := some (t, 7) }], queue := q }
    let sampled (t : Nat) := listening.setKn 3 { listening.kn 3 with sampleAt := some t }
    let proc (p : Nat) := listening.setKn 3 { wins := [{ w with close := some (999999000, 7) }], sampleAt := some p }
    (listening.Ready ∧ listening.flag KNK_CFG_EN 3 = true ∧ live.flag KNK_CFG_EN 3 = false ∧ 3072 ≤ listening.now ∧ (listening.kn 3).wins = [w])
    ∧ (w.includes (listening.fld KNK_WLEN_MAXLEN 3) (listening.now - 3072) = true ∧ (live.kn 3).open? = none ∧ (listening.kn 3).open? ≠ none ∧ opens.flag KNK_CFG_EN 3 = true
    ∧ (opens.kn 3).open? = none) ∧ ((opens.kn 3).closedAt = none ∧ opens.taskOf (tiKnk 3) = [e] ∧ opens.fnPending fnKnock = false
    ∧ (live.kn 3).wins = [] ∧ w.close = none) ∧ (((shut 999996928 []).kn 3).wins = [{ w with close := some (999996928, 7) }]
    ∧ 999996928 + 3072 = (shut 0 []).now ∧ ((shut 0 (List.replicate 1017 0)).kn 3).queue.length + (w.words 999996928 7).length = 1024
    ∧ live.Admits cp (KNK_RES.addr 3) false 0 ∧ (live.kn 3).queue = []) ∧ (((shut 0 [9]).kn 3).queue = [9]
    ∧ (shut 0 [9]).Admits cp (KNK_RES.addr 3) false 0 ∧ ((sampled (1000000000 - 2048)).kn 3).sampleAt = some 999997952 ∧ (1000000000 - 999997952) % 2048 = 0
    ∧ (1000000000 - 999997953) % 2048 ≠ 0)
    ∧ (((proc 1000000024).kn 3).sampleAt = some 1000000024 ∧ 999999000 + 1024 ≤ 1000000024 ∧ ¬999999000 + 3072 ≤ listening.now
    ∧ { w with tbo := 999999000 }.includes 0 (1000000000 - 3072) = false ∧ ((listening.setKn 3 { wins := [w], abortAt := some 1000000000 }).kn 3).abortAt = some listening.now) := by
  refine ⟨?_, ?_, ?_, ?_, ?_, ?_⟩ <;> decide +kernel

/-- A write of group 0 is running: its words, with a set CRC of them where `good`, and whether the group has been written 1 000 times. -/
def writing (ws : List Word) (good worn : Bool) : State :=
  let crc := crc32 (ws.flatMap fun w => leBytes 4 w.toNat)
  let s := (live.setFld CAL_STAT_BUSY 1).wr CAL_WCRC.addr (BitVec.ofNat 32 (if good then crc else crc + 1))
  { s with cal := ⟨if worn then [(0, 0x03E80001)] else [], some (0, 0, ws)⟩ }

theorem test_meets_CalibrationWrites :
    let good : List Word := List.replicate 5 0 ++ List.replicate 5 0x6000
    let high : List Word := [0xFFFFFFFF]
    let fits (ws : List Word) : Bool := (ws.zip (List.range 126)).all fun p => calWordOk 0 (p.2 + 1) p.1.toNat
    (live.due = [] ∧ live.Admits cp CAL_CTL.addr true 0xCA1F0001 ∧ live.Admits cp CAL_CTL.addr true 0xCA1E0001 ∧ live.flag CAL_STAT_BUSY = false
    ∧ (writing good true false).Ready) ∧ (live.cal.job = none ∧ (writing good true false).cal.job = some (0, 0, good) ∧ fits high = false
    ∧ crc32 (good.flatMap fun w => leBytes 4 w.toNat) = ((writing good true false).rd CAL_WCRC.addr).toNat
    ∧ crc32 (good.flatMap fun w => leBytes 4 w.toNat) ≠ ((writing good false false).rd CAL_WCRC.addr).toNat)
    ∧ (crc32 (high.flatMap fun w => leBytes 4 w.toNat) = ((writing high true false).rd CAL_WCRC.addr).toNat
    ∧ 1000 ≤ ((writing good true true).calAt 0 0).toNat / 65536 ∧ ((writing good true false).calAt 0 0).toNat / 65536 < 1000) := by
  refine ⟨?_, ?_, ?_⟩ <;> decide +kernel


/-! Encoders, network time and timers -/

/-- Port 3 is in use with levels A 0 and B 0, an index of rising edges, and a period limit of 1 ms that has just passed. -/
def counting : State :=
  let s := ((live.setFld ENC_CFG_EN 1 3).setFld ENC_IDXCFG_ZEN 1 3).setFld ENC_CFG_PTMO 1 3
  s.setEn 3 { at_ := 1000000000 - 400000 }

theorem test_meets_Encoders :
    let lost := (((((counting.setFld TRK_CFG_EN 1 5).setFld TRK_CFG_ENCUSE 1 5).setFld TRK_CFG_ENCSEL 3 5).setFld TRK_CFG_DIRSRC 2 5).setFld TRK_STATE_STATE stCycleSync 5)
    let pt (m : Nat) := counting.setFld ENC_CFG_PTMODE m 3
    let cpr := ((counting.setFld ENC_IDXCFG_CPR 4 3).setFld ENC_STAT_IDXSEEN 1 3).setEn 3 { trav := -5, idxOk := true }
    (live.Ready ∧ live.flag ENC_CFG_EN 3 = false ∧ live.Admits cp (ENC_POS.addr 3) true 5 ∧ counting.Ready ∧ counting.flag ENC_CFG_EN 3 = true)
    ∧ (counting.now = 999999998 + counting.fld ENC_CFG_FILT 3 + 2 ∧ counting.fld ENC_STAT_LVL 3 = 0 ∧ quadOf 0 false false false false = .none
    ∧ quadOf 0 false false true true = .illegal ∧ quadOf 0 false false true false = .count false) ∧ (quadOf 0 false false false true = .count true
    ∧ counting.encTrks 3 = [] ∧ counting.flag ENC_IDXCFG_ZEN 3 = true ∧ counting.flag ENC_IDXCFG_ZEDGE 3 = false
    ∧ (counting.setFld ENC_STAT_LVL 4 3).fld ENC_STAT_LVL 3 / 4 = 1) ∧ (counting.flag ENC_IDXCFG_ZQEN 3 = false
    ∧ counting.flag ENC_STAT_STILL 3 = false ∧ (counting.en 3).at_ + counting.fld ENC_CFG_PTMO 3 * 400000 = counting.now
    ∧ counting.Admits cp (ENC_POS.addr 3) true 5 ∧ ((counting.setEn 3 { cnts := (1000000000, -1) }).en 3).cnts.1 = counting.now)
    ∧ (lost.flag TRK_CFG_EN 5 = true ∧ lost.fld TRK_CFG_DIRSRC 5 = 2 ∧ lost.trkState 5 = stCycleSync ∧ lost.trkBusy 5 = false ∧ lost.outranked 5 3 = false)
    ∧ (lost.imgState = isLoaded ∧ (pt 1).fld ENC_CFG_PTMODE 3 = 1 ∧ (pt 2).fld ENC_CFG_PTMODE 3 = 2 ∧ ((pt 2).en 3).lvlAt ≠ (pt 2).now
    ∧ cpr.fld ENC_IDXCFG_IDXTOL 3 < max (cpr.en 3).trav.natAbs 4 - min (cpr.en 3).trav.natAbs 4) ∧ (cpr.flag ENC_STAT_IDXSEEN 3 = true ∧ (cpr.en 3).idxOk = true
    ∧ ((counting.setEn 3 { stamp := some 999999000 }).en 3).stamp.isSome = true ∧ (counting.setFld ENC_STAT_DIR 1 3).flag ENC_STAT_DIR 3 = true) := by
  refine ⟨?_, ?_, ?_, ?_, ?_, ?_, ?_⟩ <;> decide +kernel

theorem test_meets_NetworkTime :
    let armed (at_ : Nat) (apply : Nat) := { live.setFld TB_NTCFG_ARM 1 with nt := { armAt := at_, apply := apply } }
    let servo := live.setFld TB_NTCFG_SRC 2
    (live.due = [] ∧ (armed 0 0).Admits cp (TB_NTAPPLY.addr + 4) true 1 ∧ (armed 0 0).flag TB_NTCFG_ARM = true ∧ live.flag TB_NTCFG_ARM = false
    ∧ live.fld TB_NTCFG_SRC = 0) ∧ (live.Admits cp TB_NTOFS.addr true 1 ∧ live.Admits cp (TB_NTRATE.addr + 4) true 1
    ∧ live.Admits cp TB_NTCFG.addr true 0x100 ∧ live.pwr = .run ∧ servo.fld TB_NTCFG_SRC = (1 : Fin 2).val + 1) ∧ (servo.flag TB_NTCFG_ARM = false
    ∧ live.fld TB_NTCFG_SRC ≠ (1 : Fin 2).val + 1 ∧ (armed 1000000000 0).now ≤ (armed 1000000000 0).nt.armAt
    ∧ (armed 0 1000000001).now < (armed 0 1000000001).nt.apply ∧ (armed 999999999 1000000000).nt.armAt < (armed 999999999 1000000000).now)
    ∧ ((armed 999999999 1000000000).nt.apply ≤ (armed 999999999 1000000000).now) := by
  refine ⟨?_, ?_, ?_, ?_⟩ <;> decide +kernel

/-- Timer 47 is in use and runs with a prescaler of 1, whose last wrap lies one TCLK back, from CNT to TOP 9. -/
def timing (cnt : Word) : State :=
  let s := (((live.setFld TMR_CFG_EN 1 47).setFld TMR_STAT_RUN 1 47).setFld TMR_CAPCFG_EDGE 0 47).wr (TMR_CNT.addr 47) cnt
  s.setTm 47 { top := 9, cmp := 5, pscAt := 999999999 }

theorem test_meets_TimerRegisters :
    let on := live.setFld TMR_CFG_EN 1 47
    let sh := live.setFld TMR_CFG_SHADOW 1 47
    let soon := live.setTm 47 { soon := (true, false) }
    (live.due = [] ∧ live.Admits cp (TMR_CTRL.addr 47) true 1 ∧ live.flag TMR_CFG_EN 47 = false ∧ on.flag TMR_CFG_EN 47 = true
    ∧ on.Admits cp (TMR_CTRL.addr 47) true 1) ∧ (on.Admits cp (TMR_CTRL.addr 47) true 2 ∧ on.Admits cp (TMR_CNT.addr 47) true 0xFFFFFFFF
    ∧ sh.Admits cp (TMR_CMP.addr 47) true 7 ∧ sh.flag TMR_CFG_SHADOW 47 = true ∧ live.flag TMR_CFG_SHADOW 47 = false)
    ∧ (live.flag TMR_STAT_RUN 47 = false ∧ live.Admits cp (TMR_CMP.addr 47) true 7 ∧ live.Admits cp (TMR_TOP.addr 47) true 7
    ∧ sh.Admits cp (TMR_TOP.addr 47) true 7 ∧ (soon.tm 47).soon.1 = true) ∧ ((on.setFld TMR_STAT_RUN 1 47).flag TMR_STAT_RUN 47 = true
    ∧ (on.setFld TMR_STAT_RUN 1 47).Admits cp (TMR_CNT.addr 47) true 0 ∧ soon.Admits cp (TMR_CMP.addr 47) true 0xFFFFFFFF) := by
  refine ⟨?_, ?_, ?_, ?_⟩ <;> decide +kernel

theorem test_meets_TimerEvents :
    let e : TaskEnt := ⟨300, false, 999999999⟩
    let takes (m run : Nat) := (((live.setFld TMR_CFG_EN 1 47).setFld TMR_CFG_SLAVE m 47).setFld TMR_STAT_RUN run 47).setTask (tiTmr 47) [e]
    let caps (n : Nat) := (((timing 3).setFld TMR_CAPCFG_CEN 1 47).setFld TMR_CAPCFG_EPS 2 47).setTm 47 { edges := n, unread := true }
    let rst := (caps 2).setFld TMR_CAPCFG_CAPRST 1 47
    ((timing 8).Ready ∧ live.flag TMR_STAT_RUN 47 = false ∧ (timing 8).flag TMR_STAT_RUN 47 = true ∧ (timing 8).fld TMR_CFG_SLAVE 47 ≠ slClock
    ∧ (timing 8).tmrHeld 47 = false) ∧ (((timing 8).tm 47).pscAt + (timing 8).fld TMR_CFG_PSC 47 + 1 = (timing 8).now ∧ (timing 8).resetComes 47 = false
    ∧ { timing 8 with tb := 999999999 }.now < ((timing 8).tm 47).pscAt + (timing 8).fld TMR_CFG_PSC 47 + 1
    ∧ (timing 8).rd (TMR_CNT.addr 47) ≠ ((timing 8).tm 47).top ∧ (timing 8).rd (TMR_CNT.addr 47) + 1 ≠ ((timing 8).tm 47).cmp)
    ∧ ((timing 4).rd (TMR_CNT.addr 47) + 1 = ((timing 4).tm 47).cmp ∧ (timing 9).rd (TMR_CNT.addr 47) = ((timing 9).tm 47).top
    ∧ ((timing 9).setTm 47 { top := 9, topAt := some 999999999, pscAt := 999999999 }).now = 1000000000 ∧ live.taskOf (tiTmr 47) = []
    ∧ (takes slStart 0).taskOf (tiTmr 47) = [e]) ∧ (e.at_ < (takes slStart 0).now ∧ (takes slStart 0).flag TMR_CFG_EN 47 = true ∧ (takes slStart 0).flag TMR_STAT_FROZEN 47 = false
    ∧ (takes slStart 0).fld TMR_CFG_SLAVE 47 = slStart ∧ ((takes slStart 0).tm 47).takenAt ≠ some (takes slStart 0).now)
    ∧ ((takes slStart 0).flag TMR_STAT_RUN 47 = false ∧ (takes slReset 1).fld TMR_CFG_SLAVE 47 = slReset ∧ (takes slReset 1).flag TMR_STAT_RUN 47 = true
    ∧ (takes slClock 1).fld TMR_CFG_SLAVE 47 = slClock ∧ (takes slClock 1).resetComes 47 = false) ∧ ((caps 1).capTaken 47 999999998 true = true
    ∧ ((caps 1).setFld TMR_CAPCFG_CSRC 31 47).capTaken 47 999999998 true = false ∧ (caps 1).flag TMR_CFG_EN 47 = true
    ∧ (caps 1).flag TMR_CAPCFG_CEN 47 = true ∧ (caps 1).tmrRuns 47 = true) ∧ (((caps 1).tm 47).edges < (caps 1).fld TMR_CAPCFG_EPS 47
    ∧ (caps 2).fld TMR_CAPCFG_EPS 47 ≤ ((caps 2).tm 47).edges ∧ (caps 2).flag TMR_CAPCFG_CAPRST 47 = false ∧ rst.flag TMR_CAPCFG_CAPRST 47 = true
    ∧ ((caps 2).tm 47).resetAt = none) ∧ (((caps 2).tm 47).unread = true ∧ live.Admits cp (TMR_CAP.addr 47) false 0 ∧ rst.flag TMR_STAT_FROZEN 47 = false) := by
  refine ⟨?_, ?_, ?_, ?_, ?_, ?_, ?_, ?_⟩ <;> decide +kernel

/-! Pin sequencers -/

/-- Sequencer 15 is in `st` with PC 47 and the word `w` there, its next tick having come; its queues take 8 words each. -/
def sequencing (st : Nat) (w : Word) (x : Psq) : State :=
  let s := ((live.setFld PSQ_STAT_STATE st 15).setFld PSQ_STAT_PC 47 15).wr (PSQ_IMEM.addr 15 47) w
  (s.setFld PSQ_CFG_QSPLIT 8 15).setSq 15 x

theorem test_meets_PsqControl :
    let halted := sequencing pqHalted 0 {}
    let runs := ((sequencing pqRunning 0 { txq := List.replicate 7 (1, 2), rxq := [9] }).setFld PSQ_LINE_KIND 2 15 3).setFld PSQ_LINE_FILT 5 15 3
    let full := sequencing pqRunning 0 { txq := List.replicate 8 (1, 2) }
    let waits (op : Nat) (b : Option Nat) := ((sequencing pqWaiting (BitVec.ofNat 32 (op * 2 ^ 19 + 3 * 2 ^ 15 + 2 ^ 14 + 2 ^ 13)) { wait := some ⟨0, 0, 0, b, none⟩ }).setFld PSQ_LINE_KIND 2 15 3).setFld PSQ_LINE_FILT 5 15 3
    (halted.due = [] ∧ halted.Admits cp (PSQ_CTRL.addr 15) true 1 ∧ halted.fld PSQ_STAT_STATE 15 = pqHalted ∧ runs.fld PSQ_STAT_STATE 15 ≠ pqHalted
    ∧ runs.Admits cp (PSQ_CTRL.addr 15) true 2) ∧ (halted.Admits cp (PSQ_CTRL.addr 15) true 4 ∧ runs.Admits cp (PSQ_TXQ.addr 15) true 0xFFFFFFFF
    ∧ (runs.sq 15).txq.length < min 16 (runs.fld PSQ_CFG_QSPLIT 15) ∧ min 16 (full.fld PSQ_CFG_QSPLIT 15) ≤ (full.sq 15).txq.length ∧ full.Admits cp (PSQ_TXQ.addr 15) true 0)
    ∧ (halted.Admits cp (PSQ_RXQ.addr 15) false 0 ∧ (halted.sq 15).rxq = [] ∧ (runs.sq 15).rxq = [9] ∧ runs.Admits cp (PSQ_RXQ.addr 15) false 0
    ∧ runs.pwr = .run) ∧ (halted.fld PSQ_LINE_KIND 15 3 = 0 ∧ runs.fld PSQ_LINE_KIND 15 3 ≠ 0
    ∧ runs.now = 999999993 + runs.fld PSQ_LINE_FILT 15 3 + 2 ∧ true ≠ runs.lineIn 15 3 ∧ runs.lineSees 15 3 true = true)
    ∧ ((runs.sq 15).wait = none ∧ bitsOf ((waits 5 none).pqWord 15) 19 5 = 0x05 ∧ bitsOf ((waits 7 none).pqWord 15) 19 5 = 0x07
    ∧ bitsOf ((waits 7 none).pqWord 15) 15 2 = (3 : Fin 4).val ∧ bitsOf ((waits 7 none).pqWord 15) 13 1 = 1) ∧ (((waits 7 (some 5)).sq 15).wait = some ⟨0, 0, 0, some 5, none⟩
    ∧ true ≠ (waits 7 none).lineIn 15 3 ∧ (waits 7 none).lineSees 15 3 true = true ∧ runs.Admits cp (PSQ_CTRL.addr 15) true 1 ∧ runs.Admits cp (PSQ_CTRL.addr 15) true 4) := by
  refine ⟨?_, ?_, ?_, ?_, ?_, ?_⟩ <;> decide +kernel

theorem test_meets_PsqWaits :
    let p (tmo : Nat) (f : Option (Bool × Nat)) : PWait := ⟨999999000, 0, tmo, none, f⟩
    let x (tmo : Nat) : Psq := { r := 1000000000, wait := some (p tmo none) }
    let s (op tmo : Nat) := sequencing pqWaiting (BitVec.ofNat 32 (op * 2 ^ 19 + 2 ^ 14)) (x tmo)
    let lineUp := ((s 5 0).setFld PSQ_LINE_KIND 1 15 0).setFld PSQ_STAT_LVLIN 1 15
    let fin (o : Bool) := (s 7 0).setSq 15 { wait := some (p 0 (some (o, 9))) }
    let trig (t : Nat) := (s 6 0).setTask (tiPsq 15) [⟨300, true, t⟩, ⟨301, false, t⟩]
    let tx (t : Nat) := (s 0x0F 0).setSq 15 { x 0 with txq := [(7, t)] }
    let rx (n : Nat) := (s 0x10 0).setSq 15 { x 0 with rxq := List.replicate n 0 }
    ((s 5 1).Ready ∧ ((sequencing pqHalted 0 {}).sq 15).wait = none ∧ (sequencing pqHalted 0 {}).fld PSQ_STAT_STATE 15 ≠ pqRunning ∧ ((s 5 1).sq 15).wait = some (p 1 none)
    ∧ (p 0 none).tmo = 0) ∧ ((s 5 1).tickAt 15 ((p 1 none).tick + (p 1 none).tmo) = (s 5 1).now
    ∧ (s 5 1).now < ((s 5 1).setFld PSQ_CLK 256 15).tickAt 15 ((p 1 none).tick + (p 1 none).tmo) ∧ bitsOf (lineUp.pqWord 15) 19 5 = 0x05
    ∧ bitsOf (lineUp.pqWord 15) 13 1 = 0 ∧ lineUp.lineIn 15 (bitsOf (lineUp.pqWord 15) 15 2) = (bitsOf (lineUp.pqWord 15) 14 1 == 1))
    ∧ (bitsOf ((s 6 0).pqWord 15) 19 5 = 0x06 ∧ (s 6 0).taskOf (tiPsq 15) = [] ∧ (trig 1000000000).now ≤ 1000000000 ∧ 999999999 < (trig 999999999).now
    ∧ (trig 999999999).taskOf (tiPsq 15) = [⟨300, true, 999999999⟩, ⟨301, false, 999999999⟩]) ∧ (bitsOf ((s 7 0).pqWord 15) 19 5 = 0x07
    ∧ ((fin true).sq 15).wait = some (p 0 (some (true, 9))) ∧ ((fin false).sq 15).wait = some (p 0 (some (false, 9))) ∧ bitsOf ((tx 0).pqWord 15) 19 5 = 0x0F ∧ ((tx 999999999).sq 15).txq = [(7, 999999999)])
    ∧ ((tx 1000000000).now ≤ 1000000000 ∧ ((s 0x0F 0).sq 15).txq = [] ∧ bitsOf ((rx 7).pqWord 15) 19 5 = 0x10 ∧ ((rx 7).sq 15).rxq.length + 0 < 16 - min 16 ((rx 7).fld PSQ_CFG_QSPLIT 15)
    ∧ ¬((rx 8).sq 15).rxq.length + 0 < 16 - min 16 ((rx 8).fld PSQ_CFG_QSPLIT 15)) := by
  refine ⟨?_, ?_, ?_, ?_, ?_⟩ <;> decide +kernel

/-- A running sequencer is about to run `w`. -/
theorem test_meets_PsqInstructions :
    ∀ op ∈ [0x00, 0x01, 0x02, 0x03, 0x08, 0x09, 0x0B, 0x0C, 0x0D, 0x0E, 0x11, 0x13], (sequencing pqRunning (BitVec.ofNat 32 (op * 2 ^ 19)) { r := 1000000000 }).PqRuns 15 (BitVec.ofNat 32 (op * 2 ^ 19))
    ∧ bitsOf (BitVec.ofNat 32 (op * 2 ^ 19)) 19 5 = op := by decide +kernel

theorem test_meets_PsqAlu :
    ∀ f ∈ [0, 1, 2, 3, 4, 5, 6, 7], (sequencing pqRunning (BitVec.ofNat 32 (0x0A * 2 ^ 19 + f * 2 ^ 12)) { r := 1000000000 }).PqRuns 15 (BitVec.ofNat 32 (0x0A * 2 ^ 19 + f * 2 ^ 12))
    ∧ bitsOf (BitVec.ofNat 32 (0x0A * 2 ^ 19 + f * 2 ^ 12)) 12 3 = f := by decide +kernel

/-- DRV with and without CO, the waits, TAKE and GIVE that wait and that do not, with a word held, room and neither, and SIG. -/
theorem test_meets_PsqLines :
    let w (op o : Nat) : Word := BitVec.ofNat 32 (op * 2 ^ 19 + o)
    let s (op o : Nat) (x : Psq) := sequencing pqRunning (w op o) { x with r := 1000000000 }
    let shut := (s 0x10 0 {}).setFld PSQ_CFG_QSPLIT 16 15
    let tx (t : Nat) : Psq := { txq := [(7, t)] }
    let edge (l : List Nat) (n : Nat) (c : Option (Nat × Nat)) : PEdges := ⟨l, n, c⟩
    let chain (n : Nat) := s 0x07 (2 ^ 13 + 2 ^ 12) { edges := [(0, edge [9, 8] n (some (1, 5)))] }
    (∀ p ∈ [(0x04, 0xFF), (0x04, 2 ^ 16 + 0xFF), (0x05, 0), (0x06, 0), (0x07, 0), (0x0F, 0), (0x0F, 2 ^ 13), (0x10, 0), (0x10, 2 ^ 13), (0x12, 3)],
      (s p.1 p.2 {}).PqRuns 15 (w p.1 p.2) ∧ bitsOf (w p.1 p.2) 19 5 = p.1)
    ∧ (((s 0x0F 0 (tx 999999999)).sq 15).txq = [(7, 999999999)] ∧ (s 0x0F 0 (tx 1000000000)).PqRuns 15 (w 0x0F 0) ∧ (s 0x0F 0 (tx 1000000000)).now ≤ 1000000000
    ∧ ((s 0x0F 0 {}).sq 15).txq = [] ∧ (s 0x0F (2 ^ 13) (tx 999999999)).PqRuns 15 (w 0x0F (2 ^ 13))) ∧ (16 - min 16 (shut.fld PSQ_CFG_QSPLIT 15) = 0 ∧ shut.PqRuns 15 (w 0x10 0)
    ∧ ((s 0x10 0 { rxq := List.replicate 7 0 }).sq 15).rxq.length + 0 < 16 - min 16 ((s 0x10 0 {}).fld PSQ_CFG_QSPLIT 15)
    ∧ ¬((s 0x10 0 { rxq := List.replicate 8 0 }).sq 15).rxq.length < 16 - min 16 ((s 0x10 0 {}).fld PSQ_CFG_QSPLIT 15) ∧ (chain 1).PqRuns 15 (w 0x07 (2 ^ 13 + 2 ^ 12)))
    ∧ (((chain 1).pqEdges 15 0 false).chain = some (1, 5) ∧ ((chain 1).pqEdges 15 0 false).count - 1 = 0 ∧ ((chain 3).pqEdges 15 0 false).count - 1 = 1 + 1
    ∧ ((chain 3).pqEdges 15 0 false).stamps[1]? = some 8 ∧ 3 ≤ ((chain 4).pqEdges 15 0 false).count - 1)
    ∧ (((s 0x05 0 {}).setFld PSQ_LINE_KIND 2 15 0).lineIn 15 (bitsOf (w 0x05 0) 15 2) = (bitsOf (w 0x05 0) 14 1 == 1)
    ∧ ((s 0x06 0 {}).setTask (tiPsq 15) [⟨300, false, 999999999⟩]).taskOf (tiPsq 15) = [⟨300, false, 999999999⟩]) := by
  refine ⟨?_, ?_, ?_, ?_, ?_⟩ <;> decide +kernel

/-! Processors, interrupts and debug -/

/-- Pair 0 runs with `c`, and the image lets every pair restart 3 times. -/
def running (c : Core) : State := ((live.setFld CPC_CPSTAT_STATE cpRunning 0).setFld CPC_CPCFG_RSTMAX 3 0).setCore 0 c

theorem test_meets_ProcessorStates :
    let other (st r : Nat) := ((live.setFld CPC_CPSTAT_STATE st 3).setFld CPC_CPCFG_RSTMAX 3 3).setFld CPC_CPSTAT_RESTARTS r 3
    let emerg := running { Core.zero with emerg := true }
    ((other cpReset 0).due = [] ∧ (other cpReset 0).Admits cp (CPC_CPCTL.addr 3) true 1 ∧ (other cpReset 0).cpState 3 = cpReset
    ∧ (other cpLockstep 3).fld CPC_CPSTAT_RESTARTS 3 = (other cpLockstep 3).fld CPC_CPCFG_RSTMAX 3
    ∧ (other cpLockstep 3).Admits cp (CPC_CPCTL.addr 3) true 1) ∧ ((other cpLockstep 2).cpState 3 ≠ cpReset
    ∧ (other cpLockstep 2).fld CPC_CPSTAT_RESTARTS 3 ≠ (other cpLockstep 2).fld CPC_CPCFG_RSTMAX 3
    ∧ (other cpLockstep 2).Admits cp (CPC_CPCTL.addr 3) true 1 ∧ (other cpSw 0).cpState 3 ≠ cpRunning
    ∧ (other cpSw 0).Admits cp (CPC_CPCTL.addr 3) true 2) ∧ ((other cpRunning 0).cpState 3 = cpRunning
    ∧ (other cpRunning 0).Admits cp (CPC_CPCTL.addr 3) true 2 ∧ (other cpRunning 0).Ready ∧ ((other cpRunning 0).core 3).emerg = false
    ∧ emerg.cpState 0 = cpRunning) ∧ ((emerg.core 0).emerg = true ∧ emerg.Ready ∧ live.cpState 3 ≠ cpRunning ∧ (live.core 0).emerg = false ∧ live.cpState 0 = cpRunning) := by
  refine ⟨?_, ?_, ?_, ?_⟩ <;> decide +kernel

/-- A core in stacking mode with its stack in the TCM and interrupts enabled, and `running` with source 575 pending for it. -/
def stacking : Core :=
  { Core.zero with hstk := true, mstatus := 8, mie := 0x800, x := (List.replicate 32 0).set 2 0x10010000, wstklo := 0x10000000, wstkhi := 0x10010000 }
def pends (c : Core) : State :=
  (((running c).setBankBit IRT_PEND 575 true).setFld IRT_SRC_EN 1 575).setFld IRT_SRC_ROUTE 1 575

theorem test_meets_InterruptEntry :
    let std := { stacking with hstk := false }
    let low := { stacking with x := (List.replicate 32 0).set 2 0x1000004C }
    let far := { stacking with x := (List.replicate 32 0).set 2 0x20010000, wstklo := 0x20000000, wstkhi := 0x20010000 }
    let inside := running { stacking with depth := 1, x := (List.replicate 32 0).set 2 0x1000FFB0 }
    let lost := running { stacking with depth := 1, x := (List.replicate 32 0).set 2 0x30000000 }
    let emerg := running { stacking with emerg := true }
    let user := { stacking with user := true, wmsp := 0x10010000, mstatus := 0 }
    ((pends stacking).Ready ∧ live.candidate 0 = none ∧ live.cpState 3 ≠ cpRunning ∧ (pends stacking).candidate 0 = some 575
    ∧ (pends { stacking with mstatus := 0 }).candidate 0 = some 575) ∧ (bitsOf ({ stacking with mstatus := 0 }).mstatus 3 1 = 0 ∧ stacking.user = false
    ∧ (pends stacking).cpState 0 = cpRunning ∧ bitsOf stacking.mstatus 3 1 = 1 ∧ (pends std).candidate 0 = some 575) ∧ (std.hstk = false
    ∧ bitsOf std.mie 11 1 = 1 ∧ bitsOf ({ std with mie := 0 }).mie 11 1 = 0 ∧ (pends low).candidate 0 = some 575 ∧ ¬low.wstklo.toNat + 80 ≤ (low.reg 2).toNat)
    ∧ (low.hstk = true ∧ (stacking.reg 2).toNat = stacking.wstkhi.toNat ∧ (stacking.reg 2).toNat % 16 = 0
    ∧ (∀ i < 20, (pends stacking).cpStores 0 (0x10010000 - 80 + 4 * i) = true) ∧ (pends { stacking with wvtab := 0x30000000 }).cpWord 0 (0x30000000 + 4 * 575) = none)
    ∧ (stacking.wvtab.toNat + 4 * 575 < 0x40000000 ∧ (pends { stacking with wvtab := 0x10000000 }).cpWord 0 (0x10000000 + 4 * 575) = some 0
    ∧ 0x10000000 + 4 * 575 + 4 ≤ 0x10010000 - 80 ∧ (pends far).candidate 0 = some 575 ∧ (far.reg 2).toNat = far.wstkhi.toNat)
    ∧ ((pends far).cpStores 0 (0x20010000 - 80) = false ∧ (pends user).candidate 0 = some 575 ∧ user.user = true ∧ (pends user).cpStores 0 (0x10010000 - 80) = true
    ∧ (running std).cpState 0 = cpRunning) ∧ (stacking.depth = 0 ∧ (inside.core 0).depth = 1 ∧ (∀ i < 20, inside.cpWord 0 (0x1000FFB0 + 4 * i) = some 0)
    ∧ lost.cpWord 0 0x30000000 = none ∧ ((lost.core 0).reg 2).toNat + 80 ≤ 0x40000000) ∧ ((emerg.core 0).emerg = true ∧ (∀ i < 20, emerg.cpWord 0 (0x100FFF00 + 4 * i) = some 0)
    ∧ bitsOf (0 : Word) 11 2 = 0 ∧ inside.nestOf 0 = [] ∧ ((inside.setNest 0 [(575, 3)]).nestOf 0) = [(575, 3)]) := by
  refine ⟨?_, ?_, ?_, ?_, ?_, ?_, ?_, ?_⟩ <;> decide +kernel

theorem test_meets_InterruptRouter :
    let inner := (pends stacking).setNest 0 [(575, 3)]
    (live.due = [] ∧ live.Admits cp (IRT_CPCLAIM.addr 0) false 0 ∧ live.candidate 0 = none ∧ (pends stacking).candidate 0 = some 575
    ∧ (pends stacking).Admits cp (IRT_CPCLAIM.addr 0) false 0) ∧ (live.Admits cp (IRT_CPEOI.addr 0) true 575 ∧ live.nestOf 0 = []
    ∧ inner.nestOf 0 = [(575, 3)] ∧ inner.Admits cp (IRT_CPEOI.addr 0) true 575 ∧ inner.Admits cp (IRT_CPEOI.addr 0) true 574)
    ∧ (bitsOf (575 : Word) 0 10 = 575 ∧ inner.line 575 = false ∧ live.Admits cp (IRT_SWSET.addr 1) true 0x80000000
    ∧ live.Admits cp (IRT_SWCLR.addr 1) true 0x80000000 ∧ live.Admits cp (IRT_SRC.addr 575) true (2 ^ 29)) := by
  refine ⟨?_, ?_, ?_⟩ <;> decide +kernel

/-- A part in PROD with a public key, and a signature of its unlock message that the key verifies. -/
def locked : State :=
  { live.setFld CPC_LCS_LCS 1 with img := { pub :=
    (0x0E65ABF0C72095FB492B092DF79B950B4C96F1886E2E1EACE74B269A17623B65, 0x338BF0921E9A3680247C8B1C9BDC773355602202D976BCE488573E19DC488950) } }

theorem test_meets_DebugPort :
    let r := 0x3B211DA06D64ADBCF16934F8A09CD9117BAF21D655C2293B3D0DF033C6E0EFEF
    let sig := 0x9D908ECFB6B256DEF8B49A7C504E6C889C4B0E41FE6CE3E01863DD7B61A20AA0
    let msg := beBytes 8 (locked.wide SYS_UID) ++ beBytes 16 locked.dbg.challenge
    (live.Ready ∧ live.dbgOpen = true ∧ (running Core.zero).dbgOpen = true ∧ (running Core.zero).cpState 0 = cpRunning ∧ live.cpState 0 ≠ cpDebug)
    ∧ ((live.setFld CPC_CPSTAT_STATE cpDebug 3).cpState 3 = cpDebug ∧ locked.dbgOpen = false ∧ live.fld CPC_LCS_LCS ≠ 1
    ∧ locked.fld CPC_LCS_LCS = 1 ∧ ecdsaOk locked.img.pub.1 locked.img.pub.2 r sig (sha256 msg) = true)
    ∧ (ecdsaOk locked.img.pub.1 locked.img.pub.2 r 0 (sha256 msg) = false ∧ (live.setFld TMRG_CFG_DBGFRZ 8 5).fld TMRG_CFG_DBGFRZ (47 / 8) / 2 ^ 3 % 2 = 1
    ∧ (live.setFld CPC_LCS_LCS 2).fld CPC_LCS_LCS = 2 ∧ live.fld CPC_LCS_LCS = 0) := by
  refine ⟨?_, ?_, ?_⟩ <;> decide +kernel

/-! The tenant gateway and the links -/

/-- The gateway is on, port 1 has a link, context 4 has the key 5, and its state in the gateway is `g` beside that. -/
def serving (g : GwCtx) : State :=
  let s := (((live.setFld GW_CFG_EN 1).setFld ETH_CFG_EN 1 1).setFld ETH_CFG_LINK 2 1).setFlag SYS_PWRSTAT_VSER true
  s.setGx 4 { g with key := some 5 }

/-- The header of a message of context 4 with the tag of key 5 (R314, R316). -/
def header (ty seq token : Nat) (b : List Nat) : DtpHeader :=
  let h : DtpHeader := ⟨4, BitVec.ofNat 32 seq, BitVec.ofNat 32 token, 0⟩
  { h with tag := BitVec.ofNat 128 (beNat ((hmac256 (beBytes 32 5) ((tenantMsg h ty b).take (16 + b.length))).take 16)) }

/-- The tag of a message is that of key 5. -/
def tagged (h : DtpHeader) (ty : Nat) (b : List Nat) : Bool :=
  let msg := [0xD7, 1, ty, 0] ++ beBytes 2 h.ctx.toNat ++ beBytes 2 b.length ++ beBytes 4 h.seq.toNat ++ beBytes 4 h.token.toNat ++ b
  (hmac256 (beBytes 32 5) msg).take 16 == beBytes 16 h.tag.toNat

theorem test_meets_GatewayMessages_comes :
    let s := serving {}
    let udp := s.setFld CTX_CAP_PATH 1 4
    let pcie := s.setFld CTX_CAP_PATH 2 4
    (s.Ready ∧ s.flag GW_CFG_EN = true ∧ s.flag CTX_CAP_EN 4 = true ∧ s.imgState = isLoaded ∧ s.flag ETH_CFG_EN 1 = true)
    ∧ (s.fld ETH_CFG_LINK 1 ≠ 0 ∧ s.pathUdp 4 = true ∧ s.flag SYS_PWRSTAT_VSER = true ∧ s.pathPcie 4 = true ∧ (s.gx 4).heldAt ≠ some s.now)
    ∧ ((s.gx 4).key = some 5 ∧ ((serving { heldAt := some 1000000000 }).gx 4).heldAt = some s.now ∧ live.fld ETH_CFG_LINK 1 = 0 ∧ s.flag CTX_CAP_EN 511 = false
    ∧ s.flag GW_CFG_TXMODE = false) ∧ (udp.pathPcie 4 = false ∧ udp.pathUdp 4 = true ∧ pcie.pathUdp 4 = false ∧ pcie.pathPcie 4 = true ∧ live.flag GW_CFG_EN = false) := by
  refine ⟨?_, ?_, ?_, ?_⟩ <;> decide +kernel

/-- A SUBMIT and a SUBSCRIBE are requests, with what their checks ask. -/
theorem test_meets_GatewayMessages_requests (p : Path) (h : DtpHeader) :
    Request (serving {}) 4 p h (.dtpSubmit p h 127 [⟨1, 2, 3, 4⟩]) 1 (bodySubmit 127 [⟨1, 2, 3, 4⟩])
      ⟨True, 1 ≤ 1 ∧ 1 ≤ 8, (serving {}).cap 4 capSubmit = true, 127 < 128 ∧ (serving {}).grantCh 4 127 = true, 256⟩
    ∧ ∃ k : Checks, Request (serving {}) 4 .pcie h (.dtpSubscribe .pcie h 1 0 3) 7 (bodySubscribe 1 0 3) k ∧ ¬k.offered :=
  ⟨.submit 127 [⟨1, 2, 3, 4⟩], _, .subscribe 1 0 3, fun h => absurd (h rfl) (by decide)⟩

/-- What is no message: bytes whose head says type `ty`, length `n` and context `x`. -/
theorem test_meets_GatewayMessages_none :
    let m (ty n x : Nat) : List Byte := ([0xD7, 1, ty, 0] ++ beBytes 2 x ++ beBytes 2 n ++ List.replicate 24 0).map (BitVec.ofNat 8)
    let u (l : List Byte) (o n : Nat) : Nat := beNat (((l.map (·.toNat)).drop o).take n)
    ((m 8 0 4).length = 32 ∧ u (m 8 2 4) 6 2 % 4 ≠ 0 ∧ 1024 < u (m 8 1028 4) 6 2 ∧ (m 8 4 4).length ≠ 32 + u (m 8 4 4) 6 2 ∧ u (m 8 0 3) 4 2 < 4)
    ∧ (512 ≤ u (m 8 0 512) 4 2 ∧ (serving {}).flag CTX_CAP_EN 511 = false ∧ (live.gx 4).key = none ∧ 128 ≤ ((m 128 0 4).getD 2 0).toNat ∧ ((m 128 0 4).getD 0 0) = 0xD7)
    ∧ ((State.reset).imgState ≠ isLoaded ∧ (serving {}).imgState = isLoaded ∧ u (m 128 0 4) 4 2 = 4) := by
  refine ⟨?_, ?_, ?_⟩ <;> decide +kernel

theorem test_meets_GatewayMessages_tag :
    let b := bodySubmit 127 [⟨1, 2, 3, 4⟩]
    let h := header dSubmit 9 1 b
    let seen (q : Nat) := (serving { marks := [(9, q)] }).setFld CTX_SEQ 9 4
    (tagged h dSubmit b = true ∧ tagged { h with seq := 8 } dSubmit b = false ∧ b.length ≤ 1024 ∧ h.ctx.toNat = 4 ∧ h.seq.toNat = 9)
    ∧ (((serving {}).setFld CTX_SEQ 8 4).fld CTX_SEQ 4 < 9 ∧ ((serving {}).setFld CTX_SEQ 72 4).fld CTX_SEQ 4 < 9 + 64 ∧ ¬((serving {}).setFld CTX_SEQ 73 4).fld CTX_SEQ 4 < 9 + 64
    ∧ (∃ m ∈ ((seen 1).gx 4).marks, m.1 = 9) ∧ ((seen 1).gx 4).marks.find? (fun m => m.1 == 9) = some (9, 1))
    ∧ (((seen 2).gx 4).marks.find? (fun m => m.1 == 9) = some (9, 2) ∧ tagged (header dEcho 9 1 []) dEcho [] = true
    ∧ ((serving {}).gx 4).authHeld = false ∧ ((serving { authHeld := true, refHeld := true }).gx 4).authHeld = true) := by
  refine ⟨?_, ?_, ?_⟩ <;> decide +kernel

/-- Each check in its turn: type, form, capability, grant, tokens, an operation of the same token, a full queue, an entry of the ring, and none. -/
theorem test_meets_GatewayMessages_checks :
    let rich (n : Nat) : GwCtx := { mtok := 256, etok := 256, queue := List.replicate n ⟨2, dEcho, [], 1, false, []⟩ }
    let s (n : Nat) := serving (rich n)
    let ring : GwCtx := { rich 0 with ring := [(1, 0x81, [0, 0, 0, 0])] }
    (((s 0).setFld CTX_CAP_CAP 0 4).cap 4 capSubmit = false ∧ (s 0).cap 4 capSubmit = true ∧ ((s 0).wr (CTX_CHG.addr 4 3) 0).grantCh 4 127 = false
    ∧ (s 0).grantCh 4 127 = true ∧ (s 0).cap 4 capCut = true) ∧ (256 ≤ ((s 0).gx 4).mtok ∧ 256 * 1 ≤ ((s 0).gx 4).etok ∧ ¬256 ≤ ((serving { mtok := 255 }).gx 4).mtok
    ∧ (∃ o ∈ ((s 1).gx 4).queue, o.token = 2) ∧ (∀ o ∈ ((s 64).gx 4).queue, o.token ≠ 1)) ∧ ((∀ r ∈ ((s 64).gx 4).ring, r.1 ≠ 1) ∧ 64 ≤ ((s 64).gx 4).queue.length
    ∧ ((s 63).gx 4).queue.length < 64 ∧ ((serving ring).gx 4).ring.find? (fun e => e.1 == 1) = some (1, 0x81, [0, 0, 0, 0]) ∧ ((s 0).gx 4).refHeld = false)
    ∧ ((s 0).cap 4 capObsMeas = true ∧ (s 0).cap 4 capObsAngle = true ∧ (s 0).anyCap 4 = true ∧ (s 0).grantAdc 4 63 = false ∧ ((s 0).setFld CTX_CAP_CAP 0 4).anyCap 4 = false) := by
  refine ⟨?_, ?_, ?_, ?_⟩ <;> decide +kernel

theorem test_meets_UrgentLane :
    let b := bodyMask (2 ^ 127)
    let h := header dCut 9 1 b
    let s := serving {}
    let few := s.wr (CTX_CHG.addr 4 3) 0
    (s.Ready ∧ s.flag GW_CFG_EN = true ∧ s.flag CTX_CAP_EN 4 = true ∧ s.imgState = isLoaded ∧ s.flag ETH_CFG_EN 1 = true) ∧ (s.fld ETH_CFG_LINK 1 ≠ 0 ∧ s.pathUdp 4 = true
    ∧ s.flag SYS_PWRSTAT_VSER = true ∧ s.pathPcie 4 = true ∧ (s.gx 4).heldAt ≠ some s.now) ∧ ((s.gx 4).key = some 5 ∧ tagged h dCut b = true ∧ b.length = 16
    ∧ s.fld CTX_SEQ 4 < h.seq.toNat ∧ s.cap 4 capCut = true) ∧ ((s.setFld CTX_CAP_CAP 0 4).cap 4 capCut = false ∧ (2 ^ 127 : BitVec 128).getLsbD 127 = true ∧ s.grantCh 4 127 = true
    ∧ few.grantCh 4 127 = false ∧ (s.setFld HSK_STAT_OUT 1 127).flag HSK_STAT_OUT 127 = true) := by
  refine ⟨?_, ?_, ?_, ?_⟩ <;> decide +kernel

theorem test_meets_GatewayOperations :
    let op (ty : Nat) (b : List Nat) : GwOp := ⟨1, ty, b, 1, false, []⟩
    let s (o : GwOp) := serving { queue := [o, op dEcho []], peer := [(1, (5, 6))] }
    let sub := serving { sub := [(1, (100, 1))], trkAt := 1000000000 - 40000, pubQ := [[1]], pubAt := 1000000000, port := 1, peer := [(1, (5, 6))] }
    let x := s (op dEcho [])
    let rd (a : Nat) (z : Size) : Bool := (x.devRead (.gw 4) a z).bus.err
    let wr (a : Nat) (z : Size) : Bool := (x.devWrite (.gw 4) a z 0).bus.err
    (x.Ready ∧ ((serving {}).gx 4).queue = [] ∧ (x.gx 4).queue = [op dEcho [], op dEcho []] ∧ (op dEcho []).run = false ∧ ({ op dSubmit [] with run := true }).run = true)
    ∧ (x.fnPending fnInjdly = false ∧ pairAt SYS_ID.addr = false ∧ rd SYS_ID.addr .b32 = false ∧ rd 0 .b32 = true ∧ pairAt SYS_UID.addr = true)
    ∧ (rd SYS_UID.addr .b64 = false ∧ wr TB_NTBASE.addr .b64 = false ∧ wr 0 .b64 = true ∧ wr 0 .b32 = true ∧ wr SYS_FNMODE.addr .b32 = false)
    ∧ (x.grantCh 4 127 = true ∧ (x.wr (CTX_CHG.addr 4 3) 0).grantCh 4 127 = false ∧ (bodyRead SYS_ID.addr 8).getD 4 0 = 8 ∧ x.flag CTX_CAP_EN 4 = true
    ∧ (x.setFld CTX_CAP_PATH 1 4).pathPcie 4 = false) ∧ ((x.gx 4).peer.find? (fun p => p.1 == 1) = some (1, (5, 6)) ∧ live.flag CTX_CAP_EN 511 = false
    ∧ ((serving { heldAt := some 1000000000 }).gx 4).heldAt = some (serving {}).now ∧ ((serving {}).gx 4).heldAt ≠ some (serving {}).now ∧ (sub.gx 4).pubQ ≠ [])
    ∧ ((sub.gx 4).pubAt + subPeriod (sub.gx 4) 0 * 400 ≤ sub.now ∧ subMask (sub.gx 4) 1 ≠ 0
    ∧ (sub.gx 4).trkAt + max 100 (subPeriod (sub.gx 4) 1) * 400 = sub.now ∧ ((serving {}).gx 4).pubQ = [] ∧ subMask ((serving {}).gx 4) 1 = 0)
    ∧ (sub.flag CTX_CAP_EN 4 = true ∧ (sub.gx 4).key ≠ none ∧ sub.pathUdp 4 = true ∧ sub.flag GW_CFG_TXMODE = false ∧ (sub.gx 4).peer.find? (fun p => p.1 == (sub.gx 4).port) = some (1, (5, 6)))
    ∧ (((serving {}).gx 4).peer = [] ∧ beNat ((([0xD7, 1, 8, 0, 0, 4] : List Nat).drop 4).take 2) = 4 ∧ (bodySubmit 127 [⟨1, 2, 3, 4⟩]).getD 2 0 = 1) := by
  refine ⟨?_, ?_, ?_, ?_, ?_, ?_, ?_, ?_⟩ <;> decide +kernel

/-- A page that holds the bytes of an ECHO. -/
theorem test_meets_GatewayOperations_doorbell :
    let h := header dEcho 9 1 []
    let l := tenantMsg h dEcho []
    let s := serving { buf := (List.range 32).zip l }
    (∀ i < 32 + 0, tget 0 (s.gx 4).buf i = (tenantMsg h dEcho []).getD i 0) ∧ min 32 0x800 = 32 + 0 ∧ h.ctx.toNat = 4 ∧ s.pathPcie 4 = true ∧ s.flag SYS_PWRSTAT_VSER = true := by decide +kernel

theorem test_meets_Links :
    let s := serving {}
    let q (n : Nat) := { s with links := { hq := [(1, List.replicate n [0])] } }
    let can := (live.setFld CAN_CFG_EN 1 3).setFld CAN_CFG_XLEN 1 3
    let flash := { s with links := { xsp := some (2, 0x800000) } }
    (s.Ready ∧ live.fld ETH_CFG_LINK 1 = 0 ∧ s.fld ETH_CFG_LINK 1 ≠ 0 ∧ (List.replicate 2001 (0 : Byte)).length > 2000 ∧ 32 ≤ (tget [] (q 32).links.hq 1).length)
    ∧ ((tget [] (q 31).links.hq 1).length < 32 ∧ live.flag CAN_CFG_EN 3 = false ∧ can.imgState = isLoaded ∧ can.flag CAN_CFG_EN 3 = true
    ∧ can.flag CAN_CFG_XLEN 3 = true) ∧ (can.Ready ∧ s.links.xsp = none ∧ flash.links.xsp = some (2, 0x800000) ∧ s.flag SYS_PWRSTAT_VSER = true
    ∧ s.due = []) ∧ (s.Admits cp XSP_CMD.addr true 0x102 ∧ s.flag XSP_CMD_GO = false ∧ (s.setFld XSP_CMD_GO 1).flag XSP_CMD_GO = true
    ∧ (s.setFld XSP_CMD_GO 1).Admits cp XSP_CMD.addr true 0x102 ∧ s.fld IMG_STATUS_SLOT < 2) ∧ (flashRegion 0 = s.fld IMG_STATUS_SLOT
    ∧ flashRegion 0x800000 ≠ s.fld IMG_STATUS_SLOT ∧ 2 ≤ (s.setFld IMG_STATUS_SLOT 2).fld IMG_STATUS_SLOT ∧ live.flag SYS_PWRSTAT_VSER = false
    ∧ (can.setFld CAN_CFG_XLEN 0 3).flag CAN_CFG_XLEN 3 = false) := by
  refine ⟨?_, ?_, ?_, ?_, ?_⟩ <;> decide +kernel

/-! The combustion journal -/

/-- Stream 15 has a ring of 4 KiB and `x` in it, over PCIe or over Yunae. -/
def streaming (st : Nat) (yunae : Bool) (x : Strm) : State :=
  let s := (((live.wr (JRN_RTE.addr 0) 0x008F0000).setFld JS_CNT1_STATE st 15).setFld JS_CFG_S 12 15).setFlag JS_CFG_TRANSPORT yunae 15
  { (s.setFld JS_TMO_STMO 10 15).setFld JS_TMO_RETRY 2 15 with links := { pciUp := true } }.setStr 15 x

/-- A record without a body, and its place in a FIFO. -/
def note : Rec := ⟨0x05, 575, 7, 0, 0, false, 0xFFFF, false, false, false, []⟩
def waits (t : Nat) : QRec := ⟨note, t⟩

theorem test_meets_JournalRecords :
    let x : Strm := { Strm.zero with fifo := [waits 1000000000] }
    let s := streaming jsUp false x
    let f (t : Nat) : Flight := ⟨1, t, none, [], ⟨0, 0, 0, 0, []⟩⟩
    let full := s.setWide JS_HEADC 4096 15
    let edge := (s.setWide JS_HEADC 4080 15).setWide JS_RELC 4080 15
    let asks := { (s.setFld SYS_FNSTAT_INFORCE 0x40).setFld JRN_HDEC_REQ 1 with jrnReq := some ⟨15, 255⟩ }
    let host := (s.setFld SYS_FNSTAT_INFORCE 0x40).setStr 15 { x with fifo := [⟨{ note with ty := 2 }, 1000000000⟩] }
    let write (h n c : Nat) : Word := BitVec.ofNat 32 (c * 2 ^ 27 + h * 2 ^ 16 + n)
    (s.Ready ∧ (live.str 15).fifo = [] ∧ live.jsState 15 = jsOff ∧ (s.str 15).fifo = [waits 1000000000] ∧ s.hostMode fnJrec 0 = false)
    ∧ (¬full.wide JS_HEADC 15 + 0 + 32 + 192 ≤ full.wide JS_RELC 15 + 4096 ∧ s.wide JS_HEADC 15 + 0 + 32 + 192 ≤ s.wide JS_RELC 15 + 4096 ∧ s.jsState 15 = jsUp
    ∧ s.flag JS_CFG_TRANSPORT 15 = false ∧ s.links.pciUp = true)
    ∧ (4096 < edge.wide JS_HEADC 15 % 4096 + 32 ∧ (live.flag JS_CFG_POLICY 15 = false) ∧ host.hostMode fnJrec 0 = true ∧ (host.str 15).fifo = [⟨{ note with ty := 2 }, 1000000000⟩]
    ∧ host.jrnReq = none) ∧ ({ host with jrnReq := some ⟨0, 0⟩ }.jrnReq ≠ none ∧ (streaming jsUp true x).flag JS_CFG_TRANSPORT 15 = true
    ∧ (∃ l ∈ ((streaming jsUp true { x with flight := [f (1000000000 - 4000)] }).str 15).flight, l.at_ + s.fld JS_TMO_STMO 15 * 400 ≤ s.now)
    ∧ (∀ l ∈ ((streaming jsUp true { x with flight := [f (1000000001 - 4000)] }).str 15).flight, s.now < l.at_ + s.fld JS_TMO_STMO 15 * 400)
    ∧ 999996000 + s.fld JS_TMO_STMO 15 * 400 ≤ s.now) ∧ (s.Admits cp JRN_HDEC.addr true 0 ∧ s.jrnReq = none
    ∧ asks.Admits cp JRN_HDEC.addr true (write 255 4064 1) ∧ asks.jrnReq = some ⟨15, 255⟩ ∧ bitsOf (write 255 4064 1) 27 1 = 1)
    ∧ (bitsOf (write 255 4064 1) 16 8 = 255 ∧ bitsOf (write 255 4064 1) 0 13 = 4064 ∧ bitsOf (write 255 4065 1) 0 13 = 4065
    ∧ bitsOf (write 254 0 1) 16 8 ≠ 255 ∧ (asks.str 15).fifo = [waits 1000000000])
    ∧ (bitsOf (s.baseRd JRN_HDEC.addr) 16 8 = s.fld JRN_HDEC_HANDLE ∧ bitsOf ((s.setFld JRN_HDEC_HANDLE 1).baseRd JRN_HDEC.addr) 16 8 ≠ (s.setFld JRN_HDEC_HANDLE 1).fld JRN_HDEC_HANDLE) := by
  refine ⟨?_, ?_, ?_, ?_, ?_, ?_, ?_⟩ <;> decide +kernel

theorem test_meets_Streams :
    let fr (k : Nat) : YFrame := ⟨0, k, 0, 0, []⟩
    let x : Strm := { Strm.zero with unacked := [(fr 3, 999996000)], flight := [⟨1, 0, some 4, [], fr 4⟩], fseq := 9, late := [2] }
    let s := (streaming jsUp true x).setFld JS_TMO_RTO 1 15
    let tired := s.setStr 15 { x with resends := 2 }
    let down := streaming jsDown true { Strm.zero with probe := some 7, probeAt := 1000000000 - 4000 }
    let drain (y : Strm) := streaming jsDraining false y
    let moved := (live.setWide JS_HEADC 64 15).setWide JS_RELC 32 15
    (s.Ready ∧ down.jsState 15 = jsDown ∧ (down.str 15).probe = some (7 : Word).toNat ∧ s.jsState 15 ≠ jsDown
    ∧ (4 + 2 ^ 32 - 3 % 2 ^ 32) % 2 ^ 32 < 2 ^ 31) ∧ (s.fld JS_CFG_WIN 15 ≤ ((s.str 15).unacked).length
    ∧ (live.str 15).unacked = [] ∧ (s.str 15).unacked = [(fr 3, 999996000)] ∧ 999996000 + s.fld JS_TMO_RTO 15 * 10 * 400 = s.now
    ∧ { s with tb := 999999999 }.now < 999996000 + s.fld JS_TMO_RTO 15 * 10 * 400) ∧ (s.fld JS_TMO_RETRY 15 ≤ (tired.str 15).resends
    ∧ (s.str 15).resends < s.fld JS_TMO_RETRY 15 ∧ down.flag JS_CFG_TRANSPORT 15 = true ∧ (down.str 15).probeAt + down.fld JS_TMO_STMO 15 * 400 = down.now
    ∧ (drain Strm.zero).jsState 15 = jsDraining) ∧ (((drain Strm.zero).str 15).fifo = [] ∧ ((drain Strm.zero).str 15).flight = []
    ∧ ((drain { Strm.zero with fifo := [waits 0] }).str 15).fifo ≠ [] ∧ moved.due = [] ∧ moved.Admits cp (JS_RELC.addr 15) true 64)
    ∧ (moved.wide JS_RELC 15 ≤ 64 ∧ 64 ≤ moved.wide JS_HEADC 15 ∧ moved.Admits cp (JS_RELC.addr 15) true 96 ∧ ¬96 ≤ moved.wide JS_HEADC 15
    ∧ live.Admits cp (JS_CTRL.addr 15) true 1) ∧ (live.jsState 15 = jsOff ∧ s.Admits cp (JS_CTRL.addr 15) true 1 ∧ s.jsState 15 = jsUp
    ∧ live.Admits cp (JS_CTRL.addr 15) true 0 ∧ s.Admits cp (JS_CTRL.addr 15) true 0) := by
  refine ⟨?_, ?_, ?_, ?_, ?_, ?_⟩ <;> decide +kernel

/-! The fault collector and the classifier -/

/-- The classifier of channel 127 is in `st` with `x`, with a forgiveness period and a T_PERM of 1 ms. -/
def judging (st : Nat) (x : Cls) : State :=
  let s := ((live.setFld FCO_BKT_CSTATE st 127).setFld FCO_CLS0_FP 1).setFld FCO_CLS1_TPERM 1
  s.setCls 127 x

theorem test_meets_Classifier :
    let x : Cls := { Cls.zero with coolEnd := 1000000000 }
    let s := judging csCool x
    let still := s.setPd 127 { cont := true }
    let host := s.setFld SYS_FNSTAT_INFORCE (2 ^ fnRetry)
    let cont := judging csHold { Cls.zero with contSince := some 999600000 }
    let b := (judging csIdle { Cls.zero with changedAt := 999600000, retryAt := 999600000 }).setFld FCO_BKT_B 1 127
    let norm := (b.setFld PAD_STAT_STATE padNormal 127).setPd 127 { normalAt := 999600000 }
    (s.Ready ∧ live.fld FCO_BKT_CSTATE 127 ≠ csCool ∧ { s with tb := 999999999 }.now < (s.clsOf 127).coolEnd ∧ s.fld FCO_BKT_CSTATE 127 = csCool
    ∧ (s.clsOf 127).coolEnd ≤ s.now) ∧ ((still.pd 127).cont = true ∧ still.fld FCO_BKT_CSTATE 127 = csCool ∧ (s.pd 127).cont = false
    ∧ (s.clsOf 127).hot = false ∧ s.hostMode fnRetry 127 = false) ∧ (host.hostMode fnRetry 127 = true ∧ host.askOf fnRetry 127 = none
    ∧ (s.clsOf 127).contSince = none ∧ (cont.clsOf 127).contSince = some 999600000 ∧ 999600000 + cont.fld FCO_CLS1_TPERM * 400000 = cont.now)
    ∧ ({ cont with tb := 999999999 }.now < 999600000 + cont.fld FCO_CLS1_TPERM * 400000 ∧ s.fld FCO_BKT_B 127 = 0 ∧ b.fld FCO_BKT_B 127 ≠ 0
    ∧ (b.clsOf 127).changedAt + b.fld FCO_CLS0_FP * 400000 = b.now ∧ live.fld PAD_STAT_STATE 127 ≠ padNormal)
    ∧ (norm.fld PAD_STAT_STATE 127 = padNormal ∧ { b with tb := 999999999 }.now < (b.clsOf 127).retryAt + b.fld FCO_CLS0_FP * 400000
    ∧ (norm.pd 127).normalAt + norm.fld FCO_CLS0_FP * 400000 = norm.now ∧ (norm.setPd 127 { normalAt := 999600001 }).now < 999600001 + 400000 ∧ cont.retired 127 = false)
    ∧ ((cont.setBankBit FCO_RET 127 true).retired 127 = true ∧ ((s.setCls 127 { x with hot := true }).clsOf 127).hot = true
    ∧ (s.setFld PAD_STAT_STATE padTest 127).fld PAD_STAT_STATE 127 = padTest) := by
  refine ⟨?_, ?_, ?_, ?_, ?_, ?_⟩ <;> decide +kernel

theorem test_meets_RetryDecisions :
    let asks (d : Nat) (x : Cls) := ((judging csWaitdec x).setBankBit FCO_RREQ 127 true).setAsk fnRetry 127 (some d)
    let perm (t : Nat) : Cls := { Cls.zero with contSince := some t }
    let ret := live.setBankBit FCO_RET 127 true
    let passed := ret.setPd 127 { passOk := true }
    let hold := judging csHold Cls.zero
    let spent (n : Nat) := ((asks 1000000001 Cls.zero).setFld FCO_CLS1_RETIRE_AT n).setFld FCO_CLS1_RETRY_MAX 15
    (live.due = [] ∧ live.Admits cp FCO_RDEC.addr true 0x8000007F ∧ bitsOf (0x8000007F : Word) 0 7 = 127 ∧ bitsOf (0x8000007F : Word) 31 1 = 1
    ∧ live.bankBit FCO_RREQ 127 = false) ∧ ((asks 1000000000 Cls.zero).askOf fnRetry 127 = some (asks 1000000000 Cls.zero).now
    ∧ (asks 1000000001 Cls.zero).bankBit FCO_RREQ 127 = true ∧ (asks 1000000001 Cls.zero).askOf fnRetry 127 = some 1000000001 ∧ (asks 0 Cls.zero).now < 1000000001
    ∧ (asks 1000000001 Cls.zero).Admits cp FCO_RDEC.addr true 0x7F) ∧ (bitsOf (0x7F : Word) 31 1 = 0 ∧ live.Admits cp FCO_RCLR.addr true 127
    ∧ live.retired 127 = false ∧ ret.retired 127 = true ∧ (ret.pd 127).passOk = false) ∧ (ret.Admits cp FCO_RCLR.addr true 127
    ∧ (passed.pd 127).passOk = true ∧ passed.Admits cp FCO_RCLR.addr true 127 ∧ passed.retired 127 = true ∧ passed.flag PAD_TEST_START 127 = false)
    ∧ (hold.Ready ∧ hold.fld FCO_BKT_CSTATE 127 = csHold ∧ (hold.clsOf 127).hot = false ∧ hold.hostMode fnRetry 127 = false
    ∧ (hold.pd 127).cont = false) ∧ (((judging csHold { Cls.zero with hot := true }).clsOf 127).hot = true
    ∧ live.fld FCO_BKT_CSTATE 127 ≠ csHold ∧ ((hold.setPd 127 { cont := true }).pd 127).cont = true
    ∧ (asks 1000000001 (perm 999600001)).now < 999600001 + (asks 0 Cls.zero).fld FCO_CLS1_TPERM * 400000
    ∧ ¬(asks 1000000001 (perm 999600000)).now < 999600000 + (asks 0 Cls.zero).fld FCO_CLS1_TPERM * 400000)
    ∧ ((spent 1).fld FCO_CLS1_RETIRE_AT ≤ min 15 ((spent 1).fld FCO_BKT_B 127 + 1) ∧ ¬(spent 2).fld FCO_CLS1_RETIRE_AT ≤ min 15 ((spent 2).fld FCO_BKT_B 127 + 1)
    ∧ ¬(spent 2).fld FCO_CLS1_RETRY_MAX ≤ min 15 ((spent 2).fld FCO_BKT_RC 127 + 1) ∧ (spent 1).retired 127 = false ∧ (passed.setFld PAD_TEST_START 1 127).flag PAD_TEST_START 127 = true)
    ∧ ((passed.setFld CH_STAT_CUTL 1 127).flag CH_STAT_CUTL 127 = true ∧ passed.flag CH_STAT_CUTL 127 = false
    ∧ (passed.setFld PAD_TEST_START 1 127).Admits cp FCO_RCLR.addr true 127 ∧ ((passed.setFld PAD_STAT_STATE padTest 127).fld PAD_STAT_STATE 127 = padTest)) := by
  refine ⟨?_, ?_, ?_, ?_, ?_, ?_, ?_, ?_⟩ <;> decide +kernel

theorem test_meets_LevelSources :
    let hot := live.setBankBit FCO_ACT 7 true
    let s (v : Nat) := live.setFld FCO_SRC_SEV v 7
    (live.Ready ∧ live.bankBit FCO_ACT 2 = false ∧ live.bankBit FCO_ACT 5 = false ∧ hot.bankBit FCO_ACT 7 = true ∧ live.bankBit FCO_ACT 7 = false)
    ∧ ((live.setBankBit FCO_ACT 2 true).bankBit FCO_ACT 2 = true ∧ (live.setBankBit FCO_ACT 5 true).bankBit FCO_ACT 5 = true ∧ live.bankBit FCO_ACT 6 = false
    ∧ (s 7).fld FCO_SRC_SEV 7 = 7 ∧ (s 5).fld FCO_SRC_SEV 7 ≤ 5)
    ∧ ((s 6).fld FCO_SRC_SEV 7 ≠ 7 ∧ (s 4).fld FCO_SRC_SEV 7 = 4 ∧ (s 4).fco.log.length < 32 ∧ tget 0 (s 4).fco.counts 7 < 0xFFFFFFFF ∧ (s 3).fld FCO_SRC_SEV 7 ≤ 3)
    ∧ ((s 0).fld FCO_SRC_SEV 7 = 0 ∧ (s 1).fld FCO_SRC_SEV 7 = 1 ∧ (s 1).fld FCO_SRC_GMASK 7 = 0 ∧ ((s 1).setFld FCO_SRC_GMASK 0x8000 7).fld FCO_SRC_GMASK 7 / 2 ^ 15 % 2 = 1
    ∧ (s 2).fld FCO_SRC_SEV 7 = 2) := by
  refine ⟨?_, ?_, ?_, ?_⟩ <;> decide +kernel

theorem test_meets_FaultRegisters :
    let e : LogEntry := ⟨0, 4, 4, 137, 1, 2, 3⟩
    let logged := live.setFco { live.fco with log := [e] }
    let set := (live.setFld FCO_GSAFE_ALL 1).setFco { live.fco with latchSrc := [(16, [7, 137])] }
    let now_ := set.setFco { set.fco with raisedAt := [(137, some 1000000000)] }
    let src := live.setFld FCO_SRC_FLOOR 5 137
    let low := live.setFld FCO_SRC_FLOOR 7 12
    (live.due = [] ∧ live.Admits cp FCO_SAFECLR.addr true 0x1FFFF ∧ src.Admits cp (FCO_SRC.addr 137) true 0x50
    ∧ src.Admits cp (FCO_SRC.addr 137) true 0x60 ∧ srcReserved 137 = false) ∧ (src.fld FCO_SRC_FLOOR 137 = 5 ∧ srcReserved 511 = true
    ∧ live.Admits cp (FCO_SRC.addr 511) true 0 ∧ live.Admits cp (FCO_LOG.addr 0) false 0 ∧ live.fco.log = []) ∧ (logged.fco.log = [e]
    ∧ logged.Admits cp (FCO_LOG.addr 0) false 0 ∧ live.latchSet 16 = false ∧ set.latchSet 16 = true ∧ tget [] set.fco.latchSrc 16 = [7, 137])
    ∧ (set.bankBit FCO_ACT 7 = false ∧ set.bankBit FCO_ACT 137 = false ∧ (set.setBankBit FCO_ACT 7 true).bankBit FCO_ACT 7 = true
    ∧ tget none now_.fco.raisedAt 137 = some now_.now ∧ set.Admits cp FCO_SAFECLR.addr true 0x10000) ∧ (low.Admits cp (FCO_SRC.addr 12) true 0x20 ∧ low.fld FCO_SRC_FLOOR 12 = 7
    ∧ set.imgState = isLoaded ∧ set.flag FCO_KACFG_KAEN = false ∧ set.flag FCO_KASTAT_RUN = false) := by
  refine ⟨?_, ?_, ?_, ?_, ?_⟩ <;> decide +kernel

/-- The keep-alive of context 0 is on, its window opens 2 us and closes 4 us after the last kick at `t`. -/
def kicked (t : Nat) (any wait : Bool) : State :=
  let s := ((live.setFld FCO_KACFG_KAEN 1).setFld FCO_KAWIN_WOPEN 2).setFld FCO_KAWIN_WCLOSE 4
  s.setFco { live.fco with kickAt := t, anyTime := any, waitKick := wait, toggleAt := 1000000000 }

theorem test_meets_KeepAlive :
    let s := kicked (1000000000 - 800) false false
    let run := (kicked 0 false false).setFld FCO_KASTAT_RUN 1
    let late := kicked (999999999 - 1600) false false
    let on := (live.setFld HSK_STAT_OUT 1 127).setFld HSK_STAT_INTENT 1 127
    let ends := on.setCh 127 { issued := [⟨.fin .anchor, 32000000096, 0⟩] }
    (live.due = [] ∧ live.Admits cp FCO_KICK.addr true 0x5A ∧ live.flag FCO_KACFG_KAEN = false ∧ s.Admits cp FCO_KICK.addr true 0x5A
    ∧ s.flag FCO_KACFG_KAEN = true) ∧ (s.imgState = isLoaded ∧ s.fco.anyTime = false ∧ bitsOf (0x5A : Word) 0 8 = s.fld FCO_KASTAT_NEXTKEY
    ∧ s.fco.kickAt + s.fld FCO_KAWIN_WOPEN * 400 = s.now ∧ ¬s.fco.kickAt + s.fld FCO_KAWIN_WCLOSE * 400 < s.now)
    ∧ ({ s with tb := 999999999 }.now < s.fco.kickAt + s.fld FCO_KAWIN_WOPEN * 400 ∧ (kicked 1000000000 true false).fco.anyTime = true
    ∧ (kicked 1000000000 true true).fco.waitKick = true ∧ bitsOf (0xA5 : Word) 0 8 ≠ s.fld FCO_KASTAT_NEXTKEY
    ∧ s.Admits cp FCO_KICK.addr true 0xA5) ∧ (s.Ready ∧ late.fco.kickAt + late.fld FCO_KAWIN_WCLOSE * 400 < s.now ∧ late.Admits cp FCO_KICK.addr true 0xA5
    ∧ live.flag FCO_KASTAT_RUN = false ∧ run.flag FCO_KASTAT_RUN = true) ∧ (run.fco.toggleAt = run.now
    ∧ { run with tb := 999999999 }.now < run.fco.toggleAt ∧ (live.setFld FCO_STAT_SNACT 1).flag FCO_STAT_SNACT = true
    ∧ live.flag FCO_STAT_SNACT = false ∧ on.flag HSK_STAT_INTENT 127 = true) ∧ (on.fallsBy 127 ((on.now + 3) * 32) = false ∧ ends.fallsBy 127 ((on.now + 3) * 32) = true
    ∧ ends.flag HSK_STAT_OUT 127 = true ∧ s.flag FCO_GSAFE_ALL = false ∧ s.fld FCO_GSAFE_GRP = 0) := by
  refine ⟨?_, ?_, ?_, ?_, ?_, ?_⟩ <;> decide +kernel

/-! Resets, sleep and the Acorn domain -/

theorem test_meets_Resets :
    (State.reset.due = [] ∧ State.reset.pwr = .run ∧ ({ live with pwr := .retain }).pwr = .retain ∧ ({ live with pwr := .held }).pwr = .held
    ∧ ({ live with pwr := .off }).pwr = .off) ∧ (live.Admits cp SYS_RSTCTL.addr true 0x5EC00001 ∧ live.Admits cp SYS_RSTCTL.addr true 0x5EC10001
    ∧ bitsOf (0x5EC00001 : Word) 16 16 = 0x5EC0 ∧ bitsOf (0x5EC00001 : Word) 0 1 = 1 ∧ bitsOf (0x5EC10001 : Word) 16 16 ≠ 0x5EC0)
    ∧ (live.dbgOpen = true ∧ locked.dbgOpen = false) := by
  refine ⟨?_, ?_, ?_⟩ <;> decide +kernel

theorem test_meets_Sleep :
    let asks := { live with slp := { req := some true } }
    let slept (w : Bool) := { live with pwr := .off, slp := { s := 5, ratio := 0x2FAF0800, wake := w } }
    let pow := live.setFld ACN_CFG_PWREN 1
    let ch (e : Ev) := pow.setCh 127 { queue := [e] }
    let angle : Ev := { pulse 5 6 0 with w0 := 0x01000000 }
    (live.due = [] ∧ live.Admits cp SYS_SLPCTL.addr true 1 ∧ live.Admits cp SYS_SLPCTL.addr true 0 ∧ live.slp.req = none
    ∧ asks.slp.req = some true) ∧ (asks.Admits cp SYS_SLPCTL.addr true 1 ∧ live.flag ACN_CFG_PWREN = false ∧ pow.flag ACN_CFG_PWREN = true ∧ live.Admits cp SYS_SLPCTL.addr true 0x101
    ∧ pow.Admits cp SYS_SLPCTL.addr true 0x101) ∧ (((firing { active := some (act 0 0 0 none) }).ch 127).active ≠ none ∧ ((ch angle).ch 127).queue = [angle] ∧ bitsOf angle.w0 15 1 = 0
    ∧ bitsOf (pulse 5 6 0).w0 15 1 = 1 ∧ (live.setFld ADC_CTRL_STATE 2 3).fld ADC_CTRL_STATE 3 ≠ 0) ∧ ((∃ w ∈ (listening.kn 3).wins, w.close = none)
    ∧ ((live.setFld PSQ_STAT_STATE pqRunning 15).fld PSQ_STAT_STATE 15 ≠ pqHalted) ∧ ((streaming jsUp false { Strm.zero with fifo := [waits 0] }).str 15).fifo ≠ []
    ∧ (streaming jsUp false Strm.zero).jsState 15 ≠ jsOff ∧ (live.setFld IMG_DSTAT_BUSY 1).flag IMG_DSTAT_BUSY = true) ∧ (asks.Ready ∧ ¬(live.pwr = .retain ∨ live.pwr = .off)
    ∧ (slept false).pwr = .off ∧ (slept true).slp.wake = true ∧ (slept false).slp.wake = false) ∧ ((slept false).fld ACN_WAKECFG_WEN / 2 ^ 3 % 2 = 0
    ∧ ((slept false).setFld ACN_WAKECFG_WEN 8).fld ACN_WAKECFG_WEN / 2 ^ 3 % 2 = 1
    ∧ ((slept false).setFld ACN_STAT_ROLL rollOut).fld ACN_STAT_ROLL = rollOut ∧ asks.flag ACN_TRK_EN = false ∧ ((asks.setFld ACN_TRK_EN 1).setFld ACN_TRK_TRK 5).flag ACN_TRK_EN = true) := by
  refine ⟨?_, ?_, ?_, ?_, ?_, ?_⟩ <;> decide +kernel

/-- The Acorn domain rolls out with a wheel of 3 teeth and 2 revolutions, at tooth `t` of revolution `r`. -/
def rolling (t r : Nat) : State :=
  let s := ((live.setFld ACN_STAT_ROLL rollOut).setFld ACN_REC2_TIDX t).setFld ACN_REC2_REVIDX r
  (s.setFld TRK_INFLT_PWTHR 2 0).setRoll { nTooth := 3, nRev := 2 }

theorem test_meets_StopRecord :
    let sealed_ := live.setFld ACN_STAT_ROLL rollSealed
    let good := (live.setFld ACN_REC2_LEVEL 2)
    let full := { (good.setFld TRK_CFG_RESTORE_EN 1 0).setFld SYS_FNSTAT_INFORCE (2 ^ fnRestart) with roll := { ended := true, handed := true } }
    (live.due = [] ∧ live.fld ACN_STAT_ROLL ≠ rollOut ∧ (rolling 1 0).fld ACN_STAT_ROLL = rollOut
    ∧ (rolling 1 0).fld TRK_INFLT_PWTHR (rolling 1 0).roll.trk * 200 = 400 ∧ (rolling 1 0).fld ACN_REC2_TIDX + 1 < (rolling 1 0).roll.nTooth)
    ∧ ((rolling 2 0).roll.nTooth ≤ (rolling 2 0).fld ACN_REC2_TIDX + 1 ∧ (rolling 2 0).fld ACN_REC2_REVIDX + 1 < (rolling 2 0).roll.nRev
    ∧ (rolling 2 1).roll.nRev ≤ (rolling 2 1).fld ACN_REC2_REVIDX + 1 ∧ 0 < (rolling 1 0).fld ACN_REC2_TIDX ∧ live.fld ACN_STAT_ROLL ≠ rollSealed)
    ∧ ((rolling 0 0).fld ACN_REC2_TIDX = 0 ∧ (rolling 0 1).fld ACN_REC2_REVIDX ≠ 0 ∧ sealed_.fld ACN_STAT_ROLL = rollSealed ∧ live.Admits cp ACN_CTL.addr true 1
    ∧ State.reset.imgState ≠ isLoaded) ∧ (live.pwr = .run ∧ live.imgState = isLoaded ∧ live.roll.used = false ∧ live.fld ACN_REC2_LEVEL < 2 ∧ full.roll.ended = true)
    ∧ (¬full.fld ACN_REC2_LEVEL < 2 ∧ full.roll.dip = false ∧ full.fld ACN_WAKECFG_MAXAGE = 0 ∧ full.roll.dropped = false ∧ full.roll.used = false)
    ∧ (full.roll.handed = true ∧ full.flag TRK_CFG_RESTORE_EN 0 = true ∧ full.trkState 0 = stStopped ∧ full.hostMode fnRestart 0 = true ∧ { live with roll := { used := true } }.roll.used = true) := by
  refine ⟨?_, ?_, ?_, ?_, ?_, ?_⟩ <;> decide +kernel

/-- Step 63 of the Acorn program is `w`, and the pass has run 254 steps. -/
def stepping (w : Word) (n : Nat) (c : Bool) : State :=
  (live.setFlag ACN_STAT_C c).setAcn { pass := some (63, n), prog := List.replicate 63 0 ++ [w] }

theorem test_meets_AcornProgram :
    let on := (live.setFld ACN_CFG_PEN 1).setFld ACN_CFG_RUNAWAKE 1
    let log (k : Nat) : List (Word × Word) := List.replicate k (1, 2)
    (live.due = [] ∧ live.flag ACN_CFG_PEN = false ∧ on.flag ACN_CFG_PEN = true ∧ on.pwr = .run ∧ on.flag ACN_CFG_RUNAWAKE = true)
    ∧ (on.acn.pass = none ∧ (on.setAcn { pass := some (0, 0) }).acn.pass ≠ none ∧ (stepping 0 254 false).acn.pass = some (63, 254)
    ∧ (∀ op ∈ List.range 11, bitsOf ((stepping (BitVec.ofNat 32 (op * 2 ^ 27)) 254 false).acn.prog.getD 63 0) 27 5 = op) ∧ acnCh 0x15000000 = 5)
    ∧ ((stepping 0 254 true).acnC = true ∧ (stepping 0 254 false).acnC = false
    ∧ ({ stepping 0 254 true with acn := { log := log 8 } }).acn.log.length = 8 ∧ (stepping 0 255 true).acn.pass = some (63, 255)
    ∧ live.Admits cp (ACN_LOG.addr 0) false 0) ∧ (live.acn.log = [] ∧ (live.setAcn { log := log 1 }).acn.log = [(1, 2)]
    ∧ (live.setAcn { log := log 1 }).Admits cp (ACN_LOG.addr 0) false 0 ∧ (on.setAcn { reload := true }).acn.reload = true ∧ acnSub 0x00400000 = 1)
    ∧ ({ live with pwr := .retain }.pwr = .retain ∧ { live with pwr := .retain }.slp.wake = false ∧ (live.setFld ACN_STAT_ROLL rollOut).fld ACN_STAT_ROLL = rollOut) := by
  refine ⟨?_, ?_, ?_, ?_, ?_⟩ <;> decide +kernel

/-! The image -/

/-- A full image of the seven sections that it must hold, one record each, signed by a key of the author's, and a delta of section 11 against no digest
(R39-R43), as bytes. -/
def fullBox : List Nat :=
  beBytes 60 0x4B4441490100000068010000070000000000280107000000000000000000000000000000000000000000000000000000000000000000000000000000
    ++ beBytes 60 0x0000000001000000B0000000080000000000000002000000B8000000080000000000000003000000C0000000080000000000000004000000C8000000
    ++ beBytes 60 0x080000000000000005000000D0000000080000000000000006000000D8000000080000000000000008000000E0000000080000000000000000000340
    ++ beBytes 60 0x0000000000800A400000000010000440000000000400074000000000000009400000000000000240000000000020104000000000F9EBE464147CC102
    ++ beBytes 60 0xD92324D099D927C1A50E42D57A08A116FFEC0A29819D8C6570BAF7D12888902A6A0C1D67ADD103123C859AB69BF8E9431C9384930D4B7EEE4348CE15
    ++ beBytes 60 0x76AD40117C69F4905994FD1F80120993EAE2DBEFCE4590CA81AA409F7C9D4B612ED4945FF96C7CC1679D35410C0F3EC2C6C76872BFC75AAB49504CF1
def deltaBox : List Nat :=
  beBytes 60 0x4B44414901000100D8000000010000000000280107000000000000000100000000000000000000000000000000000000000000000000000000000000
    ++ beBytes 60 0x000000000B0100005000000008000000000000004000004000000000F9EBE464147CC102D92324D099D927C1A50E42D57A08A116FFEC0A29819D8C65
    ++ beBytes 60 0x70BAF7D12888902A6A0C1D67ADD103123C859AB69BF8E9431C9384930D4B7EEE4348CE1576AD40117C69F4905994FD1F80120993EAE2DBEFCE4590CA
    ++ beBytes 36 0x81AA409F72149D890467EA56C483B156A82898FB8591A18EC713C3F672C1D45947E05C16

/-- A state whose key slot 0 holds the hash of that key. -/
def keyed (s : State) : State :=
  { s.setFld IMG_KEY_PROG 1 with img := { hash := [(0, 0xB4A554A124A36EF1564C565670DFFEDA3D8AD292C43394A18DC91B0BBCDA8111)] } }

/-- The bytes of a box, by offset. -/
def boxAt (l : List Nat) (i : Nat) : Nat := l.getD i 0

theorem test_fullBox_sig : sigOk (boxAt fullBox) = true := by decide +kernel
theorem test_deltaBox_sig : sigOk (boxAt deltaBox) = true := by decide +kernel


/-- Bytes in memory from an address on. -/
def placed : Nat → List Nat → Table Byte
  | _, [] => []
  | a, b :: l => (a, BitVec.ofNat 8 b) :: placed (a + 1) l

theorem placed_at (l : List Nat) (h : ∀ b ∈ l, b < 256) : ∀ a i : Nat, (tget 0 (placed a l) (a + i)).toNat = boxAt l i := by
  induction l with
  | nil => intro a i; simp [placed, tget, boxAt]
  | cons b l ih =>
    intro a i
    have hb : b < 256 := h b (by simp)
    have hl := ih (fun c hc => h c (by simp [hc]))
    cases i with
    | zero => simp [placed, tget, boxAt]; omega
    | succ i =>
      have := hl (a + 1) i
      rw [show a + 1 + i = a + (i + 1) by omega] at this
      simpa [placed, tget, boxAt] using this

theorem full_bytes : ∀ b ∈ fullBox, b < 256 := by decide +kernel
theorem delta_bytes : ∀ b ∈ deltaBox, b < 256 := by decide +kernel

/-- The part after reset with the image in its primary slot, in its fallback slot, and, FAILED, in the staging buffer; a running one with the delta there. -/
def primary : State := { keyed State.reset with flash := placed 0 fullBox }
def fallback : State := { keyed State.reset with flash := placed 0x800000 fullBox }
def staged : State := { ((keyed State.reset).setFld IMG_STATUS_STATE isFailed).setFld CPC_CPSTAT_STATE cpRunning with sram := placed stageBase fullBox }
def changing : State := { (keyed live).setFld IMG_DCTL_WAIT 0 with sram := placed stageBase deltaBox }


theorem primary_at : (fun i => primary.flashAt i) = boxAt fullBox := by
  funext i
  have h := placed_at fullBox full_bytes 0 i
  simpa [State.flashAt, primary, keyed, State.reset, State.setFld, State.wr, tget] using h

theorem fallback_at : (fun i => fallback.flashAt (0x800000 + i)) = boxAt fullBox := by
  funext i
  have h := placed_at fullBox full_bytes 0x800000 i
  simpa [State.flashAt, fallback, keyed, State.reset, State.setFld, State.wr, tget] using h

theorem staged_at : (fun i => staged.stageAt i) = boxAt fullBox := by
  funext i; exact placed_at fullBox full_bytes stageBase i

theorem changing_at (s : State) (h : s.sram = placed stageBase deltaBox) : (fun i => s.stageAt i) = boxAt deltaBox := by
  funext i; rw [State.stageAt, h]; exact placed_at deltaBox delta_bytes stageBase i

theorem test_meets_FullLoads :
    (primary.Ready ∧ primary.imgState = isIdle ∧ live.imgState ≠ isIdle
      ∧ ((primary.setFld IMG_STATUS_STATE isLoading).fullCheck (fun i => primary.flashAt i) false).cause = icOk)
    ∧ (fallback.Ready ∧ fallback.imgState = isIdle ∧ ((fallback.setFld IMG_STATUS_STATE isLoading).fullCheck (fun i => fallback.flashAt i) true).cause ≠ icOk
      ∧ ((((fallback.setFld IMG_STATUS_STATE isLoading).setFld IMG_CAUSE_PRI icNoImage).showErr ⟨icNoImage, none⟩).acnClear.fullCheck
        (fun i => fallback.flashAt (0x800000 + i)) false).cause = icOk
      ∧ (fallback.fullCheck (fun i => fallback.flashAt (0x800000 + i)) true).cause ≠ icOk)
    ∧ (staged.due = [] ∧ staged.Admits cp IMG_LOADCTL.addr true 1 ∧ staged.imgState = isFailed ∧ live.Admits cp IMG_LOADCTL.addr true 0
      ∧ (staged.busOk.fullCheck (fun i => staged.stageAt i) false).cause = icOk
      ∧ ((State.reset.setFld IMG_STATUS_STATE isFailed).busOk.fullCheck (fun _ => 0) false).cause ≠ icOk) := by
  rw [primary_at, fallback_at, staged_at]
  refine ⟨⟨by decide +kernel, by decide +kernel, by decide +kernel, ?_⟩, ⟨by decide +kernel, by decide +kernel, by decide +kernel, ?_, by decide +kernel⟩,
    by decide +kernel, by decide +kernel, by decide +kernel, by decide +kernel, ?_, by decide +kernel⟩ <;>
  · simp only [State.fullCheck, State.boxHead, test_fullBox_sig]; decide +kernel

theorem test_meets_DeltaCommands :
    let w := changing.busOk.setFld IMG_DCTL_WAIT 1023
    let d : Delta := ⟨1, 7, [⟨11, true, []⟩], 1000000000⟩
    let waits_ (d : Delta) := { live with img := { delta := some d } }
    (changing.due = [] ∧ changing.Admits cp IMG_DCTL.addr true 0x03FF0001 ∧ changing.imgState = isLoaded ∧ bitsOf (0x03FF0001 : Word) 16 10 = 1023
      ∧ changing.flag IMG_DSTAT_BUSY = false ∧ (changing.setFld IMG_DSTAT_BUSY 1).flag IMG_DSTAT_BUSY = true
      ∧ (changing.setFld IMG_DSTAT_BUSY 1).Admits cp IMG_DCTL.addr true 1)
    ∧ (w.deltaCheck fun i => w.stageAt i).cause = icOk
    ∧ (live.busOk.deltaCheck fun _ => 0).cause ≠ icOk
    ∧ ((waits_ d).Ready ∧ live.img.delta = none ∧ (waits_ d).img.delta = some d ∧ d.sects.all (waits_ d).sectSafe = true ∧ (waits_ d).now ≤ d.until_
      ∧ d.dseq < 2 ^ 32 ∧ ((waits_ d).setFld TRK_STATE_STATE stSeeking 5).img.delta = some d
      ∧ d.sects.all ((waits_ d).setFld TRK_STATE_STATE stSeeking 5).sectSafe = false ∧ d.until_ ≤ (waits_ d).now
      ∧ (waits_ { d with until_ := 1000000001 }).now < 1000000001) := by
  refine ⟨by decide +kernel, ?_, by decide +kernel, by decide +kernel⟩
  rw [changing_at _ (by rfl)]
  simp only [State.deltaCheck, State.boxHead, test_deltaBox_sig]; decide +kernel

/-! Clauses whose premises are met together in a state beside those above. -/

theorem test_meets_EdgeExecute_nop :
    let s := firing { queue := [{ pulse 1000000000 1000000100 0 with w0 := BitVec.ofNat 32 (opNop * 2 ^ 24 + 0xA000) }], issued := [⟨.start { pulse 1000000000 1000000100 0 with w0 := BitVec.ofNat 32 (opNop * 2 ^ 24 + 0xA000) }, 32000000000, 0⟩] }
    s.Ready ∧ ({ pulse 1000000000 1000000100 0 with w0 := BitVec.ofNat 32 (opNop * 2 ^ 24 + 0xA000) } : Ev).op = opNop ∧ 32000000000 / 32 ≤ s.now := by decide +kernel

theorem test_meets_TimedEnds_on :
    let a := act (1000000003 - 100) (1000000000 - 50) 0x00640000 none
    let s := (firing { active := some a, issued := [⟨.fin .min, 32000000000, 0⟩] }).setFld HSK_STAT_OUT 1 127
    s.Ready ∧ s.schedIntent 127 = true ∧ (s.pd 127).pulse = false ∧ s.flag HSK_STAT_OUT 127 = true ∧ 32000000000 / 32 ≤ s.now := by decide +kernel

theorem test_meets_Classifier_out :
    let s := (judging csHold { Cls.zero with contSince := some 0 }).setFld HSK_STAT_OUT 1 127
    (s.clsOf 127).contSince = some 0 ∧ s.retired 127 = false ∧ s.flag HSK_STAT_OUT 127 = true ∧ (s.pd 127).pulse = false ∧ s.fallsBy 127 ((s.now + 3) * 32) = false := by decide +kernel

theorem test_meets_DeltaCommands_failed :
    let s := live.setFld IMG_STATUS_STATE isFailed
    s.Admits cp IMG_DCTL.addr true 1 ∧ s.flag IMG_DSTAT_BUSY = false ∧ s.imgState = isFailed := by decide +kernel

theorem test_meets_ForceAndSense_on :
    let s := (live.setFld HSK_STAT_INTENT 1 127).setFld HSK_STAT_OUT 1 127
    s.Admits cp (HSK_FORCE.addr 127) true 2 ∧ s.flag HSK_STAT_INTENT 127 = true ∧ (s.pd 127).pulse = false ∧ s.flag HSK_STAT_OUT 127 = true := by decide +kernel

theorem test_meets_FunctionModes_answers :
    let rest := (live.setFld TRK_STATE_STATE stCycleSync 5).setAsk fnRestart 5 (some 0)
    let rec_ := ({ live with jrnReq := some ⟨15, 255⟩ }.setStr 15 { Strm.zero with fifo := [⟨⟨2, 0, 7, 0, 0, false, 0, false, false, false, []⟩, 0⟩] }).setAsk fnJrec 0 (some 0)
    (rest.askOf fnRestart 5 = some 0 ∧ rest.trkState 5 = stCycleSync ∧ rec_.askOf fnJrec 0 = some 0 ∧ rec_.jrnReq = some ⟨15, 255⟩ ∧ (rec_.str 15).fifo ≠ [])
    ∧ (live.setAsk fnRetry 127 (some 0)).askOf fnRetry 127 = some 0 ∧ (live.setAsk fnKnock 3 (some 0)).askOf fnKnock 3 = some 0
    ∧ (live.setAsk fnCaltrk 3 (some 0)).askOf fnCaltrk 3 = some 0 ∧ (live.setAsk fnTooth 5 (some 0)).askOf fnTooth 5 = some 0 := by decide +kernel

theorem test_meets_HuskLimits_falls :
    let rev := (driving.setFld HSK_ONMAX_LIM 101 126).setCh 126 { issued := [⟨.fin .anchor, 32000000000, 0⟩] }
    let win := (rev.setFld HSK_REVON_LIM 101 126).setCh 126 { issued := [⟨.fin .anchor, 0, 0⟩] }
    (rev.flag HSK_STAT_OUT 126 = true ∧ rev.fallsBy 126 (rev.now * 32) = true ∧ rev.chBound 126 = true ∧ rev.hskUnits 126 HSK_REVON_LIM ≤ rev.revOnTime 126 (rev.now * 32))
    ∧ win.touchedWins 126 = [0] ∧ win.fallsBy 126 (win.winPad 126 0) = true ∧ ¬win.hskUnits 126 HSK_REVON_LIM ≤ win.revOnTime 126 (win.now * 32) := by decide +kernel

theorem test_meets_InterruptEntry_emergency :
    let std := running { stacking with hstk := false, emerg := true }
    let dark := running { stacking with emerg := true, wstkhi := 0 }
    (std.cpState 0 = cpRunning ∧ (std.core 0).emerg = true ∧ (std.core 0).hstk = false) ∧ (dark.core 0).hstk = true ∧ (dark.core 0).user = false
    ∧ ((std.setNest 0 [(575, 3)]).nestOf 0) = [(575, 3)] := by decide +kernel

theorem test_meets_KeepAlive_clear :
    let s := { kicked 1000000000 true false with regs := (kicked 1000000000 true false).regs }
    s.Admits cp FCO_KICK.addr true 0x5A ∧ s.fco.anyTime = true ∧ s.fco.waitKick = false ∧ s.flag FCO_GSAFE_ALL = false ∧ s.fld FCO_GSAFE_GRP = 0 ∧ s.flag FCO_KASTAT_RUN = false := by decide +kernel

theorem test_meets_Knock_closed :
    let w : Win := ⟨255, 1000000000 - 4000, 0, 0x1FF, 0, false, 0, 0, [], [], false, none⟩
    let s := listening.setKn 3 { wins := [w] }
    (s.kn 3).wins = [w] ∧ w.raw = false ∧ w.includes (s.fld KNK_WLEN_MAXLEN 3) (s.now - 3072) = true := by decide +kernel

theorem test_meets_LatchedAccesses_peak :
    live.Admits cp (PAD_ISENSE.addr 127) false 0 ∧ lookupReg (PAD_ISENSE.addr 127) ≠ none := by decide +kernel

theorem test_meets_LevelSources_low :
    let s (k v : Nat) := live.setFld FCO_SRC_SEV v k
    let g (k : Nat) := (s k 1).setFld FCO_SRC_GMASK 0x8001 k
    ((s 0 7).fld FCO_SRC_SEV 0 = 7 ∧ (s 0 4).fld FCO_SRC_SEV 0 = 4 ∧ (s 0 5).Ready ∧ (s 0 1).Ready ∧ (g 0).fld FCO_SRC_GMASK 0 / 2 ^ 15 % 2 = 1)
    ∧ ((s 5 7).fld FCO_SRC_SEV 5 = 7 ∧ (s 5 4).fld FCO_SRC_SEV 5 = 4 ∧ (g 5).Ready ∧ (s 6 7).Ready ∧ (s 6 4).Ready ∧ (g 6).Ready ∧ (s 6 0).Ready)
    ∧ ((live.setBankBit FCO_ACT 0 true).bankBit FCO_ACT 0 = true ∧ (live.setBankBit FCO_ACT 6 true).bankBit FCO_ACT 6 = true ∧ (live.setBankBit FCO_ACT 3 true).bankBit FCO_ACT 3 = true) := by decide +kernel

theorem test_meets_PadEvents_retired :
    let s := live.each [110, 111, 126, 127] fun s c => s.setFld PAD_STAT_STATE padNormal c
    let on := ((s.setFld HSK_STAT_OUT 1 127).setHsk 127 { Husk.zero with riseAt := (1000000000 - 80000) * 32 }).setFld PAD_FDCFG_OLTHR 1 127
    let ret := (on.setFld PAD_FDCFG_OCT 1 127).setBankBit FCO_RET 127 true
    let two := (s.setPd 110 { matured := some (false, 999999999), held := some ⟨false, 999999999, false, 1000000001⟩ }).setFld PADG_CFG_CWIN 1 13
    let held := (s.setPd 111 { held := some ⟨true, 999999900, false, 0⟩ }).setBankBit FCO_RET 111 true
    (on.onFor 127 ((on.fld PAD_FDCFG_FDBLANK 127 + 100) * 400) = true ∧ on.fld PAD_ISENSE_I 127 < on.fld PAD_FDCFG_OLTHR 127 ∧ on.padJudged 127 = true)
    ∧ (ret.retired 127 = true ∧ ret.fld PAD_STAT_STATE 127 ≠ padReset ∧ ret.onFor 127 400 = true ∧ ret.padJudged 127 = true)
    ∧ ((two.pd 110).held = some ⟨false, 999999999, false, 1000000001⟩ ∧ two.rbOver 111 = true ∧ two.padLevel 111 = true ∧ (two.pd 111).held = none)
    ∧ (held.retired 111 = true ∧ (held.pd 111).held = some ⟨true, 999999900, false, 0⟩) := by decide +kernel

theorem test_meets_ProcessorStates_nested :
    let s (st : Nat) := (live.setFld CPC_CPSTAT_STATE st 3).setNest 3 [(575, 3)]
    let e := (running { Core.zero with emerg := true }).setNest 0 [(575, 3)]
    (s cpRunning).nestOf 3 = [(575, 3)] ∧ (s cpRunning).cpState 3 = cpRunning ∧ (s cpRunning).Admits cp (CPC_CPCTL.addr 3) true 2 ∧ (s cpRunning).Admits cp (CPC_CPCTL.addr 3) true 1
    ∧ (s cpReset).cpState 3 = cpReset ∧ e.nestOf 0 = [(575, 3)] ∧ (live.setNest 0 [(575, 3)]).cpState 0 = cpRunning := by decide +kernel

theorem test_meets_PsqWaits_watermark :
    let p : PWait := ⟨999999000, 0, 0, none, none⟩
    let s := (sequencing pqWaiting 0x00804000 { r := 1000000000, wait := some p, rxq := [0] }).setFld PSQ_QSTAT_RXWM 2 15
    bitsOf (s.pqWord 15) 19 5 = 0x10 ∧ (s.sq 15).rxq.length + 1 = s.fld PSQ_QSTAT_RXWM 15 ∧ (s.sq 15).wait = some p := by decide +kernel

theorem test_meets_PwmEdges_duty :
    let s := ((modulating.setFld CH_PWMDUTY_DUTY 1600 127).setFld CH_PWMPER_PER 100 127)
    s.schedIntent 127 = true ∧ s.fld CH_PWMDUTY_DUTY 127 ≠ 0 ∧ (s.ch 127).dutyAt = none ∧ s.flag CH_PWMLOCK_LOCK 127 = false := by decide +kernel

theorem test_meets_RetryDecisions_tested :
    let ask := ((judging csWaitdec Cls.zero).setBankBit FCO_RREQ 127 true).setAsk fnRetry 127 (some 1000000001)
    let on := ask.setFld HSK_STAT_OUT 1 127
    let hold := (judging csHold Cls.zero).setFld PAD_STAT_STATE padTest 127
    let few := ((ask.setFld FCO_CLS1_RETIRE_AT 2).setFld FCO_CLS1_RETRY_MAX 15).setFld PAD_STAT_STATE padTest 127
    let test := ((live.setBankBit FCO_RET 127 true).setPd 127 { passOk := true }).setFld PAD_TEST_START 1 127
    let cut := test.setFld CH_STAT_CUTL 1 127
    (on.Admits cp FCO_RDEC.addr true 0x8000007F ∧ on.flag HSK_STAT_OUT 127 = true ∧ (on.pd 127).pulse = false ∧ on.fallsBy 127 ((on.now + 3) * 32) = false)
    ∧ (hold.fld FCO_BKT_CSTATE 127 = csHold ∧ (hold.clsOf 127).hot = false ∧ hold.hostMode fnRetry 127 = false ∧ hold.fld PAD_STAT_STATE 127 = padTest)
    ∧ few.Admits cp FCO_RDEC.addr true 0x7F
    ∧ ((test.setFld PAD_STAT_STATE padTest 127).Admits cp FCO_RCLR.addr true 127 ∧ (test.setFld PAD_STAT_STATE padTest 127).retired 127 = true
      ∧ cut.Admits cp FCO_RCLR.addr true 127 ∧ cut.flag CH_STAT_CUTL 127 = true ∧ (cut.pd 127).passOk = true) := by decide +kernel

theorem test_meets_Sleep_on :
    let s := ({ live with slp := { req := some true } }.setFld HSK_STAT_OUT 1 127).setFld ENC_CFG_EN 1 3
    let out : State := { (live.setFld ACN_STAT_ROLL rollOut).setFld ACN_WAKECFG_WEN 8 with pwr := .retain, slp := { s := 5, ratio := 0x2FAF0800 } }
    let enc : State := { live.setFld ENC_CFG_EN 1 3 with pwr := .retain, slp := { s := 5, ratio := 0x2FAF0800, wake := true } }
    (s.Ready ∧ s.flag HSK_STAT_OUT 127 = true ∧ s.slp.req = some true) ∧ (out.pwr = .retain ∧ out.fld ACN_STAT_ROLL = rollOut ∧ out.fld ACN_WAKECFG_WEN / 2 ^ 3 % 2 = 1 ∧ out.slp.wake = false)
    ∧ enc.slp.wake = true ∧ enc.flag ENC_CFG_EN 3 = true := by decide +kernel

theorem test_meets_TimerEvents_overlap :
    let e (t : Nat) : TaskEnt := ⟨300, false, t⟩
    let s (l : List TaskEnt) := ((((live.setFld TMR_CFG_EN 1 47).setFld TMR_CFG_SLAVE slStart 47).setFld TMR_TRIG_TMODE 1 47).setTask (tiTmr 47) l)
    (s [e 1000000000]).taskOf (tiTmr 47) = [e 1000000000] ∧ (s [e 1000000000]).now ≤ 1000000000 ∧ (s [e 0, e 1]).flag TMR_TRIG_TMODE 47 = true
    ∧ (s [e 0, e 1]).taskOf (tiTmr 47) = [e 0, e 1] ∧ (s [e 0]).taskOf (tiTmr 47) = [e 0] := by decide +kernel

theorem test_meets_TrackerCommands_synced :
    let s := tracking.setFld TRK_DECSTAT_REQ 1 5
    s.Admits cp (TRK_SYNCASSERT.addr 5) true 6 ∧ s.flag TRK_DECSTAT_REQ 5 = true ∧ s.trkState 5 ≠ stSeeking ∧ s.trkBusy 5 = false ∧ s.outranked 5 6 = false := by decide +kernel

theorem test_meets_UrgentLane_paths :
    let s := serving {}
    let udp := s.setFld CTX_CAP_PATH 1 4
    let pcie := s.setFld CTX_CAP_PATH 2 4
    (udp.setFld CTX_CAP_CAP 0 4).cap 4 capCut = false ∧ (pcie.setFld CTX_CAP_CAP 0 4).cap 4 capCut = false ∧ (udp.wr (CTX_CHG.addr 4 3) 0).grantCh 4 127 = false
    ∧ (pcie.wr (CTX_CHG.addr 4 3) 0).grantCh 4 127 = false ∧ udp.pathPcie 4 = false ∧ pcie.pathUdp 4 = false := by decide +kernel

theorem test_meets_JournalRecords_stale :
    let r : QRec := waits 0
    let f (t : Nat) : Flight := ⟨1, t, none, [], ⟨0, 0, 0, 0, []⟩⟩
    let s := streaming jsUp true { Strm.zero with fifo := [r, waits 1000000000], flight := [f 1000000000] }
    (∀ l ∈ (s.str 15).flight, ¬l.at_ + s.fld JS_TMO_STMO 15 * 400 ≤ s.now) ∧ ((s.str 15).fifo.filter fun q => decide (q.at_ + s.fld JS_TMO_STMO 15 * 400 ≤ s.now)).length = 1
    ∧ (streaming jsUp true { Strm.zero with fifo := [waits 1000000000] }).str 15 ≠ Strm.zero := by decide +kernel

theorem test_meets_AcornProgram_asleep :
    let s (op n : Nat) (c : Bool) := stepping (BitVec.ofNat 32 (op * 2 ^ 27)) n c
    let out := { s 7 254 true with pwr := .off }
    (out.pwr = .off ∧ out.slp.wake = false ∧ out.acnC = true ∧ bitsOf (out.acn.prog.getD 63 0) 27 5 = 7) ∧ ({ s 7 255 true with pwr := .off }.acn.pass = some (63, 255))
    ∧ ((s 8 255 true).acnC = true ∧ ({ s 8 254 true with acn := { (s 8 254 true).acn with log := List.replicate 8 (1, 2) } }).acn.log.length = 8)
    ∧ ((s 0 254 true).Ready ∧ (s 1 254 true).Ready ∧ (s 2 254 true).Ready ∧ (s 3 254 true).Ready ∧ (s 4 254 true).Ready ∧ (s 5 254 true).Ready ∧ (s 6 254 true).Ready)
    ∧ ((s 9 254 true).Ready ∧ (s 10 254 true).Ready ∧ (s 1 255 false).Ready ∧ (s 2 255 false).Ready ∧ (s 5 255 false).Ready ∧ (s 6 255 false).Ready ∧ (s 10 255 false).Ready ∧ (s 7 255 false).Ready) := by decide +kernel

theorem test_meets_AdcConversions_kinds :
    let c (k : Nat) : Conv := ⟨k, 63, 2, 1000000000 - 40, 0, 0x1FF, 0, 0, true⟩
    let conv (k : Nat) := sensing.setAd 3 { conv := some (c k) }
    let last := ((sensing.setFld ADC_CTRL_STATE 1 3).setFld ADC_SEQ0_LAST 1 3 0).setAd 3 { conv := some (c 0) }
    let late := (last.setFld ADC_SEQ0_WAIT 1 3 0)
    let slot (l : Nat) := ((sensing.setFld ADC_SEQ0_SRC 64 3 0).setFld ADC_SEQ0_GAIN 7 3 0).setAd 3 { due := some 0, left := l }
    let gain := ((sensing.setFld ADC_SEQ0_SRC 63 3 0).setFld ADC_SEQ0_GAIN 1 3 0).setAd 3 { due := some 0, left := 1 }
    ((conv 1).ad 3).conv = some (c 1) ∧ ((conv 2).ad 3).conv = some (c 2) ∧ (last.ad 3).conv = some (c 0) ∧ (last.ad 3).left = 0 ∧ late.flag ADC_SEQ0_WAIT 3 0 = true
    ∧ ((slot 1).ad 3).due = some 0 ∧ ((slot 2).ad 3).left = 2 ∧ 64 ≤ (slot 1).fld ADC_SEQ0_SRC 3 0 ∧ gain.fld ADC_SEQ0_GAIN 3 0 ≠ gain.fld ADC_IN_GAIN 63 ∧ gain.converting 63 = false := by decide +kernel

theorem test_meets_FullLoads_staged :
    let s := { staged with sram := [] }
    s.due = [] ∧ s.Admits cp IMG_LOADCTL.addr true 1 ∧ s.imgState = isFailed ∧ (s.fullCheck (fun i => s.stageAt i) false).cause ≠ icOk := by decide +kernel

end Sys2Proof.Tests
end

section
/-! SUPPORT. What a change of mode, a retirement and an access fault spare: SYS_FNMODE, FCO_RREQ, FCO_RET, the answer of the bus and the requests of
FN_RETRY; what has been emitted stands before what they emit. -/

namespace Sys2Proof.Machine

/-- The registers that are spared: SYS_FNMODE, and the words of FCO_RREQ and FCO_RET, which lie side by side. -/
def Spared (a : Nat) : Prop := a = SYS_FNMODE.addr ∨ (FCO_RREQ.addr ≤ a ∧ a < FCO_RET.addr 4)

/-- A field of no index lies in a spared register: its family begins above FCO_RET, or is one register below FCO_RREQ that is not SYS_FNMODE. -/
abbrev Fld.Clear (f : Fld) : Prop :=
  FCO_RET.addr 4 ≤ f.base ∨ (f.st1 = 0 ∧ f.st2 = 0 ∧ f.base < FCO_RREQ.addr ∧ f.base ≠ SYS_FNMODE.addr)

theorem Fld.Clear.addr_ne {f : Fld} (hf : f.Clear) (n k : Nat) {a : Nat} (ha : Spared a) : f.addr n k ≠ a := by
  simp only [Fld.Clear, Spared, Fld.addr, FCO_RET, FCO_RREQ, SYS_FNMODE] at *
  rcases hf with hf | ⟨h1, h2, hf⟩
  · generalize f.st1 * n = x, f.st2 * k = y
    omega
  · rw [h1, h2]
    omega

theorem intSt_clear (b : IntBlk) : (intSt b).Clear := by cases b <;> decide

/-- What leads from s to t leaves the spared registers, the answer of the bus and the requests of FN_RETRY, and emits behind what has been emitted. -/
structure Spares (s t : State) : Prop where
  regs : ∀ a, Spared a → t.rd a = s.rd a
  bus : t.bus = s.bus
  ask : ∀ k, t.askOf fnRetry k = s.askOf fnRetry k
  due : s.due <+: t.due

namespace Spares

variable {s₀ s t : State}

theorem refl (s : State) : Spares s s := ⟨fun _ _ => rfl, rfl, fun _ => rfl, List.prefix_refl _⟩

theorem fnmode (h : Spares s t) : t.rd SYS_FNMODE.addr = s.rd SYS_FNMODE.addr := h.regs _ (.inl rfl)

theorem rreq (h : Spares s t) {k : Nat} (hk : k < 128) : t.bankBit FCO_RREQ k = s.bankBit FCO_RREQ k := by
  have : Spared (FCO_RREQ.addr (k / 32)) := by simp only [Spared, Fld.addr, FCO_RREQ, FCO_RET]; omega
  rw [State.bankBit, h.regs _ this, State.bankBit]

theorem retired (h : Spares s t) {k : Nat} (hk : k < 128) : t.retired k = s.retired k := by
  have : Spared (FCO_RET.addr (k / 32)) := by simp only [Spared, Fld.addr, FCO_RREQ, FCO_RET]; omega
  rw [State.retired, State.bankBit, h.regs _ this, State.retired, State.bankBit]

/-! Updates of the state -/

theorem wr (h : Spares s₀ s) (f : Fld) (w : Word) (n k : Nat) (hf : f.Clear := by decide) : Spares s₀ (s.wr (f.addr n k) w) :=
  ⟨fun a ha => (State.rd_wr_ne _ _ _ _ (hf.addr_ne n k ha)).trans (h.regs a ha), h.bus, h.ask, h.due⟩

theorem setFld (h : Spares s₀ s) (f : Fld) (v n k : Nat) (hf : f.Clear := by decide) : Spares s₀ (s.setFld f v n k) := h.wr f _ n k hf

theorem bump (h : Spares s₀ s) (f : Fld) (n k : Nat) (hf : f.Clear := by decide) : Spares s₀ (s.bump f n k) := h.wr f _ n k hf

theorem setBankBit (h : Spares s₀ s) (f : Fld) (i : Nat) (b : Bool) (hf : f.Clear := by decide) : Spares s₀ (s.setBankBit f i b) := h.wr f _ _ _ hf

theorem setCore (h : Spares s₀ s) (n : Nat) (c : Core) : Spares s₀ (s.setCore n c) := ⟨h.regs, h.bus, h.ask, h.due⟩

theorem setNest (h : Spares s₀ s) (n : Nat) (l : List (Nat × Nat)) : Spares s₀ (s.setNest n l) := ⟨h.regs, h.bus, h.ask, h.due⟩

theorem setCls (h : Spares s₀ s) (c : Nat) (x : Cls) : Spares s₀ (s.setCls c x) := ⟨h.regs, h.bus, h.ask, h.due⟩

theorem setHsk (h : Spares s₀ s) (c : Nat) (x : Husk) : Spares s₀ (s.setHsk c x) := ⟨h.regs, h.bus, h.ask, h.due⟩

theorem setPd (h : Spares s₀ s) (c : Nat) (x : Pad) : Spares s₀ (s.setPd c x) := ⟨h.regs, h.bus, h.ask, h.due⟩

theorem setCh (h : Spares s₀ s) (c : Nat) (x : Chan) : Spares s₀ (s.setCh c x) := ⟨h.regs, h.bus, h.ask, h.due⟩

theorem switched (h : Spares s₀ s) (x : Table Bool) : Spares s₀ { s with switched := x } := ⟨h.regs, h.bus, h.ask, h.due⟩

theorem emit (h : Spares s₀ s) (e : Emit) : Spares s₀ (s.emit e) := ⟨h.regs, h.bus, h.ask, h.due.trans (List.prefix_append _ _)⟩

theorem raiseFault (h : Spares s₀ s) (src data : Nat) : Spares s₀ (s.raiseFault src data) := h.emit _

theorem when (h : Spares s₀ s) (b : Bool) (f : State → State) (hf : ∀ t, Spares s₀ t → Spares s₀ (f t)) : Spares s₀ (s.when b f) := by
  cases b
  · exact h
  · exact hf _ h

theorem each {α : Type} (h : Spares s₀ s) (l : List α) (f : State → α → State) (hf : ∀ t a, Spares s₀ t → Spares s₀ (f t a)) :
    Spares s₀ (s.each l f) := by
  induction l generalizing s with
  | nil => exact h
  | cons a l ih => exact ih (hf _ _ h)

theorem setCauses (h : Spares s₀ s) (b : IntBlk) (n m : Nat) : Spares s₀ (s.setCauses b n m) := by
  obtain ⟨r, d, e, hr, -⟩ := s.setCauses_spec b n m
  rw [e]
  have pend : IRT_PEND.Clear := by decide
  exact ⟨fun a ha => (hr a ((intSt_clear b).addr_ne n 0 ha) fun k _ => pend.addr_ne k 0 ha).trans (h.regs a ha), h.bus, h.ask, h.due⟩

theorem cause (h : Spares s₀ s) (b : IntBlk) (f : Fld) (n : Nat) : Spares s₀ (s.cause b f n) := h.setCauses b n _

/-- A request of another function leaves those of FN_RETRY. -/
theorem setAsk (h : Spares s₀ s) {fn i : Nat} (hi : fn * 128 + i < fnRetry * 128) (d : Option Nat) : Spares s₀ (s.setAsk fn i d) := by
  refine ⟨h.regs, h.bus, fun k => ?_, h.due⟩
  exact (tget_tput_ne none s.ask d (by omega)).trans (h.ask k)

theorem request (h : Spares s₀ s) {fn i : Nat} (hi : fn * 128 + i < fnRetry * 128) : Spares s₀ (s.request fn i) := by
  unfold State.request
  dsimp only
  split
  · exact h.emit _
  · exact (h.emit _).setAsk hi _

theorem logOther (h : Spares s₀ s) (kind src : Nat) : Spares s₀ (s.logOther kind src) := by
  obtain ⟨x, r, e, -, -, hp, hr⟩ := (s.fresh 3).2.logFault_spec kind (s.fresh 3).1 src ((s.fresh 3).2.recData src)
  have e : s.logOther kind src = x.emit (.record r) := e
  have c1 : FCO_LOGSTAT.Clear := by decide
  have c2 : FCO_INTST.Clear := by decide
  have c3 : IRT_PEND.Clear := by decide
  have hbus : x.bus = s.bus := hp .bus (by decide) (by decide)
  have hask : x.ask = s.ask := hp .ask (by decide) (by decide)
  have hdue : x.due = s.due := hp .due (by decide) (by decide)
  have hx : Spares s₀ x := by
    refine ⟨fun a ha => (hr a (c1.addr_ne 0 0 ha) (c2.addr_ne 0 0 ha) fun k _ => c3.addr_ne k 0 ha).trans (h.regs a ha), hbus.trans h.bus, fun k => ?_, ?_⟩
    · rw [State.askOf, hask]
      exact h.ask k
    · rw [hdue]
      exact h.due
  rw [e]
  exact hx.emit _

/-! The Husk -/

theorem pinOff (h : Spares s₀ s) (c t : Nat) : Spares s₀ (s.pinOff c t) := ((h.setHsk c _).setFld HSK_STAT_OUT 0 c 0).setPd c _

theorem padState (h : Spares s₀ s) (c st : Nat) : Spares s₀ (s.padState c st) := (h.setFld PAD_STAT_STATE st c 0).setPd c _

theorem markAct (h : Spares s₀ s) (c m : Nat) : Spares s₀ (s.markAct c m) := by
  unfold State.markAct
  split
  · exact h
  · exact h.setCh c _

theorem hskCounter_clear (cause : Nat) : (hskCounter cause).Clear := by
  unfold hskCounter
  repeat' split
  all_goals decide

theorem huskAct (h : Spares s₀ s) (c cause : Nat) (suppr : Bool) (t : Nat) : Spares s₀ (s.huskAct c cause suppr t) :=
  (((((((h.wr _ _ _ _).wr _ _ _ _).wr _ _ _ _).bump _ _ _ (hskCounter_clear cause)).emit _).when _ _ fun _ ht => ht.raiseFault _ _).setCauses _ _ _).markAct _ _

theorem huskCheck (h : Spares s₀ s) (c at_ : Nat) : Spares s₀ (s.huskCheck c at_) := by
  unfold State.huskCheck
  dsimp only
  split
  · exact h
  · exact (h.when _ _ fun _ ht => (ht.pinOff _ _).huskAct _ _ _ _).when _ _ fun _ ht => ht.setFld _ _ _ _

theorem huskFall (h : Spares s₀ s) (c t : Nat) : Spares s₀ (s.huskFall c t) := (h.when _ _ fun _ ht => ht.pinOff _ _).setFld _ _ _ _

/-! The scheduler's part of a retirement -/

theorem injLearn (h : Spares s₀ s) {c : Nat} (hc : c < 128) (e : Ev) (o fl : Nat) : Spares s₀ (s.injLearn c e o fl) := by
  have hi : fnInjdly * 128 + c < fnRetry * 128 := by simp only [fnInjdly, fnRetry]; omega
  unfold State.injLearn
  dsimp only
  split
  · exact h
  split
  · split
    · exact (((h.setFld _ _ _ _).setFld _ _ _ _).cause _ _ _).request hi
    · exact (h.setFld _ _ _ _).setFld _ _ _ _
  · exact h.bump _ _ _

theorem whenBump (h : Spares s₀ s) (b : Bool) (f : Fld) (n k : Nat) (hf : f.Clear := by decide) : Spares s₀ (s.when b fun s => s.bump f n k) :=
  h.when b _ fun _ ht => ht.bump f n k hf

theorem whenCause (h : Spares s₀ s) (b : Bool) (k : IntBlk) (f : Fld) (n : Nat) : Spares s₀ (s.when b fun s => s.cause k f n) :=
  h.when b _ fun _ ht => ht.cause k f n

theorem outcome (h : Spares s₀ s) (c : Nat) (e : Ev) (o fl : Nat) (st : Option (Nat × Nat)) (dur : Nat) : Spares s₀ (s.outcome c e o fl st dur) := by
  have counted := fun b1 b2 b3 b4 b5 => (((((h.setFld SCH_POOL_FREE (min 8192 (s.fld SCH_POOL_FREE + 1)) 0 0).whenBump b1 CH_CNT0_OVERLAP c 0).whenBump b2 CH_CNT0_SKIPPED c 0).whenBump b3
    CH_CNT1_CATCHUP c 0).whenBump b4 CH_CNT1_MINEXT c 0).whenBump b5 CH_CNT1_MAXCUT c 0
  have shown := fun b1 b2 b3 b4 b5 w0 w1 w2 w3 => ((((counted b1 b2 b3 b4 b5).wr CH_RPT0 w0 c 0).wr CH_RPT1 w1 c 0).wr CH_RPT2 w2 c 0).wr CH_RPT3 w3 c 0
  exact (((((shown _ _ _ _ _ _ _ _ _).when _ _ fun _ ht => (ht.emit _).emit _).whenCause _ _ _ _).whenCause _ _ _ _).whenCause _ _ _ _).whenCause _ _ _ _

theorem endActive (h : Spares s₀ s) {c : Nat} (hc : c < 128) (fl t : Nat) : Spares s₀ (s.endActive c fl t) := by
  unfold State.endActive
  split
  · exact h
  · exact ((((((h.when _ _ fun _ ht => ht.huskFall _ _).injLearn hc _ _ _).setCh _ _).setHsk _ _).setFld _ _ _ _).setFld _ _ _ _).outcome _ _ _ _ _ _

theorem retireSched (h : Spares s₀ s) {c : Nat} (hc : c < 128) : Spares s₀ (s.retireSched c) := by
  have gone : Spares s₀ ((s.bumpEpoch c).discard c oRetired) :=
    (((h.setFld _ _ _ _).setCh _ _).setFld _ _ _ _).each _ _ fun _ _ ht => ht.outcome _ _ _ _ _ _
  unfold State.retireSched State.forceEnd
  split
  · exact gone
  · unfold State.lossNow
    split
    · exact gone
    · exact gone.endActive hc _ _

theorem setBucket (h : Spares s₀ s) (c b : Nat) : Spares s₀ (s.setBucket c b) := by
  unfold State.setBucket
  split
  · exact h
  · exact (h.setFld _ _ _ _).setCls _ _

/-! The access fault of a core -/

theorem nestShow (h : Spares s₀ s) (n : Nat) : Spares s₀ (s.nestShow n) := ((h.setFld _ _ _ _).setFld _ _ _ _).setFld _ _ _ _

theorem coreExc (h : Spares s₀ s) (n cause : Nat) (tval : Word) : Spares s₀ (s.coreExc n cause tval) := by
  unfold State.coreExc
  split
  · exact ((((h.setFld _ _ _ _).each _ _ fun _ _ ht => (ht.setBankBit _ _ _).setBankBit _ _ _).setNest _ _).nestShow _).raiseFault _ _
  · exact (h.setCore _ _).setFld _ _ _ _

theorem accFault (h : Spares s₀ s) (n cause a : Nat) : Spares s₀ (s.accFault n cause a) :=
  coreExc (s := (s.fresh 1).2) ⟨h.regs, h.bus, h.ask, h.due⟩ n cause _

end Spares

end Sys2Proof.Machine
end

section
/-! SUPPORT. The operations of a change of mode (R34, R35): what each leaves alone, and when a change is over. -/

namespace Sys2Proof.Machine

/-! Bits of a number -/

/-- Setting one bit of a number leaves the others. -/
theorem setBitNat_bit (m i j : Nat) (b : Bool) : setBitNat m i b / 2 ^ j % 2 = if j = i then b.toNat else m / 2 ^ j % 2 := by
  have e : setBitNat m i b = 2 ^ i * (2 * (m / 2 ^ (i + 1)) + b.toNat) + m % 2 ^ i := by
    rw [setBitNat, pow_succ]
    cases b <;> simp <;> ring
  have hlt : m % 2 ^ i < 2 ^ i := Nat.mod_lt _ (by positivity)
  have hb : b.toNat < 2 := b.toNat_lt
  rw [← Nat.toNat_testBit, ← Nat.toNat_testBit, e, Nat.testBit_two_pow_mul_add _ hlt]
  rcases Nat.lt_trichotomy j i with h | rfl | h
  · rw [if_pos h, if_neg h.ne, Nat.testBit_mod_two_pow]
    simp [h]
  · rw [if_neg (lt_irrefl _), if_pos rfl, Nat.sub_self, Nat.toNat_testBit]
    omega
  · obtain ⟨d, rfl⟩ := Nat.exists_eq_add_of_lt h
    have half : (2 * (m / 2 ^ (i + 1)) + b.toNat) / 2 = m / 2 ^ (i + 1) := by omega
    rw [if_neg (by omega), if_neg (by omega), Nat.toNat_testBit, Nat.toNat_testBit, show i + d + 1 - i = d + 1 by omega, show 2 ^ (d + 1) = 2 * 2 ^ d from pow_succ' _ _,
      ← Nat.div_div_eq_div_mul, half, Nat.div_div_eq_div_mul, ← pow_add, show i + 1 + d = i + d + 1 by omega]

/-- A number put together bit by bit has those bits. -/
theorem foldl_setBitNat_bit (b : Nat → Bool) (n m i : Nat) :
    (List.range n).foldl (fun m i => setBitNat m i (b i)) m / 2 ^ i % 2 = if i < n then (b i).toNat else m / 2 ^ i % 2 := by
  induction n with
  | zero => simp
  | succ n ih =>
    rw [List.range_succ, List.foldl_append, List.foldl_cons, List.foldl_nil, setBitNat_bit, ih]
    rcases Nat.lt_trichotomy i n with h | rfl | h
    · rw [if_neg h.ne, if_pos h, if_pos (by omega)]
    · rw [if_pos rfl, if_pos (by omega)]
    · rw [if_neg h.ne', if_neg (by omega), if_neg (by omega)]

/-- A field as long as a byte keeps the low bits of what is written. -/
theorem byte_bit (m : Nat) {i : Nat} (hi : i < 8) : m % 2 ^ 8 / 2 ^ i % 2 = m / 2 ^ i % 2 := by
  rw [← Nat.toNat_testBit, ← Nat.toNat_testBit, Nat.testBit_mod_two_pow]
  simp [hi]

/-! Frames -/

namespace State.Only

variable {s t : State} {ps : List Part} {as : List Nat}

theorem refl (s : State) (ps : List Part) (as : List Nat) : s.Only s ps as :=
  ⟨fun p _ _ => by cases p <;> rfl, fun _ _ => rfl⟩

theorem setFld (h : s.Only t ps as) (f : Fld) (v n k : Nat) (hf : f.addr n k ∈ as) : s.Only (t.setFld f v n k) ps as :=
  ⟨fun p hb hp => by cases p <;> exact h.1 _ hb hp,
    fun a ha => (State.rd_setFld_ne t f v n k a (ne_of_mem_of_not_mem hf ha)).trans (h.2 a ha)⟩

theorem switched (h : s.Only t ps as) (x : Table Bool) (hm : .switched ∈ ps) : s.Only { t with switched := x } ps as :=
  ⟨fun p hb hp => by cases p with
    | switched => exact absurd hm hp
    | _ => exact h.1 _ hb hp, h.2⟩

theorem setAsk (h : s.Only t ps as) (fn i : Nat) (d : Option Nat) (hm : .ask ∈ ps) : s.Only (t.setAsk fn i d) ps as :=
  ⟨fun p hb hp => by cases p with
    | ask => exact absurd hm hp
    | _ => exact h.1 _ hb hp, h.2⟩

theorem raiseFault (h : s.Only t ps as) (src data : Nat) (hm : .due ∈ ps) : s.Only (t.raiseFault src data) ps as :=
  ⟨fun p hb hp => by cases p with
    | due => exact absurd hm hp
    | _ => exact h.1 _ hb hp, h.2⟩

theorem setTr (h : s.Only t ps as) (n : Nat) (x : Trk) (hm : .trk ∈ ps) : s.Only (t.setTr n x) ps as :=
  ⟨fun p hb hp => by cases p with
    | trk => exact absurd hm hp
    | _ => exact h.1 _ hb hp, h.2⟩

theorem each {α : Type} (h : s.Only t ps as) (l : List α) (f : State → α → State) (hf : ∀ t, ∀ a ∈ l, s.Only t ps as → s.Only (f t a) ps as) :
    s.Only (t.each l f) ps as := by
  induction l generalizing t with
  | nil => exact h
  | cons a l ih => exact ih (hf _ _ List.mem_cons_self h) fun t b hb => hf t b (List.mem_cons_of_mem _ hb)

theorem trans {u : State} (h : s.Only t ps as) (h' : t.Only u ps as) : s.Only u ps as :=
  ⟨fun p hb hp => by cases p <;> exact (h'.1 _ hb hp).trans (h.1 _ hb hp), fun a ha => (h'.2 a ha).trans (h.2 a ha)⟩

/-- More may be named. -/
theorem mono (h : s.Only t ps as) {ps' : List Part} {as' : List Nat} (hp : ps ⊆ ps') (ha : as ⊆ as') : s.Only t ps' as' :=
  ⟨fun p hb hn => h.1 p hb fun hm => hn (hp hm), fun a hn => h.2 a fun hm => hn (ha hm)⟩

theorem same_due (h : s.Only t ps as) (hm : .due ∉ ps) : t.due = s.due := h.1 .due (by decide) hm

end State.Only

/-! When a change is over -/

variable {s : State}

/-- All have switched: INFORCE takes the mode and PEND clears (R35). -/
theorem fnSettle_over {fn : Nat} (hfn : fn < 8) (hp : s.fnPending fn = true) (h : ∀ k ∈ s.fnInstances fn, tget false s.switched (fn * 128 + k) = true) :
    (s.fnSettle fn).fnPending fn = false
      ∧ (s.fnSettle fn).fld SYS_FNSTAT_INFORCE / 2 ^ fn % 2 = s.fld SYS_FNMODE_MODE / 2 ^ fn % 2 := by
  let u := s.setFld SYS_FNSTAT_INFORCE (setBitNat (s.fld SYS_FNSTAT_INFORCE) fn (s.fld SYS_FNMODE_MODE / 2 ^ fn % 2 == 1))
  let t := u.setFld SYS_FNSTAT_PEND (setBitNat (u.fld SYS_FNSTAT_PEND) fn false)
  have all : (s.fnPending fn && (s.fnInstances fn).all fun k => tget false s.switched (fn * 128 + k)) = true := by simpa [hp] using h
  have e : (s.fnSettle fn).regs = t.regs := by
    unfold State.fnSettle
    rw [if_pos all]
  constructor
  · rw [State.fnPending, State.fld_regs t e, State.fld_setFld_same _ _ _ _ _ (by decide)]
    rw [show SYS_FNSTAT_PEND.len = 8 from rfl, byte_bit _ hfn, setBitNat_bit, if_pos rfl]
    rfl
  · rw [State.fld_regs t e, State.fld_setFld_apart _ _ _ _ _ _ _ _ (by decide) (by decide) (by decide), State.fld_setFld_same _ _ _ _ _ (by decide)]
    rw [show SYS_FNSTAT_INFORCE.len = 8 from rfl, byte_bit _ hfn, setBitNat_bit, if_pos rfl]
    rcases Nat.mod_two_eq_zero_or_one (s.fld SYS_FNMODE_MODE / 2 ^ fn) with h | h <;> simp [h]

/-- The change goes on while one has still to switch. -/
theorem fnSettle_waits {fn k : Nat} (hk : k ∈ s.fnInstances fn) (h : tget false s.switched (fn * 128 + k) = false) : s.fnSettle fn = s := by
  have : ((s.fnInstances fn).all fun k => tget false s.switched (fn * 128 + k)) = false := List.all_eq_false.2 ⟨k, hk, by simp [h]⟩
  rw [State.fnSettle, this, Bool.and_false, if_neg Bool.false_ne_true]

theorem fnSettle_only (s : State) (fn : Nat) : s.Only (s.fnSettle fn) [.switched] [SYS_FNSTAT.addr] := by
  unfold State.fnSettle
  split
  · exact (((State.Only.refl s _ _).setFld _ _ _ _ (by decide)).setFld _ _ _ _ (by decide)).switched _ (by decide)
  · exact State.Only.refl s _ _

end Sys2Proof.Machine
end

section
/-! SUPPORT. A switch counts and may be the last, a converter loads its offsets; then the commands FNMODE_WRITE (R34) and FN_MODE_SWITCH (R35). -/

namespace Sys2Proof.Machine

/-! One of a function's instances switches -/

variable {s : State}

/-- The switch counts toward a pending change (R35). -/
theorem switchInst_pending {fn k : Nat} (hp : s.fnPending fn = true) (hk : k ∈ s.fnInstances fn) :
    s.switchInst fn k = State.fnSettle { s with switched := tput false s.switched (fn * 128 + k) true } fn := by
  rw [State.switchInst, if_pos (by simpa [hp] using hk)]

theorem switchInst_only (s : State) (fn k : Nat) : s.Only (s.switchInst fn k) [.switched] [SYS_FNSTAT.addr] := by
  unfold State.switchInst
  split
  · have put := (State.Only.refl s [.switched] [SYS_FNSTAT.addr]).switched (tput false s.switched (fn * 128 + k) true) (by decide)
    exact put.trans (fnSettle_only _ fn)
  · exact .refl s _ _

/-- The last one to switch ends the change. -/
theorem switchInst_last {fn k : Nat} (hfn : fn < 8) (hp : s.fnPending fn = true) (hk : k ∈ s.fnInstances fn)
    (h : ∀ j ∈ s.fnInstances fn, j ≠ k → tget false s.switched (fn * 128 + j) = true) :
    (s.switchInst fn k).fnPending fn = false
      ∧ (s.switchInst fn k).fld SYS_FNSTAT_INFORCE / 2 ^ fn % 2 = s.fld SYS_FNMODE_MODE / 2 ^ fn % 2 := by
  rw [switchInst_pending hp hk]
  refine fnSettle_over (s := { s with switched := _ }) hfn hp fun j hj => ?_
  by_cases e : j = k
  · rw [e, tget_tput_same]
  · rw [tget_tput_ne _ _ _ (by omega)]
    exact h j hj e

/-- One that is not the last switches, and the change goes on. -/
theorem switchInst_waits {fn k j : Nat} (hp : s.fnPending fn = true) (hk : k ∈ s.fnInstances fn) (hj : j ∈ s.fnInstances fn) (hjk : j ≠ k)
    (h : tget false s.switched (fn * 128 + j) = false) : s.switchInst fn k = { s with switched := tput false s.switched (fn * 128 + k) true } := by
  have off : tget false (tput false s.switched (fn * 128 + k) true) (fn * 128 + j) = false := (tget_tput_ne _ _ _ (by omega)).trans h
  rw [switchInst_pending hp hk]
  exact fnSettle_waits (s := { s with switched := _ }) hj off

/-! The offsets of a converter (R217) -/

/-- The stored offsets go by what is in force of the calibration store. -/
theorem State.calOfs_of_only {t : State} {ps : List Part} {as : List Nat} (h : s.Only t ps as) (hu : .calUse ∉ ps) (hf : .calForce ∉ ps) (a g : Nat) :
    t.calOfs a g = s.calOfs a g := by
  have use : t.calUse = s.calUse := h.1 .calUse (by decide) hu
  have force : t.calForce = s.calForce := h.1 .calForce (by decide) hf
  unfold State.calOfs State.calWord State.calGroup
  rw [use, force]

/-- A signed field reads back a value of its width. -/
theorem signedOf_unsignedOf (n : Nat) : signedOf 16 (unsignedOf 16 (signedOf 16 (n % 65536)) % 2 ^ 16) = signedOf 16 (n % 65536) := by
  simp only [signedOf, unsignedOf]
  split <;> split <;> omega

/-- The offsets of the first n gains take the stored ones. -/
def State.loadOfsTo (s : State) (a n : Nat) : State := s.each (List.range n) fun s g => s.setFld ADC_OFS (unsignedOf 16 (s.calOfs a g)) a g

theorem loadOfs_eq (s : State) (a : Nat) : s.loadOfs a = s.loadOfsTo a 5 := rfl

theorem loadOfsTo_succ (s : State) (a n : Nat) :
    s.loadOfsTo a (n + 1) = (s.loadOfsTo a n).setFld ADC_OFS (unsignedOf 16 ((s.loadOfsTo a n).calOfs a n)) a n := by
  rw [State.loadOfsTo, State.each, List.range_succ, List.foldl_append]
  rfl

theorem loadOfsTo_only (s : State) (a n : Nat) : s.Only (s.loadOfsTo a n) [] ((List.range n).map (ADC_OFS.addr a ·)) :=
  (State.Only.refl s _ _).each _ _ fun _ _ hg ht => ht.setFld _ _ _ _ (List.mem_map_of_mem hg)

/-- Each gain's offset reads as the stored one. -/
theorem sfld_loadOfsTo (s : State) (a n : Nat) {g : Nat} (hg : g < n) : (s.loadOfsTo a n).sfld ADC_OFS a g = s.calOfs a g := by
  induction n with
  | zero => exact absurd hg (Nat.not_lt_zero g)
  | succ n ih =>
    rw [loadOfsTo_succ, State.calOfs_of_only (loadOfsTo_only s a n) (by decide) (by decide)]
    rcases Nat.lt_succ_iff_lt_or_eq.1 hg with h | rfl
    · rw [State.sfld, State.fld_setFld_other _ _ _ _ _ _ _ _ (by simp only [Fld.addr, ADC_OFS]; omega)]
      exact ih h
    · rw [State.sfld, State.fld_setFld_same _ _ _ _ _ (by decide)]
      exact signedOf_unsignedOf _

theorem sfld_loadOfs (s : State) (a : Nat) {g : Nat} (hg : g < 5) : (s.loadOfs a).sfld ADC_OFS a g = s.calOfs a g := by
  rw [loadOfs_eq, sfld_loadOfsTo s a 5 hg]

theorem loadOfs_only (s : State) (a : Nat) : s.Only (s.loadOfs a) [] ((List.range 5).map (ADC_OFS.addr a ·)) := loadOfsTo_only s a 5

/-- A converter that has not switched yet switches and loads its offsets. -/
theorem caltrkSwitch_pending {a : Nat} (hp : s.fnPending fnCaltrk = true) (hn : tget false s.switched (fnCaltrk * 128 + a) = false)
    (ha : a ∈ s.fnInstances fnCaltrk) : s.caltrkSwitch a = (s.switchInst fnCaltrk a).loadOfs a := by
  rw [State.caltrkSwitch, if_pos (by simpa [hp, hn] using ha)]

/-! What a change spares -/

namespace Spares

variable {s₀ : State}

theorem fnSettle (h : Spares s₀ s) (fn : Nat) : Spares s₀ (s.fnSettle fn) := by
  unfold State.fnSettle
  split
  · exact ((h.setFld _ _ _ _).setFld _ _ _ _).switched _
  · exact h

theorem switchInst (h : Spares s₀ s) (fn k : Nat) : Spares s₀ (s.switchInst fn k) := by
  unfold State.switchInst
  split
  · exact (h.switched _).fnSettle fn
  · exact h

theorem loadOfs (h : Spares s₀ s) (a : Nat) : Spares s₀ (s.loadOfs a) := h.each _ _ fun _ _ ht => ht.setFld _ _ _ _

theorem fnSwitch (h : Spares s₀ s) (fn k : Nat) : Spares s₀ (s.fnSwitch fn k) := by
  unfold State.fnSwitch State.caltrkSwitch
  split
  · split
    · exact (h.switchInst _ _).loadOfs _
    · exact h
  · exact h.switchInst _ _

theorem fnChange (h : Spares s₀ s) (fn : Nat) (new : Bool) : Spares s₀ (s.fnChange fn new) := by
  unfold State.fnChange
  dsimp only
  split
  · exact (h.switched _).setFld _ _ _ _
  · exact (((h.switched _).setFld _ _ _ _).each _ _ fun _ _ ht => ht.fnSwitch fn _).fnSettle fn

end Spares

/-- A new value of MODE stands after the changes that it asks for (R34). -/
theorem fnModes_spares (s : State) (new : Nat) : Spares (s.setFld SYS_FNMODE_MODE new) (s.fnModes new) :=
  (Spares.refl _).each _ _ fun _ _ ht => ht.fnChange _ _

/-! FNMODE_WRITE (R34) -/

theorem fnmode_bus (s : State) (v : Word) : (s.fnmode v).bus = s.bus := (fnModes_spares s _).bus

/-- Every bit of MODE that FNLOCK does not lock takes the written value. -/
theorem fnmode_bit (s : State) (v : Word) {i : Nat} (hi : i < 8) : (s.fnmode v).fld SYS_FNMODE_MODE / 2 ^ i % 2 =
    if s.fld SYS_FNLOCK_LOCK / 2 ^ i % 2 = 1 then s.fld SYS_FNMODE_MODE / 2 ^ i % 2 else v.toNat / 2 ^ i % 2 := by
  have e : (s.fnmode v).fld SYS_FNMODE_MODE = _ := congrArg (bitsOf · 0 8) (fnModes_spares s _).fnmode
  have bit (n : Nat) : (n % 2 == 1).toNat = n % 2 := by rcases Nat.mod_two_eq_zero_or_one n with h | h <;> simp [h]
  have same := fun m => s.fld_setFld_same SYS_FNMODE_MODE m 0 0 (by decide)
  rw [e]
  refine (congrArg (· / 2 ^ i % 2) (same _)).trans ?_
  rw [show SYS_FNMODE_MODE.len = 8 from rfl, byte_bit _ hi]
  refine (foldl_setBitNat_bit _ 8 0 i).trans ?_
  rw [if_pos hi]
  simp only [beq_iff_eq]
  split
  · exact bit _
  · simp only [bitsOf, pow_one, bit]

theorem exec_fnmodeWrite (s : State) (by_ : Agent) (v : Word) :
    exec (.fnmodeWrite by_ v) s = .next (s.guard by_ SYS_FNMODE.addr true v fun s => s.fnmode v).settle := rfl

theorem fnmodeWrite_admitted (by_ : Agent) (v : Word) (h : s.Admits by_ SYS_FNMODE.addr true v) :
    exec (.fnmodeWrite by_ v) s = .next (s.busOk.fnmode v).settle := by
  rw [exec_fnmodeWrite, State.guard_admits s _ _ _ _ _ h, State.faulted_ok]
  rw [fnmode_bus]
  rfl

/-- An access that the check does not pass ends in a bus error, which a core takes as an access fault. -/
theorem guard_denied (by_ : Agent) (a : Nat) (write : Bool) (v : Word) (k : State → State) (hr : s.pwr = .run) (hd : by_ ≠ .dbg ∨ s.dbgOpen = true)
    (hh : by_ ≠ .pciHost) (h : s.regAccess by_ a write v = false) : Spares s.busErr (s.guard by_ a write v k) := by
  have refuse : Spares s.busErr (s.refuse by_) := by
    cases by_ with
    | cp n => exact ((Spares.refl _).bump _ _ _).raiseFault _ _
    | _ => exact Spares.refl _
  have closed : ¬(by_ = .dbg ∧ (!s.dbgOpen) = true) := by rcases hd with hd | hd <;> simp [hd]
  have fault {u : State} (hu : Spares s.busErr u) : Spares s.busErr (u.faulted by_ a write) := by
    cases by_ with
    | cp n =>
      unfold State.faulted
      dsimp only
      split
      · exact hu.accFault _ _ _
      · exact hu
    | _ => exact hu
  rw [State.guard, State.gate, if_neg (not_not.2 hr), State.gateRaw, if_neg (not_not.2 hr), if_neg closed, if_neg fun e => hh e.1]
  refine fault ?_
  split
  · split
    · exact Spares.refl _
    · rw [h]
      exact refuse
  · exact Spares.refl _

/-- The map has SYS_FNMODE, a register that can be written. -/
theorem lookupReg_fnmode : (lookupReg SYS_FNMODE.addr).map (fun h => (h.row.fam, h.row.readOnly)) = some (.SYS_FNMODE, false) := by decide +kernel

/-- A context without CFG_MODE does not write SYS_FNMODE (R34). -/
theorem regAccess_fnmode {x : Nat} (by_ : Agent) (v : Word) (hx : s.ctxOf by_ = some x) (hc : s.cap x capCfgMode = false) :
    s.regAccess by_ SYS_FNMODE.addr true v = false := by
  obtain ⟨h, hl, e⟩ := Option.map_eq_some_iff.1 lookupReg_fnmode
  obtain ⟨fam, ro⟩ := Prod.mk.inj e
  have rule (n a : Nat) : s.writeRule x by_ .SYS_FNMODE n a v = false := hc
  have listed : (if h.row.fam == .IRT_CPCLAIM || (true && h.row.fam == .IRT_CPCAND) then decide (by_ = .cp ⟨h.n % 4, Nat.mod_lt _ (by decide)⟩)
      else if true && !h.row.readOnly then s.writeRule x by_ h.row.fam h.n SYS_FNMODE.addr v else s.readRule x h.row.fam h.n SYS_FNMODE.addr) = false := by
    rw [fam, ro]
    exact rule h.n SYS_FNMODE.addr
  have loaded {b : Bool} (hb : b = false) (y : Bool) : (if (s.fld IMG_STATUS_STATE == 3) = true then SYS_FNMODE.addr / 65536 == 0x4001 && y
      else if (s.fld IMG_STATUS_STATE != 2) = true then false else b) = false := by
    split
    · rfl
    · exact ite_eq_left_iff.2 fun _ => hb
  unfold State.regAccess
  rw [hx, hl]
  refine ite_eq_left_iff.2 fun _ => ?_
  cases by_ with
  | jrn => cases hx
  | pciHost => cases hx
  | cp n => exact ite_eq_left_iff.2 fun _ => loaded listed _
  | gw c => exact loaded listed _
  | dbg => exact loaded (Bool.and_eq_false_imp.2 fun _ => listed) _

/-! FN_MODE_SWITCH (R35) -/

theorem exec_fnModeSwitch (s : State) (fn : Fin 8) (k : Fin 128) : exec (.fnModeSwitch fn k) s = whenAwake s (done (if s.fnAtPoint fn k then s.fnSwitch fn k else s)) := rfl

theorem fnModeSwitch_elsewhere (fn : Fin 8) (k : Fin 128) (hs : s.Ready) (h : s.fnAtPoint fn k = false) : exec (.fnModeSwitch fn k) s = .next s := by
  rw [exec_fnModeSwitch, whenAwake_run _ _ hs.1, h, if_neg Bool.false_ne_true, done_quiet _ hs.2]

/-- At its switch point a function switches; a switch emits nothing. -/
theorem fnModeSwitch_at (fn : Fin 8) (k : Fin 128) (hs : s.Ready) (h : s.fnAtPoint fn k = true) {t : State} (e : s.fnSwitch fn k = t) {as : List Nat}
    (ht : s.Only t [.switched] as) : exec (.fnModeSwitch fn k) s = .next t := by
  rw [exec_fnModeSwitch, whenAwake_run _ _ hs.1, h, if_pos rfl, e, done_quiet _ ((ht.same_due (by decide)).trans hs.2)]

/-- At a record boundary with no request FN_JREC switches (R35). -/
theorem fnModeSwitch_jrec (hs : s.Ready) (hp : s.fnPending fnJrec = true) (hj : s.jrnReq = none) :
    ∃ t, exec (.fnModeSwitch 6 0) s = .next t ∧ t.fnPending fnJrec = false
      ∧ t.fld SYS_FNSTAT_INFORCE / 2 ^ 6 % 2 = s.fld SYS_FNMODE_MODE / 2 ^ 6 % 2 ∧ s.Only t [.switched] [SYS_FNSTAT.addr] := by
  have point : s.fnAtPoint 6 0 = true := congrArg Option.isNone hj
  have only := switchInst_only s fnJrec 0
  have inst : s.fnInstances fnJrec = [0] := rfl
  obtain ⟨pend, force⟩ := switchInst_last (fn := fnJrec) (k := 0) (by decide) hp (by simp [inst]) (by simp [inst])
  exact ⟨_, fnModeSwitch_at 6 0 hs point rfl only, pend, force, only⟩

/-- An idle channel of FN_RETRY switches, and the last one ends the change (R35). -/
theorem fnModeSwitch_retry (k : Fin 128) (hs : s.Ready) (hp : s.fnPending fnRetry = true) (hc : s.fld FCO_BKT_CSTATE k ∉ [csCool, csHold, csWaitdec]) :
    let last := ∀ j : Fin 128, j ≠ k → tget false s.switched (fnRetry * 128 + j) = true
    ∃ t, exec (.fnModeSwitch 4 k) s = .next t ∧ s.Only t [.switched] [SYS_FNSTAT.addr]
      ∧ (¬last → tget false t.switched (fnRetry * 128 + k) = true ∧ t.fnPending fnRetry = true)
      ∧ (last → t.fnPending fnRetry = false ∧ t.fld SYS_FNSTAT_INFORCE / 2 ^ 4 % 2 = s.fld SYS_FNMODE_MODE / 2 ^ 4 % 2) := by
  intro last
  have point : s.fnAtPoint 4 k = true := by
    simp only [List.mem_cons, List.not_mem_nil, or_false, not_or] at hc
    show s.fnIdle fnRetry k = true
    simp [State.fnIdle, hc]
  have inst : s.fnInstances fnRetry = List.range 128 := rfl
  have mem (j : Fin 128) : j.val ∈ s.fnInstances fnRetry := by simp [inst]
  have only := switchInst_only s fnRetry k
  refine ⟨s.switchInst fnRetry k, fnModeSwitch_at 4 k hs point rfl only, only, fun hl => ?_, fun hl => ?_⟩
  · obtain ⟨j, hl⟩ := not_forall.1 hl
    obtain ⟨hj, off⟩ := Classical.not_imp.1 hl
    rw [switchInst_waits hp (mem k) (mem j) (Fin.val_ne_of_ne hj) (by simpa using off)]
    exact ⟨tget_tput_same false s.switched _ true, hp⟩
  · refine switchInst_last (by decide) hp (mem k) fun j hj hjk => hl ⟨j, ?_⟩ fun e => hjk (congrArg Fin.val e)
    exact List.mem_range.1 (inst ▸ hj)

/-- A converter switches between conversions and loads its offsets (R35, R217). -/
theorem fnModeSwitch_caltrk (a : Fin 4) (hs : s.Ready) (hp : s.fnPending fnCaltrk = true) (hc : (s.ad a).conv = none) (ha : a.val ∈ s.fnInstances fnCaltrk)
    (hn : tget false s.switched (fnCaltrk * 128 + a) = false) :
    ∃ t, exec (.fnModeSwitch 5 ⟨a.val, by omega⟩) s = .next t ∧ (∀ g, g < 5 → t.sfld ADC_OFS a g = s.calOfs a g)
      ∧ s.Only t [.switched] (SYS_FNSTAT.addr :: (List.range 5).map (ADC_OFS.addr a ·)) := by
  have point : s.fnAtPoint 5 a = true := congrArg Option.isNone hc
  have inst := switchInst_only s fnCaltrk a
  have only : s.Only ((s.switchInst fnCaltrk a).loadOfs a) [.switched] (SYS_FNSTAT.addr :: (List.range 5).map (ADC_OFS.addr a ·)) :=
    (inst.mono (fun _ h => h) (by simp)).trans ((loadOfs_only _ a).mono (List.nil_subset _) (List.subset_cons_self _ _))
  exact ⟨_, fnModeSwitch_at 5 ⟨a.val, by omega⟩ hs point (caltrkSwitch_pending hp hn ha) only, fun g hg => (sfld_loadOfs _ _ hg).trans (State.calOfs_of_only inst (by decide) (by decide) a g), only⟩

end Sys2Proof.Machine
end

section
/-! SUPPORT. A request that has timed out (R32): how a channel of FN_RETRY leaves it, and the fallback of each function as an equation. -/

namespace Sys2Proof.Machine

variable {s : State}

/-! Requests -/

@[simp] theorem State.bankBit_setAsk (s : State) (fn n : Nat) (d : Option Nat) (f : Fld) (i : Nat) : (s.setAsk fn n d).bankBit f i = s.bankBit f i := (rfl)

theorem State.setAsk_ask (s : State) (fn n : Nat) (d : Option Nat) : (s.setAsk fn n d).ask = tput none s.ask (fn * 128 + n) d := (rfl)

theorem State.askOf_of_ask {t : State} (h : t.ask = s.ask) (fn k : Nat) : t.askOf fn k = s.askOf fn k := by rw [State.askOf, State.askOf, h]

/-- The request of another channel or tracker stands. -/
theorem State.askOf_setAsk_ne (s : State) {fn i j : Nat} (d : Option Nat) (h : i ≠ j) : (s.setAsk fn i d).askOf fn j = s.askOf fn j :=
  tget_tput_ne none s.ask d (show fn * 128 + i ≠ fn * 128 + j by omega)

/-! Retirement and cool-down (R362, R363) -/

/-- What a retirement marks of its own before the rest of the device reacts: the channel is retired and its request has gone. -/
def State.retireMark (s : State) (c : Nat) : State :=
  (((s.setBankBit FCO_RET c true).setFld FCO_BKT_CSTATE csRetired c).setBankBit FCO_RREQ c false).setAsk fnRetry c none

theorem retire_spares {c : Nat} (hc : c < 128) (src : Nat) (h : s.retired c = false) : Spares (s.retireMark c) (s.retire c src) := by
  unfold State.retire
  rw [h, if_neg Bool.false_ne_true]
  exact ((((((((Spares.refl (s.retireMark c)).when _ _ fun _ ht => ht.padState _ _).setFld _ _ _ _).setPd _ _).bump _ _ _).cause _ _ _).huskCheck _ _).retireSched hc).logOther _ _

/-- The words of FCO_RREQ, FCO_RET and FCO_BKT lie apart. -/
theorem retryWords_ne {c : Nat} (hc : c < 128) : FCO_RREQ.addr (c / 32) ≠ FCO_RET.addr (c / 32) ∧ FCO_BKT_CSTATE.addr c ≠ FCO_RREQ.addr (c / 32)
    ∧ FCO_BKT_CSTATE.addr c ≠ FCO_RET.addr (c / 32) := by
  simp only [Fld.addr, FCO_RREQ, FCO_RET, FCO_BKT_CSTATE]
  omega

/-- A channel of FN_RETRY has left its request: none is shown and none is outstanding, and it cools down or is retired; `l` has been emitted before. -/
def State.Left (x : State) (c : Nat) (l : List Emit) : Prop :=
  l <+: x.due ∧ x.askOf fnRetry c = none ∧ x.bankBit FCO_RREQ c = false ∧ (x.fld FCO_BKT_CSTATE c = csCool ∨ x.retired c = true)

theorem State.Left.mono {x : State} {c : Nat} {l l' : List Emit} (h : x.Left c l) (hl : l' <+: l) : x.Left c l' :=
  ⟨hl.trans h.1, h.2⟩

theorem retire_left {c : Nat} (hc : c < 128) (src : Nat) (ha : s.askOf fnRetry c = none) (hb : s.bankBit FCO_RREQ c = false) : (s.retire c src).Left c s.due := by
  cases h : s.retired c
  case true =>
    rw [State.retire, h, if_pos rfl]
    exact ⟨List.prefix_refl _, ha, hb, .inr h⟩
  case false =>
    obtain ⟨ne, -, ne'⟩ := retryWords_ne hc
    have sp := retire_spares hc src h
    have ret : (s.retireMark c).retired c = true := by
      rw [State.retired, State.retireMark, State.bankBit_setAsk, State.bankBit_setBankBit_ne _ _ _ _ _ _ ne, State.bankBit_setFld_ne _ _ _ _ _ _ _ ne', State.bankBit_setBankBit]
    have rreq : (s.retireMark c).bankBit FCO_RREQ c = false := by rw [State.retireMark, State.bankBit_setAsk, State.bankBit_setBankBit]
    exact ⟨sp.due, (sp.ask c).trans (State.askOf_setAsk _ _ _ _), (sp.rreq hc).trans rreq, .inr ((sp.retired hc).trans ret)⟩

theorem startCool_left {c : Nat} (hc : c < 128) : (s.startCool c).Left c s.due := by
  obtain ⟨-, ne, -⟩ := retryWords_ne hc
  have sp := (Spares.refl s).switchInst fnRetry c
  refine ⟨sp.due, ?_, ?_, .inl ?_⟩
  · rw [State.startCool, State.askOf_of_ask (State.setCls_ask _ _ _), State.askOf_of_ask (State.setFld_ask _ _ _ _ _), State.askOf_setAsk]
  · rw [State.startCool, State.bankBit_setCls, State.bankBit_setFld_ne _ _ _ _ _ _ _ ne, State.bankBit_setAsk, State.bankBit_setBankBit]
  · rw [State.startCool, State.fld_setCls]
    exact State.fld_setFld_same _ _ _ _ _ (by decide)

/-- fail(c) of R362. -/
theorem failRetry_left {c : Nat} (hc : c < 128) (ha : s.askOf fnRetry c = none) (hb : s.bankBit FCO_RREQ c = false) : (s.failRetry c).Left c s.due := by
  have counted := fun v => ((Spares.refl s).setBucket c (min 15 (s.fld FCO_BKT_B c + 1))).setFld FCO_BKT_RC v c 0
  unfold State.failRetry
  dsimp only
  split
  · exact (retire_left hc _ (((counted _).ask c).trans ha) (((counted _).rreq hc).trans hb)).mono (counted _).due
  · exact (startCool_left hc).mono (counted _).due

/-! The fallbacks of R32 -/

/-- A request that has timed out falls away with its fault. -/
def State.overdue (s : State) (fn k : Nat) : State := (s.setAsk fn k none).raiseFault (144 + fn) k

theorem askOf_overdue (fn k : Nat) : (s.overdue fn k).askOf fn k = none := State.askOf_setAsk s fn k none

theorem overdue_due (fn : Nat) (k : Fin 128) (hs : s.due = []) : (s.overdue fn k).due = [.fault ⟨144 + fn, k⟩] := by
  rw [State.overdue, State.raiseFault_due, State.setAsk_due, hs, Nat.mod_eq_of_lt (by omega), List.nil_append]

theorem overdue_only (fn k : Nat) (ps : List Part) (as : List Nat) : s.Only (s.overdue fn k) (.due :: .ask :: ps) as :=
  ((State.Only.refl s _ _).setAsk _ _ _ (by simp)).raiseFault _ _ (by simp)

theorem fnFallback_sync (k : Nat) : s.fnFallback fnSync k = (s.overdue fnSync k).setFld TRK_DECSTAT_REQ 0 k := rfl

theorem fnFallback_tooth (k : Nat) :
    s.fnFallback fnTooth k = (((s.overdue fnTooth k).setFld TRK_PDEC_REQ 0 k).setFld TRK_PSTAT_TOOTHSTALE 1 k).clearCor k := rfl

theorem fnFallback_knock (k : Nat) : s.fnFallback fnKnock k = s.overdue fnKnock k := rfl

theorem fnFallback_injdly (k : Nat) : s.fnFallback fnInjdly k = ((s.overdue fnInjdly k).setFld CH_INJDEC_REQ 0 k).setFld CH_STAT_INJSTALE 1 k := rfl

theorem fnFallback_retry (k : Nat) : s.fnFallback fnRetry k = (((s.overdue fnRetry k).setBankBit FCO_RREQ k false).logCls k 5).failRetry k := by
  unfold State.fnFallback State.overdue
  rw [if_neg (by decide), if_neg (by decide), if_neg (by decide), if_pos (by decide)]

theorem fnFallback_caltrk (k : Nat) : s.fnFallback fnCaltrk k =
    (((s.overdue fnCaltrk k).setFld ADC_CALDEC_REQ 0 k).loadOfs k).setAd k { s.ad k with stale := true } := rfl

theorem fnFallback_jrec (k : Nat) {q : JrnReq} (h : s.jrnReq = some q) : s.fnFallback fnJrec k = (s.overdue fnJrec k).jrecBody q.stream none := by
  unfold State.fnFallback
  rw [if_neg (by decide), if_neg (by decide), if_neg (by decide), if_neg (by decide), if_neg (by decide), if_pos (by decide), State.raiseFault_jrnReq, State.setAsk_jrnReq, h]
  rfl

theorem fnFallback_jrec_none (k : Nat) (h : s.jrnReq = none) : s.fnFallback fnJrec k = s.overdue fnJrec k := by
  unfold State.fnFallback
  rw [if_neg (by decide), if_neg (by decide), if_neg (by decide), if_neg (by decide), if_neg (by decide), if_pos (by decide), State.raiseFault_jrnReq, State.setAsk_jrnReq, h]
  rfl

theorem fnFallback_restart (k : Nat) : s.fnFallback fnRestart k =
    (s.overdue fnRestart k).when (s.trkState k == stRevSync || s.trkState k == stCycleSync) fun s => s.setFld TRK_STATE_HELD 0 k := rfl

/-- A decision about a record's body, and its timeout, end the request and leave what has been emitted. -/
theorem jrecBody_ask (j : Nat) (b : Option (List Nat)) : (s.jrecBody j b).ask = (s.setAsk fnJrec 0 none).ask ∧ (s.jrecBody j b).due = s.due := by
  unfold State.jrecBody
  dsimp only
  split
  · constructor
    · rw [State.setAsk_ask, State.setAsk_ask, State.setFld_ask]
    · rw [State.setAsk_due, State.setFld_due]
  · constructor
    · rw [State.setStr_ask, State.setAsk_ask, State.setAsk_ask, State.setFld_ask]
    · rw [State.setStr_due, State.setAsk_due, State.setFld_due]

/-- A request that is over shows so, and a head record that takes no body stands without one (R352). -/
theorem jrecBody_spec (j : Nat) : (s.jrecBody j none).jrnReq = none ∧ (s.jrecBody j none).fld JRN_HDEC_REQ = 0
    ∧ ∀ q l, (s.str j).fifo = q :: l → ((s.jrecBody j none).str j).fifo = { q with r := { q.r with body := [], nobody := true } } :: l := by
  have req (u : State) : (u.setFld JRN_HDEC_REQ 0).fld JRN_HDEC_REQ = 0 := State.fld_setFld_same _ _ _ _ _ (by decide)
  unfold State.jrecBody
  dsimp only
  split
  · next h =>
    refine ⟨?_, ?_, fun q l e => ?_⟩
    · rw [State.setAsk_jrnReq, State.setFld_jrnReq]
    · rw [State.fld_setAsk, req]
    · rw [h] at e
      cases e
  · next h =>
    refine ⟨?_, ?_, fun q l e => ?_⟩
    · rw [State.setStr_jrnReq, State.setAsk_jrnReq, State.setFld_jrnReq]
    · rw [State.fld_setStr, State.fld_setAsk, req]
    · rw [h] at e
      cases e
      rw [State.str_setStr]

end Sys2Proof.Machine
end

section
/-! PROOFS. What the fallback of each function does (R32), DECISION_TIMEOUT, and the statement about the modes of the functions. -/

namespace Sys2Proof.Machine

variable {s : State} {k : Fin 128}

/-! Flags and frames -/

theorem State.flag_setFld_zero (s : State) (f : Fld) (n k : Nat) (h : f.lo + f.len ≤ 32 := by decide) : (s.setFld f 0 n k).flag f n k = false := by
  rw [State.flag, State.fld_setFld_same _ _ _ _ _ h, Nat.zero_mod]
  rfl

theorem State.flag_setFld_one (s : State) (f : Fld) (n k : Nat) (h : f.lo + f.len ≤ 32 := by decide) (hl : f.len = 1 := by rfl) :
    (s.setFld f 1 n k).flag f n k = true := by
  rw [State.flag, State.fld_setFld_same _ _ _ _ _ h, hl]
  rfl

theorem State.flag_setFld_other (s : State) (f g : Fld) (v n k n' k' : Nat) (h : f.addr n k ≠ g.addr n' k') :
    (s.setFld f v n k).flag g n' k' = s.flag g n' k' := by
  rw [State.flag, State.fld_setFld_other _ _ _ _ _ _ _ _ h, State.flag]

/-! The fallback of each function (R32) -/

/-- The request has fallen away with its fault, which stands before all else that is emitted. -/
def State.FellAway (x : State) (fn : Nat) (k : Fin 128) : Prop := x.due.head? = some (.fault ⟨144 + fn, k.val⟩) ∧ x.askOf fn k = none

theorem fellAway_of {x : State} {fn : Nat} (hs : s.due = []) (hd : (s.overdue fn k).due <+: x.due) (ha : x.askOf fn k = none) : x.FellAway fn k := by
  obtain ⟨l, hl⟩ := hd
  refine ⟨?_, ha⟩
  rw [← hl, overdue_due fn k hs]
  rfl

/-- What the fallback does beside it touches neither requests nor emissions. -/
theorem fellAway_same {x : State} {fn : Nat} (hs : s.due = []) (hd : x.due = (s.overdue fn k).due) (ha : x.ask = (s.overdue fn k).ask) : x.FellAway fn k :=
  fellAway_of hs (hd ▸ List.prefix_refl _) ((State.askOf_of_ask ha fn k).trans (askOf_overdue fn k))

theorem fallback_sync (hs : s.due = []) : (s.fnFallback fnSync k).FellAway fnSync k ∧ (s.fnFallback fnSync k).flag TRK_DECSTAT_REQ k = false
    ∧ s.Only (s.fnFallback fnSync k) [.due, .ask] [TRK_DECSTAT.addr k] := by
  rw [fnFallback_sync]
  exact ⟨fellAway_same hs (State.setFld_due _ _ _ _ _) (State.setFld_ask _ _ _ _ _), State.flag_setFld_zero _ _ _ _, (overdue_only _ _ _ _).setFld _ _ _ _ (.head _)⟩

theorem fallback_tooth (hs : s.due = []) : (s.fnFallback fnTooth k).FellAway fnTooth k
    ∧ (s.fnFallback fnTooth k).flag TRK_PDEC_REQ k = false ∧ (s.fnFallback fnTooth k).flag TRK_PSTAT_TOOTHSTALE k = true
    ∧ ((s.fnFallback fnTooth k).tr k).corNext = some [] ∧ s.Only (s.fnFallback fnTooth k) [.due, .ask, .trk] [TRK_PDEC.addr k, TRK_PSTAT.addr k] := by
  have apart : TRK_PSTAT_TOOTHSTALE.addr k ≠ TRK_PDEC_REQ.addr k := by simp only [Fld.addr, TRK_PSTAT_TOOTHSTALE, TRK_PDEC_REQ]; omega
  rw [fnFallback_tooth, State.clearCor]
  refine ⟨fellAway_same hs ?_ ?_, ?_, ?_, ?_, ?_⟩
  · rw [State.setTr_due, State.setFld_due, State.setFld_due]
  · rw [State.setTr_ask, State.setFld_ask, State.setFld_ask]
  · rw [State.flag_setTr, State.flag_setFld_other _ _ _ _ _ _ _ _ apart, State.flag_setFld_zero _ TRK_PDEC_REQ]
  · rw [State.flag_setTr, State.flag_setFld_one _ TRK_PSTAT_TOOTHSTALE]
  · rw [State.tr_setTr]
  · exact (((overdue_only _ _ _ _).setFld _ _ _ _ (.head _)).setFld _ _ _ _ (.tail _ (.head _))).setTr _ _ (by decide)

theorem fallback_knock (hs : s.due = []) : (s.fnFallback fnKnock k).FellAway fnKnock k ∧ s.Only (s.fnFallback fnKnock k) [.due, .ask] [] := by
  rw [fnFallback_knock]
  exact ⟨fellAway_same hs rfl rfl, overdue_only _ _ _ _⟩

theorem fallback_injdly (hs : s.due = []) : (s.fnFallback fnInjdly k).FellAway fnInjdly k
    ∧ (s.fnFallback fnInjdly k).flag CH_INJDEC_REQ k = false ∧ (s.fnFallback fnInjdly k).flag CH_STAT_INJSTALE k = true
    ∧ s.Only (s.fnFallback fnInjdly k) [.due, .ask] [CH_INJDEC.addr k, CH_STAT.addr k] := by
  have apart : CH_STAT_INJSTALE.addr k ≠ CH_INJDEC_REQ.addr k := by simp only [Fld.addr, CH_STAT_INJSTALE, CH_INJDEC_REQ]; omega
  rw [fnFallback_injdly]
  refine ⟨fellAway_same hs ?_ ?_, ?_, State.flag_setFld_one _ _ _ _, ?_⟩
  · rw [State.setFld_due, State.setFld_due]
  · rw [State.setFld_ask, State.setFld_ask]
  · rw [State.flag_setFld_other _ _ _ _ _ _ _ _ apart, State.flag_setFld_zero _ CH_INJDEC_REQ]
  · exact ((overdue_only _ _ _ _).setFld _ _ _ _ (.head _)).setFld _ _ _ _ (.tail _ (.head _))

theorem fallback_retry (hs : s.due = []) : (s.fnFallback fnRetry k).FellAway fnRetry k ∧ (s.fnFallback fnRetry k).bankBit FCO_RREQ k = false
    ∧ ((s.fnFallback fnRetry k).fld FCO_BKT_CSTATE k = csCool ∨ (s.fnFallback fnRetry k).retired k = true) := by
  rw [fnFallback_retry]
  generalize hu : (s.overdue fnRetry k).setBankBit FCO_RREQ k false = u
  have logged : Spares u (u.logCls k 5) := (Spares.refl u).logOther _ _
  have rreq : u.bankBit FCO_RREQ k = false := by rw [← hu, State.bankBit_setBankBit]
  have gone : u.askOf fnRetry k = none := by rw [← hu, State.askOf_of_ask (State.setBankBit_ask _ _ _ _), askOf_overdue]
  have due : u.due = (s.overdue fnRetry k).due := by rw [← hu, State.setBankBit_due]
  obtain ⟨hd, ha, hb, hc⟩ := failRetry_left k.isLt ((logged.ask k).trans gone) ((logged.rreq k.isLt).trans rreq)
  exact ⟨fellAway_of hs (due ▸ logged.due.trans hd) ha, hb, hc⟩

theorem fallback_caltrk (hs : s.due = []) : (s.fnFallback fnCaltrk k).FellAway fnCaltrk k ∧ (s.fnFallback fnCaltrk k).flag ADC_CALDEC_REQ k = false
    ∧ ((s.fnFallback fnCaltrk k).ad k).stale = true ∧ ∀ g, g < 5 → (s.fnFallback fnCaltrk k).sfld ADC_OFS k g = s.calOfs k g := by
  let u := (s.overdue fnCaltrk k).setFld ADC_CALDEC_REQ 0 k
  have only : s.Only u [.due, .ask] [ADC_CALDEC.addr k] := (overdue_only _ _ _ _).setFld _ _ _ _ (.head _)
  have load := loadOfs_only u k
  have apart : ADC_CALDEC_REQ.addr k ∉ (List.range 5).map (ADC_OFS.addr k ·) := by
    simp only [List.mem_map, List.mem_range, Fld.addr, ADC_CALDEC_REQ, ADC_OFS]
    omega
  have req : (u.loadOfs k).flag ADC_CALDEC_REQ k = u.flag ADC_CALDEC_REQ k := by
    rw [State.flag, State.fld, load.2 _ apart, State.flag, State.fld]
  rw [fnFallback_caltrk]
  refine ⟨fellAway_same hs ?_ ?_, ?_, ?_, fun g hg => ?_⟩
  · rw [State.setAd_due, load.same_due (by decide), State.setFld_due]
  · rw [State.setAd_ask]
    exact (load.1 .ask (by decide) (by decide)).trans (State.setFld_ask _ _ _ _ _)
  · rw [State.flag_setAd, req, State.flag_setFld_zero _ ADC_CALDEC_REQ]
  · rw [State.ad_setAd]
  · rw [State.sfld_setAd, sfld_loadOfs u k hg, State.calOfs_of_only only (by decide) (by decide)]

theorem fallback_jrec (hs : s.due = []) : (s.fnFallback fnJrec k).FellAway fnJrec k
    ∧ ∀ r, s.jrnReq = some r → (s.fnFallback fnJrec k).jrnReq = none ∧ (s.fnFallback fnJrec k).fld JRN_HDEC_REQ = 0
      ∧ ∀ q l, (s.str r.stream).fifo = q :: l →
        ((s.fnFallback fnJrec k).str r.stream).fifo = { q with r := { q.r with body := [], nobody := true } } :: l := by
  cases h : s.jrnReq with
  | none =>
    rw [fnFallback_jrec_none _ h]
    exact ⟨fellAway_same hs rfl rfl, fun _ e => by cases e⟩
  | some r =>
    rw [fnFallback_jrec _ h]
    obtain ⟨ask, due⟩ := jrecBody_ask (s := s.overdue fnJrec k) r.stream none
    have gone : ((s.overdue fnJrec k).setAsk fnJrec 0 none).askOf fnJrec k = none := by
      by_cases e : k.val = 0
      · rw [e, State.askOf_setAsk]
      · rw [State.askOf_setAsk_ne _ _ (Ne.symm e), askOf_overdue]
    refine ⟨fellAway_of hs (due ▸ List.prefix_refl _) ((State.askOf_of_ask ask _ _).trans gone), fun r' e => ?_⟩
    cases e
    exact jrecBody_spec r.stream

theorem fallback_restart (hs : s.due = []) : (s.fnFallback fnRestart k).FellAway fnRestart k
    ∧ (s.trkState k = stRevSync ∨ s.trkState k = stCycleSync → (s.fnFallback fnRestart k).flag TRK_STATE_HELD k = false
      ∧ s.Only (s.fnFallback fnRestart k) [.due, .ask] [TRK_STATE.addr k]) := by
  rw [fnFallback_restart]
  refine ⟨?_, fun h => ?_⟩
  · cases s.trkState k == stRevSync || s.trkState k == stCycleSync with
    | false => exact fellAway_same hs rfl rfl
    | true => exact fellAway_same hs (State.setFld_due _ _ _ _ _) (State.setFld_ask _ _ _ _ _)
  · have sync : (s.trkState k == stRevSync || s.trkState k == stCycleSync) = true := by simpa using h
    rw [sync]
    exact ⟨State.flag_setFld_zero _ _ _ _, (overdue_only _ _ _ _).setFld _ _ _ _ (.head _)⟩

/-- Whatever the function, its request falls away with its fault. -/
theorem fallback_fellAway (fn : Fin 8) (hs : s.due = []) : (s.fnFallback fn k).FellAway fn k := by
  match fn with
  | 0 => exact fallback_sync hs |>.1
  | 1 => exact fallback_tooth hs |>.1
  | 2 => exact fallback_knock hs |>.1
  | 3 => exact fallback_injdly hs |>.1
  | 4 => exact fallback_retry hs |>.1
  | 5 => exact fallback_caltrk hs |>.1
  | 6 => exact fallback_jrec hs |>.1
  | 7 => exact fallback_restart hs |>.1

/-! DECISION_TIMEOUT (R32) -/

theorem exec_decisionTimeout (s : State) (fn : Fin 8) (k : Fin 128) : exec (.decisionTimeout fn k) s = execDecisionTimeout fn k s := rfl

theorem decisionTimeout_none {fn : Fin 8} (hs : s.Ready) (h : s.askOf fn k = none) : exec (.decisionTimeout fn k) s = .next s := by
  rw [exec_decisionTimeout, execDecisionTimeout, whenAwake_run _ _ hs.1, h]
  exact done_quiet s hs.2

theorem decisionTimeout_early {fn : Fin 8} {d : Nat} (hs : s.Ready) (h : s.askOf fn k = some d) (hd : s.now < d) : exec (.decisionTimeout fn k) s = .next s := by
  rw [exec_decisionTimeout, execDecisionTimeout, whenAwake_run _ _ hs.1, h]
  dsimp only
  rw [if_neg (by omega), done_quiet s hs.2]

theorem decisionTimeout_due {fn : Fin 8} {d : Nat} (hs : s.Ready) (h : s.askOf fn k = some d) (hd : d ≤ s.now) :
    exec (.decisionTimeout fn k) s = .next (s.fnFallback fn k).settle := by
  rw [exec_decisionTimeout, execDecisionTimeout, whenAwake_run _ _ hs.1, h]
  dsimp only
  rw [if_pos hd, done]

/-- A refused write of SYS_FNMODE (R34): the context holds no CFG_MODE. -/
theorem fnmodeWrite_denied {x : Nat} (by_ : Agent) (v : Word) (hs : s.Ready) (hd : by_ ≠ .dbg ∨ s.dbgOpen = true) (hx : s.ctxOf by_ = some x)
    (hc : s.cap x capCfgMode = false) : Spares s.busErr (s.guard by_ SYS_FNMODE.addr true v fun s => s.fnmode v) := by
  refine guard_denied by_ _ _ v _ hs.1 hd ?_ (regAccess_fnmode by_ v hx hc)
  rintro rfl
  cases hx

/-- Settles O10: a write of FNMODE by its guard and the bits of MODE, a switch by what is left of the change, a timeout by the fallback of its function. -/
theorem functionModes : Obligations.FunctionModes := by
  unfold Obligations.FunctionModes
  refine ⟨fun s by_ v h => ⟨_, fnmodeWrite_admitted by_ v h, fun i hi => fnmode_bit s.busOk v hi⟩, fun s by_ x v hs hd hx hc => ?_,
    fun s fn k hs h => fnModeSwitch_elsewhere fn k hs h, fun s hs hp hj => fnModeSwitch_jrec hs hp hj, fun s k hs hp hc => fnModeSwitch_retry k hs hp hc,
    fun s a hs hp hc ha hn => fnModeSwitch_caltrk a hs hp hc ha hn, fun s k hs fn => ⟨decisionTimeout_none hs, fun d h => ⟨decisionTimeout_early hs h, fun hd => ?_⟩⟩⟩
  · have denied := fnmodeWrite_denied by_ v hs hd hx hc
    exact ⟨_, exec_fnmodeWrite s by_ v, congrArg Bus.err denied.bus, denied.fnmode⟩
  · obtain ⟨fault, gone⟩ := fallback_fellAway fn hs.2
    refine ⟨_, decisionTimeout_due hs h hd, fault, gone, fun e => ?_, fun e => ?_, fun e => ?_, fun e => ?_, fun e => ?_, fun e _ => ?_, fun e => ?_, fun e => ?_⟩
    · rw [e]; exact (fallback_sync hs.2).2
    · rw [e]; exact (fallback_tooth hs.2).2
    · rw [e]; exact (fallback_knock hs.2).2
    · rw [e]; exact (fallback_injdly hs.2).2
    · rw [e]; exact (fallback_retry hs.2).2
    · rw [e]; exact (fallback_caltrk hs.2).2
    · rw [e]; exact (fallback_jrec hs.2).2
    · rw [e]; exact (fallback_restart hs.2).2

end Sys2Proof.Machine
end

section
/-! SUPPORT. What the end of a command does leaves the register MK000_POS, whatever has been emitted and with whatever indices: the updates of the state, the Husk and the scheduler's part of a
retirement (R157, R176). -/

-- Many small `decide` proofs: checked one after another they stay within the memory limit, as in the tests.
set_option Elab.async false

namespace Sys2Proof.Machine

/-- The field lies in no register MK000_POS, whatever its indices: its family begins above it, or passes by it in steps of one stride. -/
abbrev Fld.PassesBy (f : Fld) : Prop := MK_POS.addr < f.base ∨ (f.st2 = 0 ∧ f.base % f.st1 ≠ MK_POS.addr % f.st1)

theorem Fld.PassesBy.addr_ne {f : Fld} (hf : f.PassesBy) (n k : Nat) : f.addr n k ≠ MK_POS.addr := by
  rcases hf with hf | ⟨h2, hf⟩
  · rw [Fld.addr, Nat.add_assoc]
    exact (hf.trans_le (Nat.le_add_right _ _)).ne'
  · intro e
    rw [← e, Fld.addr, h2, Nat.zero_mul, Nat.add_zero, Nat.add_mul_mod_self_left] at hf
    exact hf rfl

theorem intSt_passesBy (b : IntBlk) : (intSt b).PassesBy := by cases b <;> decide

/-- What leads from s to t leaves MK000_POS. -/
def KeepsMark (s t : State) : Prop := t.rd MK_POS.addr = s.rd MK_POS.addr

namespace KeepsMark

variable {s₀ s : State}

/-! Updates of the state -/

theorem wrAt (h : KeepsMark s₀ s) {a : Nat} (w : Word) (ha : a ≠ MK_POS.addr) : KeepsMark s₀ (s.wr a w) := (State.rd_wr_ne _ _ _ _ ha).trans h

theorem wr (h : KeepsMark s₀ s) (f : Fld) (w : Word) (n k : Nat) (hf : f.PassesBy := by decide) : KeepsMark s₀ (s.wr (f.addr n k) w) := h.wrAt w (hf.addr_ne n k)

theorem setFld (h : KeepsMark s₀ s) (f : Fld) (v n k : Nat) (hf : f.PassesBy := by decide) : KeepsMark s₀ (s.setFld f v n k) := h.wr f _ n k hf

theorem setFldAt (h : KeepsMark s₀ s) (f : Fld) (v n k : Nat) (hf : f.addr n k ≠ MK_POS.addr) : KeepsMark s₀ (s.setFld f v n k) := h.wrAt _ hf

theorem setFlag (h : KeepsMark s₀ s) (f : Fld) (b : Bool) (n k : Nat) (hf : f.PassesBy := by decide) : KeepsMark s₀ (s.setFlag f b n k) := h.wr f _ n k hf

theorem bump (h : KeepsMark s₀ s) (f : Fld) (n k : Nat) (hf : f.PassesBy := by decide) : KeepsMark s₀ (s.bump f n k) := h.wr f _ n k hf

theorem setBankBit (h : KeepsMark s₀ s) (f : Fld) (i : Nat) (b : Bool) (hf : f.addr (i / 32) ≠ MK_POS.addr) : KeepsMark s₀ (s.setBankBit f i b) := h.wrAt _ hf

theorem hwSet (h : KeepsMark s₀ s) {a : Nat} (m : Word) (ha : a ≠ MK_POS.addr) : KeepsMark s₀ (s.hwSet a m) := (tget_tput_ne _ _ _ ha).trans h

theorem hwFlag (h : KeepsMark s₀ s) (f : Fld) (n k : Nat) (hf : f.PassesBy := by decide) : KeepsMark s₀ (s.hwFlag f n k) := h.hwSet _ (hf.addr_ne n k)

theorem setStr (h : KeepsMark s₀ s) (n : Nat) (x : Strm) : KeepsMark s₀ (s.setStr n x) := h
theorem setCls (h : KeepsMark s₀ s) (n : Nat) (x : Cls) : KeepsMark s₀ (s.setCls n x) := h
theorem setHsk (h : KeepsMark s₀ s) (n : Nat) (x : Husk) : KeepsMark s₀ (s.setHsk n x) := h
theorem setPd (h : KeepsMark s₀ s) (n : Nat) (x : Pad) : KeepsMark s₀ (s.setPd n x) := h
theorem setCh (h : KeepsMark s₀ s) (n : Nat) (x : Chan) : KeepsMark s₀ (s.setCh n x) := h
theorem setTask (h : KeepsMark s₀ s) (n : Nat) (x : List TaskEnt) : KeepsMark s₀ (s.setTask n x) := h
theorem setKn (h : KeepsMark s₀ s) (n : Nat) (x : Knk) : KeepsMark s₀ (s.setKn n x) := h
theorem setTm (h : KeepsMark s₀ s) (n : Nat) (x : Tmr) : KeepsMark s₀ (s.setTm n x) := h
theorem setGx (h : KeepsMark s₀ s) (n : Nat) (x : GwCtx) : KeepsMark s₀ (s.setGx n x) := h
theorem setFco (h : KeepsMark s₀ s) (x : Fco) : KeepsMark s₀ (s.setFco x) := h
theorem setAsk (h : KeepsMark s₀ s) (fn i : Nat) (d : Option Nat) : KeepsMark s₀ (s.setAsk fn i d) := h
theorem switched (h : KeepsMark s₀ s) (x : Table Bool) : KeepsMark s₀ { s with switched := x } := h
theorem jrnAsks (h : KeepsMark s₀ s) (q : Option JrnReq) (n : Nat) : KeepsMark s₀ { s with jrnReq := q, jrnHandle := n } := h
theorem fresh (h : KeepsMark s₀ s) (b : Nat) : KeepsMark s₀ (s.fresh b).2 := h
theorem emptied (h : KeepsMark s₀ s) : KeepsMark s₀ { s with due := [] } := h
theorem emit (h : KeepsMark s₀ s) (e : Emit) : KeepsMark s₀ (s.emit e) := h
theorem raiseFault (h : KeepsMark s₀ s) (src data : Nat) : KeepsMark s₀ (s.raiseFault src data) := h
theorem send (h : KeepsMark s₀ s) (x : Sent) : KeepsMark s₀ (s.send x) := h

theorem ite {c : Prop} [Decidable c] {a b : State} (ha : KeepsMark s₀ a) (hb : KeepsMark s₀ b) : KeepsMark s₀ (if c then a else b) := by
  split <;> assumption

theorem when (h : KeepsMark s₀ s) (b : Bool) (f : State → State) (hf : ∀ t, KeepsMark s₀ t → KeepsMark s₀ (f t)) : KeepsMark s₀ (s.when b f) := ite (hf _ h) h

theorem each {α : Type} (h : KeepsMark s₀ s) (l : List α) (f : State → α → State) (hf : ∀ t a, KeepsMark s₀ t → KeepsMark s₀ (f t a)) :
    KeepsMark s₀ (s.each l f) := by
  induction l generalizing s with
  | nil => exact h
  | cons a l ih => exact ih (hf _ _ h)

theorem setCauses (h : KeepsMark s₀ s) (b : IntBlk) (n m : Nat) : KeepsMark s₀ (s.setCauses b n m) := by
  obtain ⟨r, d, e, hr, -⟩ := s.setCauses_spec b n m
  rw [e]
  refine (hr _ ((intSt_passesBy b).addr_ne n 0) fun k hk => ?_).trans h
  simp only [Fld.addr, IRT_PEND, MK_POS]
  omega

theorem cause (h : KeepsMark s₀ s) (b : IntBlk) (f : Fld) (n : Nat) : KeepsMark s₀ (s.cause b f n) := h.setCauses b n _

theorem whenBump (h : KeepsMark s₀ s) (b : Bool) (f : Fld) (n k : Nat) (hf : f.PassesBy := by decide) : KeepsMark s₀ (s.when b fun s => s.bump f n k) :=
  h.when b _ fun _ ht => ht.bump f n k hf

theorem whenCause (h : KeepsMark s₀ s) (b : Bool) (k : IntBlk) (f : Fld) (n : Nat) : KeepsMark s₀ (s.when b fun s => s.cause k f n) :=
  h.when b _ fun _ ht => ht.cause k f n

theorem request (h : KeepsMark s₀ s) (fn i : Nat) : KeepsMark s₀ (s.request fn i) := ite h h

/-! The Husk -/

theorem markAct (h : KeepsMark s₀ s) (c m : Nat) : KeepsMark s₀ (s.markAct c m) := by
  unfold State.markAct
  split
  · exact h
  · exact h.setCh _ _

theorem hskCounter_passesBy (cause : Nat) : (hskCounter cause).PassesBy := by
  unfold hskCounter
  repeat' split
  all_goals decide

theorem huskAct (h : KeepsMark s₀ s) (c cause : Nat) (suppr : Bool) (t : Nat) : KeepsMark s₀ (s.huskAct c cause suppr t) :=
  (((((((h.wr _ _ _ _).wr _ _ _ _).wr _ _ _ _).bump _ _ _ (hskCounter_passesBy cause)).emit _).when _ _ fun _ ht => ht.raiseFault _ _).setCauses _ _ _).markAct _ _

theorem pinOff (h : KeepsMark s₀ s) (c t : Nat) : KeepsMark s₀ (s.pinOff c t) := ((h.setHsk c _).setFld HSK_STAT_OUT 0 c 0).setPd c _

theorem padState (h : KeepsMark s₀ s) (c st : Nat) : KeepsMark s₀ (s.padState c st) := (h.setFld PAD_STAT_STATE st c 0).setPd c _

theorem huskCheck (h : KeepsMark s₀ s) (c at_ : Nat) : KeepsMark s₀ (s.huskCheck c at_) :=
  ite h ((h.when _ _ fun _ ht => (ht.pinOff _ _).huskAct _ _ _ _).when _ _ fun _ ht => ht.setFld _ _ _ _)

theorem huskCheckAll (h : KeepsMark s₀ s) (cs : List Nat) (at_ : Nat) : KeepsMark s₀ (s.huskCheckAll cs at_) := h.each _ _ fun _ _ ht => ht.huskCheck _ _

theorem huskFall (h : KeepsMark s₀ s) (c t : Nat) : KeepsMark s₀ (s.huskFall c t) := (h.when _ _ fun _ ht => ht.pinOff _ _).setFld _ _ _ _

/-! The scheduler's part of a retirement -/

theorem injLearn (h : KeepsMark s₀ s) (c : Nat) (e : Ev) (o fl : Nat) : KeepsMark s₀ (s.injLearn c e o fl) := by
  refine ite h ?_
  split
  · exact ite ((((h.setFld _ _ _ _).setFld _ _ _ _).cause _ _ _).request _ _) ((h.setFld _ _ _ _).setFld _ _ _ _)
  · exact h.bump _ _ _

theorem outcome (h : KeepsMark s₀ s) (c : Nat) (e : Ev) (o fl : Nat) (st : Option (Nat × Nat)) (dur : Nat) : KeepsMark s₀ (s.outcome c e o fl st dur) := by
  have freed : KeepsMark s₀ s.freeSlot := h.setFld _ _ _ _
  have counted := fun b1 b2 b3 b4 b5 => ((((freed.whenBump b1 CH_CNT0_OVERLAP c 0).whenBump b2 CH_CNT0_SKIPPED c 0).whenBump b3
    CH_CNT1_CATCHUP c 0).whenBump b4 CH_CNT1_MINEXT c 0).whenBump b5 CH_CNT1_MAXCUT c 0
  have shown := fun b1 b2 b3 b4 b5 w0 w1 w2 w3 => ((((counted b1 b2 b3 b4 b5).wr CH_RPT0 w0 c 0).wr CH_RPT1 w1 c 0).wr CH_RPT2 w2 c 0).wr CH_RPT3 w3 c 0
  exact (((((shown _ _ _ _ _ _ _ _ _).when _ _ fun _ ht => (ht.emit _).emit _).whenCause _ _ _ _).whenCause _ _ _ _).whenCause _ _ _ _).whenCause _ _ _ _

theorem endActive (h : KeepsMark s₀ s) (c fl t : Nat) : KeepsMark s₀ (s.endActive c fl t) := by
  unfold State.endActive
  split
  · exact h
  · exact ((((((h.when _ _ fun _ ht => ht.huskFall _ _).injLearn _ _ _ _).setCh _ _).setHsk _ _).setFld _ _ _ _).setFld _ _ _ _).outcome _ _ _ _ _ _

theorem forceEnd (h : KeepsMark s₀ s) (c fl : Nat) : KeepsMark s₀ (s.forceEnd c fl) := by
  unfold State.forceEnd
  split
  · exact h
  · exact ite h (h.endActive _ _ _)

theorem discard (h : KeepsMark s₀ s) (c o : Nat) : KeepsMark s₀ (s.discard c o) :=
  ((h.setCh _ _).setFld CH_CMD_FLUSH 1 c 0).each _ _ fun _ _ ht => ht.outcome _ _ _ _ _ _

theorem retireSched (h : KeepsMark s₀ s) (c : Nat) : KeepsMark s₀ (s.retireSched c) :=
  KeepsMark.forceEnd (KeepsMark.discard (h.setFld CH_EPOCH _ c 0) _ _) _ _

end KeepsMark

end Sys2Proof.Machine
end

section
/-! SUPPORT. MK000_POS through the collector and the classifier (R356, R357, R362, R363). -/

set_option Elab.async false

namespace Sys2Proof.Machine

namespace KeepsMark

variable {s₀ s : State}

/-- The first 1024 words of a family of the collector lie below the marks. -/
theorem word_ne {f : Fld} {i : Nat} (hi : i < 1024) (hf : f.base + 4096 ≤ MK_POS.addr ∧ f.st1 = 4 ∧ f.st2 = 0 := by decide) : f.addr i ≠ MK_POS.addr := by
  obtain ⟨hb, h1, h2⟩ := hf
  rw [Fld.addr, h1, h2]
  omega

theorem fnSettle (h : KeepsMark s₀ s) (fn : Nat) : KeepsMark s₀ (s.fnSettle fn) := ite (((h.setFld _ _ _ _).setFld _ _ _ _).switched _) h

theorem switchInst (h : KeepsMark s₀ s) (fn k : Nat) : KeepsMark s₀ (s.switchInst fn k) := ite ((h.switched _).fnSettle fn) h

theorem logFault (h : KeepsMark s₀ s) (kind react src data : Nat) : KeepsMark s₀ (s.logFault kind react src data) :=
  (ite (h.setFco _) ((h.hwFlag _ _ _).cause _ _ _)).emit _

theorem logOther (h : KeepsMark s₀ s) (kind src : Nat) : KeepsMark s₀ (s.logOther kind src) := (h.fresh 3).logFault _ _ _ _

theorem setLatch (h : KeepsMark s₀ s) (i src : Nat) : KeepsMark s₀ (s.setLatch i src) :=
  ((ite ((h.setFco _).setFld _ _ _ _) ((h.setFco _).when _ _ fun _ ht => ht.setFld _ _ _ _)).whenBump _ _ _ _).cause _ _ _

theorem aliveUpdate (h : KeepsMark s₀ s) : KeepsMark s₀ s.aliveUpdate :=
  ite h (ite (((h.setFld _ _ _ _).setFld _ _ _ _).setFco _) (h.setFld _ _ _ _))

theorem setBucket (h : KeepsMark s₀ s) {c : Nat} (hc : c < 128) (b : Nat) : KeepsMark s₀ (s.setBucket c b) := ite h ((h.setFldAt _ _ _ _ (word_ne (by omega))).setCls _ _)

theorem retire (h : KeepsMark s₀ s) {c : Nat} (hc : c < 128) (src : Nat) : KeepsMark s₀ (s.retire c src) := by
  have marked := ((h.setBankBit FCO_RET c true (word_ne (by omega))).setFldAt FCO_BKT_CSTATE csRetired c 0 (word_ne (by omega))).setBankBit FCO_RREQ c false (word_ne (by omega))
  refine ite h ?_
  exact (((((((marked.setAsk _ _ _).when _ _ fun _ ht => ht.padState _ _).setFld _ _ _ _).setPd _ _).bump _ _ _).cause _ _ _).huskCheck _ _ |>.retireSched _).logOther _ _

theorem startCool (h : KeepsMark s₀ s) {c : Nat} (hc : c < 128) : KeepsMark s₀ (s.startCool c) :=
  ((((h.switchInst _ _).setBankBit FCO_RREQ c false (word_ne (by omega))).setAsk _ _ _).setFldAt _ _ _ _ (word_ne (by omega))).setCls _ _

theorem upsetCount (h : KeepsMark s₀ s) {c : Nat} (hc : c < 128) (therm : Bool) : KeepsMark s₀ (s.upsetCount c therm) := ite (h.setCls _ _) ((h.setCls _ _).setBucket hc _)

theorem upsetAct (h : KeepsMark s₀ s) {c : Nat} (hc : c < 128) : KeepsMark s₀ (s.upsetAct c) := ite h (ite (h.retire hc _) (h.startCool hc))

end KeepsMark

/-- The affected channel of a raise is one of the 128 (R356). -/
theorem Raise.channel_lt {r : Raise} {c : Nat} (h : r.channel = some c) : c < 128 := by
  unfold Raise.channel at h
  split at h
  · have e := Option.some.inj h
    omega
  · split at h
    · have e := Option.some.inj h
      omega
    · cases h

/-- A source that is not reserved is one of the 384 (R358). -/
theorem src_lt_of_not_reserved {k : Nat} (h : ¬srcReserved k = true) : k < 384 := by
  by_contra hk
  have high : decide (384 ≤ k) = true := decide_eq_true (by omega)
  exact h (by rw [srcReserved, high, Bool.or_true])

namespace KeepsMark

variable {s₀ s : State}

/-- The latches of a reaction, and the Husks that see them (R356, R371). -/
theorem latches (h : KeepsMark s₀ s) {p q : Prop} [Decidable p] [Decidable q] (src : Nat) (l gs l' : List Nat) (t t' : Nat) :
    KeepsMark s₀ (if p then (s.setLatch 16 src).huskCheckAll l t else if q then (s.each gs fun s g => s.setLatch g src).huskCheckAll l' t' else s) :=
  ite ((h.setLatch _ _).huskCheckAll _ _) (ite ((h.each _ _ fun _ _ ht => ht.setLatch _ _).huskCheckAll _ _) h)

/-- The interrupt cause of a reaction (R356). -/
theorem causes (h : KeepsMark s₀ s) {p q : Prop} [Decidable p] [Decidable q] (b : IntBlk) (f g : Fld) :
    KeepsMark s₀ (if p then s.cause b f else if q then s.cause b g else s) := ite (h.cause _ _ _) (ite (h.cause _ _ _) h)

theorem collect (h : KeepsMark s₀ s) (r : Raise) : KeepsMark s₀ (s.collect r) := by
  unfold State.collect
  split
  · exact h
  next hr =>
    have hsrc := src_lt_of_not_reserved hr
    have pended {t : State} (ht : KeepsMark s₀ t) : KeepsMark s₀ (t.hwBank FCO_PEND r.src) := ht.hwSet _ (word_ne (by omega))
    refine ite (h.setFco _) (KeepsMark.aliveUpdate ?_)
    cases hc : r.channel with
    | none => exact (((pended ((h.setFco _).setFco _)).latches _ _ _ _ _ _).causes _ _ _).when _ _ fun _ ht => ht.logFault _ _ _ _
    | some c =>
      have hc := Raise.channel_lt hc
      refine ite (KeepsMark.upsetAct ?_ hc) (KeepsMark.when ?_ _ _ fun _ ht => ht.retire hc _)
      all_goals exact ((((pended ((h.setFco _).setFco _)).latches _ _ _ _ _ _).causes _ _ _).when _ _ fun _ ht => ht.upsetCount hc _).when _ _ fun _ ht => ht.logFault _ _ _ _

end KeepsMark

end Sys2Proof.Machine
end

section
/-! SUPPORT. MK000_POS through the rest of the end of a command: the journal, the task inputs with their consumers, and the gateway (R166, R324, R346). -/

set_option Elab.async false

namespace Sys2Proof.Machine

namespace KeepsMark

variable {s₀ s : State}

/-! The journal -/

theorem loseRec (h : KeepsMark s₀ s) (j ty : Nat) : KeepsMark s₀ (s.loseRec j ty) :=
  ite ((((h.setStr _ _).bump _ _ _).raiseFault _ _).cause _ _ _) ((h.setStr _ _).bump _ _ _)

theorem acceptUp (h : KeepsMark s₀ s) (j : Nat) (r : Rec) : KeepsMark s₀ (s.acceptUp j r) := by
  refine ite (h.loseRec _ _) ?_
  split
  · exact h.setStr _ _
  · exact ite (h.setStr _ _) (h.loseRec _ _)

theorem acceptRec (h : KeepsMark s₀ s) (r : Rec) : KeepsMark s₀ (s.acceptRec r) := by
  refine ite h ?_
  split
  · exact h.bump _ _ _
  · exact ite (h.acceptUp _ _) (ite (h.loseRec _ _) (h.bump _ _ _))

theorem jrecAsk (h : KeepsMark s₀ s) (j : Nat) : KeepsMark s₀ (s.jrecAsk j) := by
  unfold State.jrecAsk
  split
  · refine ite ?_ h
    exact (((((((h.jrnAsks _ _).setFld _ _ _ _).setFld _ _ _ _).setFld _ _ _ _).setFld _ _ _ _).setFld _ _ _ _).cause _ _ _).request _ _
  · exact h

theorem jrecScan (h : KeepsMark s₀ s) : KeepsMark s₀ s.jrecScan := h.each _ _ fun _ _ ht => ht.jrecAsk _

/-! Task inputs -/

theorem taskPend (h : KeepsMark s₀ s) (i : Nat) : KeepsMark s₀ (s.taskPend i) :=
  ite (h.setFld _ _ _ _) (ite (h.setFld _ _ _ _) (ite (h.setFld _ _ _ _) (h.setFld _ _ _ _)))

theorem taskOvf (h : KeepsMark s₀ s) (i : Nat) : KeepsMark s₀ (s.taskOvf i) :=
  ite ((h.hwFlag _ _ _).cause _ _ _) (ite (h.hwFlag _ _ _) (ite (h.hwFlag _ _ _) ((h.hwFlag _ _ _).cause _ _ _)))

theorem taskPulse (h : KeepsMark s₀ s) (src : Nat) (cu : Bool) : KeepsMark s₀ (s.taskPulse src cu) :=
  h.each _ _ fun _ _ ht => ite (ite (ht.taskOvf _) ((ht.setTask _ _).taskPend _)) ht

theorem taskClear (h : KeepsMark s₀ s) (i : Nat) : KeepsMark s₀ (s.taskClear i) := (h.setTask _ _).taskPend _

theorem taskTake (h : KeepsMark s₀ s) {i : Nat} {e : TaskEnt} {b : Bool} {t : State} (ht : s.taskTake i = some (e, b, t)) : KeepsMark s₀ t := by
  unfold State.taskTake at ht
  split at ht
  · cases ht
  · split at ht <;> cases ht <;> exact (h.setTask _ _).taskPend _

/-! Timers -/

theorem tmrHolds (h : KeepsMark s₀ s) (g : Nat) : KeepsMark s₀ (s.tmrHolds g) := by
  refine h.each _ _ fun _ _ ht => ite ht ?_
  dsimp only
  split
  · exact ht.setTm _ _
  · exact ht.setTm _ _
  · exact ht

theorem pscRestart (h : KeepsMark s₀ s) (t : Nat) : KeepsMark s₀ (s.pscRestart t) := h.setTm _ _

theorem tmrStart (h : KeepsMark s₀ s) (t : Nat) : KeepsMark s₀ (s.tmrStart t) := ite h (((h.setFld _ _ _ _).setTm _ _).pscRestart _)

theorem tmrCompare (h : KeepsMark s₀ s) (t : Nat) (chg : Bool) : KeepsMark s₀ (s.tmrCompare t chg) :=
  ite (h.setTm _ _) (((((h.setTm _ _).setFlag _ _ _ _).tmrHolds _).cause _ _ _).emit _)

theorem tmrPass (h : KeepsMark s₀ s) (t : Nat) : KeepsMark s₀ (s.tmrPass t) := (h.setTm _ _).setFlag _ _ _ _

theorem tmrOneshot (h : KeepsMark s₀ s) (t : Nat) : KeepsMark s₀ (s.tmrOneshot t) := ite (((h.setTm _ _).setFld TMR_STAT_RUN 0 t 0).taskClear _) h

theorem tmrTick (h : KeepsMark s₀ s) (t : Nat) : KeepsMark s₀ (s.tmrTick t) :=
  ite (((((h.wr _ _ _ _).tmrPass _).cause _ _ _).tmrCompare _ _).tmrOneshot _) ((h.wr _ _ _ _).tmrCompare _ _)

theorem tmrReset (h : KeepsMark s₀ s) (t : Nat) : KeepsMark s₀ (s.tmrReset t) := (((h.setTm _ _).wr _ _ _ _).pscRestart _).tmrCompare _ _

theorem tmrDue (h : KeepsMark s₀ s) (t : Nat) : KeepsMark s₀ (s.tmrDue t) := ite ((h.setTm _ _).tmrTick _) h

theorem tmrTake (h : KeepsMark s₀ s) (t : Nat) : KeepsMark s₀ (s.tmrTake t) := by
  unfold State.tmrTake
  dsimp only
  split
  next _ ov u _ take =>
    have taken (x : Tmr) : KeepsMark s₀ ((u.when ov fun s => s.hwFlag TMR_STAT_OVERLAP t).setTm t x) :=
      ((h.taskTake take).when _ _ fun _ hv => hv.hwFlag _ _ _).setTm _ _
    exact ite (ite ((taken _).tmrStart _) (ite ((taken _).tmrReset _) (ite (taken _) ((taken _).tmrTick _)))) h
  · exact h

theorem tmrCapture (h : KeepsMark s₀ s) (t stamp : Nat) : KeepsMark s₀ (s.tmrCapture t stamp) := by
  refine ite h (ite (h.setTm _ _) ?_)
  have stepped {p : Prop} [Decidable p] (b : Bool) : KeepsMark s₀ (if p then s else (s.when b fun s => s.tmrTake t).tmrDue t) :=
    ite h ((h.when _ _ fun _ ht => ht.tmrTake _).tmrDue _)
  exact ((((((((stepped _).wr _ _ _ _).wr _ _ _ _).setFld _ _ _ _).when _ _ fun _ ht => ht.hwFlag _ _ _).setTm _ _).cause _ _ _).when _ _ fun _ ht => ht.tmrReset _)

theorem capPulse (h : KeepsMark s₀ s) (src : Nat) : KeepsMark s₀ (s.capPulse src) := h.each _ _ fun _ _ ht => ite (ht.tmrCapture _ _) ht

/-! Knock front ends -/

theorem knkClose (h : KeepsMark s₀ s) (k t fl : Nat) : KeepsMark s₀ (s.knkClose k t fl) := by
  unfold State.knkClose
  dsimp only
  split
  · exact h
  · exact (h.setKn _ _).setFld _ _ _ _

theorem knockClose (h : KeepsMark s₀ s) (k : Nat) : KeepsMark s₀ (s.knockClose k) := by
  have stray {p : Prop} [Decidable p] : KeepsMark s₀ (if p then s else s.bump KNK_CNT_STRAYCL k) := ite h (h.bump _ _ _)
  unfold State.knockClose
  dsimp only
  split
  · exact ite (h.knkClose _ _ _) stray
  · exact stray

theorem knockPulse (h : KeepsMark s₀ s) (src : Nat) : KeepsMark s₀ (s.knockPulse src) := h.each _ _ fun _ _ ht => ite (ht.knockClose _) ht

theorem pulseAll (h : KeepsMark s₀ s) (src : Nat) (cu : Bool) : KeepsMark s₀ (s.pulseAll src cu) := ((h.taskPulse src cu).knockPulse src).capPulse src

/-! The gateway -/

theorem gwUdp (h : KeepsMark s₀ s) (x p : Nat) (m : List Nat) : KeepsMark s₀ (s.gwUdp x p m) := by
  unfold State.gwUdp
  split
  · exact h.send _
  · exact h

theorem gwRing (h : KeepsMark s₀ s) (x : Nat) (m : List Nat) : KeepsMark s₀ (s.gwRing x m) := (h.setGx _ _).when _ _ fun _ ht => ht.send _

theorem gwSend (h : KeepsMark s₀ s) (x ty token port : Nat) (body : List Nat) : KeepsMark s₀ (s.gwSend x ty token port body) := by
  unfold State.gwSend
  split
  · exact ite h (((h.setFld _ _ _ _).each _ _ fun _ _ ht => ht.gwUdp _ _ _).when _ _ fun _ ht => ht.gwRing _ _)
  · exact h

theorem gwKeep (h : KeepsMark s₀ s) (x token ty : Nat) (body : List Nat) : KeepsMark s₀ (s.gwKeep x token ty body) := (h.setGx _ _).setFld _ _ _ _

theorem gwComplete (h : KeepsMark s₀ s) (x token port status fl idx : Nat) (l : List Nat) : KeepsMark s₀ (s.gwComplete x token port status fl idx l) :=
  (h.gwKeep _ _ _ _).gwSend _ _ _ _ _

theorem gwReport (h : KeepsMark s₀ s) (r : Report) : KeepsMark s₀ (s.gwReport r) := ite h ((h.gwKeep _ _ _ _).gwSend _ _ _ _ _)

theorem gwAsk (h : KeepsMark s₀ s) (fn i : Nat) : KeepsMark s₀ (s.gwAsk fn i) := h.each _ _ fun _ _ ht => (ht.gwKeep _ _ _ _).gwSend _ _ _ _ _

theorem gwPublish (h : KeepsMark s₀ s) (x : Nat) : KeepsMark s₀ (s.gwPublish x) := ite (h.setGx _ _) ((h.setGx _ _).gwSend _ _ _ _ _)

theorem gwResult (h : KeepsMark s₀ s) (i : Nat) (l : List Nat) : KeepsMark s₀ (s.gwResult i l) :=
  h.each _ _ fun _ _ ht => (ht.setGx _ _).when _ _ fun _ hu => hu.gwPublish _

theorem gwFinish (h : KeepsMark s₀ s) (x : Nat) (o : GwOp) (status idx : Nat) (l : List Nat) : KeepsMark s₀ (s.gwFinish x o status idx l) :=
  ((h.setGx x _).setFld CTX_QSTAT_CMDLVL _ x 0).gwComplete _ _ _ _ _ _ _

theorem gwPosted (h : KeepsMark s₀ s) (x w : Nat) : KeepsMark s₀ (s.gwPosted x w) := by
  unfold State.gwPosted
  split
  · exact h
  · refine ite h (ite (h.setGx _ _) ?_)
    split
    · exact h.gwFinish _ _ _ _ _
    · exact h.gwFinish _ _ _ _ _

/-! The end of a command -/

theorem settleRound (h : KeepsMark s₀ s) : KeepsMark s₀ s.settleRound := by
  have handed := (((h.emptied.each (sortRaises (dueFaults s.due)) _ fun _ r ht => ht.collect r).each (dueLatches s.due) _ fun t c ht => ht.huskCheck c t.now).each
    (sortRecs (dueRecs s.due)) _ fun _ r ht => ht.acceptRec r).each ((duePulses s.due).foldl (fun acc p => insertPulse p acc) []) _ fun _ p ht => ht.pulseAll p.1 p.2
  have sent := (handed.each (dueAsks s.due) _ fun _ p ht => ht.gwAsk p.1 p.2).each (dueReports s.due) _ fun _ r ht => ht.gwReport r
  exact ((sent.each (dueResults s.due) _ fun _ p ht => ht.gwResult p.1 p.2).each (duePosted s.due) _ fun _ p ht => ht.gwPosted p.1 p.2).jrecScan

theorem settleN (h : KeepsMark s₀ s) (n : Nat) : KeepsMark s₀ (s.settleN n) := by
  induction n generalizing s with
  | zero => exact h
  | succ n ih => exact ite h (ih h.settleRound)

theorem settle (h : KeepsMark s₀ s) : KeepsMark s₀ s.settle := h.settleN _

end KeepsMark

end Sys2Proof.Machine
end

section
/-! PROOFS. The statement about the marks and boundaries fails. A write that R101 refuses gives the writing core an access fault; in an emergency that is a double trap, which returns the
nested sources of the pair to PENDING (R295, R304). The statement asks nothing of a nesting stack, and the PENDING bit of a source beyond those of the router (R31) may lie in MK000_POS. -/

set_option Elab.async false

namespace Sys2Proof.Machine

/-- Nothing that a command has emitted changes MK000_POS when it is handed over. -/
theorem State.rd_markPos_settle (s : State) : s.settle.rd MK_POS.addr = s.rd MK_POS.addr := KeepsMark.settle rfl

/-- The image is LOADED, context 0 has every capability and the grant of channel 0, which owns mark 0 (R102), and pair 0 runs in an emergency. Its nesting stack holds a source that the
router does not have: its PENDING bit is bit 0 of MK000_POS. -/
def strayNest : State :=
  let s := (State.reset.setFld IMG_STATUS_STATE isLoaded).setFld CPC_CPSTAT_STATE cpRunning
  let s := (s.wr (CTX_CAP.addr 0) 0xFFFFFFFF).wr (CTX_CHG.addr 0 0) 0xFFFFFFFF
  (s.setCore 0 { Core.zero with emerg := true }).setNest 0 [((MK_POS.addr - IRT_PEND.addr) / 4 * 32, 0)]

/-- A position at the span of the tracker, which no mark can have (R101). -/
def farPos : Word := BitVec.ofNat 32 revAu

theorem strayNest_admits : strayNest.Admits (.cp 0) MK_POS.addr true farPos := by decide +kernel

theorem strayNest_span : strayNest.span (strayNest.fld MK_CFG_TRK 0) ≤ bitsOf farPos 0 22 := by decide +kernel

/-- The double trap that the refused write ends in sets the bit. -/
theorem strayNest_fault : (strayNest.guard (.cp 0) MK_POS.addr true farPos fun s => s.mkPosWrite 0 farPos).rd MK_POS.addr ≠ strayNest.rd MK_POS.addr := by decide +kernel

/-- Refutes O16: in `strayNest`, core 0 writes a position at the span to mark 0. The double trap that follows changes MK000_POS before anything is handed over, and the end of the command
leaves that register (`State.rd_markPos_settle`), so no state that settles to the outcome has MK000_POS as it was. -/
theorem not_marksAndBoundaries : ¬ Obligations.MarksAndBoundaries := by
  unfold Obligations.MarksAndBoundaries
  rintro ⟨writes, -⟩
  obtain ⟨-, refused, -⟩ := writes strayNest (.cp 0) 0 farPos rfl strayNest_admits
  obtain ⟨x, hx, -, pos, -⟩ := refused strayNest_span
  let y := strayNest.guard (.cp 0) MK_POS.addr true farPos fun s => s.mkPosWrite 0 farPos
  have hy : exec (.mkPosWrite (.cp 0) 0 farPos) strayNest = .next y.settle := rfl
  have same : y.settle = x.settle := Host.Outcome.next.inj (hy.symm.trans hx)
  refine strayNest_fault ?_
  calc y.rd MK_POS.addr = y.settle.rd MK_POS.addr := y.rd_markPos_settle.symm
    _ = x.settle.rd MK_POS.addr := by rw [same]
    _ = x.rd MK_POS.addr := x.rd_markPos_settle
    _ = strayNest.rd MK_POS.addr := pos

end Sys2Proof.Machine
end

section
/-! SUPPORT. The end of a command flags the active event of a channel only where the channel's Husk has turned its pin off before (R176, R184, R186), whatever has been emitted: the updates of
the state, the Husk, the scheduler's part of a retirement and the collector. -/

namespace Sys2Proof.Machine

/-- As long as the Husk of channel `c₀` has never turned its pin off, the channel's active event carries no report flag. -/
def FlagsAfterOff (c₀ : Nat) (s : State) : Prop := ∀ a, (s.ch c₀).active = some a → (s.hsk c₀).offAt = none → a.flags = 0

/-- A Husk action marks the active event of its channel; what it does before that touches neither the channels nor the Husks (R186). -/
theorem State.huskAct_marks (s : State) (c cause : Nat) (suppr : Bool) (t : Nat) :
    ∃ u : State, s.huskAct c cause suppr t = u.markAct c fHusk ∧ u.chan = s.chan ∧ u.husk = s.husk := by
  refine ⟨_, rfl, ?_, ?_⟩ <;> simp only [State.setCauses_chan, State.setCauses_husk, State.when] <;> split <;> rfl

/-- The off of a pin is its Husk's last off. -/
theorem State.pinOff_offAt (s : State) (c t : Nat) : ((s.pinOff c t).hsk c).offAt = some (padTime c t) :=
  congrArg Husk.offAt (tget_tput_same Husk.zero s.husk c _)

namespace FlagsAfterOff

variable {c₀ : Nat} {s : State}

/-! Updates of the state -/

/-- What touches neither the channels nor the Husks keeps the property. -/
theorem frame {t : State} (h : FlagsAfterOff c₀ s) (hc : t.chan = s.chan := by rfl) (hh : t.husk = s.husk := by rfl) : FlagsAfterOff c₀ t := by
  unfold FlagsAfterOff State.ch State.hsk
  rw [hc, hh]
  exact h

theorem wr (h : FlagsAfterOff c₀ s) (a : Nat) (w : Word) : FlagsAfterOff c₀ (s.wr a w) := h.frame
theorem setFld (h : FlagsAfterOff c₀ s) (f : Fld) (v n j : Nat) : FlagsAfterOff c₀ (s.setFld f v n j) := h.frame
theorem setFlag (h : FlagsAfterOff c₀ s) (f : Fld) (b : Bool) (n j : Nat) : FlagsAfterOff c₀ (s.setFlag f b n j) := h.frame
theorem setSFld (h : FlagsAfterOff c₀ s) (f : Fld) (v : Int) (n j : Nat) : FlagsAfterOff c₀ (s.setSFld f v n j) := h.frame
theorem bump (h : FlagsAfterOff c₀ s) (f : Fld) (n j : Nat) : FlagsAfterOff c₀ (s.bump f n j) := h.frame
theorem setBankBit (h : FlagsAfterOff c₀ s) (f : Fld) (i : Nat) (b : Bool) : FlagsAfterOff c₀ (s.setBankBit f i b) := h.frame
theorem hwFlag (h : FlagsAfterOff c₀ s) (f : Fld) (n j : Nat) : FlagsAfterOff c₀ (s.hwFlag f n j) := h.frame
theorem hwBank (h : FlagsAfterOff c₀ s) (f : Fld) (i : Nat) : FlagsAfterOff c₀ (s.hwBank f i) := h.frame
theorem setStr (h : FlagsAfterOff c₀ s) (n : Nat) (x : Strm) : FlagsAfterOff c₀ (s.setStr n x) := h.frame
theorem setCls (h : FlagsAfterOff c₀ s) (n : Nat) (x : Cls) : FlagsAfterOff c₀ (s.setCls n x) := h.frame
theorem setPd (h : FlagsAfterOff c₀ s) (n : Nat) (x : Pad) : FlagsAfterOff c₀ (s.setPd n x) := h.frame
theorem setTask (h : FlagsAfterOff c₀ s) (n : Nat) (x : List TaskEnt) : FlagsAfterOff c₀ (s.setTask n x) := h.frame
theorem setKn (h : FlagsAfterOff c₀ s) (n : Nat) (x : Knk) : FlagsAfterOff c₀ (s.setKn n x) := h.frame
theorem setTm (h : FlagsAfterOff c₀ s) (n : Nat) (x : Tmr) : FlagsAfterOff c₀ (s.setTm n x) := h.frame
theorem setGx (h : FlagsAfterOff c₀ s) (n : Nat) (x : GwCtx) : FlagsAfterOff c₀ (s.setGx n x) := h.frame
theorem setFco (h : FlagsAfterOff c₀ s) (x : Fco) : FlagsAfterOff c₀ (s.setFco x) := h.frame
theorem setAsk (h : FlagsAfterOff c₀ s) (fn i : Nat) (d : Option Nat) : FlagsAfterOff c₀ (s.setAsk fn i d) := h.frame
theorem switched (h : FlagsAfterOff c₀ s) (x : Table Bool) : FlagsAfterOff c₀ { s with switched := x } := h.frame
theorem jrnAsks (h : FlagsAfterOff c₀ s) (q : Option JrnReq) (n : Nat) : FlagsAfterOff c₀ { s with jrnReq := q, jrnHandle := n } := h.frame
theorem fresh (h : FlagsAfterOff c₀ s) (b : Nat) : FlagsAfterOff c₀ (s.fresh b).2 := h.frame
theorem emptied (h : FlagsAfterOff c₀ s) : FlagsAfterOff c₀ { s with due := [] } := h.frame
theorem emit (h : FlagsAfterOff c₀ s) (e : Emit) : FlagsAfterOff c₀ (s.emit e) := h.frame
theorem raiseFault (h : FlagsAfterOff c₀ s) (src data : Nat) : FlagsAfterOff c₀ (s.raiseFault src data) := h.frame
theorem send (h : FlagsAfterOff c₀ s) (x : Sent) : FlagsAfterOff c₀ (s.send x) := h.frame
theorem padState (h : FlagsAfterOff c₀ s) (c st : Nat) : FlagsAfterOff c₀ (s.padState c st) := h.frame

theorem ite {c : Prop} [Decidable c] {a b : State} (ha : FlagsAfterOff c₀ a) (hb : FlagsAfterOff c₀ b) : FlagsAfterOff c₀ (if c then a else b) := by
  split <;> assumption

theorem when (h : FlagsAfterOff c₀ s) (b : Bool) (f : State → State) (hf : ∀ t, FlagsAfterOff c₀ t → FlagsAfterOff c₀ (f t)) : FlagsAfterOff c₀ (s.when b f) := ite (hf _ h) h

theorem each {α : Type} (h : FlagsAfterOff c₀ s) (l : List α) (f : State → α → State) (hf : ∀ t a, FlagsAfterOff c₀ t → FlagsAfterOff c₀ (f t a)) :
    FlagsAfterOff c₀ (s.each l f) := by
  induction l generalizing s with
  | nil => exact h
  | cons a l ih => exact ih (hf _ _ h)

theorem setCauses (h : FlagsAfterOff c₀ s) (b : IntBlk) (n m : Nat) : FlagsAfterOff c₀ (s.setCauses b n m) := h.frame (by simp) (by simp)

theorem cause (h : FlagsAfterOff c₀ s) (b : IntBlk) (f : Fld) (n : Nat) : FlagsAfterOff c₀ (s.cause b f n) := h.setCauses b n _

theorem whenBump (h : FlagsAfterOff c₀ s) (b : Bool) (f : Fld) (n j : Nat) : FlagsAfterOff c₀ (s.when b fun s => s.bump f n j) := h.when b _ fun _ ht => ht.bump f n j

theorem whenCause (h : FlagsAfterOff c₀ s) (b : Bool) (i : IntBlk) (f : Fld) (n : Nat) : FlagsAfterOff c₀ (s.when b fun s => s.cause i f n) :=
  h.when b _ fun _ ht => ht.cause i f n

/-- A channel's record takes another one with the same active event, or with none. -/
theorem setCh (h : FlagsAfterOff c₀ s) {c : Nat} {x : Chan} (hx : x.active = (s.ch c).active ∨ x.active = none) : FlagsAfterOff c₀ (s.setCh c x) := by
  intro a ha
  change (tget _ (tput _ s.chan c x) c₀).active = some a at ha
  rw [tget_tput] at ha
  split at ha
  next e =>
    subst e
    rcases hx with hx | hx
    · exact h a (hx ▸ ha)
    · exact absurd (hx ▸ ha) (by simp)
  · exact h a ha

/-- A Husk's record takes another one with the same last off, or with a last off. -/
theorem setHsk (h : FlagsAfterOff c₀ s) {c : Nat} {x : Husk} (hx : x.offAt = (s.hsk c).offAt ∨ x.offAt ≠ none) : FlagsAfterOff c₀ (s.setHsk c x) := by
  intro a ha ho
  change (tget _ (tput _ s.husk c x) c₀).offAt = none at ho
  rw [tget_tput] at ho
  split at ho
  next e =>
    subst e
    rcases hx with hx | hx
    · exact h a ha (hx ▸ ho)
    · exact absurd ho hx
  · exact h a ha ho

/-! The Husk -/

theorem pinOff (h : FlagsAfterOff c₀ s) (c t : Nat) : FlagsAfterOff c₀ (s.pinOff c t) :=
  ((h.setHsk (.inr (Option.some_ne_none _))).setFld HSK_STAT_OUT 0 c 0).setPd c _

/-- An event may be marked where the Husk has turned the pin off. -/
theorem markAct (h : FlagsAfterOff c₀ s) {c : Nat} (m : Nat) (off : (s.hsk c).offAt ≠ none) : FlagsAfterOff c₀ (s.markAct c m) := by
  unfold State.markAct
  split
  · exact h
  · intro a ha ho
    change (tget _ (tput _ s.chan c _) c₀).active = some a at ha
    rw [tget_tput] at ha
    split at ha
    next e => exact absurd (e ▸ ho) off
    · exact h a ha ho

theorem huskAct (h : FlagsAfterOff c₀ s) {c : Nat} (cause : Nat) (suppr : Bool) (t : Nat) (off : (s.hsk c).offAt ≠ none) : FlagsAfterOff c₀ (s.huskAct c cause suppr t) := by
  obtain ⟨u, e, hc, hh⟩ := s.huskAct_marks c cause suppr t
  rw [e]
  refine (h.frame hc hh).markAct _ ?_
  rw [State.hsk, hh]
  exact off

/-- A Husk that judges a pin that is on acts after it has turned it off. -/
theorem huskCheck (h : FlagsAfterOff c₀ s) (c at_ : Nat) : FlagsAfterOff c₀ (s.huskCheck c at_) := by
  refine ite h (when (when h _ _ fun u hu => ?_) _ _ fun _ ht => ht.setFld _ _ _ _)
  exact (hu.pinOff c _).huskAct _ _ _ (by rw [u.pinOff_offAt]; exact Option.some_ne_none _)

theorem huskCheckAll (h : FlagsAfterOff c₀ s) (cs : List Nat) (at_ : Nat) : FlagsAfterOff c₀ (s.huskCheckAll cs at_) := h.each _ _ fun _ _ ht => ht.huskCheck _ _

theorem huskFall (h : FlagsAfterOff c₀ s) (c t : Nat) : FlagsAfterOff c₀ (s.huskFall c t) := (h.when _ _ fun _ ht => ht.pinOff _ _).setFld _ _ _ _

/-! The scheduler's part of a retirement -/

theorem request (h : FlagsAfterOff c₀ s) (fn i : Nat) : FlagsAfterOff c₀ (s.request fn i) := ite (h.emit _) ((h.emit _).setAsk _ _ _)

theorem injLearn (h : FlagsAfterOff c₀ s) (c : Nat) (e : Ev) (o fl : Nat) : FlagsAfterOff c₀ (s.injLearn c e o fl) := by
  refine ite h ?_
  split
  · exact ite ((((h.setFld _ _ _ _).setFld _ _ _ _).cause _ _ _).request _ _) ((h.setFld _ _ _ _).setSFld _ _ _ _)
  · exact h.bump _ _ _

theorem outcome (h : FlagsAfterOff c₀ s) (c : Nat) (e : Ev) (o fl : Nat) (st : Option (Nat × Nat)) (dur : Nat) : FlagsAfterOff c₀ (s.outcome c e o fl st dur) := by
  have freed : FlagsAfterOff c₀ s.freeSlot := h.setFld _ _ _ _
  have counted := fun b1 b2 b3 b4 b5 => ((((freed.whenBump b1 CH_CNT0_OVERLAP c 0).whenBump b2 CH_CNT0_SKIPPED c 0).whenBump b3
    CH_CNT1_CATCHUP c 0).whenBump b4 CH_CNT1_MINEXT c 0).whenBump b5 CH_CNT1_MAXCUT c 0
  have shown := fun b1 b2 b3 b4 b5 w0 w1 w2 w3 => ((((counted b1 b2 b3 b4 b5).wr (CH_RPT0.addr c) w0).wr (CH_RPT1.addr c) w1).wr (CH_RPT2.addr c) w2).wr (CH_RPT3.addr c) w3
  exact (((((shown _ _ _ _ _ _ _ _ _).when _ _ fun _ ht => (ht.emit _).emit _).whenCause _ _ _ _).whenCause _ _ _ _).whenCause _ _ _ _).whenCause _ _ _ _

theorem endActive (h : FlagsAfterOff c₀ s) (c fl t : Nat) : FlagsAfterOff c₀ (s.endActive c fl t) := by
  unfold State.endActive
  split
  · exact h
  · refine FlagsAfterOff.outcome (FlagsAfterOff.setFld (FlagsAfterOff.setFld (FlagsAfterOff.setHsk (FlagsAfterOff.setCh ?_ ?_) ?_) _ _ _ _) _ _ _ _) _ _ _ _ _ _
    · exact (h.when _ _ fun _ ht => ht.huskFall _ _).injLearn _ _ _ _
    · exact .inr rfl
    · exact .inl rfl

theorem forceEnd (h : FlagsAfterOff c₀ s) (c fl : Nat) : FlagsAfterOff c₀ (s.forceEnd c fl) := by
  unfold State.forceEnd
  split
  · exact h
  · exact ite h (h.endActive _ _ _)

theorem discard (h : FlagsAfterOff c₀ s) (c o : Nat) : FlagsAfterOff c₀ (s.discard c o) := by
  have emptied := h.setCh (c := c) (x := { s.ch c with queue := [], issued := (s.ch c).fins, armed := none, flushing := true }) (.inl rfl)
  exact (emptied.setFld CH_CMD_FLUSH 1 c 0).each _ _ fun _ _ ht => ht.outcome _ _ _ _ _ _

theorem retireSched (h : FlagsAfterOff c₀ s) (c : Nat) : FlagsAfterOff c₀ (s.retireSched c) := ((h.setFld CH_EPOCH _ c 0).discard _ _).forceEnd _ _

/-! The collector -/

theorem fnSettle (h : FlagsAfterOff c₀ s) (fn : Nat) : FlagsAfterOff c₀ (s.fnSettle fn) := ite (((h.setFld _ _ _ _).setFld _ _ _ _).switched _) h

theorem switchInst (h : FlagsAfterOff c₀ s) (fn i : Nat) : FlagsAfterOff c₀ (s.switchInst fn i) := ite ((h.switched _).fnSettle fn) h

theorem logFault (h : FlagsAfterOff c₀ s) (kind react src data : Nat) : FlagsAfterOff c₀ (s.logFault kind react src data) := by
  obtain ⟨x, r, e, -, -, hp, -⟩ := s.logFault_spec kind react src data
  rw [e]
  exact h.frame (hp .chan (by decide) (by decide)) (hp .husk (by decide) (by decide))

theorem setLatch (h : FlagsAfterOff c₀ s) (i src : Nat) : FlagsAfterOff c₀ (s.setLatch i src) :=
  ((ite ((h.setFco _).setFld _ _ _ _) ((h.setFco _).when _ _ fun _ ht => ht.setFld _ _ _ _)).whenBump _ _ _ _).cause _ _ _

theorem aliveUpdate (h : FlagsAfterOff c₀ s) : FlagsAfterOff c₀ s.aliveUpdate := ite h (ite (((h.setFld _ _ _ _).setFld _ _ _ _).setFco _) (h.setFld _ _ _ _))

theorem setBucket (h : FlagsAfterOff c₀ s) (c b : Nat) : FlagsAfterOff c₀ (s.setBucket c b) := ite h ((h.setFld _ _ _ _).setCls _ _)

theorem retire (h : FlagsAfterOff c₀ s) (c src : Nat) : FlagsAfterOff c₀ (s.retire c src) := by
  have marked := (((h.setBankBit FCO_RET c true).setFld FCO_BKT_CSTATE csRetired c 0).setBankBit FCO_RREQ c false).setAsk fnRetry c none
  refine ite h ?_
  exact (((((((marked.when _ _ fun _ ht => ht.padState _ _).setFld _ _ _ _).setPd _ _).bump _ _ _).cause _ _ _).huskCheck _ _).retireSched _).fresh 3 |>.logFault _ _ _ _

theorem startCool (h : FlagsAfterOff c₀ s) (c : Nat) : FlagsAfterOff c₀ (s.startCool c) := ((((h.switchInst _ _).setBankBit _ _ _).setAsk _ _ _).setFld _ _ _ _).setCls _ _

theorem upsetCount (h : FlagsAfterOff c₀ s) (c : Nat) (therm : Bool) : FlagsAfterOff c₀ (s.upsetCount c therm) := ite (h.setCls _ _) ((h.setCls _ _).setBucket c _)

theorem upsetAct (h : FlagsAfterOff c₀ s) (c : Nat) : FlagsAfterOff c₀ (s.upsetAct c) := ite h (ite (h.retire c _) (h.startCool c))

/-- The latches of a reaction, and the Husks that see them (R356, R371). -/
theorem latches (h : FlagsAfterOff c₀ s) {p q : Prop} [Decidable p] [Decidable q] (src : Nat) (l gs l' : List Nat) (t t' : Nat) :
    FlagsAfterOff c₀ (if p then (s.setLatch 16 src).huskCheckAll l t else if q then (s.each gs fun s g => s.setLatch g src).huskCheckAll l' t' else s) :=
  ite ((h.setLatch _ _).huskCheckAll _ _) (ite ((h.each _ _ fun _ _ ht => ht.setLatch _ _).huskCheckAll _ _) h)

/-- The interrupt cause of a reaction (R356). -/
theorem causes (h : FlagsAfterOff c₀ s) {p q : Prop} [Decidable p] [Decidable q] (b : IntBlk) (f g : Fld) :
    FlagsAfterOff c₀ (if p then s.cause b f else if q then s.cause b g else s) := ite (h.cause _ _ _) (ite (h.cause _ _ _) h)

theorem collect (h : FlagsAfterOff c₀ s) (r : Raise) : FlagsAfterOff c₀ (s.collect r) := by
  refine ite h (ite (h.setFco _) (FlagsAfterOff.aliveUpdate ?_))
  cases r.channel with
  | none => exact (((((h.setFco _).setFco _).hwBank _ _).latches _ _ _ _ _ _).causes _ _ _).when _ _ fun _ ht => ht.logFault _ _ _ _
  | some c =>
    refine ite (FlagsAfterOff.upsetAct ?_ c) (FlagsAfterOff.when ?_ _ _ fun _ ht => ht.retire c _)
    all_goals exact (((((h.setFco _).setFco _).hwBank _ _).latches _ _ _ _ _ _).causes _ _ _).when _ _ (fun _ ht => ht.upsetCount c _) |>.when _ _ fun _ ht => ht.logFault _ _ _ _

end FlagsAfterOff

end Sys2Proof.Machine
end

section
/-! SUPPORT. A report flag only after an off, through the rest of the end of a command: the journal, the task inputs with their consumers, and the gateway (R166, R324, R346). -/

namespace Sys2Proof.Machine

namespace FlagsAfterOff

variable {c₀ : Nat} {s : State}

/-! The journal -/

theorem loseRec (h : FlagsAfterOff c₀ s) (j ty : Nat) : FlagsAfterOff c₀ (s.loseRec j ty) :=
  ite ((((h.setStr _ _).bump _ _ _).raiseFault _ _).cause _ _ _) ((h.setStr _ _).bump _ _ _)

theorem acceptUp (h : FlagsAfterOff c₀ s) (j : Nat) (r : Rec) : FlagsAfterOff c₀ (s.acceptUp j r) := by
  refine ite (h.loseRec _ _) ?_
  split
  · exact h.setStr _ _
  · exact ite (h.setStr _ _) (h.loseRec _ _)

theorem acceptRec (h : FlagsAfterOff c₀ s) (r : Rec) : FlagsAfterOff c₀ (s.acceptRec r) := by
  refine ite h ?_
  split
  · exact h.bump _ _ _
  · exact ite (h.acceptUp _ _) (ite (h.loseRec _ _) (h.bump _ _ _))

theorem jrecAsk (h : FlagsAfterOff c₀ s) (j : Nat) : FlagsAfterOff c₀ (s.jrecAsk j) := by
  unfold State.jrecAsk
  split
  · refine ite ?_ h
    exact (((((((h.jrnAsks _ _).setFld _ _ _ _).setFld _ _ _ _).setFld _ _ _ _).setFld _ _ _ _).setFld _ _ _ _).cause _ _ _).request _ _
  · exact h

theorem jrecScan (h : FlagsAfterOff c₀ s) : FlagsAfterOff c₀ s.jrecScan := h.each _ _ fun _ _ ht => ht.jrecAsk _

/-! Task inputs -/

theorem taskPend (h : FlagsAfterOff c₀ s) (i : Nat) : FlagsAfterOff c₀ (s.taskPend i) :=
  ite (h.setFld _ _ _ _) (ite (h.setFld _ _ _ _) (ite (h.setFld _ _ _ _) (h.setFld _ _ _ _)))

theorem taskOvf (h : FlagsAfterOff c₀ s) (i : Nat) : FlagsAfterOff c₀ (s.taskOvf i) :=
  ite ((h.hwFlag _ _ _).cause _ _ _) (ite (h.hwFlag _ _ _) (ite (h.hwFlag _ _ _) ((h.hwFlag _ _ _).cause _ _ _)))

theorem taskPulse (h : FlagsAfterOff c₀ s) (src : Nat) (cu : Bool) : FlagsAfterOff c₀ (s.taskPulse src cu) :=
  h.each _ _ fun _ _ ht => ite (ite (ht.taskOvf _) ((ht.setTask _ _).taskPend _)) ht

theorem taskClear (h : FlagsAfterOff c₀ s) (i : Nat) : FlagsAfterOff c₀ (s.taskClear i) := (h.setTask _ _).taskPend _

theorem taskTake (h : FlagsAfterOff c₀ s) {i : Nat} {e : TaskEnt} {b : Bool} {t : State} (ht : s.taskTake i = some (e, b, t)) : FlagsAfterOff c₀ t := by
  unfold State.taskTake at ht
  split at ht
  · cases ht
  · split at ht <;> cases ht <;> exact (h.setTask _ _).taskPend _

/-! Timers -/

theorem tmrHolds (h : FlagsAfterOff c₀ s) (g : Nat) : FlagsAfterOff c₀ (s.tmrHolds g) := by
  refine h.each _ _ fun _ _ ht => ite ht ?_
  dsimp only
  split
  · exact ht.setTm _ _
  · exact ht.setTm _ _
  · exact ht

theorem pscRestart (h : FlagsAfterOff c₀ s) (t : Nat) : FlagsAfterOff c₀ (s.pscRestart t) := h.setTm _ _

theorem tmrStart (h : FlagsAfterOff c₀ s) (t : Nat) : FlagsAfterOff c₀ (s.tmrStart t) := ite h (((h.setFld _ _ _ _).setTm _ _).pscRestart _)

theorem tmrCompare (h : FlagsAfterOff c₀ s) (t : Nat) (chg : Bool) : FlagsAfterOff c₀ (s.tmrCompare t chg) :=
  ite (h.setTm _ _) (((((h.setTm _ _).setFlag _ _ _ _).tmrHolds _).cause _ _ _).emit _)

theorem tmrPass (h : FlagsAfterOff c₀ s) (t : Nat) : FlagsAfterOff c₀ (s.tmrPass t) := (h.setTm _ _).setFlag _ _ _ _

theorem tmrOneshot (h : FlagsAfterOff c₀ s) (t : Nat) : FlagsAfterOff c₀ (s.tmrOneshot t) := ite (((h.setTm _ _).setFld TMR_STAT_RUN 0 t 0).taskClear _) h

theorem tmrTick (h : FlagsAfterOff c₀ s) (t : Nat) : FlagsAfterOff c₀ (s.tmrTick t) :=
  ite (((((h.wr _ _).tmrPass _).cause _ _ _).tmrCompare _ _).tmrOneshot _) ((h.wr _ _).tmrCompare _ _)

theorem tmrReset (h : FlagsAfterOff c₀ s) (t : Nat) : FlagsAfterOff c₀ (s.tmrReset t) := (((h.setTm _ _).wr _ _).pscRestart _).tmrCompare _ _

theorem tmrDue (h : FlagsAfterOff c₀ s) (t : Nat) : FlagsAfterOff c₀ (s.tmrDue t) := ite ((h.setTm _ _).tmrTick _) h

theorem tmrTake (h : FlagsAfterOff c₀ s) (t : Nat) : FlagsAfterOff c₀ (s.tmrTake t) := by
  unfold State.tmrTake
  dsimp only
  split
  next _ ov u _ take =>
    have taken (x : Tmr) : FlagsAfterOff c₀ ((u.when ov fun s => s.hwFlag TMR_STAT_OVERLAP t).setTm t x) :=
      ((h.taskTake take).when _ _ fun _ hv => hv.hwFlag _ _ _).setTm _ _
    exact ite (ite ((taken _).tmrStart _) (ite ((taken _).tmrReset _) (ite (taken _) ((taken _).tmrTick _)))) h
  · exact h

theorem tmrCapture (h : FlagsAfterOff c₀ s) (t stamp : Nat) : FlagsAfterOff c₀ (s.tmrCapture t stamp) := by
  refine ite h (ite (h.setTm _ _) ?_)
  have stepped {p : Prop} [Decidable p] (b : Bool) : FlagsAfterOff c₀ (if p then s else (s.when b fun s => s.tmrTake t).tmrDue t) :=
    ite h ((h.when _ _ fun _ ht => ht.tmrTake _).tmrDue _)
  exact ((((((((stepped _).wr _ _).wr _ _).setFld _ _ _ _).when _ _ fun _ ht => ht.hwFlag _ _ _).setTm _ _).cause _ _ _).when _ _ fun _ ht => ht.tmrReset _)

theorem capPulse (h : FlagsAfterOff c₀ s) (src : Nat) : FlagsAfterOff c₀ (s.capPulse src) := h.each _ _ fun _ _ ht => ite (ht.tmrCapture _ _) ht

/-! Knock front ends -/

theorem knkClose (h : FlagsAfterOff c₀ s) (k t fl : Nat) : FlagsAfterOff c₀ (s.knkClose k t fl) := by
  unfold State.knkClose
  dsimp only
  split
  · exact h
  · exact (h.setKn _ _).setFld _ _ _ _

theorem knockClose (h : FlagsAfterOff c₀ s) (k : Nat) : FlagsAfterOff c₀ (s.knockClose k) := by
  have stray {p : Prop} [Decidable p] : FlagsAfterOff c₀ (if p then s else s.bump KNK_CNT_STRAYCL k) := ite h (h.bump _ _ _)
  unfold State.knockClose
  dsimp only
  split
  · exact ite (h.knkClose _ _ _) stray
  · exact stray

theorem knockPulse (h : FlagsAfterOff c₀ s) (src : Nat) : FlagsAfterOff c₀ (s.knockPulse src) := h.each _ _ fun _ _ ht => ite (ht.knockClose _) ht

theorem pulseAll (h : FlagsAfterOff c₀ s) (src : Nat) (cu : Bool) : FlagsAfterOff c₀ (s.pulseAll src cu) := ((h.taskPulse src cu).knockPulse src).capPulse src

/-! The gateway -/

theorem gwUdp (h : FlagsAfterOff c₀ s) (x p : Nat) (m : List Nat) : FlagsAfterOff c₀ (s.gwUdp x p m) := by
  unfold State.gwUdp
  split
  · exact h.send _
  · exact h

theorem gwRing (h : FlagsAfterOff c₀ s) (x : Nat) (m : List Nat) : FlagsAfterOff c₀ (s.gwRing x m) := (h.setGx _ _).when _ _ fun _ ht => ht.send _

theorem gwSend (h : FlagsAfterOff c₀ s) (x ty token port : Nat) (body : List Nat) : FlagsAfterOff c₀ (s.gwSend x ty token port body) := by
  unfold State.gwSend
  split
  · exact ite h (((h.setFld _ _ _ _).each _ _ fun _ _ ht => ht.gwUdp _ _ _).when _ _ fun _ ht => ht.gwRing _ _)
  · exact h

theorem gwKeep (h : FlagsAfterOff c₀ s) (x token ty : Nat) (body : List Nat) : FlagsAfterOff c₀ (s.gwKeep x token ty body) := (h.setGx _ _).setFld _ _ _ _

theorem gwComplete (h : FlagsAfterOff c₀ s) (x token port status fl idx : Nat) (l : List Nat) : FlagsAfterOff c₀ (s.gwComplete x token port status fl idx l) :=
  (h.gwKeep _ _ _ _).gwSend _ _ _ _ _

theorem gwReport (h : FlagsAfterOff c₀ s) (r : Report) : FlagsAfterOff c₀ (s.gwReport r) := ite h ((h.gwKeep _ _ _ _).gwSend _ _ _ _ _)

theorem gwAsk (h : FlagsAfterOff c₀ s) (fn i : Nat) : FlagsAfterOff c₀ (s.gwAsk fn i) := h.each _ _ fun _ _ ht => (ht.gwKeep _ _ _ _).gwSend _ _ _ _ _

theorem gwPublish (h : FlagsAfterOff c₀ s) (x : Nat) : FlagsAfterOff c₀ (s.gwPublish x) := ite (h.setGx _ _) ((h.setGx _ _).gwSend _ _ _ _ _)

theorem gwResult (h : FlagsAfterOff c₀ s) (i : Nat) (l : List Nat) : FlagsAfterOff c₀ (s.gwResult i l) :=
  h.each _ _ fun _ _ ht => (ht.setGx _ _).when _ _ fun _ hu => hu.gwPublish _

theorem gwFinish (h : FlagsAfterOff c₀ s) (x : Nat) (o : GwOp) (status idx : Nat) (l : List Nat) : FlagsAfterOff c₀ (s.gwFinish x o status idx l) :=
  ((h.setGx x _).setFld CTX_QSTAT_CMDLVL _ x 0).gwComplete _ _ _ _ _ _ _

theorem gwPosted (h : FlagsAfterOff c₀ s) (x w : Nat) : FlagsAfterOff c₀ (s.gwPosted x w) := by
  unfold State.gwPosted
  split
  · exact h
  · refine ite h (ite (h.setGx _ _) ?_)
    split
    · exact h.gwFinish _ _ _ _ _
    · exact h.gwFinish _ _ _ _ _

/-! The end of a command -/

theorem settleRound (h : FlagsAfterOff c₀ s) : FlagsAfterOff c₀ s.settleRound := by
  have handed := (((h.emptied.each (sortRaises (dueFaults s.due)) _ fun _ r ht => ht.collect r).each (dueLatches s.due) _ fun t c ht => ht.huskCheck c t.now).each
    (sortRecs (dueRecs s.due)) _ fun _ r ht => ht.acceptRec r).each ((duePulses s.due).foldl (fun acc p => insertPulse p acc) []) _ fun _ p ht => ht.pulseAll p.1 p.2
  have sent := (handed.each (dueAsks s.due) _ fun _ p ht => ht.gwAsk p.1 p.2).each (dueReports s.due) _ fun _ r ht => ht.gwReport r
  exact ((sent.each (dueResults s.due) _ fun _ p ht => ht.gwResult p.1 p.2).each (duePosted s.due) _ fun _ p ht => ht.gwPosted p.1 p.2).jrecScan

theorem settleN (h : FlagsAfterOff c₀ s) (n : Nat) : FlagsAfterOff c₀ (s.settleN n) := by
  induction n generalizing s with
  | zero => exact h
  | succ n ih => exact ite h (ih h.settleRound)

theorem settle (h : FlagsAfterOff c₀ s) : FlagsAfterOff c₀ s.settle := h.settleN _

end FlagsAfterOff

end Sys2Proof.Machine
end

section
/-! PROOFS. The statement about the ALU fails. A level that a co-issued DRV has left acts together with the ALU instruction (R270). Where it asks a channel to rise and the Husk suppresses the rise,
the Husk flags the channel's active event (R161, R186). The statement lets the sequencer, its pins, their Husks and pads and what is emitted change, but not the channels. An image that keeps R269 has no
event on a channel that a line drives; the statement asks nothing of the kind. -/

namespace Sys2Proof.Machine

/-- ADD W0, W0. -/
def addW0 : Word := BitVec.ofNat 32 (0x0A * 2 ^ 19)

/-- Sequencer 0 is about to run the word, after a co-issued DRV that has left 1 for line 0. The line is an output to channel 0, whose Husk requires a synchronisation that its tracker
does not have (R179), and on which an event is active. -/
def drivesHeldChannel : State :=
  let s := (State.reset.setFld PSQ_STAT_STATE pqRunning).wr (PSQ_IMEM.addr 0 0) addW0
  let s := ((s.setFld PSQ_LINE_KIND 1).setFld PSQ_LINE_DIR 1).setFld PAD_CFG_SRC 1
  let s := (s.setFld HSK_CFG_REQUIRE_SYNC 1).setSq 0 { coMask := 1, coVal := 1 }
  s.setCh 0 { active := some ⟨⟨0, 0, 0, 0, 0, false, false, 0, false, 0⟩, 0, 0, 0, 0, 0, none⟩ }

/-- The outcome of the ADD. -/
def heldChannelDriven : State := (drivesHeldChannel.pqRun 0 (pqAluIs 0) fun s w => s.pqAlu 0 w).settle

theorem exec_psqAdd (s : State) (q : Fin 16) : exec (.psqAdd q) s = whenAwake s (done (s.pqRun q (pqAluIs 0) fun s w => s.pqAlu q w)) := rfl

theorem drivesHeldChannel_runs : drivesHeldChannel.PqRuns 0 addW0 := by decide +kernel

theorem drivesHeldChannel_active : (drivesHeldChannel.ch 0).active.map (·.flags) = some 0 := by decide +kernel

/-- The event is flagged, and the Husk has never turned the pin off. -/
theorem heldChannelDriven_flagged : (heldChannelDriven.ch 0).active.map (·.flags) = some fHusk ∧ (heldChannelDriven.hsk 0).offAt = none := by decide +kernel

theorem heldChannelDriven_not_flagsAfterOff : ¬ FlagsAfterOff 0 heldChannelDriven := by
  intro h
  obtain ⟨flagged, noOff⟩ := heldChannelDriven_flagged
  obtain ⟨a, ha, fl⟩ := Option.map_eq_some_iff.1 flagged
  exact absurd (fl.symm.trans (h a ha noOff)) (by decide)

/-- A state with the channels of `drivesHeldChannel` has no flagged event on channel 0. -/
theorem flagsAfterOff_of_chan {x : State} (hc : x.chan = drivesHeldChannel.chan) : FlagsAfterOff 0 x := by
  intro a ha _
  have same : x.ch 0 = drivesHeldChannel.ch 0 := congrArg (tget Chan.zero · 0) hc
  have flags := drivesHeldChannel_active
  rw [← same, ha] at flags
  exact Option.some.inj flags

/-- Refutes O40: in `drivesHeldChannel`, the ADD makes the co-issued level act on channel 0, and the suppressed rise leaves the event with the flag HUSK and the Husk without an off. A state that has the channels as they
were before comes out of the end of a command with an unflagged event, or with a Husk that has turned its pin off (`FlagsAfterOff.settle`). -/
theorem not_psqAlu : ¬ Obligations.PsqAlu := by
  unfold Obligations.PsqAlu
  intro h
  obtain ⟨add, -⟩ := h drivesHeldChannel 0 addW0 drivesHeldChannel_runs (by decide)
  obtain ⟨x, hx, -, -, -, -, -, -, -, -, -, parts, -⟩ := add (by decide)
  have chan : x.chan = drivesHeldChannel.chan := parts .chan (by decide) (by decide)
  have outcome : exec (.psqAdd 0) drivesHeldChannel = .next heldChannelDriven := by
    rw [exec_psqAdd, whenAwake_run _ _ drivesHeldChannel_runs.1.1]
    rfl
  have same : heldChannelDriven = x.settle := Host.Outcome.next.inj (outcome.symm.trans hx)
  refine heldChannelDriven_not_flagsAfterOff ?_
  rw [same]
  exact (flagsAfterOff_of_chan chan).settle

end Sys2Proof.Machine
end
